-- ==== Sys2Proof/Word.lean ====
section
/-!
DEFINITION. The word types of the block and its fixed-size tables.

Octets and check words are bit vectors, because the manual shifts and masks them; everything the manual counts or
measures (clearances, angles, times) is a natural number or an integer. A table of n like records is a core `Vector`;
`tabMap` is a map over it that the kernel can evaluate.
-/

namespace Sys2Proof

/-- One octet of a link frame or of the field loop (R184, R194). -/
abbrev Byte := BitVec 8

/-- The 16-bit check of a frame and of the configuration image (R186, R198). -/
abbrev CheckWord := BitVec 16

/-- The table `v` with `f` applied to every entry. -/
def tabMap {α β : Type} {n : Nat} (f : α → β) (v : Vector α n) : Vector β n :=
  ⟨(v.toList.map f).toArray, by simp⟩

/-- The table `v` with `f` applied to the entry `i`. -/
def tabModify {α : Type} {n : Nat} (i : Fin n) (f : α → α) (v : Vector α n) : Vector α n :=
  v.set i (f v[i])

end Sys2Proof
end

