-- ==== Sys2Proof/Syntax.lean ====
section
/-!
DEFINITION. The commands of the block: one constructor of `Instr` for each row of spec/opcode_table.json, with the
names of the parts that a command can speak of (links, drives, locks, zones, arms, lamp channels).

The 25 request rows carry the link they come from and the body of their frame, octet by octet in the layout of R189,
so that every malformed body can be sent too. The rows that are events of the field carry what the event tells the
device: the level of an input, an answer on the field loop, a sensed level.
-/

namespace Sys2Proof

/-- The two request links; also the origin of a passage record (R1). -/
inductive Link where
  | control
  | harbour
  deriving DecidableEq, Repr

/-- The four drives, in the order of R78. -/
inductive DriveId where
  | wn
  | ws
  | en
  | es
  deriving DecidableEq, Repr

/-- One value for each of the four drives. -/
structure PerDrive (α : Type) where
  wn : α
  ws : α
  en : α
  es : α
  deriving DecidableEq, Repr

/-- The drive's entry. -/
def PerDrive.get {α : Type} (t : PerDrive α) : DriveId → α
  | .wn => t.wn
  | .ws => t.ws
  | .en => t.en
  | .es => t.es

/-- Every entry with `f` applied. -/
def PerDrive.map {α β : Type} (f : α → β) (t : PerDrive α) : PerDrive β := ⟨f t.wn, f t.ws, f t.en, f t.es⟩

/-- The entries of two tables combined, drive by drive. -/
def PerDrive.zipWith {α β γ : Type} (f : α → β → γ) (t : PerDrive α) (u : PerDrive β) : PerDrive γ :=
  ⟨f t.wn u.wn, f t.ws u.ws, f t.en u.en, f t.es u.es⟩

/-- Whether some drive's entry satisfies `p`. -/
def PerDrive.any {α : Type} (p : α → Bool) (t : PerDrive α) : Bool := p t.wn || p t.ws || p t.en || p t.es

/-- Whether every drive's entry satisfies `p`. -/
def PerDrive.all {α : Type} (p : α → Bool) (t : PerDrive α) : Bool := p t.wn && p t.ws && p t.en && p t.es

/-- The three span locks (R80). -/
inductive LockId where
  | westTail
  | eastTail
  | centre
  deriving DecidableEq, Repr

/-- The two proving switches of a span lock (R80). -/
inductive LockSwitch where
  | driven
  | withdrawn
  deriving DecidableEq, Repr

/-- The four span occupancy zones (R112): `0` is zone 1. -/
abbrev ZoneId := Fin 4

/-- The eight barrier arms, in the ring order of R132. -/
inductive ArmId where
  | wEntry1
  | wEntry2
  | wExit1
  | wExit2
  | eEntry1
  | eEntry2
  | eExit1
  | eExit2
  deriving DecidableEq, Repr

/-- The 32 lamp channels (R144): `0` is channel 1. -/
abbrev ChannelId := Fin 32

/-- The three fault flags of a lamp channel (R151): OPEN, SHORT, PARTIAL. -/
inductive LampFault where
  | openString
  | shortString
  | partialString
  deriving DecidableEq, Repr

/-- The commands, one constructor for each row of spec/opcode_table.json, in the table's order. -/
inductive Instr where
  /-- POWER_ON (R183). -/
  | powerOn
  /-- RESET_LINE_RELEASE (R202). -/
  | resetLineRelease
  /-- OCTET_RECEIVED (R185): an octet arrives at a link's intake, with or without its stop bit. -/
  | octetReceived (link : Link) (octet : Byte) (stopBit : Bool)
  /-- INTER_OCTET_GAP_TIMEOUT (R185). -/
  | interOctetGapTimeout (link : Link)
  /-- OUTCOME_OCTET_SENT (R187). -/
  | outcomeOctetSent (link : Link)
  /-- REPLY_COMPLETE (R187). -/
  | replyComplete (link : Link)
  /-- STATUS (R192). -/
  | status (link : Link) (body : List Byte)
  /-- ENTER_PASSAGE (R17). -/
  | enterPassage (link : Link) (body : List Byte)
  /-- AMEND_PASSAGE (R18). -/
  | amendPassage (link : Link) (body : List Byte)
  /-- WITHDRAW_PASSAGE (R20). -/
  | withdrawPassage (link : Link) (body : List Byte)
  /-- RELEASE_PASSAGE (R21). -/
  | releasePassage (link : Link) (body : List Byte)
  /-- LOOK_UP_PASSAGE (R22). -/
  | lookUpPassage (link : Link) (body : List Byte)
  /-- LIST_PASSAGES (R23). -/
  | listPassages (link : Link) (body : List Byte)
  /-- BEGIN_OPENING (R34). -/
  | beginOpening (link : Link) (body : List Byte)
  /-- ADMIT_TO_OPENING (R35). -/
  | admitToOpening (link : Link) (body : List Byte)
  /-- MARK_PASSED (R37). -/
  | markPassed (link : Link) (body : List Byte)
  /-- LOWER_BRIDGE (R38). -/
  | lowerBridge (link : Link) (body : List Byte)
  /-- ABORT_OPENING (R39). -/
  | abortOpening (link : Link) (body : List Byte)
  /-- CONTINUE_MOTION (R40). -/
  | continueMotion (link : Link) (body : List Byte)
  /-- CONFIRM_SPAN_CLEAR (R118). -/
  | confirmSpanClear (link : Link) (body : List Byte)
  /-- WARNING_OVERRIDE (R116). -/
  | warningOverride (link : Link) (body : List Byte)
  /-- ARM_SERVICE (R125). -/
  | armService (link : Link) (body : List Byte)
  /-- CLOSURE_RETRY (R124). -/
  | closureRetry (link : Link) (body : List Byte)
  /-- REOPEN_ROAD (R122). -/
  | reopenRoad (link : Link) (body : List Byte)
  /-- RESET_TRIP (R101). -/
  | resetTrip (link : Link) (body : List Byte)
  /-- CLEAR_LAMP_FAULTS (R158). -/
  | clearLampFaults (link : Link) (body : List Byte)
  /-- SET_DIM_LEVEL (R149). -/
  | setDimLevel (link : Link) (body : List Byte)
  /-- RESUME (R178). -/
  | resume (link : Link) (body : List Byte)
  /-- WRITE_CONFIGURATION_ITEM (R197). -/
  | writeConfigurationItem (link : Link) (body : List Byte)
  /-- COMMIT_CONFIGURATION (R199). -/
  | commitConfiguration (link : Link) (body : List Byte)
  /-- REVERT_TO_SETUP (R180). -/
  | revertToSetup (link : Link) (body : List Byte)
  /-- MINUTE_TIMER_EXPIRY (R11). -/
  | minuteTimerExpiry
  /-- CONTROL_PERIOD (R62), with the four encoder counts sampled at the expiry. -/
  | controlPeriod (counts : PerDrive (BitVec 24))
  /-- SETTLE_DWELL_COMPLETE (R92). -/
  | settleDwellComplete
  /-- SEAT_DWELL_COMPLETE (R93). -/
  | seatDwellComplete
  /-- SETTLE_TIMEOUT (R92, R93). -/
  | settleTimeout
  /-- EMERGENCY_STOP_CHANGE (R97): the new level, `true` for ACTIVE. -/
  | emergencyStopChange (active : Bool)
  /-- LOCK_SWITCH_CHANGE (R80): the new level of one proving switch, `true` for made. -/
  | lockSwitchChange (lock : LockId) (switch : LockSwitch) (made : Bool)
  /-- LOCK_TIMER_EXPIRY (R89). -/
  | lockTimerExpiry (lock : LockId)
  /-- ZONE_INPUT_CHANGE (R112): the new level, `true` for active, which means occupied. -/
  | zoneInputChange (zone : ZoneId) (active : Bool)
  /-- ZONE_DEBOUNCE_EXPIRY (R112). -/
  | zoneDebounceExpiry (zone : ZoneId)
  /-- CHANGEOVER_DWELL_EXPIRY (R48). -/
  | changeoverDwellExpiry
  /-- WATCHDOG_EXPIRY (R176). -/
  | watchdogExpiry
  /-- FAULT_PULSE_TIMER_EXPIRY (R182). -/
  | faultPulseTimerExpiry
  /-- PHASE_TIMER_EXPIRY (R114). -/
  | phaseTimerExpiry
  /-- CLEAR_DWELL_COMPLETE (R118). -/
  | clearDwellComplete
  /-- RETRY_DWELL_EXPIRY (R110). -/
  | retryDwellExpiry (arm : ArmId)
  /-- TRAVEL_TIMER_EXPIRY (R109). -/
  | travelTimerExpiry (arm : ArmId)
  /-- SCAN_TIMER_EXPIRY (R141). -/
  | scanTimerExpiry
  /-- TURN_START (R133). -/
  | turnStart
  /-- COMMAND_ANSWER (R136): the station answers the command octet, `true` for ACCEPT. -/
  | commandAnswer (accept : Bool)
  /-- ANSWER_WINDOW_TIMEOUT (R135). -/
  | answerWindowTimeout
  /-- TURN_END (R137). -/
  | turnEnd
  /-- PULSE_PERIOD_START (R146). -/
  | pulsePeriodStart
  /-- LAMP_FAULT_LATCH (R151): what a channel has sensed without a break for the deglitch time of one window: the
  string current in mA, the string voltage and the lamp supply in 0.1 V. -/
  | lampFaultLatch (channel : ChannelId) (kind : LampFault) (current voltage supply : Nat)
  /-- EVALUATION_WINDOW_END (R155): the lowest lamp supply seen in the window, in 0.1 V, and the µs for which the
  undervoltage condition has been clear as the window ends. -/
  | evaluationWindowEnd (channel : ChannelId) (lowestSupply clearFor : Nat)
  /-- FLASH_HALF_END (R156). -/
  | flashHalfEnd
  /-- LOW_SUPPLY_LATCH (R152): the lamp supply in 0.1 V, as it has stood for 500 µs. -/
  | lowSupplyLatch (supply : Nat)
  /-- UNDERVOLTAGE_CHANGE (R152): the lamp supply in 0.1 V, as it has stood for 500 µs. -/
  | undervoltageChange (supply : Nat)
  /-- ADDRESS_ANSWER (R134): the station answers the address octet, `true` for ACCEPT. -/
  | addressAnswer (accept : Bool)
  /-- REPORT_OCTET_RECEIVED (R134): a report octet of the station. -/
  | reportOctetReceived (octet : Byte)
  deriving DecidableEq, Repr

end Sys2Proof
end

