-- ==== Sys2Proof/Decode.lean ====
section
/-!
DEFINITION. The command that a word spells by the table's bits. The opcode table gives no row of this hardware any bits:
its commands are events at its links, inputs and timers, and a request is spelled by its frame (R184, R189), which the
Request Port of Machine/Port.lean reads. So no word spells a command (log entry 22).
-/

namespace Sys2Proof

/-- The command that a word spells by the table's bits: none. -/
def decodeTableWord (_nbits _w : Nat) : Option Instr := none

end Sys2Proof
end

