-- ==== Sys2Proof/Config.lean ====
section
/-!
DEFINITION. What is fixed for the device, and the free values: the fixed times of the manual, and one opaque constant
for the choices the manual leaves open.
-/

namespace Sys2Proof

/-- FREE VALUE (log entry 1). Where the manual gives no order to conditions found together, the one taken first is the
one this constant picks. It has no body: nothing can be proved of its values. -/
opaque Config.freeChoice : Nat → Nat

/-- The control period, 20 ms (R61). -/
def Config.controlPeriodMs : Nat := 20

/-- Control periods in one second (R79). -/
def Config.periodsPerSecond : Nat := 50

/-- The minute timer's 60 s (R10), in ms. -/
def Config.minuteMs : Nat := 60000

/-- The FAULT pulse's 200 ms (R182). -/
def Config.faultPulseMs : Nat := 200

/-- The pulse clock's period of 10 ms (R146). -/
def Config.pulsePeriodMs : Nat := 10

/-- Pulse periods in each half of the flash cycle (R147). -/
def Config.periodsPerHalf : Nat := 50

/-- The deglitch time of 500 µs (R146, R150). -/
def Config.deglitchUs : Nat := 500

/-- The most records the register holds (R3). -/
def Config.registerSize : Nat := 32

/-- The most numbers the admitted list holds (R28). -/
def Config.admittedListSize : Nat := 8

end Sys2Proof
end

