-- ==== Sys2Proof/Machine/State.lean ====
section
/-!
DEFINITION. The state of the block as plain data: every record the manual gives its nine blocks, the levels of the
inputs, the queue of waiting commands, and `State.reset`.

Timers that the manual reports as time left hold the milliseconds left; those it reports as time elapsed count up.
`none` is a stopped timer. What the manual derives from other fields (lock states, channel health, warning proof, the
FAULT line, arms in position) is computed in Flags.lean and held nowhere, but for function health, which R161 sets
apart from its derivation after REVERT TO SETUP.
-/

namespace Sys2Proof.Machine

open Sys2Proof

/-! ## Outcomes of a step -/

/-- The faults of a step. There are none: no rule of the manual stops the device, so nobody raises one. -/
inductive Fault where
  deriving DecidableEq, Repr

/-- The refusals of a step. -/
inductive Refusal where
  /-- Raised by an arm of `exec` for a command that has no meaning yet; safe, since the machine stops. No arm raises
  it: every command has its meaning. -/
  | notModelled (mnemonic : String)
  deriving DecidableEq, Repr

/-! ## Tables over named parts -/

/-- One value for each link. -/
structure PerLink (α : Type) where
  control : α
  harbour : α
  deriving DecidableEq, Repr

/-- The link's entry. -/
def PerLink.get {α : Type} (t : PerLink α) : Link → α
  | .control => t.control
  | .harbour => t.harbour

/-- The table with the link's entry replaced. -/
def PerLink.set {α : Type} (t : PerLink α) (l : Link) (x : α) : PerLink α :=
  match l with
  | .control => { t with control := x }
  | .harbour => { t with harbour := x }

/-- SEAWARD or LANDWARD (R1); also the head facing that traffic: S_ or L_. -/
inductive Direction where
  | seaward
  | landward
  deriving DecidableEq, Repr

/-- One value for each direction, or for each shipping head. -/
structure PerHead (α : Type) where
  seaward : α
  landward : α
  deriving DecidableEq, Repr

/-- The direction's entry. -/
def PerHead.get {α : Type} (t : PerHead α) : Direction → α
  | .seaward => t.seaward
  | .landward => t.landward

/-- The table with the direction's entry replaced. -/
def PerHead.set {α : Type} (t : PerHead α) (d : Direction) (x : α) : PerHead α :=
  match d with
  | .seaward => { t with seaward := x }
  | .landward => { t with landward := x }

/-- One value for each lock. -/
structure PerLock (α : Type) where
  westTail : α
  eastTail : α
  centre : α
  deriving DecidableEq, Repr

/-- The lock's entry. -/
def PerLock.get {α : Type} (t : PerLock α) : LockId → α
  | .westTail => t.westTail
  | .eastTail => t.eastTail
  | .centre => t.centre

/-- The table with the lock's entry replaced. -/
def PerLock.set {α : Type} (t : PerLock α) (l : LockId) (x : α) : PerLock α :=
  match l with
  | .westTail => { t with westTail := x }
  | .eastTail => { t with eastTail := x }
  | .centre => { t with centre := x }

/-- Every entry with `f` applied. -/
def PerLock.map {α β : Type} (f : α → β) (t : PerLock α) : PerLock β := ⟨f t.westTail, f t.eastTail, f t.centre⟩

/-! ## Configuration (Chapter 11) -/

/-- The calibration of one drive (R63). -/
structure Calibration where
  zero : Nat
  sign : Int
  scale : Nat
  deriving DecidableEq, Repr

/-- The unattended signal policy (R177). -/
inductive SignalPolicy where
  | restrict
  | hold
  deriving DecidableEq, Repr

/-- The configured values the blocks have taken from the committed image (R196), but for those kept in the records
themselves: station addresses, channel functions, partial selects and health policies. Units are those of R196. -/
structure Configured where
  drives : PerDrive Calibration
  vmax : Nat
  vslow : Nat
  vcreep : Nat
  accel : Nat
  dslow : Nat
  dcreep : Nat
  kff : Nat
  kp : Nat
  twistWarn : Nat
  twistTrip : Nat
  skewHold : Nat
  hysteresis : Nat
  skewTrip : Nat
  followingTrip : Nat
  settleWindow : Nat
  settleDwell : Nat
  settleTimeout : Nat
  seatedWindow : Nat
  seatDwell : Nat
  lockTimeout : Nat
  openLimit : Nat
  margin : Nat
  clearances : Vector Nat 17
  changeoverDwell : Nat
  amberTime : Nat
  redMinimum : Nat
  clearDwell : Nat
  confirmationRequired : Bool
  retryDwell : Nat
  retryLimit : Nat
  travelTimeout : Nat
  debounce : Vector Nat 4
  scanPeriod : Nat
  blanking : Nat
  openThreshold : Nat
  shortThreshold : Nat
  partialOne : Nat
  partialTwo : Nat
  lowSupplyThreshold : Nat
  undervoltageThreshold : Nat
  maskOpen : Bool
  maskShort : Bool
  maskPartial : Bool
  maskLowSupply : Bool
  watchdogTime : Nat
  signalPolicy : SignalPolicy
  deriving DecidableEq, Repr

/-- What a reader of the configured values finds before any commit; no rule of a committed device reads it (log
entry 21). -/
def Configured.blank : Configured where
  drives := ⟨⟨0, 1, 0⟩, ⟨0, 1, 0⟩, ⟨0, 1, 0⟩, ⟨0, 1, 0⟩⟩
  vmax := 0
  vslow := 0
  vcreep := 0
  accel := 0
  dslow := 0
  dcreep := 0
  kff := 0
  kp := 0
  twistWarn := 0
  twistTrip := 0
  skewHold := 0
  hysteresis := 0
  skewTrip := 0
  followingTrip := 0
  settleWindow := 0
  settleDwell := 0
  settleTimeout := 0
  seatedWindow := 0
  seatDwell := 0
  lockTimeout := 0
  openLimit := 0
  margin := 0
  clearances := Vector.replicate 17 0
  changeoverDwell := 0
  amberTime := 0
  redMinimum := 0
  clearDwell := 0
  confirmationRequired := false
  retryDwell := 0
  retryLimit := 0
  travelTimeout := 0
  debounce := Vector.replicate 4 0
  scanPeriod := 0
  blanking := 0
  openThreshold := 0
  shortThreshold := 0
  partialOne := 0
  partialTwo := 0
  lowSupplyThreshold := 0
  undervoltageThreshold := 0
  maskOpen := false
  maskShort := false
  maskPartial := false
  maskLowSupply := false
  watchdogTime := 0
  signalPolicy := .restrict

/-- The store state (R196). -/
inductive StoreState where
  | editing
  | evaluating
  | committed
  deriving DecidableEq, Repr

/-- The Configuration Store (R196): the image, item `n` at index `n - 1`, and the store state. -/
structure Store where
  state : StoreState
  image : Vector (Option Int) 163
  deriving DecidableEq, Repr

/-! ## Request Port (Chapter 10) -/

/-- The outcomes of a request (R190). -/
inductive OutcomeCode where
  | ok
  | unknownRequest
  | badField
  | notPermitted
  | wrongMode
  | noSuchPassage
  | wrongState
  | duplicateVessel
  | registerFull
  | unreachable
  | tooLate
  | openingActive
  | listFull
  | vesselsCleared
  | interlock
  | configInvalid
  deriving DecidableEq, Repr

/-- A link's frame intake (R185). ASSEMBLING stands in two constructors: the length octet still to come, and the
octets after it, in the order received. -/
inductive Intake where
  | hunting
  | awaitingLength
  | collecting (length : Byte) (octets : List Byte)
  deriving DecidableEq, Repr

/-- A reply (R184): the kind echoed, the outcome, the overrun flag as the outcome octet carried it out, and the body. -/
structure Reply where
  kind : Byte
  outcome : OutcomeCode
  overrun : Bool
  body : List Byte
  deriving DecidableEq, Repr

/-- The reply being sent, and whether its outcome octet has left (R187). -/
structure Sending where
  reply : Reply
  outcomeSent : Bool
  deriving DecidableEq, Repr

/-- The causes of an attention line (R193). -/
inductive AttentionCause where
  | passageRecord
  | opening
  | closure
  | leafGroup
  | lampLatch
  | armLatch
  | mode
  deriving DecidableEq, Repr

/-- A set of attention causes (R193). -/
structure CauseSet where
  passageRecord : Bool
  opening : Bool
  closure : Bool
  leafGroup : Bool
  lampLatch : Bool
  armLatch : Bool
  mode : Bool
  deriving DecidableEq, Repr

/-- The empty set of causes. -/
def CauseSet.empty : CauseSet := ⟨false, false, false, false, false, false, false⟩

/-- A link's attention record (R193). -/
structure Attention where
  raised : Bool
  causes : CauseSet
  deriving DecidableEq, Repr

/-- One link's machinery at the Request Port (R185, R187, R193). -/
structure LinkPort where
  intake : Intake
  /-- The kind octet of the request in hand. -/
  inHand : Option Byte
  sending : Option Sending
  waiting : Option Reply
  overrun : Bool
  attention : Attention
  deriving DecidableEq, Repr

/-! ## Passage Register (Chapter 1) -/

/-- The class of a passage (R1). -/
inductive PassageClass where
  | priority
  | routine
  deriving DecidableEq, Repr

/-- The state of a passage record (R2). -/
inductive PassageState where
  | waiting
  | admitted
  | cleared
  | completed
  | withdrawn
  | expired
  deriving DecidableEq, Repr

/-- A passage record (R1). -/
structure Passage where
  number : Nat
  origin : Link
  tag : List Byte
  direction : Direction
  cls : PassageClass
  clearance : Nat
  angle : Nat
  lifetime : Option Nat
  stamp : Nat
  state : PassageState
  withdrawnBy : Option Link
  deriving DecidableEq, Repr

/-- The Passage Register (R3 to R5, R10). The order of `records` has no meaning (section 1.2). -/
structure Register where
  records : List Passage
  nextNumber : Nat
  nextStamp : Nat
  minuteTimer : Option Nat
  deriving DecidableEq, Repr

/-! ## Opening Sequencer (Chapter 2) -/

/-- The opening states other than NONE (R28). -/
inductive OpeningState where
  | closingRoad
  | lifting
  | open
  | lowering
  | reopeningRoad
  | recoveryWait
  deriving DecidableEq, Repr

/-- The opening record of an opening that is not NONE (R28). The changeover holds milliseconds left. -/
structure Opening where
  state : OpeningState
  recovery : Bool
  list : List Nat
  target : Nat
  served : Option Direction
  changeover : Option Nat
  extending : Bool
  deriving DecidableEq, Repr

/-- A shipping aspect (R164). -/
inductive Aspect where
  | pass
  | standBy
  | noPassage
  | redSingle
  | dark
  deriving DecidableEq, Repr

/-- The red function a head shows alone (R164). -/
inductive SingleRed where
  | redUp
  | redLow
  deriving DecidableEq, Repr

/-- The sequencer's copy of a head's displayed aspect (R171). -/
structure Shown where
  aspect : Aspect
  singleRed : Option SingleRed
  deriving DecidableEq, Repr

/-- The Opening Sequencer: the opening record (`none` is NONE), the demand of each head as last derived (R59), its copy
of what each head displays (R171), and the clearance of the last update (R46). -/
structure Sequencer where
  opening : Option Opening
  demand : PerHead Aspect
  shown : PerHead Shown
  clearance : Nat
  deriving DecidableEq, Repr

/-! ## Leaf Motion Controller (Chapters 3 and 4) -/

/-- A drive record (R78). -/
structure Drive where
  count : Nat
  fine : Int
  rangeFlag : Bool
  followingError : Int
  demand : Int
  saturated : Bool
  brakeReleased : Bool
  deriving DecidableEq, Repr

/-- A leaf record (R78). -/
structure Leaf where
  angle : Int
  twist : Int
  seated : Bool
  twistWarning : Bool
  deriving DecidableEq, Repr

/-- The group states (R79). -/
inductive GroupState where
  | inactive
  | stowed
  | unlocking
  | raising
  | settling
  | heldOpen
  | lowering
  | seating
  | locking
  | stopping
  | tripped
  | halted
  deriving DecidableEq, Repr

/-- The trip causes (R79). -/
inductive TripCause where
  | estop
  | twist
  | skew
  | following
  | encoderRange
  | lockFault
  | lockTimeout
  | settleTimeout
  | spanIntrusion
  deriving DecidableEq, Repr

/-- The reference `r`, the speed `v` and the direction of travel (R71), absent together. -/
structure Profile where
  reference : Nat
  speed : Nat
  up : Bool
  deriving DecidableEq, Repr

/-- The group record (R79, R71). -/
structure Group where
  state : GroupState
  cause : Option TripCause
  pendingLower : Bool
  settleCount : Nat
  seatCount : Nat
  restCount : Nat
  emergencyStop : Bool
  spanOccupied : Bool
  /-- T, in fine units (R70). -/
  target : Option Nat
  profile : Option Profile
  skew : Int
  hold : Bool
  clearance : Nat
  deriving DecidableEq, Repr

/-- The commands of a lock (R80). -/
inductive LockCommand where
  | withdraw
  | drive
  deriving DecidableEq, Repr

/-- A lock record (R80); the timer holds the milliseconds elapsed. -/
structure Lock where
  command : Option LockCommand
  drivenSwitch : Bool
  withdrawnSwitch : Bool
  timer : Option Nat
  unproven : Bool
  deriving DecidableEq, Repr

/-- The Leaf Motion Controller; the control-period timer holds the milliseconds left (R61). -/
structure LeafMotion where
  group : Group
  drives : PerDrive Drive
  west : Leaf
  east : Leaf
  locks : PerLock Lock
  periodTimer : Option Nat
  deriving DecidableEq, Repr

/-! ## Road Closure Unit (Chapter 5) -/

/-- The closure states (R106). -/
inductive ClosureState where
  | inactive
  | roadUncertain
  | roadOpen
  | prewarnAmber
  | prewarnRed
  | entryLowering
  | spanClearing
  | exitLowering
  | roadClosed
  | roadReopening
  | closureHeld
  deriving DecidableEq, Repr

/-- The held causes (R106). -/
inductive HeldCause where
  | travelTimeout
  | obstructionLimit
  | armLost
  | armLocal
  | noEntryArm
  | noExitArm
  deriving DecidableEq, Repr

/-- The span-clear dwell (R106); a running dwell holds the milliseconds left. -/
inductive ClearDwell where
  | stopped
  | running (left : Nat)
  | complete
  deriving DecidableEq, Repr

/-- The red-seen flags (R106). -/
structure RedSeen where
  wRedA : Bool
  wRedB : Bool
  eRedA : Bool
  eRedB : Bool
  deriving DecidableEq, Repr

/-- No red seen. -/
def RedSeen.none : RedSeen := ⟨false, false, false, false⟩

/-- The closure record (R106). -/
structure Closure where
  state : ClosureState
  redSeen : RedSeen
  override : Bool
  phaseTimer : Option Nat
  redTimeExpired : Bool
  clearDwell : ClearDwell
  confirmation : Bool
  degraded : Bool
  heldCause : Option HeldCause
  heldIn : Option ClosureState
  closeReported : Bool
  reopenPending : Bool
  deriving DecidableEq, Repr

/-- A commanded barrier position (R108). -/
inductive ArmPosition where
  | up
  | down
  deriving DecidableEq, Repr

/-- A reported arm state (R108). -/
inductive ArmReport where
  | up
  | down
  | lowering
  | raising
  | obstructed
  | localControl
  | fault
  | unknown
  deriving DecidableEq, Repr

/-- The latched faults of an arm (R108). -/
structure ArmLatches where
  travelTimeout : Bool
  obstructionLimit : Bool
  lost : Bool
  localControl : Bool
  deriving DecidableEq, Repr

/-- No latch set. -/
def ArmLatches.none : ArmLatches := ⟨false, false, false, false⟩

/-- An arm record (R108). The station address stands in the station record. `reported since` is the model's: whether a
report has come since the standing command was acknowledged (R124, log entry 9). -/
structure Arm where
  inService : Bool
  commanded : Option ArmPosition
  acknowledged : Bool
  reportedSince : Bool
  reported : ArmReport
  angle : Nat
  lost : Bool
  retryCount : Nat
  /-- Milliseconds left of the retry dwell. -/
  retryDwell : Option Nat
  /-- Milliseconds elapsed of the travel timer. -/
  travelTimer : Option Nat
  latches : ArmLatches
  deriving DecidableEq, Repr

/-- A zone record (R112); the debounce timer holds the milliseconds elapsed. -/
structure Zone where
  occupied : Bool
  input : Bool
  debounce : Option Nat
  deriving DecidableEq, Repr

/-! ## Field Loop Master (Chapter 6) -/

/-- A command of the field loop (R131). -/
inductive LoopCommand where
  | lower
  | raise
  | halt
  deriving DecidableEq, Repr

/-- A station record (R131). The last command sent stands with its answer: `none` while there is none yet, `true` for
ACCEPTED. -/
structure Station where
  address : Option Nat
  slot : Option LoopCommand
  lastSent : Option (LoopCommand × Option Bool)
  rewritten : Bool
  lost : Bool
  misses : Nat
  deriving DecidableEq, Repr

/-- Where a turn stands: the answer or octet the master awaits, or the STOP (R134). -/
inductive TurnStep where
  | commandAddress
  | commandOctet
  | reportAddress
  | stateOctet
  | angleOctet
  | stop
  deriving DecidableEq, Repr

/-- The turn in progress (R133, R134): its station, the command it carries, its step and the report octets received. -/
structure Turn where
  station : ArmId
  command : Option LoopCommand
  step : TurnStep
  stateOctet : Option Byte
  angleOctet : Option Byte
  deriving DecidableEq, Repr

/-- The Field Loop Master: held or not (R142), the station whose turn is next in the scan (`none` after the eighth),
the turn in progress, the scan timer's milliseconds left (`none` when stopped or run out), and whether the scan is the
first after a commit (R143). -/
structure Loop where
  held : Bool
  next : Option ArmId
  turn : Option Turn
  scanTimer : Option Nat
  firstScan : Bool
  deriving DecidableEq, Repr

/-! ## Lamp Unit (Chapters 7 and 8) -/

/-- The fourteen functions, in the order of R145. -/
inductive FunctionId where
  | wAmber
  | wRedA
  | wRedB
  | eAmber
  | eRedA
  | eRedB
  | sRedUp
  | sRedLow
  | sGrnUp
  | sGrnLow
  | lRedUp
  | lRedLow
  | lGrnUp
  | lGrnLow
  deriving DecidableEq, Repr

/-- A channel demand (R144). -/
inductive ChannelDemand where
  | off
  | steady
  | phaseA
  | phaseB
  deriving DecidableEq, Repr

/-- A channel record (R144), with what the pulse drive and the diagnosis keep beside it: whether the demand has taken
effect at a period start (R148), whether the output is on (R146), whether a condition of the period's pulse may still
latch (R150, R159; log entry 38), and how many pulses of the current half were driven and were fully diagnosed
(R155). -/
structure Channel where
  function : Option FunctionId
  /-- Partial select: `false` is 1, `true` is 2. -/
  partialSelectTwo : Bool
  demand : ChannelDemand
  onTime : Nat
  openFlag : Bool
  shortFlag : Bool
  partialFlag : Bool
  evaluated : Bool
  inEffect : Bool
  output : Bool
  diagnosing : Bool
  drivenInHalf : Nat
  diagnosedInHalf : Nat
  deriving DecidableEq, Repr

/-- A function record (R145): the health policy and the health. Its channels are those whose record names it. -/
structure FunctionRecord where
  policyAny : Bool
  healthy : Bool
  deriving DecidableEq, Repr

/-- The flash timer (R147): stopped, due to start at the next period start, or running in its first (`second` clear) or
second half with so many periods begun, at most the 50 of a half. -/
inductive Flash where
  | stopped
  | starting
  | running (second : Bool) (periods : Nat)
  deriving DecidableEq, Repr

/-- The Lamp Unit (R144 to R152): the pulse clock's milliseconds left, which runs with the supply monitor, and whether
the undervoltage condition has been set at any time since the pulse period began (R150, log entry 15). -/
structure LampUnit where
  channels : Vector Channel 32
  functions : Vector FunctionRecord 14
  pulseClock : Option Nat
  flash : Flash
  lowSupply : Bool
  undervoltage : Bool
  undervoltageSeen : Bool
  dimRoad : Nat
  dimShipping : Nat
  deriving DecidableEq, Repr

/-- A road light demand (R126). -/
inductive RoadLight where
  | off
  | amber
  | red
  deriving DecidableEq, Repr

/-- A head record (R164). -/
structure Head where
  demanded : Aspect
  displayed : Aspect
  singleRed : Option SingleRed
  darkCondition : Bool
  deriving DecidableEq, Repr

/-- The aspect display's records (section 8). -/
structure Display where
  road : RoadLight
  heads : PerHead Head
  deriving DecidableEq, Repr

/-! ## Link Supervisor (Chapter 9) -/

/-- The device mode (R174). -/
inductive Mode where
  | setup
  | attended
  | unattended
  deriving DecidableEq, Repr

/-- The Link Supervisor's record (R174); both timers hold milliseconds left. -/
structure Supervisor where
  mode : Mode
  watchdog : Option Nat
  groupTripped : Bool
  closureHeld : Bool
  dark : PerHead Bool
  pulseTimer : Option Nat
  deriving DecidableEq, Repr

/-! ## The whole device -/

/-- The levels of the inputs that no record holds: the encoder counts and the lamp supply, in 0.1 V. -/
structure Pins where
  encoders : PerDrive (BitVec 24)
  supply : Nat
  deriving DecidableEq, Repr

/-- The state of the device, the queue of commands that wait, first in, first out, and the model's counter of free
choices made (log entry 1). -/
structure State where
  pending : List Instr
  freeCount : Nat
  pins : Pins
  links : PerLink LinkPort
  reg : Register
  seq : Sequencer
  leaf : LeafMotion
  closure : Closure
  arms : Vector Arm 8
  zones : Vector Zone 4
  loop : Loop
  stations : Vector Station 8
  lamp : LampUnit
  display : Display
  sup : Supervisor
  store : Store
  cfg : Option Configured
  deriving DecidableEq, Repr

/-! ## Reset values -/

/-- An attention record after power-on (R195). -/
def Attention.reset : Attention := ⟨false, .empty⟩

/-- A link's machinery after power-on (R195). -/
def LinkPort.reset : LinkPort := ⟨.hunting, none, none, none, false, .reset⟩

/-- The register after power-on, release of the reset line and REVERT TO SETUP (R27). -/
def Register.reset : Register := ⟨[], 1, 0, none⟩

/-- A head's displayed aspect in the sequencer's copy after the reset events (R60). -/
def Shown.reset : Shown := ⟨.dark, none⟩

/-- The sequencer after the reset events (R60); the last clearance is the model's (log entry 7). -/
def Sequencer.reset : Sequencer := ⟨none, ⟨.dark, .dark⟩, ⟨.reset, .reset⟩, 0⟩

/-- A drive record after the reset events (R77, R104). -/
def Drive.reset : Drive := ⟨0, 0, false, 0, 0, false, false⟩

/-- A leaf record after the reset events (R77, R104); the seated flag's value is the model's (log entry 7). -/
def Leaf.reset : Leaf := ⟨0, 0, false, false⟩

/-- The group record after the reset events, with the emergency-stop input at the given level (R77, R104). -/
def Group.reset (emergencyStop : Bool) : Group where
  state := .inactive
  cause := none
  pendingLower := false
  settleCount := 0
  seatCount := 0
  restCount := 0
  emergencyStop := emergencyStop
  spanOccupied := false
  target := none
  profile := none
  skew := 0
  hold := false
  clearance := 0

/-- A lock record after the reset events, with its switches as they stand (R104). -/
def Lock.cleared (drivenSwitch withdrawnSwitch unproven : Bool) : Lock :=
  ⟨none, drivenSwitch, withdrawnSwitch, none, unproven⟩

/-- The closure record after the reset events (R130). -/
def Closure.reset : Closure where
  state := .inactive
  redSeen := .none
  override := false
  phaseTimer := none
  redTimeExpired := false
  clearDwell := .stopped
  confirmation := false
  degraded := false
  heldCause := none
  heldIn := none
  closeReported := false
  reopenPending := false

/-- An arm record after the reset events (R130). -/
def Arm.reset : Arm where
  inService := true
  commanded := none
  acknowledged := false
  reportedSince := false
  reported := .unknown
  angle := 0
  lost := false
  retryCount := 0
  retryDwell := none
  travelTimer := none
  latches := .none

/-- A station record after the reset events, with the address it holds (R142). -/
def Station.cleared (address : Option Nat) : Station := ⟨address, none, none, false, false, 0⟩

/-- The held loop (R142). -/
def Loop.reset : Loop := ⟨true, none, none, none, false⟩

/-- A channel record after the reset events, with its assignment (R161). -/
def Channel.cleared (function : Option FunctionId) (partialSelectTwo : Bool) : Channel where
  function := function
  partialSelectTwo := partialSelectTwo
  demand := .off
  onTime := 10000
  openFlag := false
  shortFlag := false
  partialFlag := false
  evaluated := false
  inEffect := false
  output := false
  diagnosing := false
  drivenInHalf := 0
  diagnosedInHalf := 0

/-- The Lamp Unit after power-on and release of the reset line (R161); partial selects and policies, none of which is
held before a commit, stand at their first value (log entry 7). -/
def LampUnit.reset : LampUnit where
  channels := Vector.replicate 32 (.cleared none false)
  functions := Vector.replicate 14 ⟨false, false⟩
  pulseClock := none
  flash := .stopped
  lowSupply := false
  undervoltage := false
  undervoltageSeen := false
  dimRoad := 100
  dimShipping := 100

/-- A head record after the reset events (R173). -/
def Head.reset : Head := ⟨.dark, .dark, none, false⟩

/-- The display after the reset events (R173). -/
def Display.reset : Display := ⟨.off, ⟨.reset, .reset⟩⟩

/-- The supervisor after the reset events (R183). -/
def Supervisor.reset : Supervisor := ⟨.setup, none, false, false, ⟨false, false⟩, none⟩

/-- The store after power-on and release of the reset line (R196). -/
def Store.reset : Store := ⟨.editing, Vector.replicate 163 none⟩

/-- The machine right after reset. Every record stands as its chapter states for power-on; the levels of the inputs,
which the manual does not give, are the model's: every encoder at count 0, every switch, zone input and the emergency
stop inactive, and the lamp supply at its nominal 24.0 V (log entry 6). -/
def State.reset : State where
  pending := []
  freeCount := 0
  pins := ⟨⟨0#24, 0#24, 0#24, 0#24⟩, 240⟩
  links := ⟨.reset, .reset⟩
  reg := .reset
  seq := .reset
  leaf :=
    { group := .reset false
      drives := ⟨.reset, .reset, .reset, .reset⟩
      west := .reset
      east := .reset
      locks := ⟨.cleared false false false, .cleared false false false, .cleared false false false⟩
      periodTimer := none }
  closure := .reset
  arms := Vector.replicate 8 .reset
  zones := Vector.replicate 4 ⟨false, false, none⟩
  loop := .reset
  stations := Vector.replicate 8 (.cleared none)
  lamp := .reset
  display := .reset
  sup := .reset
  store := .reset
  cfg := none

end Sys2Proof.Machine
end

