-- ==== Sys2Proof/Machine/Flags.lean ====
section
/-!
DEFINITION. What the manual derives from the records: the classes of states, the lock state, the seated and in-position
tests, warning proof, channel and function health, and the FAULT line.
-/

namespace Sys2Proof.Machine

open Sys2Proof

/-! ## Indexes and lists of the named parts -/

/-- The place of an arm in the ring order of R132. -/
def armIndex : ArmId → Fin 8
  | .wEntry1 => 0
  | .wEntry2 => 1
  | .wExit1 => 2
  | .wExit2 => 3
  | .eEntry1 => 4
  | .eEntry2 => 5
  | .eExit1 => 6
  | .eExit2 => 7

/-- The eight arms in ring order (R132). -/
def ringOrder : List ArmId :=
  [.wEntry1, .wEntry2, .wExit1, .wExit2, .eEntry1, .eEntry2, .eExit1, .eExit2]

/-- The station after this one in the ring, `none` after the eighth (R132). -/
def nextInRing : ArmId → Option ArmId
  | .wEntry1 => some .wEntry2
  | .wEntry2 => some .wExit1
  | .wExit1 => some .wExit2
  | .wExit2 => some .eEntry1
  | .eEntry1 => some .eEntry2
  | .eEntry2 => some .eExit1
  | .eExit1 => some .eExit2
  | .eExit2 => none

/-- The entry arms (R108). -/
def entryArms : List ArmId := [.wEntry1, .wEntry2, .eEntry1, .eEntry2]

/-- The exit arms (R108). -/
def exitArms : List ArmId := [.wExit1, .wExit2, .eExit1, .eExit2]

/-- Whether the arm is of the entry group (R108). -/
def isEntryArm (a : ArmId) : Bool := a ∈ entryArms

/-- The place of a function in the order of R145. -/
def functionIndex : FunctionId → Fin 14
  | .wAmber => 0
  | .wRedA => 1
  | .wRedB => 2
  | .eAmber => 3
  | .eRedA => 4
  | .eRedB => 5
  | .sRedUp => 6
  | .sRedLow => 7
  | .sGrnUp => 8
  | .sGrnLow => 9
  | .lRedUp => 10
  | .lRedLow => 11
  | .lGrnUp => 12
  | .lGrnLow => 13

/-- The fourteen functions in the order of R145. -/
def allFunctions : List FunctionId :=
  [.wAmber, .wRedA, .wRedB, .eAmber, .eRedA, .eRedB, .sRedUp, .sRedLow, .sGrnUp, .sGrnLow, .lRedUp, .lRedLow, .lGrnUp,
    .lGrnLow]

/-- Whether the function is one of the six road functions (R144). -/
def isRoadFunction : FunctionId → Bool
  | .wAmber | .wRedA | .wRedB | .eAmber | .eRedA | .eRedB => true
  | .sRedUp | .sRedLow | .sGrnUp | .sGrnLow | .lRedUp | .lRedLow | .lGrnUp | .lGrnLow => false

/-- The head a shipping function belongs to (R145). -/
def headOfFunction : FunctionId → Option Direction
  | .sRedUp | .sRedLow | .sGrnUp | .sGrnLow => some .seaward
  | .lRedUp | .lRedLow | .lGrnUp | .lGrnLow => some .landward
  | .wAmber | .wRedA | .wRedB | .eAmber | .eRedA | .eRedB => none

/-- The other direction. -/
def otherDirection : Direction → Direction
  | .seaward => .landward
  | .landward => .seaward

/-- The other link. -/
def otherLink : Link → Link
  | .control => .harbour
  | .harbour => .control

/-! ## Passages -/

/-- The terminal states (R2). -/
def PassageState.terminal : PassageState → Bool
  | .completed | .withdrawn | .expired => true
  | .waiting | .admitted | .cleared => false

/-! ## The leaf group -/

/-- The working states (section 4.2). -/
def GroupState.working : GroupState → Bool
  | .unlocking | .raising | .settling | .heldOpen | .lowering | .seating | .locking | .stopping => true
  | .inactive | .stowed | .tripped | .halted => false

/-- The states in which the profile runs and the brakes are released (R72, R81). -/
def GroupState.profileRuns : GroupState → Bool
  | .raising | .settling | .lowering | .seating | .stopping => true
  | .inactive | .stowed | .unlocking | .heldOpen | .locking | .tripped | .halted => false

/-- The derived states of a lock (R80). -/
inductive LockState where
  | driven
  | withdrawing
  | withdrawn
  | driving
  | unproven
  | conflict
  deriving DecidableEq, Repr

/-- The lock state, from the command and the switches, by the first row that applies (R80). -/
def lockState (l : Lock) : LockState :=
  if l.drivenSwitch && l.withdrawnSwitch then .conflict
  else match l.command with
    | some .withdraw => if l.withdrawnSwitch then .withdrawn else .withdrawing
    | some .drive => if l.drivenSwitch then .driven else .driving
    | none => if l.drivenSwitch then .driven else if l.withdrawnSwitch then .withdrawn else .unproven

/-- Whether the lock has reached the state its command names (R80). -/
def lockReached (l : Lock) : Bool :=
  match l.command with
  | some .withdraw => lockState l == .withdrawn
  | some .drive => lockState l == .driven
  | none => false

/-- Whether every lock is in the given state. -/
def allLocks (st : LockState) (m : LeafMotion) : Bool :=
  lockState m.locks.westTail == st && lockState m.locks.eastTail == st && lockState m.locks.centre == st

/-- Whether both leaves' seated flags are set (R78). -/
def bothSeated (m : LeafMotion) : Bool := m.west.seated && m.east.seated

/-! ## The road -/

/-- The closing states (R107). -/
def ClosureState.closing : ClosureState → Bool
  | .prewarnAmber | .prewarnRed | .entryLowering | .spanClearing | .exitLowering => true
  | .inactive | .roadUncertain | .roadOpen | .roadClosed | .roadReopening | .closureHeld => false

/-- The states a hold can leave: the closing states and ROAD_REOPENING (section 5.1). -/
def ClosureState.holdable (c : ClosureState) : Bool := c.closing || c == .roadReopening

/-- The road light demand of each closure state (R126). -/
def roadLightOf : ClosureState → RoadLight
  | .inactive | .roadOpen => .off
  | .prewarnAmber => .amber
  | .prewarnRed | .entryLowering | .spanClearing | .exitLowering | .roadClosed | .roadReopening | .roadUncertain
  | .closureHeld => .red

/-- Whether the reported state is the commanded position (R109). -/
def reportMatches : ArmPosition → ArmReport → Bool
  | .up, .up => true
  | .down, .down => true
  | _, _ => false

/-- Whether an arm is in position: in service, its command acknowledged, and a report since then equal to the
commanded position (R109, R124; log entry 9). -/
def armInPosition (a : Arm) : Bool :=
  match a.commanded with
  | some p => a.inService && a.acknowledged && a.reportedSince && reportMatches p a.reported
  | none => false

/-- Whether an arm is in the given position: in position with that position commanded. -/
def armIsAt (p : ArmPosition) (a : Arm) : Bool := armInPosition a && a.commanded == some p

/-- The field-loop command that asks for a position (R109). -/
def commandFor : ArmPosition → LoopCommand
  | .up => .raise
  | .down => .lower

/-- Whether WEST is proven: both of its red-seen flags are set (R106). -/
def westProven (c : Closure) : Bool := c.redSeen.wRedA && c.redSeen.wRedB

/-- Whether EAST is proven: both of its red-seen flags are set (R106). -/
def eastProven (c : Closure) : Bool := c.redSeen.eRedA && c.redSeen.eRedB

/-! ## Lamps -/

/-- Whether a demand is phased (R147). -/
def ChannelDemand.phased : ChannelDemand → Bool
  | .phaseA | .phaseB => true
  | .off | .steady => false

/-- The phase of the half of the flash cycle (R146). -/
def phaseOfHalf (second : Bool) : ChannelDemand := if second then .phaseB else .phaseA

/-- A channel's health (R153). -/
def channelHealthy (undervoltage : Bool) (c : Channel) : Bool :=
  c.function.isSome && !c.openFlag && !c.shortFlag && !undervoltage

/-- The channels assigned to a function (R145). -/
def channelsOf (f : FunctionId) (u : LampUnit) : List Channel :=
  u.channels.toList.filter (fun c => c.function == some f)

/-- A function's health from its channels' health and its policy (R145). -/
def functionHealthFrom (f : FunctionId) (u : LampUnit) : Bool :=
  let cs := channelsOf f u
  if cs.isEmpty then false
  else if u.functions[functionIndex f].policyAny then cs.any (channelHealthy u.undervoltage)
  else cs.all (channelHealthy u.undervoltage)

/-- A function's health as its record holds it. -/
def functionHealthy (f : FunctionId) (u : LampUnit) : Bool := u.functions[functionIndex f].healthy

/-- Whether some channel holds a phased demand (R147). -/
def anyPhased (u : LampUnit) : Bool := u.channels.toList.any (fun c => c.demand.phased)

/-- The nominal on-time of a dim level, in µs (R146). -/
def nominalOnTime (dim : Nat) : Nat := dim * 100

/-- The on-time in use of a dim level under a blanking time in 0.1 ms, in µs (R146). -/
def onTimeInUse (dim blanking : Nat) : Nat := max (nominalOnTime dim) (blanking * 100 + Config.deglitchUs)

/-! ## The FAULT line -/

/-- Whether the FAULT line is held (R181). -/
def faultHeld (v : Supervisor) : Bool :=
  v.groupTripped || v.closureHeld || v.dark.seaward || v.dark.landward || v.mode == .unattended

/-- Whether the FAULT line is active: held, or pulsed (R181, R182). -/
def faultLine (v : Supervisor) : Bool := faultHeld v || v.pulseTimer.isSome

end Sys2Proof.Machine
end

