-- ==== Sys2Proof/Machine/Motion.lean ====
section
/-!
DEFINITION. Chapter 3: clearance and motion arithmetic, stage by stage, in exact integers with the rounding of each
division as the manual states it. `/` on integers with a positive divisor rounds toward negative infinity; `tdiv`
rounds toward zero.
-/

namespace Sys2Proof.Machine

open Sys2Proof

/-! ## Stage 1 -/

/-- The difference of count and zero count, reduced into −8 388 608 to +8 388 607 (R63). -/
def countDifference (count zeroCount : Nat) : Int :=
  let d : Int := (count : Int) - zeroCount
  if d > 8388607 then d - 16777216 else if d < -8388608 then d + 16777216 else d

/-- The fine angle before its limit (R63, R64). -/
def rawFineAngle (c : Calibration) (count : Nat) : Int :=
  (c.sign * countDifference count c.zero * c.scale) / 65536

/-- The drive's fine angle, limited to −8 000 to +144 000 (R64). -/
def fineAngle (c : Calibration) (count : Nat) : Int := max (-8000) (min 144000 (rawFineAngle c count))

/-- The range flag: set when the limit acts (R64). -/
def rangeFlag (c : Calibration) (count : Nat) : Bool :=
  rawFineAngle c count < -8000 || rawFineAngle c count > 144000

/-! ## Stage 2 -/

/-- The leaf fine angle of the north and south fine angles (R65). -/
def leafAngle (north south : Int) : Int := (north + south) / 2

/-- The twist of the north and south fine angles (R65). -/
def leafTwist (north south : Int) : Int := north - south

/-- The reported leaf angle in cdeg (R65). -/
def reportedAngle (angle : Int) : Int := angle.tdiv 16

/-! ## Stage 3 -/

/-- The clearance of table point `k` (R67); 0 past the table. -/
def tablePoint (t : Vector Nat 17) (k : Nat) : Nat := if h : k < 17 then t[k] else 0

/-- The angle A of R68, from the lower leaf fine angle. -/
def clearanceAngle (lower : Int) : Nat := (max 0 (min 8000 (lower / 16))).toNat

/-- The available clearance at the angle A (R68). -/
def clearanceAt (t : Vector Nat 17) (a : Nat) : Nat :=
  if a ≥ 8000 then tablePoint t 16
  else
    let k := a / 500
    let w := a - 500 * k
    tablePoint t k + (tablePoint t (k + 1) - tablePoint t k) * w / 500

/-- The available clearance under two leaf fine angles (R68). -/
def availableClearance (t : Vector Nat 17) (west east : Int) : Nat := clearanceAt t (clearanceAngle (min west east))

/-- The smallest segment from `k` on, with `n` left to look at, whose end covers `h` and whose start does not (R69). -/
def segmentFrom (t : Vector Nat 17) (h : Nat) : Nat → Nat → Option Nat
  | _, 0 => none
  | k, n + 1 => if tablePoint t k < h ∧ h ≤ tablePoint t (k + 1) then some k else segmentFrom t h (k + 1) n

/-- The required angle of a required clearance, `none` when it is unreachable (R69). -/
def requiredAngle (t : Vector Nat 17) (h : Nat) : Option Nat :=
  if h ≤ tablePoint t 0 then some 0
  else
    match segmentFrom t h 0 16 with
    | some k =>
      let rise := tablePoint t (k + 1) - tablePoint t k
      some (500 * k + ((h - tablePoint t k) * 500 + rise - 1) / rise)
    | none => none

/-- The required angle of a clearance that a passage may carry: reachable and within the open limit (R9). -/
def passageAngle (c : Configured) (h : Nat) : Option Nat :=
  (requiredAngle c.clearances h).filter (fun a => a ≤ c.openLimit)

/-- A required angle with the margin above it, limited to the open limit (R30). -/
def withMargin (c : Configured) (angle : Nat) : Nat := min (angle + c.margin) c.openLimit

/-! ## Stage 4 -/

/-- The hold release level (R66). -/
def holdRelease (c : Configured) : Nat := c.skewHold - c.hysteresis

/-- The reference of a motion start, from the two leaf fine angles (R71). -/
def startReference (west east : Int) : Nat := (max 0 (min 144000 ((west + east) / 2))).toNat

/-- The profile of a motion start toward `target` (R71). -/
def startProfile (target : Nat) (west east : Int) : Profile :=
  let r := startReference west east
  ⟨r, 0, target ≥ r⟩

/-- The distance still to go (R73). -/
def distanceTo (target reference : Nat) : Nat := (target - reference) + (reference - target)

/-- The speed cap (R73). -/
def speedCap (c : Configured) (hold : Bool) (distance : Nat) : Nat :=
  if hold then 0
  else if distance > c.dslow then c.vmax
  else if distance > c.dcreep then c.vslow
  else c.vcreep

/-- The new speed under a cap (R73). -/
def newSpeed (accel v cap : Nat) : Nat := if cap ≥ v then min (v + accel) cap else max (v - accel) cap

/-- One period of the profile toward the target (R73). -/
def advanceProfile (c : Configured) (hold : Bool) (target : Nat) (p : Profile) : Profile :=
  let d := distanceTo target p.reference
  let v := newSpeed c.accel p.speed (speedCap c hold d)
  let step := min v d
  let up := target > p.reference
  let r := if up then p.reference + step else p.reference - step
  ⟨r, if r = target then 0 else step, if step = 0 then p.up else up⟩

/-- One period of a controlled stop (R74). -/
def advanceStop (c : Configured) (p : Profile) : Profile :=
  let v := p.speed - c.accel
  ⟨if p.up then min (p.reference + v) 144000 else p.reference - v, v, p.up⟩

/-! ## Stage 5 -/

/-- The demand before limiting (R75). -/
def rawDemand (c : Configured) (positive : Bool) (speed : Nat) (error : Int) : Int :=
  (if positive then 1 else -1) * (speed : Int) * c.kff + (error * c.kp).tdiv 256

/-- The demand limited to −32 767 to +32 767 (R76). -/
def limitDemand (u : Int) : Int := max (-32767) (min 32767 u)

/-- Whether the demand limit acts (R76). -/
def demandSaturated (u : Int) : Bool := u < -32767 || u > 32767

end Sys2Proof.Machine
end

