-- ==== Sys2Proof/Machine/Ops.lean ====
section
/-!
DEFINITION. The named operations on the state that every block shares: replacing one block's records, raising and
lowering an attention line, pulsing the FAULT line, handing a held condition to the Link Supervisor, reaching an arm
or a station record, and the passing of one millisecond.
-/

namespace Sys2Proof.Machine

open Sys2Proof

/-! ## Replacing one part of the state -/

/-- The state with the queue of waiting commands replaced. -/
def State.withPending (s : State) (x : List Instr) : State := { s with pending := x }

/-- The state with the counter of free choices replaced. -/
def State.withFreeCount (s : State) (x : Nat) : State := { s with freeCount := x }

/-- The state with the input levels replaced. -/
def State.withPins (s : State) (x : Pins) : State := { s with pins := x }

/-- The state with the request links replaced. -/
def State.withLinks (s : State) (x : PerLink LinkPort) : State := { s with links := x }

/-- The state with the Passage Register replaced. -/
def State.withReg (s : State) (x : Register) : State := { s with reg := x }

/-- The state with the Opening Sequencer replaced. -/
def State.withSeq (s : State) (x : Sequencer) : State := { s with seq := x }

/-- The state with the Leaf Motion Controller replaced. -/
def State.withLeaf (s : State) (x : LeafMotion) : State := { s with leaf := x }

/-- The state with the closure record replaced. -/
def State.withClosure (s : State) (x : Closure) : State := { s with closure := x }

/-- The state with the arm records replaced. -/
def State.withArms (s : State) (x : Vector Arm 8) : State := { s with arms := x }

/-- The state with the zone records replaced. -/
def State.withZones (s : State) (x : Vector Zone 4) : State := { s with zones := x }

/-- The state with the field loop replaced. -/
def State.withLoop (s : State) (x : Loop) : State := { s with loop := x }

/-- The state with the station records replaced. -/
def State.withStations (s : State) (x : Vector Station 8) : State := { s with stations := x }

/-- The state with the Lamp Unit replaced. -/
def State.withLamp (s : State) (x : LampUnit) : State := { s with lamp := x }

/-- The state with the aspect display replaced. -/
def State.withDisplay (s : State) (x : Display) : State := { s with display := x }

/-- The state with the Link Supervisor replaced. -/
def State.withSup (s : State) (x : Supervisor) : State := { s with sup := x }

/-- The state with the Configuration Store replaced. -/
def State.withStore (s : State) (x : Store) : State := { s with store := x }

/-- The state with the configured values replaced. -/
def State.withCfg (s : State) (x : Option Configured) : State := { s with cfg := x }

/-- The configured values in use (R196). -/
def State.conf (s : State) : Configured := s.cfg.getD Configured.blank

/-! ## Attention lines (R193) -/

/-- The set with a cause added. -/
def CauseSet.add (c : CauseSet) : AttentionCause → CauseSet
  | .passageRecord => { c with passageRecord := true }
  | .opening => { c with opening := true }
  | .closure => { c with closure := true }
  | .leafGroup => { c with leafGroup := true }
  | .lampLatch => { c with lampLatch := true }
  | .armLatch => { c with armLatch := true }
  | .mode => { c with mode := true }

/-- One link's machinery changed by `f`. -/
def updatePort (l : Link) (f : LinkPort → LinkPort) (s : State) : State :=
  s.withLinks (s.links.set l (f (s.links.get l)))

/-- A block asks for a link's attention line: the cause is added and the line raised (R193). -/
def raiseAttention (l : Link) (cause : AttentionCause) (s : State) : State :=
  updatePort l (fun p => { p with attention := ⟨true, p.attention.causes.add cause⟩ }) s

/-- The link's attention line is lowered and its causes emptied (R193). -/
def lowerAttention (l : Link) (s : State) : State := updatePort l (fun p => { p with attention := .reset }) s

/-- The control link's line is raised with the cause when the condition holds. -/
def raiseControlIf (condition : Bool) (cause : AttentionCause) (s : State) : State :=
  if condition then raiseAttention .control cause s else s

/-! ## The Link Supervisor's fields (R181, R182) -/

/-- A FAULT pulse: the pulse timer starts, or restarts, at 200 ms (R182). -/
def pulseFault (s : State) : State := s.withSup { s.sup with pulseTimer := some Config.faultPulseMs }

/-- Whether the group is TRIPPED, handed to the Link Supervisor (R181). -/
def handGroupTripped (b : Bool) (s : State) : State := s.withSup { s.sup with groupTripped := b }

/-- Whether the closure is CLOSURE_HELD, handed to the Link Supervisor (R181). -/
def handClosureHeld (b : Bool) (s : State) : State := s.withSup { s.sup with closureHeld := b }

/-- A head's dark condition, handed to the Link Supervisor (R170, R181). -/
def handDark (d : Direction) (b : Bool) (s : State) : State := s.withSup { s.sup with dark := s.sup.dark.set d b }

/-! ## Arms and stations -/

/-- The arm record. -/
def State.arm (s : State) (a : ArmId) : Arm := s.arms[armIndex a]

/-- One arm record changed by `f`. -/
def updateArm (a : ArmId) (f : Arm → Arm) (s : State) : State := s.withArms (tabModify (armIndex a) f s.arms)

/-- The station record. -/
def State.station (s : State) (a : ArmId) : Station := s.stations[armIndex a]

/-- One station record changed by `f`. -/
def updateStation (a : ArmId) (f : Station → Station) (s : State) : State :=
  s.withStations (tabModify (armIndex a) f s.stations)

/-- A slot write: the slot takes the command, and `rewritten` is set while the station's own turn is in progress
(R139). -/
def writeSlot (a : ArmId) (c : LoopCommand) (s : State) : State :=
  let ownTurn := match s.loop.turn with
    | some t => t.station == a
    | none => false
  updateStation a (fun st => { st with slot := some c, rewritten := st.rewritten || ownTurn }) s

/-- Whether some zone is OCCUPIED (R98). -/
def anyOccupied (s : State) : Bool := s.zones.toList.any (fun z => z.occupied)

/-- The state with the first free choice not yet made counted as made (log entry 1). -/
def countChoice (s : State) : State := s.withFreeCount (s.freeCount + 1)

/-- Which of `n` alternatives the next free choice takes (log entry 1). -/
def State.choice (s : State) (n : Nat) : Nat := Config.freeChoice s.freeCount % n

/-! ## The passing of one millisecond (log entries 3 and 27) -/

/-- A timer that shows the time left: one less, but its last millisecond stands until its command arrives. -/
def tickLeft : Option Nat → Option Nat
  | some t => some (if t > 1 then t - 1 else t)
  | none => none

/-- A timer that shows the time elapsed: one more, but it stays below its limit until its command arrives. -/
def tickElapsed (limit : Nat) : Option Nat → Option Nat
  | some t => some (if t + 1 < limit then t + 1 else t)
  | none => none

/-- One millisecond passes at the locks (R80). -/
def tickLocks (limit : Nat) (m : LeafMotion) : LeafMotion :=
  { m with
    locks := m.locks.map (fun k => { k with timer := tickElapsed limit k.timer })
    periodTimer := tickLeft m.periodTimer }

/-- One millisecond passes at the closure record (R106). -/
def tickClosure (c : Closure) : Closure :=
  { c with
    phaseTimer := tickLeft c.phaseTimer
    clearDwell := match c.clearDwell with
      | .running t => .running (if t > 1 then t - 1 else t)
      | .stopped => .stopped
      | .complete => .complete }

/-- One millisecond passes at an arm record (R108). -/
def tickArm (limit : Nat) (a : Arm) : Arm :=
  { a with retryDwell := tickLeft a.retryDwell, travelTimer := tickElapsed limit a.travelTimer }

/-- One millisecond passes at a zone record, whose debounce is in 0.1 s (R112). -/
def tickZone (debounce : Nat) (z : Zone) : Zone := { z with debounce := tickElapsed (debounce * 100) z.debounce }

/-- One millisecond passes at the zones. -/
def tickZones (c : Configured) (z : Vector Zone 4) : Vector Zone 4 :=
  tabModify 0 (tickZone c.debounce[0]) (tabModify 1 (tickZone c.debounce[1])
    (tabModify 2 (tickZone c.debounce[2]) (tabModify 3 (tickZone c.debounce[3]) z)))

/-- One millisecond passes at the opening record (R47). -/
def tickOpening (o : Opening) : Opening := { o with changeover := tickLeft o.changeover }

/-- One millisecond passes with no command: every running timer counts (log entry 3). -/
def tick (s : State) : State :=
  let c := s.conf
  { s with
    reg := { s.reg with minuteTimer := tickLeft s.reg.minuteTimer }
    seq := { s.seq with opening := s.seq.opening.map tickOpening }
    leaf := tickLocks (c.lockTimeout * 1000) s.leaf
    closure := tickClosure s.closure
    arms := tabMap (tickArm (c.travelTimeout * 1000)) s.arms
    zones := tickZones c s.zones
    loop := { s.loop with scanTimer := tickLeft s.loop.scanTimer }
    lamp := { s.lamp with pulseClock := tickLeft s.lamp.pulseClock }
    sup := { s.sup with watchdog := tickLeft s.sup.watchdog, pulseTimer := tickLeft s.sup.pulseTimer } }

end Sys2Proof.Machine
end

