-- ==== Sys2Proof/Machine/Leaf.lean ====
section
/-!
DEFINITION. Chapter 4 at the Leaf Motion Controller's own records: brakes, stops and trips, locks, the requests of the
Opening Sequencer with their refusals, and one control period. Nothing here reaches another block.
-/

namespace Sys2Proof.Machine

open Sys2Proof

/-! ## Brakes, counts and lock commands -/

/-- The group record changed by `f`. -/
def LeafMotion.updateGroup (f : Group → Group) (m : LeafMotion) : LeafMotion := { m with group := f m.group }

/-- The group in another state. -/
def LeafMotion.enter (st : GroupState) (m : LeafMotion) : LeafMotion := m.updateGroup (fun g => { g with state := st })

/-- The four brakes set: the demands go to 0 and the saturated flags clear (R76, R82). That the flags clear at once with the
demands where an event between periods sets the brakes is the model's choice (log entry 39). -/
def LeafMotion.setBrakes (m : LeafMotion) : LeafMotion :=
  { m with drives := m.drives.map (fun d => { d with brakeReleased := false, demand := 0, saturated := false }) }

/-- The four brakes released (R82). -/
def LeafMotion.releaseBrakes (m : LeafMotion) : LeafMotion :=
  { m with drives := m.drives.map (fun d => { d with brakeReleased := true }) }

/-- The settle, seat and rest-phase counts cleared. -/
def LeafMotion.clearCounts (m : LeafMotion) : LeafMotion :=
  m.updateGroup (fun g => { g with settleCount := 0, seatCount := 0, restCount := 0 })

/-- A lock with its command removed, which stops its timer (R80). -/
def Lock.uncommanded (l : Lock) : Lock := { l with command := none, timer := none }

/-- Every lock command removed. -/
def LeafMotion.removeCommands (m : LeafMotion) : LeafMotion := { m with locks := m.locks.map Lock.uncommanded }

/-- A command placed on a lock: its timer starts from zero, and stops at once where the lock is already there (R80). -/
def Lock.commanded (c : LockCommand) (l : Lock) : Lock :=
  let l := { l with command := some c }
  { l with timer := if lockReached l then none else some 0 }

/-- A target in cdeg handed over: T is 16 times it (R70). -/
def LeafMotion.setTarget (target : Nat) (m : LeafMotion) : LeafMotion :=
  m.updateGroup (fun g => { g with target := some (16 * target) })

/-- T as the computation reads it; absent reads as 0 (log entry 23). -/
def Group.targetInUse (g : Group) : Nat := g.target.getD 0

/-! ## Stops and trips (R99, R100) -/

/-- An immediate trip: brakes set, lock commands removed, counts and pending lower cleared. A stop's own cause is kept,
and so is everything in TRIPPED (R100). -/
def LeafMotion.trip (cause : TripCause) (m : LeafMotion) : LeafMotion :=
  if m.group.state = .tripped then m
  else
    let kept := if m.group.state = .stopping then m.group.cause.or (some cause) else some cause
    (m.setBrakes.removeCommands.clearCounts).updateGroup (fun g =>
      { g with state := .tripped, cause := kept, pendingLower := false })

/-- A controlled stop begins, with its cause if it has one, or with a lower pending (R99). -/
def LeafMotion.beginStop (cause : Option TripCause) (lower : Bool) (m : LeafMotion) : LeafMotion :=
  m.clearCounts.updateGroup (fun g => { g with state := .stopping, cause := cause, pendingLower := lower })

/-- A cause reaches a stop in progress: a stop without a cause takes it and loses its pending lower (R96, R98). -/
def LeafMotion.stopTakes (cause : TripCause) (m : LeafMotion) : LeafMotion :=
  m.updateGroup (fun g =>
    match g.cause with
    | none => { g with cause := some cause, pendingLower := false }
    | some _ => g)

/-- A motion start into RAISING or LOWERING: the reference, speed and direction are set, pending lower clears and the
brakes are released; with a lock not WITHDRAWN it becomes an immediate trip LOCK_FAULT (R71, R83). -/
def LeafMotion.motionStart (st : GroupState) (m : LeafMotion) : LeafMotion :=
  if allLocks .withdrawn m then
    (m.releaseBrakes.clearCounts).updateGroup (fun g =>
      { g with
        state := st
        pendingLower := false
        profile := some (startProfile g.targetInUse m.west.angle m.east.angle) })
  else m.trip .lockFault

/-- The group HALTED with the brakes set. -/
def LeafMotion.halt (m : LeafMotion) : LeafMotion := (m.setBrakes.clearCounts).enter .halted

/-! ## Locks (R88, R89) -/

/-- Every lock is WITHDRAWN in UNLOCKING: the commands go, and a raise follows unless the span is occupied (R88). -/
def LeafMotion.unlocked (m : LeafMotion) : LeafMotion :=
  let m := m.removeCommands
  if m.group.spanOccupied then m.halt else m.motionStart .raising

/-- UNLOCKING left at once when every lock is WITHDRAWN (R88). -/
def LeafMotion.finishUnlocking (m : LeafMotion) : LeafMotion := if allLocks .withdrawn m then m.unlocked else m

/-- Entry to UNLOCKING (R88). -/
def LeafMotion.enterUnlocking (m : LeafMotion) : LeafMotion :=
  let m : LeafMotion := { m with locks := m.locks.map (Lock.commanded .withdraw) }
  (m.enter .unlocking).finishUnlocking

/-- Every lock is DRIVEN in LOCKING: STOWED, with the commands and the latches cleared (R89, R95). -/
def LeafMotion.locked (m : LeafMotion) : LeafMotion :=
  let m := m.removeCommands
  let m : LeafMotion :=
    { m with
      locks := m.locks.map (fun l => { l with unproven := false })
      west := { m.west with twistWarning := false }
      east := { m.east with twistWarning := false } }
  m.enter .stowed

/-- LOCKING left at once when every lock is DRIVEN (R89). -/
def LeafMotion.finishLocking (m : LeafMotion) : LeafMotion := if allLocks .driven m then m.locked else m

/-- CENTRE uncommanded in LOCKING: its timer measures the interval from zero (R89). -/
def Lock.heldBack (l : Lock) : Lock := { l with command := none, timer := some 0 }

/-- Entry to LOCKING: brakes set, DRIVE on the tail locks, and on CENTRE while both leaves are seated (R89). -/
def LeafMotion.enterLocking (m : LeafMotion) : LeafMotion :=
  let m := m.setBrakes.clearCounts.removeCommands
  let centre := if bothSeated m then Lock.commanded .drive m.locks.centre else Lock.heldBack m.locks.centre
  let locks : PerLock Lock := ⟨Lock.commanded .drive m.locks.westTail, Lock.commanded .drive m.locks.eastTail, centre⟩
  let m : LeafMotion := { m with locks := locks }
  (m.enter .locking).finishLocking

/-- The CENTRE command kept in step with the seated flags in a period of LOCKING (R89). -/
def LeafMotion.trackCentre (m : LeafMotion) : LeafMotion :=
  let l := m.locks.centre
  if bothSeated m then
    if l.command = none then
      let m : LeafMotion := { m with locks := { m.locks with centre := Lock.commanded .drive l } }
      m.finishLocking
    else m
  else if l.command = none then m
  else { m with locks := { m.locks with centre := Lock.heldBack l } }

/-- A proving switch in its new level, with the timer stopping and starting as R80 states; an uncommanded lock's timer
is not touched. -/
def Lock.switched (switch : LockSwitch) (made : Bool) (l : Lock) : Lock :=
  let l' := match switch with
    | .driven => { l with drivenSwitch := made }
    | .withdrawn => { l with withdrawnSwitch := made }
  if l.command = none then l'
  else if lockReached l' then { l' with timer := none }
  else if lockReached l then { l' with timer := some 0 }
  else l'

/-- A switch change at the group: `was` and `now` are the lock's states before and after it (R88 to R91). -/
def LeafMotion.lockMoved (lock : LockId) (was now : LockState) (m : LeafMotion) : LeafMotion :=
  match m.group.state with
  | .unlocking =>
    if now = .conflict ∧ was ≠ .conflict then m.trip .lockFault else m.finishUnlocking
  | .locking =>
    if now = .conflict ∧ was ≠ .conflict then m.trip .lockFault else m.finishLocking
  | .raising | .settling | .heldOpen | .lowering | .seating | .stopping =>
    if was = .withdrawn ∧ now ≠ .withdrawn then m.trip .lockFault else m
  | .stowed =>
    if was = .driven ∧ now ≠ .driven then
      { m with locks := m.locks.set lock { m.locks.get lock with unproven := true } }
    else m
  | .inactive | .tripped | .halted => m

/-- A lock switch changes level (R80, R88 to R91). -/
def LeafMotion.lockSwitch (lock : LockId) (switch : LockSwitch) (made : Bool) (m : LeafMotion) : LeafMotion :=
  let l := m.locks.get lock
  let l' := l.switched switch made
  let m : LeafMotion := { m with locks := m.locks.set lock l' }
  m.lockMoved lock (lockState l) (lockState l')

/-! ## Requests of the sequencer (R83 to R87) -/

/-- Whether R83 refuses a request that would release the brakes or begin an unlocking. -/
def startRefused (roadClosed : Bool) (m : LeafMotion) : Bool :=
  m.group.emergencyStop || m.group.spanOccupied || !roadClosed

/-- Whether a raise request is refused (R84). -/
def raiseRefused (roadClosed : Bool) (m : LeafMotion) : Bool :=
  match m.group.state with
  | .stowed | .heldOpen => startRefused roadClosed m
  | .inactive | .unlocking | .raising | .settling | .lowering | .seating | .locking | .stopping | .tripped
  | .halted => true

/-- A raise request that is taken (R84). -/
def LeafMotion.raise (target : Nat) (m : LeafMotion) : LeafMotion :=
  match m.group.state with
  | .stowed => (m.setTarget target).enterUnlocking
  | .heldOpen => (m.setTarget target).motionStart .raising
  | .inactive | .unlocking | .raising | .settling | .lowering | .seating | .locking | .stopping | .tripped
  | .halted => m

/-- A target handed over without a start (R85). -/
def LeafMotion.handOver (roadClosed : Bool) (target : Nat) (m : LeafMotion) : LeafMotion :=
  let m := m.setTarget target
  match m.group.state with
  | .settling => m.clearCounts.enter .raising
  | .heldOpen => if startRefused roadClosed m then m.halt else m.motionStart .raising
  | .inactive | .stowed | .unlocking | .raising | .lowering | .seating | .locking | .stopping | .tripped
  | .halted => m

/-- Whether a lower request is refused (R83, R86). -/
def lowerRefused (roadClosed : Bool) (m : LeafMotion) : Bool :=
  match m.group.state with
  | .heldOpen | .halted => if bothSeated m then m.group.emergencyStop else startRefused roadClosed m
  | .unlocking => m.group.emergencyStop
  | .raising | .settling | .seating | .stopping => false
  | .inactive | .stowed | .lowering | .locking | .tripped => true

/-- A lower request that is taken (R86). -/
def LeafMotion.lower (m : LeafMotion) : LeafMotion :=
  let m' := m.setTarget 0
  match m.group.state with
  | .heldOpen | .halted => if bothSeated m then m'.enterLocking else m'.motionStart .lowering
  | .unlocking => m'.enterLocking
  | .raising | .settling | .seating => m'.beginStop none true
  | .stopping => m'.updateGroup (fun g => { g with pendingLower := g.pendingLower || g.cause.isNone })
  | .inactive | .stowed | .lowering | .locking | .tripped => m

/-- Whether a continue request is refused (R87). -/
def continueRefused (roadClosed : Bool) (m : LeafMotion) : Bool :=
  if m.group.state = .halted then
    if m.group.targetInUse = 0 then lowerRefused roadClosed m else startRefused roadClosed m
  else true

/-- A continue request that is taken (R87). -/
def LeafMotion.continueMotion (m : LeafMotion) : LeafMotion :=
  if m.group.targetInUse = 0 then m.lower
  else if bothSeated m && !allLocks .withdrawn m then m.enterUnlocking
  else m.motionStart .raising

/-! ## Inputs (R97, R98) -/

/-- The emergency-stop input changes level (R97). -/
def LeafMotion.emergencyStop (active : Bool) (m : LeafMotion) : LeafMotion :=
  let m := m.updateGroup (fun g => { g with emergencyStop := active })
  if active && m.group.state.working then m.trip .estop else m

/-- A change of zone occupancy: whether the zone became OCCUPIED, and whether any zone now is (R98). -/
def LeafMotion.zoneChange (became any : Bool) (m : LeafMotion) : LeafMotion :=
  let m := m.updateGroup (fun g => { g with spanOccupied := any })
  if became then
    match m.group.state with
    | .raising | .settling | .lowering | .seating => m.beginStop (some .spanIntrusion) false
    | .stopping => m.stopTakes .spanIntrusion
    | .inactive | .stowed | .unlocking | .heldOpen | .locking | .tripped | .halted => m
  else m

/-! ## One control period (R62) -/

/-- The seated flag of a leaf angle (R66, R78). -/
def isSeated (c : Configured) (angle : Int) : Bool := angle.natAbs ≤ c.seatedWindow

/-- A drive after step 2 (R63, R64). -/
def formDrive (c : Calibration) (count : BitVec 24) (d : Drive) : Drive :=
  { d with count := count.toNat, fine := fineAngle c count.toNat, rangeFlag := rangeFlag c count.toNat }

/-- Steps 1 to 4: counts, fine angles, leaf angles, twists, skew and clearance (R62 to R68). -/
def LeafMotion.formAngles (c : Configured) (counts : PerDrive (BitVec 24)) (m : LeafMotion) : LeafMotion :=
  let drives : PerDrive Drive :=
    ⟨formDrive c.drives.wn counts.wn m.drives.wn, formDrive c.drives.ws counts.ws m.drives.ws,
      formDrive c.drives.en counts.en m.drives.en, formDrive c.drives.es counts.es m.drives.es⟩
  let west := leafAngle drives.wn.fine drives.ws.fine
  let east := leafAngle drives.en.fine drives.es.fine
  { m with
    drives := drives
    west := { m.west with angle := west, twist := leafTwist drives.wn.fine drives.ws.fine }
    east := { m.east with angle := east, twist := leafTwist drives.en.fine drives.es.fine }
    group := { m.group with skew := west - east, clearance := availableClearance c.clearances west east } }

/-- The seated flags formed from the leaf angles (R78). -/
def LeafMotion.formSeated (c : Configured) (m : LeafMotion) : LeafMotion :=
  { m with
    west := { m.west with seated := isSeated c m.west.angle }
    east := { m.east with seated := isSeated c m.east.angle } }

/-- The hold flag (R94). -/
def holdFlag (c : Configured) (skew : Int) (hold : Bool) : Bool :=
  if c.skewHold ≤ skew.natAbs then true else if skew.natAbs < holdRelease c then false else hold

/-- Whether a leaf's twist sets its warning latch: the warn level in every state, and the trip level too in a rest
state (R95). -/
def warnsTwist (c : Configured) (working : Bool) (l : Leaf) : Bool :=
  c.twistWarn ≤ l.twist.natAbs || (!working && c.twistTrip ≤ l.twist.natAbs)

/-- Whether some leaf takes a new twist warning in this period (R95). -/
def newTwistWarning (c : Configured) (m : LeafMotion) : Bool :=
  (!m.west.twistWarning && warnsTwist c m.group.state.working m.west)
    || (!m.east.twistWarning && warnsTwist c m.group.state.working m.east)

/-- The hold flag and the twist warning latches after step 5 (R94, R95). -/
def LeafMotion.formWarnings (c : Configured) (m : LeafMotion) : LeafMotion :=
  { m with
    west := { m.west with twistWarning := m.west.twistWarning || warnsTwist c m.group.state.working m.west }
    east := { m.east with twistWarning := m.east.twistWarning || warnsTwist c m.group.state.working m.east }
    group := { m.group with hold := holdFlag c m.group.skew m.group.hold } }

/-- Whether the twist trip level is reached (R95). -/
def twistTrips (c : Configured) (m : LeafMotion) : Bool :=
  c.twistTrip ≤ m.west.twist.natAbs || c.twistTrip ≤ m.east.twist.natAbs

/-- Whether the skew trip level is reached (R96). -/
def skewTrips (c : Configured) (m : LeafMotion) : Bool := c.skewTrip ≤ m.group.skew.natAbs

/-- Whether some range flag is set (R96). -/
def rangeTrips (m : LeafMotion) : Bool := m.drives.any (fun d => d.rangeFlag)

/-- The trip causes that step 5 finds in a working state (R95, R96). -/
def angleCauses (c : Configured) (m : LeafMotion) : List TripCause :=
  (if twistTrips c m then [.twist] else []) ++ (if skewTrips c m then [.skew] else [])
    ++ (if rangeTrips m then [.encoderRange] else [])

/-- The cause taken of those found together; `pick` is the free choice where there are several (log entry 1). -/
def chosenCause (pick : Nat) (causes : List TripCause) : TripCause := (causes[pick % causes.length]?).getD .skew

/-- Step 5's trips and stops: TWIST and ENCODER_RANGE trip in a working state; SKEW alone stops a moving group, joins a
stop, and trips a working group at rest (R95, R96). -/
def LeafMotion.superviseAngles (c : Configured) (pick : Nat) (m : LeafMotion) : LeafMotion :=
  let causes := angleCauses c m
  if !m.group.state.working || causes.isEmpty then m
  else if twistTrips c m || rangeTrips m then m.trip (chosenCause pick causes)
  else match m.group.state with
    | .raising | .settling | .lowering | .seating => m.beginStop (some .skew) false
    | .stopping => m.stopTakes .skew
    | .unlocking | .heldOpen | .locking => m.trip .skew
    | .inactive | .stowed | .tripped | .halted => m

/-- The profile that the computation reads; absent reads as a reference of 0 at rest. -/
def Group.profileInUse (g : Group) : Profile := g.profile.getD ⟨0, 0, true⟩

/-- Step 6: the profile advances where it runs (R72 to R74). -/
def LeafMotion.advance (c : Configured) (m : LeafMotion) : LeafMotion :=
  if m.group.state.profileRuns then
    let p := m.group.profileInUse
    m.updateGroup (fun g =>
      { g with profile := some (if g.state = .stopping then advanceStop c p
          else advanceProfile c g.hold g.targetInUse p) })
  else m

/-- A drive after step 7 in a period in which the profile runs (R75, R76). -/
def driveWith (c : Configured) (positive : Bool) (p : Profile) (d : Drive) : Drive :=
  let e := (p.reference : Int) - d.fine
  let u := rawDemand c positive p.speed e
  { d with followingError := e, demand := limitDemand u, saturated := demandSaturated u }

/-- A drive after step 7 in a period in which the profile does not run (R75, R76). -/
def driveIdle (d : Drive) : Drive := { d with followingError := 0, demand := 0, saturated := false }

/-- Step 7: the following errors and demands; `positive` is the feed-forward sign (R75, R76). -/
def LeafMotion.drive (c : Configured) (positive : Bool) (m : LeafMotion) : LeafMotion :=
  if m.group.state.profileRuns then
    { m with drives := m.drives.map (driveWith c positive m.group.profileInUse) }
  else { m with drives := m.drives.map driveIdle }

/-- The feed-forward sign of a period: by T at its start, or by the direction of travel in STOPPING (R75). -/
def feedForwardPositive (m : LeafMotion) : Bool :=
  let p := m.group.profileInUse
  if m.group.state = .stopping then p.up else p.reference ≤ m.group.targetInUse

/-- Whether some following error reaches the trip level (R96). -/
def followingTrips (c : Configured) (m : LeafMotion) : Bool :=
  m.group.state.profileRuns && m.drives.any (fun d => c.followingTrip ≤ d.followingError.natAbs)

/-- Whether every following error is within the settle window (R92). -/
def withinSettle (c : Configured) (m : LeafMotion) : Bool :=
  m.drives.all (fun d => d.followingError.natAbs ≤ c.settleWindow)

/-- The settle dwell in control periods, from its 0.1 s (R79). -/
def settleDwellPeriods (c : Configured) : Nat := c.settleDwell * 5

/-- The seat dwell in control periods, from its 0.1 s (R79). -/
def seatDwellPeriods (c : Configured) : Nat := c.seatDwell * 5

/-- The settle timeout in control periods (R79). -/
def settleTimeoutPeriods (c : Configured) : Nat := c.settleTimeout * Config.periodsPerSecond

/-- HELD_OPEN, with the brakes set and the counts cleared (R92). -/
def LeafMotion.holdOpen (m : LeafMotion) : LeafMotion := (m.setBrakes.clearCounts).enter .heldOpen

/-- The stop ends: TRIPPED with its cause, or HALTED (R99). -/
def LeafMotion.endStop (m : LeafMotion) : LeafMotion :=
  (m.setBrakes.clearCounts).enter (if m.group.cause.isSome then .tripped else .halted)

/-- Step 8's transitions by reference, dwell and window (R89, R92, R93, R99). -/
def LeafMotion.superviseMotion (c : Configured) (m : LeafMotion) : LeafMotion :=
  let p := m.group.profileInUse
  match m.group.state with
  | .raising => if p.reference = m.group.targetInUse ∧ p.speed = 0 then m.clearCounts.enter .settling else m
  | .settling =>
    let rest := m.group.restCount + 1
    let settle := if withinSettle c m then m.group.settleCount + 1 else 0
    if settleDwellPeriods c ≤ settle then m.holdOpen
    else if settleTimeoutPeriods c ≤ rest then m.trip .settleTimeout
    else m.updateGroup (fun g => { g with settleCount := settle, restCount := rest })
  | .lowering => if p.reference = 0 ∧ p.speed = 0 then m.clearCounts.enter .seating else m
  | .seating =>
    let rest := m.group.restCount + 1
    let seat := if bothSeated m then m.group.seatCount + 1 else 0
    if seatDwellPeriods c ≤ seat then m.enterLocking
    else if settleTimeoutPeriods c ≤ rest then m.trip .settleTimeout
    else m.updateGroup (fun g => { g with seatCount := seat, restCount := rest })
  | .stopping => if p.speed = 0 then m.endStop else m
  | .locking => m.trackCentre
  | .inactive | .stowed | .unlocking | .heldOpen | .tripped | .halted => m

/-- Step 8: the seated flags, the following trip, then the transitions (R96). -/
def LeafMotion.superviseStep (c : Configured) (m : LeafMotion) : LeafMotion :=
  let m := m.formSeated c
  if followingTrips c m then m.trip .following else m.superviseMotion c

/-- One whole control period at the leaf records (R62); `pick` is the free choice of a cause. -/
def LeafMotion.period (c : Configured) (counts : PerDrive (BitVec 24)) (pick : Nat) (m : LeafMotion) : LeafMotion :=
  let m := ((m.formAngles c counts).formWarnings c).superviseAngles c pick
  ((m.advance c).drive c (feedForwardPositive m)).superviseStep c

/-- The start-up evaluation at the leaf records: stages 1 to 3, the seated flags, then STOWED or HALTED (R105). -/
def LeafMotion.evaluate (c : Configured) (counts : PerDrive (BitVec 24)) (m : LeafMotion) : LeafMotion :=
  let m := ((m.formAngles c counts).formSeated c).setBrakes
  let m : LeafMotion :=
    { m with
      locks := m.locks.map (fun l => { l.uncommanded with unproven := false })
      west := { m.west with twistWarning := false }
      east := { m.east with twistWarning := false }
      group := { m.group with cause := none, pendingLower := false }
      periodTimer := some Config.controlPeriodMs }
  m.enter (if bothSeated m && allLocks .driven m then .stowed else .halted)

end Sys2Proof.Machine
end

