-- ==== Sys2Proof/Machine/Operands.lean ====
section
/-!
DEFINITION. The operand forms of the commands: numbers in octets, the frame check, the codes of R191, tags, passage
records on the wire, the field loop's octets, and the configuration items with their ranges and relations.
-/

namespace Sys2Proof.Machine

open Sys2Proof

/-! ## Numbers in octets (R184) -/

/-- Two octets, high octet first. -/
def word16 (h l : Byte) : Nat := h.toNat * 256 + l.toNat

/-- Four octets, high octet first, in two's complement (R184, R197). -/
def signed32 (a b c d : Byte) : Int := (a ++ b ++ c ++ d : BitVec 32).toInt

/-- A count in one octet. -/
def octet (n : Nat) : Byte := BitVec.ofNat 8 n

/-- A number in two octets, high octet first. -/
def octets16 (n : Nat) : List Byte := [octet (n / 256), octet n]

/-- A signed number in two octets, two's complement, high octet first. -/
def octetsSigned16 (v : Int) : List Byte := octets16 (BitVec.ofInt 16 v).toNat

/-- A number in four octets, high octet first. -/
def octets32 (n : Nat) : List Byte := [octet (n / 16777216), octet (n / 65536), octet (n / 256), octet n]

/-- A signed number in four octets, two's complement, high octet first (R198). -/
def octetsSigned32 (v : Int) : List Byte := octets32 (BitVec.ofInt 32 v).toNat

/-- Flags in one octet, listed from the lowest bit upward (R192). -/
def flagValue : List Bool → Nat
  | [] => 0
  | b :: bs => (if b then 1 else 0) + 2 * flagValue bs

/-- Flags in one octet, listed from the lowest bit upward (R192). -/
def flagsOctet (bs : List Bool) : Byte := octet (flagValue bs)

/-! ## The check (R186) -/

/-- One bit of the check: a shift, and the generator polynomial where a bit falls out. -/
def checkBit (c : Nat) : Nat := if c < 32768 then c <<< 1 else (c <<< 1) ^^^ 0x11021

/-- One octet fed in, highest bit first. -/
def checkOctet (c : Nat) (b : Byte) : Nat :=
  checkBit (checkBit (checkBit (checkBit (checkBit (checkBit (checkBit (checkBit (c ^^^ (b.toNat <<< 8)))))))))

/-- The check register after a list of octets. The match on the new value makes an evaluator compute it at each
octet. -/
def checkFrom (c : Nat) : List Byte → Nat
  | [] => c
  | b :: bs =>
    match checkOctet c b with
    | 0 => checkFrom 0 bs
    | k + 1 => checkFrom (k + 1) bs

/-- The check of a list of octets, with the register preset to 0xFFFF (R186). -/
def checkWord (bs : List Byte) : CheckWord := BitVec.ofNat 16 (checkFrom 0xFFFF bs)

/-- The check's two octets, high octet first (R186). -/
def checkOctets (bs : List Byte) : List Byte := octets16 (checkWord bs).toNat

/-! ## Codes (R190, R191) -/

/-- The code of an outcome (R190). -/
def OutcomeCode.code : OutcomeCode → Nat
  | .ok => 0
  | .unknownRequest => 1
  | .badField => 2
  | .notPermitted => 3
  | .wrongMode => 4
  | .noSuchPassage => 5
  | .wrongState => 6
  | .duplicateVessel => 7
  | .registerFull => 8
  | .unreachable => 9
  | .tooLate => 10
  | .openingActive => 11
  | .listFull => 12
  | .vesselsCleared => 13
  | .interlock => 14
  | .configInvalid => 15

/-- The outcome octet: the overrun flag is its highest bit (R190). -/
def outcomeOctet (r : Reply) : Byte := octet (r.outcome.code + if r.overrun then 128 else 0)

/-- The octets of a reply frame (R184). -/
def replyFrame (r : Reply) : List Byte :=
  let checked := octet (r.body.length + 2) :: r.kind :: outcomeOctet r :: r.body
  0xC3#8 :: checked ++ checkOctets checked

/-- The octets of a request frame (R184). -/
def requestFrame (kind : Byte) (body : List Byte) : List Byte :=
  let checked := octet (body.length + 1) :: kind :: body
  0xC3#8 :: checked ++ checkOctets checked

/-- Mode (R191). -/
def Mode.code : Mode → Nat
  | .setup => 0
  | .attended => 1
  | .unattended => 2

/-- Passage state (R191). -/
def PassageState.code : PassageState → Nat
  | .waiting => 0
  | .admitted => 1
  | .cleared => 2
  | .completed => 3
  | .withdrawn => 4
  | .expired => 5

/-- Origin (R191). -/
def linkCode : Link → Nat
  | .control => 0
  | .harbour => 1

/-- A field that may be absent: 0 stands for absent and the values count from 1 (R191). -/
def optionCode {α : Type} (code : α → Nat) : Option α → Nat
  | none => 0
  | some x => code x + 1

/-- Direction (R191). -/
def Direction.code : Direction → Nat
  | .seaward => 0
  | .landward => 1

/-- Class (R191). -/
def PassageClass.code : PassageClass → Nat
  | .priority => 0
  | .routine => 1

/-- Opening state other than NONE, whose code is 0 (R191). -/
def OpeningState.code : OpeningState → Nat
  | .closingRoad => 1
  | .lifting => 2
  | .open => 3
  | .lowering => 4
  | .reopeningRoad => 5
  | .recoveryWait => 6

/-- Closure state (R191). -/
def ClosureState.code : ClosureState → Nat
  | .inactive => 0
  | .roadUncertain => 1
  | .roadOpen => 2
  | .prewarnAmber => 3
  | .prewarnRed => 4
  | .entryLowering => 5
  | .spanClearing => 6
  | .exitLowering => 7
  | .roadClosed => 8
  | .roadReopening => 9
  | .closureHeld => 10

/-- Held cause, counted from 0 (R191). -/
def HeldCause.code : HeldCause → Nat
  | .travelTimeout => 0
  | .obstructionLimit => 1
  | .armLost => 2
  | .armLocal => 3
  | .noEntryArm => 4
  | .noExitArm => 5

/-- Group state (R191). -/
def GroupState.code : GroupState → Nat
  | .inactive => 0
  | .stowed => 1
  | .unlocking => 2
  | .raising => 3
  | .settling => 4
  | .heldOpen => 5
  | .lowering => 6
  | .seating => 7
  | .locking => 8
  | .stopping => 9
  | .tripped => 10
  | .halted => 11

/-- Trip cause, counted from 0 (R191). -/
def TripCause.code : TripCause → Nat
  | .estop => 0
  | .twist => 1
  | .skew => 2
  | .following => 3
  | .encoderRange => 4
  | .lockFault => 5
  | .lockTimeout => 6
  | .settleTimeout => 7
  | .spanIntrusion => 8

/-- Lock state (R192). -/
def LockState.code : LockState → Nat
  | .driven => 0
  | .withdrawing => 1
  | .withdrawn => 2
  | .driving => 3
  | .unproven => 4
  | .conflict => 5

/-- Aspect (R191). -/
def Aspect.code : Aspect → Nat
  | .pass => 0
  | .standBy => 1
  | .noPassage => 2
  | .redSingle => 3
  | .dark => 4

/-- Single red, counted from 0 (R192). -/
def SingleRed.code : SingleRed → Nat
  | .redUp => 0
  | .redLow => 1

/-- Road light demand (R191). -/
def RoadLight.code : RoadLight → Nat
  | .off => 0
  | .amber => 1
  | .red => 2

/-- Channel demand (R191). -/
def ChannelDemand.code : ChannelDemand → Nat
  | .off => 0
  | .steady => 1
  | .phaseA => 2
  | .phaseB => 3

/-- Function, counted from 0 (R191). -/
def FunctionId.code (f : FunctionId) : Nat := (functionIndex f).val

/-- Commanded position, counted from 0 (R192). -/
def ArmPosition.code : ArmPosition → Nat
  | .up => 0
  | .down => 1

/-- Reported arm state (R192). -/
def ArmReport.code : ArmReport → Nat
  | .up => 0
  | .down => 1
  | .lowering => 2
  | .raising => 3
  | .obstructed => 4
  | .localControl => 5
  | .fault => 6
  | .unknown => 7

/-- A direction octet, `none` for an undefined code. -/
def directionOf (b : Byte) : Option Direction :=
  if b = 0 then some .seaward else if b = 1 then some .landward else none

/-- A class octet, `none` for an undefined code. -/
def classOf (b : Byte) : Option PassageClass :=
  if b = 0 then some .priority else if b = 1 then some .routine else none

/-- An arm octet: 0 to 7 in ring order (R189), `none` for any other. -/
def armOf (b : Byte) : Option ArmId := ringOrder[b.toNat]?

/-- A function code: 0 for none, then 1 to 14 (R191, R196). -/
def functionOfCode (n : Nat) : Option FunctionId := if n = 0 then none else allFunctions[n - 1]?

/-! ## Tags (R7) -/

/-- One octet of a tag: kept, replaced by its upper-case letter, or `none` where it makes the request BAD_FIELD. -/
def tagOctet (b : Byte) : Option Byte :=
  if (0x41 ≤ b.toNat && b.toNat ≤ 0x5A) || (0x30 ≤ b.toNat && b.toNat ≤ 0x39)
      || b = 0x20#8 || b = 0x2D#8 || b = 0x2E#8 then some b
  else if 0x61 ≤ b.toNat && b.toNat ≤ 0x7A then some (b - 0x20#8)
  else none

/-- Every octet of a tag taken by `tagOctet`, `none` where one is refused. -/
def tagOctets : List Byte → Option (List Byte)
  | [] => some []
  | b :: bs =>
    match tagOctet b, tagOctets bs with
    | some c, some cs => some (c :: cs)
    | _, _ => none

/-- A list without its leading spaces. -/
def dropSpaces : List Byte → List Byte
  | [] => []
  | b :: bs => if b = 0x20#8 then dropSpaces bs else b :: bs

/-- A list without its leading and trailing spaces. -/
def trimSpaces (bs : List Byte) : List Byte := (dropSpaces (dropSpaces bs).reverse).reverse

/-- The octets of a tag before the first zero. -/
def tagText : List Byte → List Byte
  | [] => []
  | b :: bs => if b = 0#8 then [] else b :: tagText bs

/-- The normalised tag of the octets of a request, `none` where R7 refuses them with BAD_FIELD. -/
def normaliseTag (bs : List Byte) : Option (List Byte) :=
  match tagOctets (tagText bs) with
  | none => none
  | some cs => if trimSpaces cs = [] then none else some (trimSpaces cs)

/-! ## The passage record on the wire (R191) -/

/-- The 28 octets of a passage record (R191). -/
def passageOctets (p : Passage) : List Byte :=
  [octet p.number, octet (linkCode p.origin), octet p.state.code, octet p.direction.code, octet p.cls.code,
    octet (optionCode linkCode p.withdrawnBy)]
    ++ octets16 p.clearance ++ octets16 p.angle ++ octets16 (p.lifetime.getD 0xFFFF)
    ++ p.tag ++ List.replicate (12 - p.tag.length) 0#8 ++ octets32 p.stamp

/-- The four octets of a record in LIST PASSAGES (R189). -/
def listOctets (p : Passage) : List Byte :=
  [octet p.number, octet p.state.code, octet p.direction.code, octet p.cls.code]

/-! ## Field loop octets (R194) -/

/-- The address octet of a station address and a transfer direction (R194). -/
def addressOctet (address : Nat) (report : Bool) : Byte := octet (address * 2 + if report then 1 else 0)

/-- The command octet (R194). -/
def LoopCommand.octet : LoopCommand → Byte
  | .lower => 0x01
  | .raise => 0x02
  | .halt => 0x03

/-- The state a first report octet names; any other value is taken as FAULT (R137, R194). -/
def reportOf (b : Byte) : ArmReport :=
  if b = 1 then .up
  else if b = 2 then .down
  else if b = 3 then .lowering
  else if b = 4 then .raising
  else if b = 5 then .obstructed
  else if b = 6 then .localControl
  else .fault

/-- The angle of a second report octet; a value above 90 is taken as 90 (R137, R194). -/
def reportAngleOf (b : Byte) : Nat := min b.toNat 90

/-! ## Configuration items (R196) -/

/-- The range of each item, by ranges of item numbers: first item, last item, least and greatest value (R196). -/
def itemRanges : List (Nat × Nat × Int × Int) :=
  [(1, 1, 0, 16777215), (2, 2, -1, 1), (3, 3, 1, 65535), (4, 4, 0, 16777215), (5, 5, -1, 1), (6, 6, 1, 65535),
    (7, 7, 0, 16777215), (8, 8, -1, 1), (9, 9, 1, 65535), (10, 10, 0, 16777215), (11, 11, -1, 1), (12, 12, 1, 65535),
    (13, 16, 1, 400), (17, 17, 1, 144000), (18, 18, 0, 143999), (19, 19, 0, 1023), (20, 20, 0, 4095)] ++
  [(21, 21, 32, 1600), (22, 22, 64, 3200), (23, 23, 32, 1600), (24, 24, 16, 800), (25, 25, 64, 3200),
    (26, 26, 160, 16000), (27, 27, 16, 320), (28, 28, 5, 100), (29, 29, 5, 60), (30, 30, 16, 480), (31, 31, 5, 100),
    (32, 32, 3, 30), (33, 33, 1000, 8000), (34, 34, 0, 500), (35, 51, 0, 10000)] ++
  [(52, 52, 10, 300), (53, 53, 2, 10), (54, 54, 4, 30), (55, 55, 2, 60), (56, 56, 0, 1), (57, 57, 2, 30),
    (58, 58, 0, 5), (59, 59, 5, 60), (60, 63, 1, 50), (64, 71, 0x08, 0x77), (72, 72, 20, 500), (73, 73, 2, 20)] ++
  [(74, 74, 5, 200), (75, 75, 10, 120), (76, 77, 40, 240), (78, 78, 160, 240), (79, 79, 120, 220), (80, 111, 0, 14),
    (112, 143, 1, 2), (144, 157, 0, 1), (158, 161, 0, 1), (162, 162, 2, 60), (163, 163, 0, 1)]

/-- The items that are signs, whose only values are −1 and +1 (R196). -/
def signItems : List Nat := [2, 5, 8, 11]

/-- Whether a value lies inside an item's range (R196, R197). -/
def itemAdmits (n : Nat) (v : Int) : Bool :=
  itemRanges.any (fun r => r.1 ≤ n && n ≤ r.2.1 && r.2.2.1 ≤ v && v ≤ r.2.2.2) && !(signItems.contains n && v == 0)

/-- The value of item `n` of an image, 0 where it is absent. -/
def itemOf (image : Vector (Option Int) 163) (n : Nat) : Int := ((image[n - 1]?).getD none).getD 0

/-- The value of an item that counts or measures. -/
def itemNat (image : Vector (Option Int) 163) (n : Nat) : Nat := (itemOf image n).toNat

/-- Whether a yes-or-no item is 1. -/
def itemFlag (image : Vector (Option Int) 163) (n : Nat) : Bool := itemOf image n == 1

/-- The calibration in three items from `n` on. -/
def calibrationOf (image : Vector (Option Int) 163) (n : Nat) : Calibration :=
  ⟨itemNat image n, itemOf image (n + 1), itemNat image (n + 2)⟩

/-- The clearance table of an image, items 35 to 51. -/
def clearanceTable (image : Vector (Option Int) 163) : Vector Nat 17 :=
  tabMap (fun k => itemNat image (35 + k)) ⟨(List.range 17).toArray, rfl⟩

/-- The configured values of an image (R196). -/
def configuredOf (image : Vector (Option Int) 163) : Configured where
  drives := ⟨calibrationOf image 1, calibrationOf image 4, calibrationOf image 7, calibrationOf image 10⟩
  vmax := itemNat image 13
  vslow := itemNat image 14
  vcreep := itemNat image 15
  accel := itemNat image 16
  dslow := itemNat image 17
  dcreep := itemNat image 18
  kff := itemNat image 19
  kp := itemNat image 20
  twistWarn := itemNat image 21
  twistTrip := itemNat image 22
  skewHold := itemNat image 23
  hysteresis := itemNat image 24
  skewTrip := itemNat image 25
  followingTrip := itemNat image 26
  settleWindow := itemNat image 27
  settleDwell := itemNat image 28
  settleTimeout := itemNat image 29
  seatedWindow := itemNat image 30
  seatDwell := itemNat image 31
  lockTimeout := itemNat image 32
  openLimit := itemNat image 33
  margin := itemNat image 34
  clearances := clearanceTable image
  changeoverDwell := itemNat image 52
  amberTime := itemNat image 53
  redMinimum := itemNat image 54
  clearDwell := itemNat image 55
  confirmationRequired := itemFlag image 56
  retryDwell := itemNat image 57
  retryLimit := itemNat image 58
  travelTimeout := itemNat image 59
  debounce := ⟨#[itemNat image 60, itemNat image 61, itemNat image 62, itemNat image 63], rfl⟩
  scanPeriod := itemNat image 72
  blanking := itemNat image 73
  openThreshold := itemNat image 74
  shortThreshold := itemNat image 75
  partialOne := itemNat image 76
  partialTwo := itemNat image 77
  lowSupplyThreshold := itemNat image 78
  undervoltageThreshold := itemNat image 79
  maskOpen := itemFlag image 158
  maskShort := itemFlag image 159
  maskPartial := itemFlag image 160
  maskLowSupply := itemFlag image 161
  watchdogTime := itemNat image 162
  signalPolicy := if itemFlag image 163 then .hold else .restrict

/-- The station address of each arm, items 64 to 71 (R196). -/
def addressItem (image : Vector (Option Int) 163) (a : ArmId) : Nat := itemNat image (64 + (armIndex a).val)

/-- The octets that the image's check word covers (R198). -/
def imageOctets (image : Vector (Option Int) 163) : List Byte :=
  (image.toList.map (fun v => octetsSigned32 (v.getD 0))).flatten

/-- The check word of an image (R198). -/
def imageCheck (image : Vector (Option Int) 163) : CheckWord := checkWord (imageOctets image)

/-- The lowest absent item (R199). -/
def absentFrom : List (Option Int) → Nat → Option Nat
  | [], _ => none
  | none :: _, n => some n
  | some _ :: vs, n => absentFrom vs (n + 1)

/-- The items that the clearance table's condition names: each Ck+1 below Ck (R199). -/
def fallingPoints (image : Vector (Option Int) 163) : List Nat :=
  ((List.range 16).map (fun k => 36 + k)).filter (fun n => itemOf image n < itemOf image (n - 1))

/-- How often a value stands in a list. -/
def occurrences (v : Int) (l : List Int) : Nat := (l.filter (fun x => x == v)).length

/-- The function items that name a function already named by two earlier channels (R199). -/
def crowdedItems (image : Vector (Option Int) 163) : List Nat :=
  ((List.range 32).map (fun k => 80 + k)).filter (fun n =>
    itemOf image n != 0 &&
      2 ≤ occurrences (itemOf image n) ((List.range (n - 80)).map (fun k => itemOf image (80 + k))))

/-- The policy items of shipping red functions that no channel names (R199). -/
def missingReds (image : Vector (Option Int) 163) : List Nat :=
  [(7, 150), (8, 151), (11, 154), (12, 155)].filterMap (fun p =>
    if occurrences p.1 ((List.range 32).map (fun k => itemOf image (80 + k))) = 0 then some p.2 else none)

/-- The address items that repeat the address of an earlier arm (R199). -/
def repeatedAddresses (image : Vector (Option Int) 163) : List Nat :=
  ((List.range 8).map (fun k => 64 + k)).filter (fun n =>
    1 ≤ occurrences (itemOf image n) ((List.range (n - 64)).map (fun k => itemOf image (64 + k))))

/-- The items that the conditions of R199 name. -/
def inconsistentItems (image : Vector (Option Int) 163) : List Nat :=
  fallingPoints image
    ++ (if itemOf image 14 ≤ itemOf image 13 then [] else [14])
    ++ (if itemOf image 15 ≤ itemOf image 14 then [] else [15])
    ++ (if itemOf image 16 ≤ itemOf image 13 then [] else [16])
    ++ (if itemOf image 18 < itemOf image 17 then [] else [18])
    ++ (if itemOf image 23 - itemOf image 24 ≥ 16 then [] else [24])
    ++ crowdedItems image ++ missingReds image ++ repeatedAddresses image

/-- The least number of a list. -/
def least : List Nat → Option Nat
  | [] => none
  | n :: ns =>
    match least ns with
    | none => some n
    | some m => some (min n m)

/-- The item that the tests of COMMIT CONFIGURATION name, `none` when all three stages pass (R199). -/
def commitFailure (image : Vector (Option Int) 163) (check : CheckWord) : Option Nat :=
  match absentFrom image.toList 1 with
  | some n => some n
  | none => if imageCheck image = check then least (inconsistentItems image) else some 0

end Sys2Proof.Machine
end

