-- ==== Sys2Proof/Machine/Lamps.lean ====
section
/-!
DEFINITION. Chapters 7 and 8: channel demands, the fallback walk of the shipping heads, the road light pattern, and
health handed on to the displays and to the warning proof.
-/

namespace Sys2Proof.Machine

open Sys2Proof

/-! ## Channel demands (R148) -/

/-- A demand handed over for a channel: an unassigned channel's demand stays OFF, an unchanged demand changes nothing,
and a changed one clears the evaluated on-phase and abandons the half's count. OFF switches the output off at once; any
other takes effect at the next period start. OFF also abandons the diagnosis of a pulse in progress (R144, R148). -/
def giveDemand (d : ChannelDemand) (c : Channel) : Channel :=
  if c.function = none || c.demand == d then c
  else
    { c with
      demand := d
      evaluated := false
      inEffect := false
      drivenInHalf := 0
      diagnosedInHalf := 0
      output := if d == .off then false else c.output
      diagnosing := if d == .off then false else c.diagnosing }

/-- The unit with every channel's demand given by its function, where `demandOf` names one (R162, R168). The flash
timer is due to start when the first phased demand is given while no channel holds one (R147). -/
def giveDemands (demandOf : FunctionId → Option ChannelDemand) (u : LampUnit) : LampUnit :=
  let channels := tabMap (fun c =>
    match c.function with
    | none => c
    | some f =>
      match demandOf f with
      | none => c
      | some d => giveDemand d c) u.channels
  let u' := { u with channels := channels }
  { u' with flash := if !anyPhased u && anyPhased u' then .starting else u.flash }

/-! ## Road lights (R162) -/

/-- The channel demand of a road function under a road light demand, `none` for a shipping function (R162). -/
def roadDemandOf (p : RoadLight) : FunctionId → Option ChannelDemand
  | .wAmber | .eAmber => some (if p == .amber then .steady else .off)
  | .wRedA | .eRedA => some (if p == .red then .phaseA else .off)
  | .wRedB | .eRedB => some (if p == .red then .phaseB else .off)
  | .sRedUp | .sRedLow | .sGrnUp | .sGrnLow | .lRedUp | .lRedLow | .lGrnUp | .lGrnLow => none

/-- A road light demand handed over to the aspect display; an unchanged one is not handed over (R126, R162). -/
def handRoadLight (p : RoadLight) (s : State) : State :=
  if s.display.road = p then s
  else (s.withDisplay { s.display with road := p }).withLamp (giveDemands (roadDemandOf p) s.lamp)

/-! ## The fallback walk (R165, R166) -/

/-- The health of the four functions of a head. -/
structure HeadHealth where
  redUp : Bool
  redLow : Bool
  greenUp : Bool
  greenLow : Bool
  deriving DecidableEq, Repr

/-- The health of a head's four functions, as their records hold it. -/
def headHealth (u : LampUnit) : Direction → HeadHealth
  | .seaward => ⟨functionHealthy .sRedUp u, functionHealthy .sRedLow u, functionHealthy .sGrnUp u,
      functionHealthy .sGrnLow u⟩
  | .landward => ⟨functionHealthy .lRedUp u, functionHealthy .lRedLow u, functionHealthy .lGrnUp u,
      functionHealthy .lGrnLow u⟩

/-- The walk from RED_SINGLE on. -/
def walkRedSingle (h : HeadHealth) : Shown :=
  if h.redUp then ⟨.redSingle, some .redUp⟩ else if h.redLow then ⟨.redSingle, some .redLow⟩ else ⟨.dark, none⟩

/-- The walk from NO_PASSAGE on. -/
def walkNoPassage (h : HeadHealth) : Shown := if h.redUp && h.redLow then ⟨.noPassage, none⟩ else walkRedSingle h

/-- The walk from STAND_BY on. -/
def walkStandBy (h : HeadHealth) : Shown := if h.redUp && h.greenUp then ⟨.standBy, none⟩ else walkNoPassage h

/-- The displayed aspect and single red: the walk down the fallback chain from the demanded aspect (R166). -/
def walk (demanded : Aspect) (h : HeadHealth) : Shown :=
  match demanded with
  | .pass => if h.greenUp && h.greenLow then ⟨.pass, none⟩ else walkStandBy h
  | .standBy => walkStandBy h
  | .noPassage => walkNoPassage h
  | .redSingle => walkRedSingle h
  | .dark => ⟨.dark, none⟩

/-- The place of a shipping function in its head. -/
inductive HeadLamp where
  | redUp
  | redLow
  | greenUp
  | greenLow
  deriving DecidableEq, Repr

/-- The head and the place of a shipping function (R164). -/
def headLampOf : FunctionId → Option (Direction × HeadLamp)
  | .sRedUp => some (.seaward, .redUp)
  | .sRedLow => some (.seaward, .redLow)
  | .sGrnUp => some (.seaward, .greenUp)
  | .sGrnLow => some (.seaward, .greenLow)
  | .lRedUp => some (.landward, .redUp)
  | .lRedLow => some (.landward, .redLow)
  | .lGrnUp => some (.landward, .greenUp)
  | .lGrnLow => some (.landward, .greenLow)
  | .wAmber | .wRedA | .wRedB | .eAmber | .eRedA | .eRedB => none

/-- Whether an aspect, with its single red, lights the lamp (R165). -/
def lights (x : Shown) (l : HeadLamp) : Bool :=
  match x.aspect, l with
  | .pass, .greenUp | .pass, .greenLow => true
  | .standBy, .redUp | .standBy, .greenUp => true
  | .noPassage, .redUp | .noPassage, .redLow => true
  | .redSingle, .redUp => x.singleRed == some .redUp
  | .redSingle, .redLow => x.singleRed == some .redLow
  | _, _ => false

/-- The channel demand of a function of the head that shows `x`, `none` for any other function (R168). -/
def headDemandOf (d : Direction) (x : Shown) (f : FunctionId) : Option ChannelDemand :=
  match headLampOf f with
  | some (h, l) => if h = d then some (if lights x l then .steady else .off) else none
  | none => none

/-- A fresh walk of a head from its demanded aspect: the head record, its channels, the sequencer's copy and the dark
condition follow (R166 to R171). -/
def walkHead (d : Direction) (s : State) : State :=
  let old := s.display.heads.get d
  let x := walk old.demanded (headHealth s.lamp d)
  let dark := x.aspect == .dark && old.demanded != .dark
  let head : Head :=
    { demanded := old.demanded, displayed := x.aspect, singleRed := x.singleRed, darkCondition := dark }
  let s := s.withDisplay { s.display with heads := s.display.heads.set d head }
  let s := if old.displayed = x.aspect ∧ old.singleRed = x.singleRed then s
    else (s.withLamp (giveDemands (headDemandOf d x) s.lamp)).withSeq { s.seq with shown := s.seq.shown.set d x }
  if old.darkCondition = dark then s else handDark d dark s

/-- A new demanded aspect handed over for a head (R167). -/
def handAspect (d : Direction) (a : Aspect) (s : State) : State :=
  walkHead d (s.withDisplay
    { s.display with heads := s.display.heads.set d { s.display.heads.get d with demanded := a } })

/-! ## Health handed on (R154) -/

/-- A road red function that has become unhealthy clears its red-seen flag (R114, R154). -/
def clearRedSeen (f : FunctionId) (r : RedSeen) : RedSeen :=
  match f with
  | .wRedA => { r with wRedA := false }
  | .wRedB => { r with wRedB := false }
  | .eRedA => { r with eRedA := false }
  | .eRedB => { r with eRedB := false }
  | .wAmber | .eAmber | .sRedUp | .sRedLow | .sGrnUp | .sGrnLow | .lRedUp | .lRedLow | .lGrnUp | .lGrnLow => r

/-- The function records with every function's health derived again (R154). -/
def derivedFunctions (u : LampUnit) : Vector FunctionRecord 14 :=
  allFunctions.foldl
    (fun v f => tabModify (functionIndex f) (fun r => { r with healthy := functionHealthFrom f u }) v) u.functions

/-- The functions whose health differs between two units. -/
def changedFunctions (old new : LampUnit) : List FunctionId :=
  allFunctions.filter (fun f => functionHealthy f old != functionHealthy f new)

/-- Every function's health derived again, and each change handed to the displays and to the warning proof (R154,
R167): one walk for each head with a change. -/
def rederiveHealth (s : State) : State :=
  let u := { s.lamp with functions := derivedFunctions s.lamp }
  let changed := changedFunctions s.lamp u
  let s := s.withLamp u
  let s := if s.closure.state = .prewarnRed then
      s.withClosure { s.closure with
        redSeen := (changed.filter (fun f => !functionHealthy f u)).foldl (fun r f => clearRedSeen f r)
          s.closure.redSeen }
    else s
  let s := if changed.any (fun f => headOfFunction f == some .seaward) then walkHead .seaward s else s
  if changed.any (fun f => headOfFunction f == some .landward) then walkHead .landward s else s

/-- The unit after REVERT TO SETUP: every output off, no flag set and every function unhealthy, with the assignment,
partial selects and policies kept (R161). -/
def LampUnit.reverted (u : LampUnit) : LampUnit :=
  { LampUnit.reset with
    channels := tabMap (fun c => .cleared c.function c.partialSelectTwo) u.channels
    functions := tabMap (fun r => { r with healthy := false }) u.functions }

/-! ## What a channel's records say in a window (R151, R157) -/

/-- The selected partial threshold of a channel (R151). -/
def partialThreshold (c : Configured) (ch : Channel) : Nat := if ch.partialSelectTwo then c.partialTwo else c.partialOne

/-- Whether a fault condition holds for the sensed current, voltage and supply (R151). -/
def faultCondition (c : Configured) (ch : Channel) (kind : LampFault) (current voltage supply : Nat) : Bool :=
  match kind with
  | .openString => current < c.openThreshold && c.lowSupplyThreshold ≤ supply
  | .shortString => voltage < c.shortThreshold
  | .partialString =>
    c.shortThreshold ≤ voltage && voltage < partialThreshold c ch && c.lowSupplyThreshold ≤ supply

/-- Whether the flag is set. -/
def hasFault (ch : Channel) : LampFault → Bool
  | .openString => ch.openFlag
  | .shortString => ch.shortFlag
  | .partialString => ch.partialFlag

/-- The channel with the flag set; OPEN and SHORT clear the evaluated on-phase (R155). -/
def setFault (ch : Channel) : LampFault → Channel
  | .openString => { ch with openFlag := true, evaluated := false }
  | .shortString => { ch with shortFlag := true, evaluated := false }
  | .partialString => { ch with partialFlag := true }

/-- Whether the kind is masked (R157). -/
def faultMasked (c : Configured) : LampFault → Bool
  | .openString => c.maskOpen
  | .shortString => c.maskShort
  | .partialString => c.maskPartial

/-- What follows a new latch: a FAULT pulse and the control link's attention, unless it is masked (R157). -/
def signalLatch (masked : Bool) (s : State) : State :=
  if masked then s else raiseAttention .control .lampLatch (pulseFault s)

/-- One channel record changed by `f`. -/
def updateChannel (i : ChannelId) (f : Channel → Channel) (s : State) : State :=
  s.withLamp { s.lamp with channels := tabModify i f s.lamp.channels }

/-- The lamp supply as a command carries it. -/
def noteSupply (supply : Nat) (s : State) : State := s.withPins { s.pins with supply := supply }

/-- Whether the supply monitor and the pulse clock run (R152, R161). -/
def lampsRun (s : State) : Bool := s.lamp.pulseClock.isSome

/-! ## The pulse clock and the flash timer (R146, R147, R155) -/

/-- The flash timer at a period start; a half that has held its periods has ended before it (R147, log entry 37). -/
def flashAtPeriod (u : LampUnit) : Flash :=
  if !anyPhased u then .stopped
  else match u.flash with
    | .stopped | .starting => .running false 1
    | .running second periods => .running second (periods + 1)

/-- The phase of the current half, `none` while the flash timer is stopped. -/
def currentPhase : Flash → Option ChannelDemand
  | .running second _ => some (phaseOfHalf second)
  | .stopped | .starting => none

/-- Whether a channel is driven in a period under the phase of the current half (R146). -/
def drivenIn (phase : Option ChannelDemand) (c : Channel) : Bool :=
  c.function.isSome && !c.shortFlag && (c.demand == .steady || (c.demand.phased && phase == some c.demand))

/-- The dim level of a channel's group (R146). -/
def dimOf (u : LampUnit) (c : Channel) : Nat :=
  match c.function with
  | some f => if isRoadFunction f then u.dimRoad else u.dimShipping
  | none => u.dimShipping

/-- A channel at a period start: its demand is in effect, its on-time is that of its group, and its output is on, and
its pulse diagnosed, when it is driven (R146, R148 to R150). -/
def channelAtPeriod (c : Configured) (u : LampUnit) (phase : Option ChannelDemand) (ch : Channel) : Channel :=
  { ch with
    inEffect := true
    onTime := if ch.function.isSome then onTimeInUse (dimOf u ch) c.blanking else ch.onTime
    output := drivenIn phase ch
    diagnosing := drivenIn phase ch
    drivenInHalf := if drivenIn phase ch && ch.demand.phased then ch.drivenInHalf + 1 else ch.drivenInHalf }

/-- The lamp unit at a period start, at which the note of the undervoltage condition begins anew (R146, R147, R150). -/
def lampsAtPeriod (c : Configured) (u : LampUnit) : LampUnit :=
  let flash := flashAtPeriod u
  { u with
    flash := flash
    pulseClock := some Config.pulsePeriodMs
    undervoltageSeen := u.undervoltage
    channels := tabMap (channelAtPeriod c u (currentPhase flash)) u.channels }

/-- Whether the undervoltage condition has stayed clear for the whole of a channel's window that ends now: it is clear,
and either it has not been set in this period or it has been clear for at least the window's length, from the blanking
time to the end of the on-time (R146, R150). -/
def voltageStayedClear (c : Configured) (u : LampUnit) (ch : Channel) (clearFor : Nat) : Bool :=
  !u.undervoltage && (!u.undervoltageSeen || decide (ch.onTime - c.blanking * 100 ≤ clearFor))

/-- A channel at the end of its evaluation window: a fully diagnosed pulse counts toward a phased on-phase, and decides
a STEADY channel's flag; the pulse is over (R155). That a flag cleared by an OPEN or SHORT latch, or by a pulse not fully
diagnosed, is set again only with both fault flags clear, and after CLEAR LAMP FAULTS at the next fully diagnosed window, is
the model's choice (log entry 43). -/
def channelAtWindowEnd (full : Bool) (ch : Channel) : Channel :=
  { ch with
    output := false
    diagnosedInHalf :=
      if ch.inEffect && ch.demand.phased && full then ch.diagnosedInHalf + 1 else ch.diagnosedInHalf
    evaluated :=
      if ch.inEffect && ch.demand == .steady then full && !ch.openFlag && !ch.shortFlag else ch.evaluated }

/-- Whether a channel's on-phase in the half just ended is evaluable (R155). -/
def onPhaseEvaluable (ch : Channel) : Bool :=
  ch.drivenInHalf == Config.periodsPerHalf && ch.diagnosedInHalf == Config.periodsPerHalf
    && !ch.openFlag && !ch.shortFlag

/-- A channel at the end of a half: a channel of that half's phase takes the result, and every channel's counts start
again (R155). -/
def channelAtHalfEnd (phase : ChannelDemand) (ch : Channel) : Channel :=
  { ch with
    evaluated := if ch.demand == phase then onPhaseEvaluable ch else ch.evaluated
    drivenInHalf := 0
    diagnosedInHalf := 0 }

/-- Whether a function has completed an evaluable on-phase in the half whose phase is given, from the channels as they
stand at its end (R156). -/
def functionProven (phase : ChannelDemand) (u : LampUnit) (f : FunctionId) : Bool :=
  let cs := channelsOf f u
  let done := fun c : Channel => c.demand == phase && onPhaseEvaluable c
  functionHealthy f u && !cs.isEmpty
    && (if u.functions[functionIndex f].policyAny then cs.any (fun c => channelHealthy u.undervoltage c && done c)
      else cs.all done)

/-- Sets the red-seen flag of a function that has completed an evaluable on-phase (R114, R156). -/
def setRedSeen (f : FunctionId) (r : RedSeen) : RedSeen :=
  match f with
  | .wRedA => { r with wRedA := true }
  | .wRedB => { r with wRedB := true }
  | .eRedA => { r with eRedA := true }
  | .eRedB => { r with eRedB := true }
  | .wAmber | .eAmber | .sRedUp | .sRedLow | .sGrnUp | .sGrnLow | .lRedUp | .lRedLow | .lGrnUp | .lGrnLow => r

/-! ## Commit (R161) -/

/-- A channel record as an accepted commit builds it: items 80 to 111 and 112 to 143 (R161, R196). -/
def committedChannel (image : Vector (Option Int) 163) (k : Nat) : Channel :=
  .cleared (functionOfCode (itemNat image (80 + k))) (itemNat image (112 + k) == 2)

/-- The lamp unit as an accepted commit builds it: assignments, partial selects and policies from the image, the
undervoltage condition from the first comparison, the pulse clock started, health derived (R161, R200). -/
def committedLamps (image : Vector (Option Int) 163) (undervoltage : Bool) (u : LampUnit) : LampUnit :=
  let u : LampUnit :=
    { u with
      channels := tabMap (committedChannel image) ⟨(List.range 32).toArray, rfl⟩
      functions := tabMap (fun k => ⟨itemFlag image (144 + k), false⟩) ⟨(List.range 14).toArray, rfl⟩
      undervoltage := undervoltage
      undervoltageSeen := undervoltage
      lowSupply := false
      flash := .stopped
      pulseClock := some Config.pulsePeriodMs }
  { u with functions := derivedFunctions u }

end Sys2Proof.Machine
end

