-- ==== Sys2Proof/Machine/Passages.lean ====
section
/-!
DEFINITION. The Passage Register and the opening's view of it: finding and changing records, queue order, numbers and
stamps, the steps of the Opening Sequencer (R24), the target (R30), the changeover (R47 to R50) and the shipping
demands (R58, R59).
-/

namespace Sys2Proof.Machine

open Sys2Proof

/-! ## Records and queue order -/

/-- The held record with a number. -/
def findPassage (n : Nat) (r : Register) : Option Passage := r.records.find? (fun p => p.number == n)

/-- The records with `f` applied to the one with a number. -/
def changePassage (n : Nat) (f : Passage → Passage) (r : Register) : Register :=
  { r with records := r.records.map (fun p => if p.number = n then f p else p) }

/-- Whether one record stands before another in queue order (R6). -/
def queueBefore (a b : Passage) : Bool :=
  match a.cls, b.cls with
  | .priority, .routine => true
  | .routine, .priority => false
  | .priority, .priority | .routine, .routine => a.stamp ≤ b.stamp

/-- A record put at its place in a list in queue order. -/
def queueInsert (p : Passage) : List Passage → List Passage
  | [] => [p]
  | q :: qs => if queueBefore p q then p :: q :: qs else q :: queueInsert p qs

/-- The records in queue order (R6). -/
def queueOrder : List Passage → List Passage
  | [] => []
  | p :: ps => queueInsert p (queueOrder ps)

/-- The number after this one, with 255 followed by 1 (R4). -/
def numberAfter (n : Nat) : Nat := if n ≥ 255 then 1 else n + 1

/-- The first number from `n` on that no record carries, looking at so many numbers (R4). -/
def freeNumberFrom (records : List Passage) (n : Nat) : Nat → Nat
  | 0 => n
  | k + 1 => if records.any (fun p => p.number == n) then freeNumberFrom records (numberAfter n) k else n

/-- The number that R4 gives the next record. -/
def allocatedNumber (r : Register) : Nat := freeNumberFrom r.records r.nextNumber 255

/-- Records with the stamps 0, 1, 2 and so on, in the order given. -/
def stampFrom : Nat → List Passage → List Passage
  | _, [] => []
  | k, p :: ps => { p with stamp := k } :: stampFrom (k + 1) ps

/-- The greatest stamp (R5). -/
def lastStamp : Nat := 4294967295

/-- The register with a new record, which carries the number of R4 and the stamp of R5: both counters move on, and the
record that takes the last stamp has every stamp renumbered in queue order (R4, R5). -/
def enterRecord (p : Passage) (r : Register) : Register :=
  let records := r.records ++ [p]
  let r := { r with nextNumber := numberAfter p.number }
  if p.stamp = lastStamp then
    { r with records := stampFrom 0 (queueOrder records), nextStamp := records.length }
  else { r with records := records, nextStamp := p.stamp + 1 }

/-- A change to a record raises its origin link's line, unless a request from that link made it (R25). -/
def notifyOrigin (requester : Option Link) (p : Passage) (s : State) : State :=
  if requester = some p.origin then s else raiseAttention p.origin .passageRecord s

/-- A record in a state changed to another, its origin told (R24, R25). -/
def moveRecord (requester : Option Link) (p : Passage) (st : PassageState) (s : State) : State :=
  notifyOrigin requester p (s.withReg (changePassage p.number (fun q => { q with state := st }) s.reg))

/-! ## The opening record -/

/-- The opening record replaced. -/
def setOpening (o : Option Opening) (s : State) : State := s.withSeq { s.seq with opening := o }

/-- The opening record changed by `f`, where there is an opening. -/
def updateOpening (f : Opening → Opening) (s : State) : State := setOpening (s.seq.opening.map f) s

/-- The state of the opening, `none` for NONE. -/
def openingState (s : State) : Option OpeningState := s.seq.opening.map (·.state)

/-- Whether the opening carries the recovery flag. -/
def inRecovery (s : State) : Bool :=
  match s.seq.opening with
  | some o => o.recovery
  | none => false

/-- The opening's state changed without attention: the change of one of the six opening requests (R32). -/
def enterOpeningQuietly (st : OpeningState) (s : State) : State := updateOpening (fun o => { o with state := st }) s

/-- The opening's state changed, which raises the control line (R32). -/
def enterOpening (st : OpeningState) (s : State) : State :=
  raiseAttention .control .opening (enterOpeningQuietly st s)

/-- The records that the admitted list names, in list order. -/
def listedRecords (s : State) : List Passage :=
  match s.seq.opening with
  | some o => o.list.filterMap (fun n => findPassage n s.reg)
  | none => []

/-- Whether a record is ADMITTED. -/
def isAdmitted (p : Passage) : Bool := p.state == .admitted

/-- Whether a record is CLEARED. -/
def isCleared (p : Passage) : Bool := p.state == .cleared

/-- Whether a record is ADMITTED or CLEARED. -/
def isActive (p : Passage) : Bool := isAdmitted p || isCleared p

/-- The ADMITTED records of the list, in list order. -/
def admittedRecords (s : State) : List Passage := (listedRecords s).filter isAdmitted

/-- The largest of a list, 0 for none. -/
def largest (l : List Nat) : Nat := l.foldl max 0

/-- The target formed from the ADMITTED and CLEARED records of the list; 0 where it counts none (R30, log entry 26). -/
def formedTarget (s : State) : Nat :=
  match (listedRecords s).filter isActive with
  | [] => 0
  | ps => withMargin s.conf (largest (ps.map (·.angle)))

/-- The target formed again in CLOSING_ROAD; in the recovery opening it is 0 in every state (R30). -/
def formTarget (s : State) : State :=
  updateOpening (fun o => { o with target := if o.recovery then 0 else formedTarget s }) s

/-- An admit step: the record becomes ADMITTED and its number joins the list at its end (R24). -/
def admitStep (requester : Option Link) (p : Passage) (s : State) : State :=
  updateOpening (fun o => { o with list := o.list ++ [p.number] }) (moveRecord requester p .admitted s)

/-- A return step: the record becomes WAITING and its number leaves the list (R24). -/
def returnStep (requester : Option Link) (p : Passage) (s : State) : State :=
  updateOpening (fun o => { o with list := o.list.filter (fun n => n != p.number) }) (moveRecord requester p .waiting s)

/-- A return step for each ADMITTED record of the list, in list order (R38, R39). -/
def returnAll (requester : Option Link) (s : State) : State :=
  (admittedRecords s).foldl (fun t p => returnStep requester p t) s

/-- The first `n` WAITING records in queue order admitted (R34). -/
def admitFirst (requester : Option Link) (n : Nat) (s : State) : State :=
  (((queueOrder s.reg.records).filter (fun p => p.state == .waiting)).take n).foldl (fun t p => admitStep requester p t) s

/-! ## The changeover dwell (R47 to R50) -/

/-- Whether the list holds an ADMITTED or CLEARED record of a direction. -/
def activeIn (d : Direction) (s : State) : Bool := (listedRecords s).any (fun p => isActive p && p.direction == d)

/-- Whether the list holds an ADMITTED record of a direction. -/
def admittedIn (d : Direction) (s : State) : Bool :=
  (listedRecords s).any (fun p => isAdmitted p && p.direction == d)

/-- The changeover dwell weighed, in OPEN, after the list or a record in it has changed: started (R47) or cancelled
(R48), and the control line raised when nothing is left to clear (R50). -/
def weighChangeover (s : State) : State :=
  match s.seq.opening with
  | none => s
  | some o =>
    match o.state, o.served with
    | .open, some d =>
      let other := otherDirection d
      let s := match o.changeover with
        | some _ =>
          if activeIn d s || !admittedIn other s then setOpening (some { o with changeover := none }) s else s
        | none =>
          if !activeIn d s && admittedIn other s then
            setOpening (some { o with changeover := some (s.conf.changeoverDwell * 1000) }) s
          else s
      raiseControlIf (!activeIn d s && !activeIn other s) .opening s
    | _, _ => s

/-! ## Shipping demands (R58, R59) -/

/-- Whether the group lets PASS be demanded and records be cleared: HELD_OPEN, or RAISING with extending set (R46,
R58). -/
def groupAdmitsPassage (o : Opening) (s : State) : Bool :=
  s.leaf.group.state == .heldOpen || (s.leaf.group.state == .raising && o.extending)

/-- Whether the PASS row of R58 applies to a head's direction. -/
def passRow (d : Direction) (o : Opening) (s : State) : Bool :=
  let cleared := (listedRecords s).filter (fun p => isCleared p && p.direction == d)
  o.state == .open && o.changeover.isNone && o.served == some d && !cleared.isEmpty && groupAdmitsPassage o s
    && cleared.all (fun p => p.clearance ≤ s.seq.clearance)

/-- Whether the STAND_BY row of R58 applies to a head's direction. -/
def standByRow (d : Direction) (o : Opening) (s : State) : Bool :=
  (o.state == .closingRoad || o.state == .lifting || o.state == .open) && activeIn d s

/-- The demand for a head: the first row of R58 that applies. -/
def demandFor (d : Direction) (s : State) : Aspect :=
  if s.sup.mode = .setup then .dark
  else if s.sup.mode = .unattended ∧ s.conf.signalPolicy = .restrict then .noPassage
  else match s.seq.opening with
    | some o => if passRow d o s then .pass else if standByRow d o s then .standBy else .noPassage
    | none => .noPassage

/-- One head's demand derived again, and handed over when it has changed (R59). -/
def deriveDemand (d : Direction) (s : State) : State :=
  let a := demandFor d s
  if s.seq.demand.get d = a then s
  else handAspect d a (s.withSeq { s.seq with demand := s.seq.demand.set d a })

/-- Both demands derived again (R59). -/
def deriveDemands (s : State) : State := deriveDemand .landward (deriveDemand .seaward s)

/-- A clearance update reaches the sequencer: it clears the records it covers in the served direction (R46), and the
demands are derived again. -/
def clearanceUpdate (clearance : Nat) (s : State) : State :=
  let s := s.withSeq { s.seq with clearance := clearance }
  let s := match s.seq.opening with
    | none => s
    | some o =>
      if o.state == .open && o.changeover.isNone && s.sup.mode == .attended && groupAdmitsPassage o s then
        ((admittedRecords s).filter (fun p => o.served == some p.direction && p.clearance ≤ clearance)).foldl
          (fun t p => moveRecord none p .cleared t) s
      else s
  deriveDemands s

end Sys2Proof.Machine
end

