-- ==== Sys2Proof/Machine/Road.lean ====
section
/-!
DEFINITION. Chapter 5, first part: changing the closure state, holds, commanding arms, latches, the standing conditions
of R111, and the reopening of the road with the ROAD_OPEN report that ends an opening.
-/

namespace Sys2Proof.Machine

open Sys2Proof

/-! ## The closure state (R106, R126, R127, R181) -/

/-- The closure in another state: the road light demand follows, the hold is handed to the Link Supervisor, and the
control line is raised unless the change is `quiet`, made by taking a control-link request whose reply reports it. -/
def setClosureState (quiet : Bool) (st : ClosureState) (s : State) : State :=
  let old := s.closure.state
  let s := handRoadLight (roadLightOf st) (s.withClosure { s.closure with state := st })
  let s := raiseControlIf (!quiet && old != st) .closure s
  if (old == .closureHeld) = (st == .closureHeld) then s else handClosureHeld (st == .closureHeld) s

/-- CLOSURE_HELD with a cause and a held-in state: the phase timer, the clear dwell and every arm's travel timer and
retry dwell stop (R123). -/
def holdWith (cause : HeldCause) (heldIn : ClosureState) (s : State) : State :=
  let s := s.withClosure { s.closure with
    heldCause := some cause, heldIn := some heldIn, phaseTimer := none, clearDwell := .stopped }
  setClosureState false .closureHeld
    (s.withArms (tabMap (fun a => { a with travelTimer := none, retryDwell := none }) s.arms))

/-- A hold of a closing state or of ROAD_REOPENING; in any other state the cause holds nothing (R109 to R111, R123). -/
def holdClosure (cause : HeldCause) (s : State) : State :=
  if s.closure.state.holdable then holdWith cause s.closure.state s else s

/-- Degraded set, which raises the control line when it was clear (R120). -/
def setDegraded (s : State) : State :=
  if s.closure.degraded then s
  else raiseAttention .control .closure (s.withClosure { s.closure with degraded := true })

/-- What an arm fault does to the closure: a hold in the closing states and ROAD_REOPENING, degraded in ROAD_CLOSED
(R109, R111, R120). -/
def armFault (cause : HeldCause) (s : State) : State :=
  if s.closure.state = .roadClosed then setDegraded s else holdClosure cause s

/-! ## Arms (R108 to R111) -/

/-- The four latched faults of an arm (R108). -/
inductive ArmLatch where
  | travelTimeout
  | obstructionLimit
  | lost
  | localControl
  deriving DecidableEq, Repr

/-- Whether the latch is set. -/
def ArmLatches.get (l : ArmLatches) : ArmLatch → Bool
  | .travelTimeout => l.travelTimeout
  | .obstructionLimit => l.obstructionLimit
  | .lost => l.lost
  | .localControl => l.localControl

/-- The latches with one set. -/
def ArmLatches.add (l : ArmLatches) : ArmLatch → ArmLatches
  | .travelTimeout => { l with travelTimeout := true }
  | .obstructionLimit => { l with obstructionLimit := true }
  | .lost => { l with lost := true }
  | .localControl => { l with localControl := true }

/-- An arm latch set; a new latch raises the control line, and one already set is not set anew (R111, R127). -/
def latchArm (k : ArmLatch) (a : ArmId) (s : State) : State :=
  if (s.arm a).latches.get k then s
  else raiseAttention .control .armLatch (updateArm a (fun r => { r with latches := r.latches.add k }) s)

/-- Whether an arm may be commanded UP now: only while the leaf group is STOWED or INACTIVE (R119). -/
def raiseAllowed (s : State) : Bool := s.leaf.group.state == .stowed || s.leaf.group.state == .inactive

/-- An arm commanded: the commanded position, acknowledged no, the travel timer from zero, and the slot write (R109,
R119). -/
def commandArm (p : ArmPosition) (a : ArmId) (s : State) : State :=
  if p == .up && !raiseAllowed s then s
  else writeSlot a (commandFor p) (updateArm a
    (fun r => { r with commanded := some p, acknowledged := false, reportedSince := false, travelTimer := some 0 }) s)

/-- Every in-service arm of a list commanded. -/
def commandEach (p : ArmPosition) (arms : List ArmId) (s : State) : State :=
  arms.foldl (fun t a => if (t.arm a).inService then commandArm p a t else t) s

/-- Whether every in-service arm of a list is in position with the position commanded. -/
def armsAt (p : ArmPosition) (arms : List ArmId) (s : State) : Bool :=
  arms.all (fun a => !(s.arm a).inService || armIsAt p (s.arm a))

/-- Whether each approach has an in-service entry arm (R115, R117). -/
def hasEntryArms (s : State) : Bool :=
  ((s.arm .wEntry1).inService || (s.arm .wEntry2).inService)
    && ((s.arm .eEntry1).inService || (s.arm .eEntry2).inService)

/-- Whether each approach has an in-service exit arm (R119). -/
def hasExitArms (s : State) : Bool :=
  ((s.arm .wExit1).inService || (s.arm .wExit2).inService)
    && ((s.arm .eExit1).inService || (s.arm .eExit2).inService)

/-- The in-service arms whose presence is LOST. -/
def lostArms (s : State) : List ArmId := ringOrder.filter (fun a => (s.arm a).inService && (s.arm a).lost)

/-- The in-service arms whose reported state is LOCAL. -/
def localArms (s : State) : List ArmId :=
  ringOrder.filter (fun a => (s.arm a).inService && (s.arm a).reported == .localControl)

/-- The standing conditions of R111 checked as a state is entered: each arm found LOST or LOCAL latches, and the
closure is held at once with the matching cause. Where both stand, the cause is a free choice (log entry 2). -/
def standingCheck (s : State) : State :=
  let lost := lostArms s
  let locals := localArms s
  let t := locals.foldl (fun t a => latchArm .localControl a t) (lost.foldl (fun t a => latchArm .lost a t) s)
  match lost.isEmpty, locals.isEmpty with
  | true, true => t
  | false, true => holdClosure .armLost t
  | true, false => holdClosure .armLocal t
  | false, false => holdClosure (if s.choice 2 = 0 then .armLost else .armLocal) (countChoice t)

/-! ## Reopening (R52, R121) -/

/-- The Opening Sequencer takes ROAD_OPEN: an opening in REOPENING_ROAD ends, any other passes the report by (R52). -/
def roadOpenReport (s : State) : State :=
  if openingState s = some .reopeningRoad then
    deriveDemands (raiseAttention .control .opening (setOpening none s))
  else s

/-- Entry to ROAD_OPEN (R121). -/
def enterRoadOpen (quiet : Bool) (s : State) : State :=
  roadOpenReport (setClosureState quiet .roadOpen
    (s.withClosure { s.closure with degraded := false, override := false, redSeen := .none, confirmation := false }))

/-- ROAD_REOPENING completed when every in-service arm is in position UP (R121). -/
def finishReopening (quiet : Bool) (s : State) : State :=
  if s.closure.state = .roadReopening ∧ armsAt .up ringOrder s = true then enterRoadOpen quiet s else s

/-- A reopening starts (R121, R122). -/
def startReopen (quiet : Bool) (s : State) : State :=
  let s := s.withClosure { s.closure with
    phaseTimer := none, clearDwell := .stopped, heldCause := none, heldIn := none }
  let s := s.withArms (tabMap (fun a => { a with retryDwell := none }) s.arms)
  let s := setClosureState quiet .roadReopening s
  finishReopening quiet (standingCheck (commandEach .up ringOrder s))

/-- A reopen request of the sequencer: started in ATTENDED, kept pending in UNATTENDED, passed by where R121 says. -/
def reopenRequest (quiet : Bool) (s : State) : State :=
  if (s.closure.state.closing || s.closure.state == .closureHeld || s.closure.state == .roadClosed)
      && s.leaf.group.state == .stowed then
    if s.sup.mode = .unattended then s.withClosure { s.closure with reopenPending := true }
    else startReopen quiet s
  else s

/-- RESUME at the closure unit: a pending reopen is cleared and started (R121). -/
def resumeReopen (s : State) : State :=
  if s.closure.reopenPending then
    let s := s.withClosure { s.closure with reopenPending := false }
    if s.leaf.group.state = .stowed then startReopen false s else s
  else s

end Sys2Proof.Machine
end

