-- ==== Sys2Proof/Machine/Cycle.lean ====
section
/-!
DEFINITION. Chapter 2 where it meets the leaves: the reports of the leaf group, the start of the lift, target raises,
the shortening of the admitted list, and the events that reach the Leaf Motion Controller.
-/

namespace Sys2Proof.Machine

open Sys2Proof

/-! ## Reports of the leaf group (R44, R45, R51, R103) -/

/-- The served direction at entry to OPEN: that of the first ADMITTED record in list order, SEAWARD for none (R44). -/
def firstServed (s : State) : Direction :=
  match admittedRecords s with
  | p :: _ => p.direction
  | [] => .seaward

/-- The sequencer takes a HELD_OPEN report (R44, R45). -/
def heldOpenReport (s : State) : State :=
  match openingState s with
  | some .lifting =>
    let d := firstServed s
    weighChangeover (enterOpening .open
      (updateOpening (fun o => { o with served := some d, changeover := none, extending := false }) s))
  | some .open => updateOpening (fun o => { o with extending := false }) s
  | _ => s

/-- The sequencer takes a STOWED report: in LOWERING, unless UNATTENDED, it asks for the reopening (R51). -/
def stowedReport (s : State) : State :=
  if openingState s = some .lowering ∧ s.sup.mode ≠ .unattended then
    reopenRequest false (enterOpening .reopeningRoad s)
  else s

/-- The sequencer takes a TRIPPED or HALTED report: in OPEN it clears extending (R45). -/
def stoppedReport (s : State) : State :=
  if openingState s = some .open then updateOpening (fun o => { o with extending := false }) s else s

/-- The report of a change of group state: the control line, the sequencer's part, and the demands (R59, R103). -/
def groupReport (s : State) : State :=
  let s := raiseAttention .control .leafGroup s
  deriveDemands (match s.leaf.group.state with
    | .heldOpen => heldOpenReport s
    | .stowed => stowedReport s
    | .tripped | .halted => stoppedReport s
    | .inactive | .unlocking | .raising | .settling | .lowering | .seating | .locking | .stopping => s)

/-- What follows a change of the leaf records: where the group state differs from the one before, the Link Supervisor
learns whether the group is TRIPPED (R181) and the change is reported (R103). -/
def afterLeaf (old : GroupState) (s : State) : State :=
  if s.leaf.group.state = old then s else groupReport (handGroupTripped (s.leaf.group.state == .tripped) s)

/-- A change of the leaf records as one event, with its report. -/
def applyLeaf (f : LeafMotion → LeafMotion) (s : State) : State :=
  afterLeaf s.leaf.group.state (s.withLeaf (f s.leaf))

/-! ## The lift (R41, R42) -/

/-- Whether the closure state is ROAD_CLOSED. -/
def roadIsClosed (s : State) : Bool := s.closure.state == .roadClosed

/-- The target of the opening, 0 for NONE. -/
def openingTarget (s : State) : Nat :=
  match s.seq.opening with
  | some o => o.target
  | none => 0

/-- The sequencer asks Leaf Motion to raise on its own: LIFTING when it is taken, the control line when it is refused
(R41, R42). -/
def startLift (s : State) : State :=
  if raiseRefused (roadIsClosed s) s.leaf then raiseAttention .control .opening s
  else applyLeaf (LeafMotion.raise (openingTarget s)) (enterOpening .lifting s)

/-- The sequencer takes ROAD_CLOSED (R41, R56). -/
def roadClosedReport (s : State) : State :=
  if openingState s = some .closingRoad then
    if inRecovery s then deriveDemands (enterOpening .recoveryWait s)
    else if s.sup.mode = .unattended then s
    else startLift s
  else s

/-! ## Target raises (R31) -/

/-- Whether a target raise is refused (R31). -/
def targetRaiseRefused (s : State) : Bool :=
  s.closure.degraded || s.sup.mode == .unattended
    || (openingState s == some .open && s.leaf.group.state == .heldOpen && raiseRefused (roadIsClosed s) s.leaf)

/-- A target raise that is taken (R31). -/
def takeTargetRaise (target : Nat) (s : State) : State :=
  if openingState s = some .open ∧ s.leaf.group.state = .heldOpen then
    applyLeaf (LeafMotion.raise target) (updateOpening (fun o => { o with target := target, extending := true }) s)
  else
    applyLeaf (LeafMotion.handOver (roadIsClosed s) target) (updateOpening (fun o => { o with target := target }) s)

/-- Whether a required angle calls for a target raise in the present opening state (R30, R35, R36). -/
def callsForRaise (angle : Nat) (s : State) : Bool :=
  (openingState s == some .lifting || openingState s == some .open) && openingTarget s < withMargin s.conf angle

/-! ## The admitted list shortened (R43) -/

/-- What the sequencer does after a withdrawal or a release has taken a number from the list (R43). -/
def listShortened (s : State) : State :=
  match s.seq.opening with
  | none => s
  | some o =>
    deriveDemands (match o.state with
      | .closingRoad =>
        if o.list.isEmpty then
          reopenRequest false (enterOpening .reopeningRoad (setOpening (some { o with target := 0 }) s))
        else formTarget s
      | .open => weighChangeover s
      | .lifting | .lowering | .reopeningRoad | .recoveryWait => s)

/-- A number leaves the list by withdrawal or release, where it stands there (R20, R21, R43). -/
def leaveList (n : Nat) (s : State) : State :=
  match s.seq.opening with
  | none => s
  | some o =>
    if o.list.contains n then listShortened (setOpening (some { o with list := o.list.filter (fun m => m != n) }) s)
    else s

/-! ## Events at the Leaf Motion Controller -/

/-- The lower request that follows a stop without a cause, as a separate event at once; a refused one leaves the group
HALTED (R99). -/
def pendingLower (s : State) : State :=
  if s.leaf.group.state = .halted ∧ s.leaf.group.pendingLower = true then
    let s := s.withLeaf (s.leaf.updateGroup (fun g => { g with pendingLower := false }))
    if lowerRefused (roadIsClosed s) s.leaf then s else applyLeaf LeafMotion.lower s
  else s

/-- A control period (R62): the computation, a FAULT pulse for a new twist warning, the report of a changed group
state, the clearance update, and then a lower that waited for the stop. -/
def runPeriod (counts : PerDrive (BitVec 24)) (s : State) : State :=
  let c := s.conf
  let warns := newTwistWarning c (s.leaf.formAngles c counts)
  let pick := Config.freeChoice s.freeCount
  let old := s.leaf.group.state
  let s := (countChoice s).withLeaf
    { s.leaf.period c counts pick with periodTimer := some Config.controlPeriodMs }
  let s := if warns then pulseFault s else s
  let s := afterLeaf old s
  pendingLower (clearanceUpdate s.leaf.group.clearance s)

/-- A lock switch change: the FAULT line is pulsed for a new unproven-while-stowed latch (R91). -/
def lockSwitchEvent (lock : LockId) (switch : LockSwitch) (made : Bool) (s : State) : State :=
  let old := (s.leaf.locks.get lock).unproven
  let s := applyLeaf (LeafMotion.lockSwitch lock switch made) s
  if !old && (s.leaf.locks.get lock).unproven then pulseFault s else s

/-- The settle dwell completes (R92): HELD_OPEN from SETTLING. -/
def settleComplete (m : LeafMotion) : LeafMotion := if m.group.state = .settling then m.holdOpen else m

/-- The seat dwell completes (R93): LOCKING from SEATING. -/
def seatComplete (m : LeafMotion) : LeafMotion := if m.group.state = .seating then m.enterLocking else m

/-- The rest-phase count reaches the settle timeout (R92, R93): a trip from SETTLING or SEATING. -/
def restTimeout (m : LeafMotion) : LeafMotion :=
  if m.group.state = .settling ∨ m.group.state = .seating then m.trip .settleTimeout else m

/-- A lock timer runs out (R88, R89): a trip in UNLOCKING or LOCKING. -/
def lockTimeout (lock : LockId) (m : LeafMotion) : LeafMotion :=
  if (m.locks.get lock).timer.isSome ∧ (m.group.state = .unlocking ∨ m.group.state = .locking) then
    m.trip .lockTimeout
  else m

end Sys2Proof.Machine
end

