-- ==== Sys2Proof/Machine/Closing.lean ====
section
/-!
DEFINITION. Chapter 5, second part: the closing sequence from the close request to ROAD_CLOSED, the arm and zone events,
and the meanings of the closure's own requests.
-/

namespace Sys2Proof.Machine

open Sys2Proof

/-! ## The groups evaluated (R117 to R119) -/

/-- Entry to ROAD_CLOSED, reported once for each close taken (R113, R119). -/
def enterRoadClosed (quiet : Bool) (s : State) : State :=
  let s := setClosureState quiet .roadClosed s
  if s.closure.closeReported then s
  else roadClosedReport (s.withClosure { s.closure with closeReported := true })

/-- The clear dwell started from zero when every zone is VACANT, and stopped otherwise; confirmation is cleared. -/
def restartClearDwell (s : State) : State :=
  s.withClosure { s.closure with
    clearDwell := if anyOccupied s then .stopped else .running (s.conf.clearDwell * 1000)
    confirmation := false }

/-- Entry to SPAN_CLEARING from ENTRY_LOWERING (R117). -/
def enterSpanClearing (quiet : Bool) (s : State) : State := setClosureState quiet .spanClearing (restartClearDwell s)

/-- Entry to EXIT_LOWERING, with its approach check (R119). -/
def enterExitLowering (quiet : Bool) (s : State) : State :=
  if hasExitArms s then commandEach .down exitArms (setClosureState quiet .exitLowering s)
  else holdWith .noExitArm .exitLowering s

/-- Whether SPAN_CLEARING may be left for EXIT_LOWERING (R118). -/
def spanProvedClear (s : State) : Bool :=
  s.closure.clearDwell == .complete && (s.closure.confirmation || !s.conf.confirmationRequired)
    && armsAt .down entryArms s

/-- The groups evaluated in the present closure state (R117, R118, R119, R121, R125). That NO_ENTRY_ARM is the cause held
where one evaluation in EXIT_LOWERING finds both groups without an arm is the model's choice (log entry 40), and so is the
check for entry arms in SPAN_CLEARING at every evaluation but that of an entry arm taken OUT: the completion of the dwell,
CONFIRM SPAN CLEAR, a report or a loss, and an exit arm taken OUT (log entry 42). -/
def evaluateGroups (quiet : Bool) (s : State) : State :=
  match s.closure.state with
  | .entryLowering =>
    if !hasEntryArms s then holdClosure .noEntryArm s
    else if armsAt .down entryArms s then enterSpanClearing quiet s
    else s
  | .spanClearing =>
    if !hasEntryArms s then holdClosure .noEntryArm s
    else if spanProvedClear s then enterExitLowering quiet s
    else s
  | .exitLowering =>
    if !hasEntryArms s then holdClosure .noEntryArm s
    else if !hasExitArms s then holdClosure .noExitArm s
    else if armsAt .down ringOrder s then enterRoadClosed quiet s
    else s
  | .roadReopening => finishReopening quiet s
  | .inactive | .roadUncertain | .roadOpen | .prewarnAmber | .prewarnRed | .roadClosed | .closureHeld => s

/-! ## Prewarning (R113 to R115) -/

/-- Whether the warning lets the closure leave PREWARN_RED (R115). -/
def warningPassed (c : Closure) : Bool := c.redTimeExpired && ((westProven c && eastProven c) || c.override)

/-- PREWARN_RED left for ENTRY_LOWERING when the red time is out and the warning is proven or overridden, with the
approach check for entry arms (R115). -/
def testWarning (quiet : Bool) (s : State) : State :=
  if s.closure.state = .prewarnRed ∧ warningPassed s.closure = true then
    if hasEntryArms s then commandEach .down entryArms (setClosureState quiet .entryLowering s)
    else holdWith .noEntryArm .entryLowering s
  else s

/-- A close request of the sequencer (R113). -/
def closeRequest (quiet : Bool) (s : State) : State :=
  if s.closure.state = .roadOpen ∨ s.closure.state = .roadUncertain then
    let s := s.withArms (tabMap (fun a => { a with latches := .none, retryCount := 0 }) s.arms)
    let s := s.withClosure { s.closure with
      redSeen := .none
      override := false
      redTimeExpired := false
      confirmation := false
      closeReported := false
      phaseTimer := some (s.conf.amberTime * 1000) }
    standingCheck (setClosureState quiet .prewarnAmber s)
  else s

/-- The phase timer runs out (R114, R115). -/
def phaseExpired (s : State) : State :=
  match s.closure.phaseTimer with
  | none => s
  | some _ =>
    match s.closure.state with
    | .prewarnAmber =>
      setClosureState false .prewarnRed (s.withClosure { s.closure with
        redSeen := .none, redTimeExpired := false, phaseTimer := some (s.conf.redMinimum * 1000) })
    | .prewarnRed =>
      let s := testWarning false (s.withClosure { s.closure with redTimeExpired := true, phaseTimer := none })
      raiseControlIf (s.closure.state == .prewarnRed) .closure s
    | .inactive | .roadUncertain | .roadOpen | .entryLowering | .spanClearing | .exitLowering | .roadClosed
    | .roadReopening | .closureHeld => s

/-- The reports of the functions that have completed an evaluable on-phase: they set the red-seen flags in PREWARN_RED
and are passed by in other states (R114, R156). -/
def redsProven (fs : List FunctionId) (s : State) : State :=
  if s.closure.state = .prewarnRed then
    testWarning false (s.withClosure { s.closure with redSeen := fs.foldl (fun r f => setRedSeen f r) s.closure.redSeen })
  else s

/-- The end of a half of the flash cycle, once it has held its 50 periods: the channels of the half take their result,
the functions that have completed an evaluable on-phase are reported, and the other half begins (R147, R155, R156, log
entry 37). -/
def endFlashHalf (s : State) : State :=
  match s.lamp.flash with
  | .running second periods =>
    if periods < Config.periodsPerHalf then s
    else
      let phase := phaseOfHalf second
      redsProven (allFunctions.filter (functionProven phase s.lamp)) (s.withLamp { s.lamp with
        channels := tabMap (channelAtHalfEnd phase) s.lamp.channels, flash := .running (!second) 0 })
  | .stopped | .starting => s

/-! ## Arm events (R109 to R111) -/

/-- Whether a departure from position starts an arm's travel timer again (R109). -/
def ClosureState.timesDeparture : ClosureState → Bool
  | .entryLowering | .spanClearing | .exitLowering | .roadReopening => true
  | .inactive | .roadUncertain | .roadOpen | .prewarnAmber | .prewarnRed | .roadClosed | .closureHeld => false

/-- An acknowledgement: one that names the arm's commanded position sets acknowledged and restarts the travel timer,
which stays stopped in CLOSURE_HELD; any other is disregarded (R109, R123). -/
def armAcknowledged (a : ArmId) (c : LoopCommand) (s : State) : State :=
  match (s.arm a).commanded with
  | none => s
  | some p =>
    if commandFor p = c then
      updateArm a (fun r =>
        { r with
          acknowledged := true
          reportedSince := r.reportedSince && r.acknowledged
          travelTimer := if s.closure.state = .closureHeld then r.travelTimer else some 0 }) s
    else s

/-- The arm record after a report: state, angle and presence replaced, and the travel timer stopped in position or
started again on a departure (R109, R137). That OBSTRUCTED from an arm in position DOWN starts the timer again also while
the arm's retry dwell runs is the model's choice (log entry 41). -/
def Arm.withReport (timed : Bool) (st : ArmReport) (angle : Nat) (r : Arm) : Arm :=
  let r' := { r with reported := st, angle := angle, lost := false, reportedSince := r.acknowledged }
  if armInPosition r' then { r' with travelTimer := none }
  else if armInPosition r && timed then { r' with travelTimer := some 0 }
  else r'

/-- Whether an OBSTRUCTED report starts a retry or a hold: an in-service arm commanded DOWN, in a state that lowers,
with its retry dwell stopped (R110). -/
def obstructionCounts (a : ArmId) (s : State) : Bool :=
  (s.arm a).inService && (s.arm a).commanded == some .down && (s.arm a).retryDwell.isNone
    && (s.closure.state == .entryLowering || s.closure.state == .spanClearing || s.closure.state == .exitLowering)

/-- An obstruction: the retry dwell starts with a FAULT pulse, or at the retry limit the closure is held (R110). -/
def obstruction (a : ArmId) (s : State) : State :=
  if (s.arm a).retryCount < s.conf.retryLimit then
    pulseFault (updateArm a (fun r => { r with travelTimer := none, retryDwell := some (s.conf.retryDwell * 1000) }) s)
  else holdClosure .obstructionLimit (latchArm .obstructionLimit a s)

/-- What a LOCAL report does beside the record (R111). -/
def localReport (a : ArmId) (s : State) : State :=
  let s := latchArm .localControl a s
  if (s.arm a).inService then armFault .armLocal s else s

/-- A report at the arm record (R109 to R111, R120), and the groups evaluated after it. -/
def armReported (a : ArmId) (st : ArmReport) (angle : Nat) (s : State) : State :=
  let s := updateArm a (Arm.withReport s.closure.state.timesDeparture st angle) s
  let s := if s.closure.state = .roadClosed ∧ (s.arm a).inService = true ∧ st ≠ .down then setDegraded s else s
  let s := match st with
    | .localControl => localReport a s
    | .obstructed => if obstructionCounts a s then obstruction a s else s
    | .up | .down | .lowering | .raising | .fault | .unknown => s
  evaluateGroups false s

/-- A station's loss at the arm record: presence LOST, reported state UNKNOWN, the LOST latch and what it does to the
closure (R111). -/
def armLost (a : ArmId) (s : State) : State :=
  let s := latchArm .lost a (updateArm a (fun r => { r with lost := true, reported := .unknown }) s)
  evaluateGroups false (if (s.arm a).inService then armFault .armLost s else s)

/-- An arm's travel timer runs out (R109). -/
def travelExpired (a : ArmId) (s : State) : State :=
  match (s.arm a).travelTimer with
  | none => s
  | some _ =>
    armFault .travelTimeout (latchArm .travelTimeout a (updateArm a (fun r => { r with travelTimer := none }) s))

/-- An arm's retry dwell runs out: the arm is commanded DOWN again and its retry count rises (R110, log entry 18). -/
def retryExpired (a : ArmId) (s : State) : State :=
  match (s.arm a).retryDwell with
  | none => s
  | some _ =>
    commandArm .down a (updateArm a (fun r => { r with retryDwell := none, retryCount := r.retryCount + 1 }) s)

/-! ## Zones (R112, R118, R119) -/

/-- What a zone's new state does to the closing sequence: `occupied` tells which (R118, R119). -/
def closureZone (occupied : Bool) (s : State) : State :=
  match s.closure.state with
  | .spanClearing =>
    if occupied then s.withClosure { s.closure with clearDwell := .stopped, confirmation := false }
    else if anyOccupied s then s
    else s.withClosure { s.closure with clearDwell := .running (s.conf.clearDwell * 1000) }
  | .exitLowering =>
    if occupied then
      commandEach .up exitArms (setClosureState false .spanClearing
        (s.withClosure { s.closure with clearDwell := .stopped, confirmation := false }))
    else s
  | .inactive | .roadUncertain | .roadOpen | .prewarnAmber | .prewarnRed | .entryLowering | .roadClosed
  | .roadReopening | .closureHeld => s

/-- A zone's state changes to match its input: at the closure, and at the Leaf Motion Controller (R98, R112). -/
def zoneChanges (z : ZoneId) (s : State) : State :=
  let occupied := s.zones[z].input
  let s := s.withZones (tabModify z (fun r => { r with occupied := occupied }) s.zones)
  let any := anyOccupied s
  applyLeaf (LeafMotion.zoneChange occupied any) (closureZone occupied s)

/-- A zone input changes level: its debounce starts from zero, once a commit has been accepted (R112). -/
def zoneInput (z : ZoneId) (active : Bool) (s : State) : State :=
  if s.zones[z].input = active then s
  else s.withZones (tabModify z (fun r =>
    { r with input := active, debounce := if s.store.state = .editing then none else some 0 }) s.zones)

/-- A zone's debounce timer runs out (R112). -/
def debounceExpired (z : ZoneId) (s : State) : State :=
  match s.zones[z].debounce with
  | none => s
  | some _ =>
    let s := s.withZones (tabModify z (fun r => { r with debounce := none }) s.zones)
    if s.zones[z].input = s.zones[z].occupied then s else zoneChanges z s

/-- The clear dwell completes (R118). -/
def clearDwellComplete (s : State) : State :=
  match s.closure.state, s.closure.clearDwell with
  | .spanClearing, .running _ =>
    evaluateGroups false (raiseControlIf s.conf.confirmationRequired .closure
      (s.withClosure { s.closure with clearDwell := .complete }))
  | _, _ => s

/-! ## Requests (R116, R118, R122, R124, R125) -/

/-- WARNING OVERRIDE taken (R116). -/
def takeOverride (s : State) : State := testWarning true (s.withClosure { s.closure with override := true })

/-- Whether WARNING OVERRIDE finds a state it may be taken in (R116). -/
def overrideAllowed (c : Closure) : Bool :=
  c.state == .prewarnAmber || c.state == .prewarnRed
    || (c.state == .closureHeld && (c.heldIn == some .prewarnAmber || c.heldIn == some .prewarnRed))

/-- CONFIRM SPAN CLEAR taken (R118). -/
def takeConfirmation (s : State) : State := evaluateGroups true (s.withClosure { s.closure with confirmation := true })

/-- The held-in state entered again with its entry actions (R124). -/
def reenter (st : ClosureState) (s : State) : State :=
  let s := setClosureState true st s
  match st with
  | .prewarnAmber =>
    s.withClosure { s.closure with redSeen := .none, phaseTimer := some (s.conf.amberTime * 1000) }
  | .prewarnRed =>
    s.withClosure { s.closure with
      redSeen := .none, redTimeExpired := false, phaseTimer := some (s.conf.redMinimum * 1000) }
  | .entryLowering =>
    if hasEntryArms s then commandEach .down entryArms s else holdClosure .noEntryArm s
  | .spanClearing => commandEach .down entryArms (restartClearDwell s)
  | .exitLowering =>
    if hasExitArms s then commandEach .down ringOrder s else holdClosure .noExitArm s
  | .roadReopening => commandEach .up ringOrder s
  | .inactive | .roadUncertain | .roadOpen | .roadClosed | .closureHeld => s

/-- CLOSURE RETRY taken in a closure held in a state (R124). -/
def takeRetry (heldIn : ClosureState) (s : State) : State :=
  let s := s.withArms (tabMap (fun a => { a with latches := .none, retryCount := 0 }) s.arms)
  let s := s.withClosure { s.closure with heldCause := none, heldIn := none }
  finishReopening true (standingCheck (reenter heldIn s))

/-- An arm taken out of service (R125). -/
def armOut (a : ArmId) (s : State) : State :=
  if (s.arm a).inService then
    let old := s.arm a
    let s := updateArm a (fun r =>
      { r with inService := false, retryCount := 0, retryDwell := none, travelTimer := none, commanded := none }) s
    let s := if old.commanded.isSome && !armInPosition old then writeSlot a .halt s else s
    if s.closure.state = .roadClosed then setDegraded s else evaluateGroups true s
  else s

/-- The position an arm brought into service is commanded to at once, `none` where it is left uncommanded (R125). -/
def serviceCommand (st : ClosureState) (entry : Bool) : Option ArmPosition :=
  match st with
  | .entryLowering | .spanClearing => if entry then some .down else none
  | .exitLowering | .roadClosed => some .down
  | .roadReopening => some .up
  | .inactive | .roadUncertain | .roadOpen | .prewarnAmber | .prewarnRed | .closureHeld => none

/-- An arm brought into service (R125). -/
def armIn (a : ArmId) (s : State) : State :=
  if (s.arm a).inService then s
  else
    let s := updateArm a (fun r => { r with inService := true, retryCount := 0 }) s
    match serviceCommand s.closure.state (isEntryArm a) with
    | some p => commandArm p a s
    | none => s

end Sys2Proof.Machine
end

