-- ==== Sys2Proof/Machine/FieldLoop.lean ====
section
/-!
DEFINITION. Chapter 6, the turns and scans of the field loop, and Chapter 11's start-up evaluation, which the end of the
first scan completes; with them the Request Port's transmitter, which sends the reply that ends the commit.
-/

namespace Sys2Proof.Machine

open Sys2Proof

/-! ## Replies (R187) -/

/-- A reply put together and handed to the link's transmitter: sent at once, or waiting behind the one being sent
(R187). -/
def putReply (l : Link) (kind : Byte) (outcome : OutcomeCode) (body : List Byte) (s : State) : State :=
  let r : Reply := ⟨kind, outcome, false, body⟩
  updatePort l (fun p =>
    match p.sending with
    | none => { p with sending := some ⟨r, false⟩ }
    | some _ => { p with waiting := some r }) s

/-! ## The start-up evaluation (R200, R201) -/

/-- Whether every in-service arm reports UP (R130). -/
def allReportUp (s : State) : Bool := s.arms.toList.all (fun a => !a.inService || a.reported == .up)

/-- Step 1: the closure state from the first scan's reports (R130, R201). -/
def evaluateRoad (s : State) : State :=
  setClosureState false (if allReportUp s then .roadOpen else .roadUncertain) s

/-- Step 2: the leaf group from the leaves' own angles and locks, reported to the sequencer (R105, R201). -/
def evaluateLeaves (s : State) : State := applyLeaf (LeafMotion.evaluate s.conf s.pins.encoders) s

/-- The recovery opening as it is created (R55). -/
def recoveryOpening : Opening := ⟨.closingRoad, true, [], 0, none, none, false⟩

/-- Step 3: the recovery opening and its close request for a HALTED group (R55, R201). -/
def evaluateOpening (s : State) : State :=
  if s.leaf.group.state = .halted then
    closeRequest false (raiseAttention .control .opening (setOpening (some recoveryOpening) s))
  else s

/-- Step 4: COMMITTED and ATTENDED, the demands derived, and the watchdog started (R201). -/
def evaluateMode (s : State) : State :=
  deriveDemands ((s.withStore { s.store with state := .committed }).withSup
    { s.sup with mode := .attended, watchdog := some (s.conf.watchdogTime * 1000) })

/-- Both links' attention records as they stood in an earlier state: the start-up evaluation asks for no line, since the
commit's reply and the STATUS after it report what it sets (R193, R195, log entry 24). -/
def keepAttention (old s : State) : State :=
  updatePort .harbour (fun p => { p with attention := old.links.harbour.attention })
    (updatePort .control (fun p => { p with attention := old.links.control.attention }) s)

/-- The start-up evaluation completed: the five steps in the order of R201, with the attention records left as they stand
(R195). -/
def completeEvaluation (s : State) : State :=
  putReply .control 0x52#8 .ok [octet Mode.attended.code]
    (keepAttention s (evaluateMode (evaluateOpening (evaluateLeaves (evaluateRoad s)))))

/-! ## The field loop (Chapter 6) -/

/-- The turn in progress replaced. -/
def setTurn (t : Option Turn) (s : State) : State := s.withLoop { s.loop with turn := t }

/-- A scan begins: the scan timer starts and the first station's turn is next (R141). -/
def beginScan (s : State) : State :=
  s.withLoop { s.loop with next := some .wEntry1, scanTimer := some s.conf.scanPeriod }

/-- The octet that the master sends at the step a turn stands at, before it awaits the answer: the address octet in the
command direction (step 2), the command octet (step 3), or the address octet in the report direction (step 5); at the
report octets and the STOP it sends none (R134, R194). -/
def octetSent (t : Turn) (s : State) : Option Byte :=
  match t.step with
  | .commandAddress => (s.station t.station).address.map (fun n => addressOctet n false)
  | .commandOctet => t.command.map LoopCommand.octet
  | .reportAddress => (s.station t.station).address.map (fun n => addressOctet n true)
  | .stateOctet | .angleOctet | .stop => none

/-- The answer that the master gives to the report octet it awaits, `true` for ACCEPT: ACCEPT to the state, and to the
angle REFUSE, which ends the read (R134). -/
def answerGiven (t : Turn) : Option Bool :=
  match t.step with
  | .stateOctet => some true
  | .angleOctet => some false
  | .commandAddress | .commandOctet | .reportAddress | .stop => none

/-- The octet on the loop as an output of the device, that of the turn in progress (R134). -/
def loopOctet (s : State) : Option Byte := s.loop.turn.bind (fun t => octetSent t s)

/-- A turn begins: the slot is taken as the command of the turn (R133). -/
def beginTurn (a : ArmId) (s : State) : State :=
  let c := (s.station a).slot
  let s := updateStation a (fun st => { st with lastSent := c.map (fun x => (x, none)), rewritten := false }) s
  setTurn (some ⟨a, c, if c.isSome then .commandAddress else .reportAddress, none, none⟩) s

/-- The command of a turn counts as refused: the slot keeps its content and the turn goes on to the report (R134,
R136). -/
def commandRefused (t : Turn) (s : State) : State :=
  setTurn (some { t with step := .reportAddress })
    (updateStation t.station (fun st => { st with lastSent := t.command.map (fun x => (x, some false)) }) s)

/-- The command of a turn is accepted: the slot empties unless it was rewritten, and the acknowledgement goes to the arm
record (R136). -/
def commandAccepted (t : Turn) (s : State) : State :=
  let s := updateStation t.station (fun st =>
    { st with
      lastSent := t.command.map (fun x => (x, some true))
      slot := if st.rewritten then st.slot else none }) s
  let s := setTurn (some { t with step := .reportAddress }) s
  match t.command with
  | some c => armAcknowledged t.station c s
  | none => s

/-- An answer to the address octet (R134). -/
def addressAnswered (accept : Bool) (s : State) : State :=
  match s.loop.turn with
  | none => s
  | some t =>
    match t.step with
    | .commandAddress => if accept then setTurn (some { t with step := .commandOctet }) s else commandRefused t s
    | .reportAddress => setTurn (some { t with step := if accept then .stateOctet else .stop }) s
    | .commandOctet | .stateOctet | .angleOctet | .stop => s

/-- An answer to the command octet (R134, R136). -/
def commandAnswered (accept : Bool) (s : State) : State :=
  match s.loop.turn with
  | none => s
  | some t =>
    match t.step with
    | .commandOctet => if accept then commandAccepted t s else commandRefused t s
    | .commandAddress | .reportAddress | .stateOctet | .angleOctet | .stop => s

/-- A report octet arrives (R134). -/
def reportOctet (b : Byte) (s : State) : State :=
  match s.loop.turn with
  | none => s
  | some t =>
    match t.step with
    | .stateOctet => setTurn (some { t with step := .angleOctet, stateOctet := some b }) s
    | .angleOctet => setTurn (some { t with step := .stop, angleOctet := some b }) s
    | .commandAddress | .commandOctet | .reportAddress | .stop => s

/-- The answer window closes on an answer or octet that has not come (R135). -/
def windowClosed (s : State) : State :=
  match s.loop.turn with
  | none => s
  | some t =>
    match t.step with
    | .commandAddress | .commandOctet => commandRefused t s
    | .reportAddress | .stateOctet | .angleOctet => setTurn (some { t with step := .stop }) s
    | .stop => s

/-- A good turn: the station is PRESENT with no misses, and its report goes to the arm record (R137). -/
def goodTurn (a : ArmId) (st : ArmReport) (angle : Nat) (s : State) : State :=
  armReported a st angle (updateStation a (fun r => { r with misses := 0, lost := false }) s)

/-- A missed turn: the third in a row declares the station LOST, once (R138). -/
def missedTurn (a : ArmId) (s : State) : State :=
  let st := s.station a
  if st.lost then s
  else if 2 ≤ st.misses then armLost a (updateStation a (fun r => { r with misses := 3, lost := true }) s)
  else updateStation a (fun r => { r with misses := r.misses + 1 }) s

/-- What the loop does after a turn: the next station of the ring, or after the eighth the next scan if the scan timer
has run out (R141); the end of the first scan completes the start-up evaluation (R143, R201). -/
def afterTurn (a : ArmId) (s : State) : State :=
  match nextInRing a with
  | some b => s.withLoop { s.loop with next := some b }
  | none =>
    let first := s.loop.firstScan
    let s := s.withLoop { s.loop with next := none, firstScan := false }
    let s := if s.loop.scanTimer = none then beginScan s else s
    if first then completeEvaluation s else s

/-- The STOP of a turn: its outcome at the station record, then the loop goes on (R137, R138). -/
def endTurn (s : State) : State :=
  match s.loop.turn with
  | none => s
  | some t =>
    if t.step = .stop then
      let s := setTurn none s
      let s := match t.stateOctet, t.angleOctet with
        | some b, some d => goodTurn t.station (reportOf b) (reportAngleOf d) s
        | _, _ => missedTurn t.station s
      afterTurn t.station s
    else s

/-- The next turn of the scan begins, where one is due and none is in progress (R132, R133). -/
def startTurn (s : State) : State :=
  match s.loop.held, s.loop.turn, s.loop.next with
  | false, none, some a => beginTurn a s
  | _, _, _ => s

/-- The scan timer runs out: the next scan begins if the eighth turn has ended (R141). -/
def scanExpired (s : State) : State :=
  match s.loop.scanTimer with
  | none => s
  | some _ =>
    let s := s.withLoop { s.loop with scanTimer := none }
    if s.loop.next = none ∧ s.loop.turn = none then beginScan s else s

end Sys2Proof.Machine
end

