-- ==== Sys2Proof/Machine/Startup.lean ====
section
/-!
DEFINITION. Chapter 11 and the reset events: what an accepted commit starts (R200), and the state after power-on,
release of the reset line and REVERT TO SETUP.
-/

namespace Sys2Proof.Machine

open Sys2Proof

/-! ## The accepted commit (R200) -/

/-- The station records as the commit sets them, each with its address from the image (R143). -/
def committedStations (image : Vector (Option Int) 163) : Vector Station 8 :=
  ⟨(ringOrder.map (fun a => Station.cleared (some (addressItem image a)))).toArray, rfl⟩

/-- A zone set straight from its input, with no debounce (R112). -/
def zoneAtCommit (z : Zone) : Zone := { z with occupied := z.input, debounce := none }

/-- What the event that accepts a commit starts: the configured values, the first scan, the zones, the lamps and the
minute timer; the store is EVALUATING (R200). -/
def acceptCommit (s : State) : State :=
  let image := s.store.image
  let c := configuredOf image
  let zones := tabMap zoneAtCommit s.zones
  let s : State :=
    { s with
      cfg := some c
      store := { s.store with state := .evaluating }
      stations := committedStations image
      loop := ⟨false, none, none, none, true⟩
      zones := zones
      lamp := committedLamps image (s.pins.supply < c.undervoltageThreshold) s.lamp
      reg := { s.reg with minuteTimer := some Config.minuteMs } }
  let any := anyOccupied s
  beginScan (s.withLeaf (s.leaf.zoneChange any any))

/-! ## The reset events -/

/-- The leaf records after a reset event, with the switch levels and the emergency stop as they stand; `keep` keeps the
unproven latches (R104). -/
def resetLeaf (keep : Bool) (m : LeafMotion) : LeafMotion where
  group := .reset m.group.emergencyStop
  drives := ⟨.reset, .reset, .reset, .reset⟩
  west := .reset
  east := .reset
  locks := m.locks.map (fun l => .cleared l.drivenSwitch l.withdrawnSwitch (keep && l.unproven))
  periodTimer := none

/-- The zones after a reset event: VACANT, no debounce, the inputs as they stand (R130). -/
def resetZone (z : Zone) : Zone := ⟨false, z.input, none⟩

/-- Power-on and release of the reset line: every record takes its power-on value; the levels of the inputs stand, and
so do the commands that wait (log entry 8). -/
def resetState (s : State) : State :=
  { State.reset with
    pending := s.pending
    freeCount := s.freeCount
    pins := s.pins
    leaf := resetLeaf false s.leaf
    zones := tabMap resetZone s.zones }

/-- REVERT TO SETUP taken: each block takes its values after it; the image, the configured values, the links and the
unproven latches are kept (R180). -/
def revertState (s : State) : State :=
  { s with
    reg := .reset
    seq := .reset
    leaf := resetLeaf true s.leaf
    closure := .reset
    arms := Vector.replicate 8 .reset
    zones := tabMap resetZone s.zones
    loop := .reset
    stations := tabMap (fun st => .cleared st.address) s.stations
    lamp := s.lamp.reverted
    display := .reset
    sup := .reset
    store := { s.store with state := .editing } }

end Sys2Proof.Machine
end

