-- ==== Sys2Proof/Machine/Requests.lean ====
section
/-!
DEFINITION. The 25 requests as their owning blocks take them: mode, fields, passage number, state, and the refusals of
each request, in the order its own rule gives (R14, R32, R188). Each takes the link, the body's octets and the state,
and gives the state and the answer.
-/

namespace Sys2Proof.Machine

open Sys2Proof

/-- What an owning block answers: an outcome and a reply body. -/
structure Answer where
  outcome : OutcomeCode
  body : List Byte
  deriving DecidableEq, Repr

/-- The state and the answer; no answer yet for an accepted commit (R200). -/
abbrev Taken := State × Option Answer

/-- A refusal: no state changes and the reply has no body (R189). -/
def refuse (o : OutcomeCode) (s : State) : Taken := (s, some ⟨o, []⟩)

/-- A request taken, with its OK reply body. -/
def accept (body : List Byte) (s : State) : Taken := (s, some ⟨.ok, body⟩)

/-- Whether the device is in SETUP. -/
def inSetup (s : State) : Bool := s.sup.mode == .setup

/-- Whether the device is ATTENDED. -/
def attended (s : State) : Bool := s.sup.mode == .attended

/-! ## STATUS (R192) -/

/-- Whole seconds of a number of milliseconds, rounded up. -/
def secondsUp (ms : Nat) : Nat := (ms + 999) / 1000

/-- A signed value limited to −32 767 to +32 767 (R192). -/
def limited16 (v : Int) : Int := max (-32767) (min 32767 v)

/-- A list of octets made up to `n` with zeros. -/
def padded (n : Nat) (l : List Byte) : List Byte := l ++ List.replicate (n - l.length) 0#8

/-- STATUS octets 1 to 16: the opening (R192). -/
def statusOpening (s : State) : List Byte :=
  match s.seq.opening with
  | none => List.replicate 16 0#8
  | some o =>
    [octet o.state.code, flagsOctet [o.recovery, o.extending], octet (optionCode Direction.code o.served)]
      ++ octets16 (secondsUp (o.changeover.getD 0)) ++ octets16 o.target ++ [octet o.list.length]
      ++ padded 8 (o.list.map octet)

/-- STATUS octets 17 to 20: the closure (R192). -/
def statusClosure (c : Closure) : List Byte :=
  [octet c.state.code, flagsOctet [c.degraded, c.override, c.reopenPending, westProven c, eastProven c],
    octet (optionCode HeldCause.code c.heldCause), octet (optionCode ClosureState.code c.heldIn)]

/-- STATUS octets 36 to 38: a lock (R192). -/
def statusLock (l : Lock) : Byte := octet ((lockState l).code + if l.unproven then 128 else 0)

/-- STATUS octets 26 to 35: the leaf angles, the twists and the clearance, 0 while the group is INACTIVE (R192). -/
def statusMotion (m : LeafMotion) : List Byte :=
  if m.group.state = .inactive then List.replicate 10 0#8
  else octetsSigned16 (reportedAngle m.west.angle) ++ octetsSigned16 (reportedAngle m.east.angle)
    ++ octetsSigned16 (limited16 m.west.twist) ++ octetsSigned16 (limited16 m.east.twist)
    ++ octets16 m.group.clearance

/-- STATUS octets 21 to 38: the leaf group, the leaves, the drives and the locks (R192). -/
def statusLeaf (m : LeafMotion) : List Byte :=
  [octet m.group.state.code, octet (optionCode TripCause.code m.group.cause),
    flagsOctet [m.drives.wn.brakeReleased, m.group.hold, m.group.emergencyStop, m.group.spanOccupied,
      m.group.pendingLower],
    flagsOctet [m.west.seated, m.east.seated, m.west.twistWarning, m.east.twistWarning],
    flagsOctet [m.drives.wn.saturated, m.drives.ws.saturated, m.drives.en.saturated, m.drives.es.saturated]]
    ++ statusMotion m ++ [statusLock m.locks.westTail, statusLock m.locks.eastTail, statusLock m.locks.centre]

/-- STATUS octets 39 to 41, or 42 to 44: a head, its demand as the sequencer derived it (R59, R171, R192). -/
def statusHead (demand : Aspect) (h : Head) : List Byte :=
  [octet demand.code, octet h.displayed.code,
    octet (optionCode SingleRed.code h.singleRed + if h.darkCondition then 128 else 0)]

/-- STATUS octets 47 to 78, four for each arm (R192). -/
def statusArm (a : Arm) : List Byte :=
  [octet (flagValue [a.inService, a.acknowledged, a.lost] + 16 * optionCode ArmPosition.code a.commanded),
    octet a.reported.code, octet a.angle,
    octet (a.retryCount % 8 + 16 * flagValue [a.latches.travelTimeout, a.latches.obstructionLimit, a.latches.lost,
      a.latches.localControl])]

/-- STATUS octets 79 to 142, two for each channel (R192). -/
def statusChannel (undervoltage : Bool) (c : Channel) : List Byte :=
  [octet (optionCode FunctionId.code c.function + 16 * c.demand.code),
    flagsOctet [channelHealthy undervoltage c, c.openFlag, c.shortFlag, c.partialFlag, c.evaluated]]

/-- STATUS octets 143 to 151: the lamp fault summary beside the channels; function 1 stands in the lowest bit of the
two octets (R192). -/
def statusLamps (c : Configured) (u : LampUnit) : List Byte :=
  octets16 (flagValue (allFunctions.map (fun f => functionHealthy f u)))
    ++ [flagsOctet [u.lowSupply, u.undervoltage], octet u.dimRoad, octet u.dimShipping]
    ++ octets16 (onTimeInUse u.dimRoad c.blanking) ++ octets16 (onTimeInUse u.dimShipping c.blanking)

/-- STATUS octets 152 and 153: the FAULT flags and the watchdog (R192). -/
def statusSupervisor (v : Supervisor) : List Byte :=
  [flagsOctet [faultLine v, v.groupTripped, v.closureHeld, v.dark.seaward, v.dark.landward, v.mode == .unattended,
      v.pulseTimer.isSome], octet (secondsUp (v.watchdog.getD 0))]

/-- STATUS octet 155: a link's causes by their bits (R193). -/
def statusCauses (c : CauseSet) : Byte :=
  flagsOctet [c.passageRecord, c.opening, c.closure, c.leafGroup, c.lampLatch, c.armLatch, c.mode]

/-- The 156 octets of a STATUS reply (R192). -/
def statusBody (l : Link) (s : State) : List Byte :=
  [octet s.sup.mode.code] ++ statusOpening s ++ statusClosure s.closure ++ statusLeaf s.leaf
    ++ statusHead s.seq.demand.seaward s.display.heads.seaward
    ++ statusHead s.seq.demand.landward s.display.heads.landward
    ++ [octet s.display.road.code, flagsOctet (s.zones.toList.map (fun z => z.occupied))]
    ++ (s.arms.toList.map statusArm).flatten
    ++ (s.lamp.channels.toList.map (statusChannel s.lamp.undervoltage)).flatten
    ++ statusLamps s.conf s.lamp ++ statusSupervisor s.sup
    ++ [octet s.reg.records.length, statusCauses (s.links.get l).attention.causes]

/-- STATUS (R192, R193). -/
def takeStatus (l : Link) (body : List Byte) (s : State) : Taken :=
  match body with
  | [] => accept (statusBody l s) (lowerAttention l s)
  | _ :: _ => refuse .badField s

/-! ## The record requests (Chapter 1) -/

/-- The fields of ENTER PASSAGE. -/
structure Entry where
  tag : List Byte
  direction : Direction
  cls : PassageClass
  clearance : Nat
  lifetime : Option Nat
  deriving DecidableEq, Repr

/-- A lifetime with its present octet: `none` for BAD_FIELD (R16, R189). -/
def entryLifetime (present : Byte) (minutes : Nat) : Option (Option Nat) :=
  if present = 0 then some none
  else if present = 1 then (if 1 ≤ minutes ∧ minutes ≤ 720 then some (some minutes) else none)
  else none

/-- The fields of an ENTER PASSAGE body, `none` for BAD_FIELD (R16). -/
def entryOf (body : List Byte) : Option Entry :=
  match body.drop 12 with
  | [dir, cls, ch, cl, present, lh, ll] =>
    match normaliseTag (body.take 12), directionOf dir, classOf cls, entryLifetime present (word16 lh ll) with
    | some tag, some d, some k, some life =>
      if word16 ch cl < 100 then none else some ⟨tag, d, k, word16 ch cl, life⟩
    | _, _, _, _ => none
  | _ => none

/-- Whether a non-terminal record with a tag and a direction is held (R3). -/
def heldTwice (e : Entry) (r : Register) : Bool :=
  r.records.any (fun p => !p.state.terminal && p.tag == e.tag && p.direction == e.direction)

/-- The record of a taken ENTER PASSAGE (R17). -/
def entryRecord (l : Link) (e : Entry) (angle : Nat) (r : Register) : Passage where
  number := allocatedNumber r
  origin := l
  tag := e.tag
  direction := e.direction
  cls := e.cls
  clearance := e.clearance
  angle := angle
  lifetime := e.lifetime
  stamp := r.nextStamp
  state := .waiting
  withdrawnBy := none

/-- ENTER PASSAGE (R16, R17). -/
def takeEnter (l : Link) (body : List Byte) (s : State) : Taken :=
  if inSetup s then refuse .wrongMode s
  else match entryOf body with
    | none => refuse .badField s
    | some e =>
      match passageAngle s.conf e.clearance with
      | none => refuse .unreachable s
      | some angle =>
        if heldTwice e s.reg then refuse .duplicateVessel s
        else if Config.registerSize ≤ s.reg.records.length then refuse .registerFull s
        else
          let p := entryRecord l e angle s.reg
          accept [octet p.number] (s.withReg (enterRecord p s.reg))

/-- The items of AMEND PASSAGE that are present: a new lifetime is a number of minutes or NONE. -/
structure Amendment where
  number : Nat
  clearance : Option Nat
  cls : Option PassageClass
  lifetime : Option (Option Nat)
  deriving DecidableEq, Repr

/-- A present clearance, `none` inside for absent and `none` outside for BAD_FIELD (R18). -/
def amendedClearance (present : Bool) (cm : Nat) : Option (Option Nat) :=
  if present then (if cm < 100 then none else some (some cm)) else some none

/-- A present class (R18). -/
def amendedClass (present : Bool) (code : Byte) : Option (Option PassageClass) :=
  if present then (classOf code).map some else some none

/-- A present lifetime: 0 for NONE (R18, R189). -/
def amendedLifetime (present : Bool) (minutes : Nat) : Option (Option (Option Nat)) :=
  if present then
    if minutes = 0 then some (some none) else if minutes ≤ 720 then some (some (some minutes)) else none
  else some none

/-- The fields of an AMEND PASSAGE body, `none` for BAD_FIELD (R18, R189). -/
def amendmentOf (body : List Byte) : Option Amendment :=
  match body with
  | [n, flags, ch, cl, cls, lh, ll] =>
    if n = 0 || flags = 0 || 8 ≤ flags.toNat then none
    else
      match amendedClearance (flags.getLsbD 0) (word16 ch cl), amendedClass (flags.getLsbD 1) cls,
        amendedLifetime (flags.getLsbD 2) (word16 lh ll) with
      | some c, some k, some life => some ⟨n.toNat, c, k, life⟩
      | _, _, _ => none
  | _ => none

/-- Whether a link may amend, withdraw or release a record (R14). -/
def permitted (l : Link) (p : Passage) : Bool := l == .control || p.origin == .harbour

/-- A record with a new clearance and its required angle, where the amendment carries one (R19). -/
def withClearance (c : Option Nat) (angle : Nat) (p : Passage) : Passage :=
  match c with
  | some cm => { p with clearance := cm, angle := angle }
  | none => p

/-- A record with the items of an amendment in place (R19). -/
def amended (a : Amendment) (angle : Nat) (p : Passage) : Passage :=
  let p := withClearance a.clearance angle p
  { p with cls := a.cls.getD p.cls, lifetime := a.lifetime.getD p.lifetime }

/-- An amendment made to a held record: an amendment by the other link raises the origin's line (R19, R25). -/
def applyAmendment (l : Link) (a : Amendment) (angle : Nat) (p : Passage) (s : State) : State :=
  notifyOrigin (some l) p (s.withReg (changePassage p.number (amended a angle) s.reg))

/-- The reply of a record request that carries the record as it now stands. -/
def acceptRecord (n : Nat) (s : State) : Taken :=
  match findPassage n s.reg with
  | some p => accept (passageOctets p) s
  | none => refuse .noSuchPassage s

/-- The required angle that an amendment sets: 0 where it carries no clearance, `none` for UNREACHABLE (R18). -/
def amendmentAngle (c : Configured) (a : Amendment) : Option Nat :=
  match a.clearance with
  | some cm => passageAngle c cm
  | none => some 0

/-- The amendment of an ADMITTED record's clearance, by the opening state (R36). -/
def amendAdmitted (l : Link) (a : Amendment) (angle : Nat) (p : Passage) (s : State) : Taken :=
  match openingState s with
  | some .closingRoad => acceptRecord p.number (deriveDemands (formTarget (applyAmendment l a angle p s)))
  | some .lifting | some .open =>
    if callsForRaise angle s then
      if targetRaiseRefused s then refuse .interlock s
      else acceptRecord p.number (deriveDemands
        (takeTargetRaise (withMargin s.conf angle) (applyAmendment l a angle p s)))
    else acceptRecord p.number (deriveDemands (applyAmendment l a angle p s))
  | _ => refuse .tooLate s

/-- AMEND PASSAGE (R18, R19, R36). -/
def takeAmend (l : Link) (body : List Byte) (s : State) : Taken :=
  if inSetup s then refuse .wrongMode s
  else match amendmentOf body with
    | none => refuse .badField s
    | some a =>
      match findPassage a.number s.reg with
      | none => refuse .noSuchPassage s
      | some p =>
        if !permitted l p then refuse .notPermitted s
        else if p.state.terminal || p.state == .cleared then refuse .wrongState s
        else if p.state == .admitted && (a.cls.isSome || a.lifetime.isSome) then refuse .tooLate s
        else match amendmentAngle s.conf a with
          | none => refuse .unreachable s
          | some angle =>
            if p.state = .admitted then amendAdmitted l a angle p s
            else acceptRecord p.number (applyAmendment l a angle p s)

/-- A record withdrawn by a link (R20). -/
def withdrawRecord (l : Link) (p : Passage) (s : State) : State :=
  notifyOrigin (some l) p
    (s.withReg (changePassage p.number (fun q => { q with state := .withdrawn, withdrawnBy := some l }) s.reg))

/-- WITHDRAW PASSAGE (R20). -/
def takeWithdraw (l : Link) (body : List Byte) (s : State) : Taken :=
  if inSetup s then refuse .wrongMode s
  else match body with
    | [n] =>
      if n = 0 then refuse .badField s
      else match findPassage n.toNat s.reg with
        | none => refuse .noSuchPassage s
        | some p =>
          if !permitted l p then refuse .notPermitted s
          else if p.state.terminal then refuse .wrongState s
          else if p.state == .cleared && l == .harbour then refuse .tooLate s
          else acceptRecord p.number (leaveList p.number (withdrawRecord l p s))
    | _ => refuse .badField s

/-- RELEASE PASSAGE (R21). -/
def takeRelease (l : Link) (body : List Byte) (s : State) : Taken :=
  if inSetup s then refuse .wrongMode s
  else match body with
    | [n] =>
      if n = 0 then refuse .badField s
      else match findPassage n.toNat s.reg with
        | none => refuse .noSuchPassage s
        | some p =>
          if !permitted l p then refuse .notPermitted s
          else if !p.state.terminal then refuse .wrongState s
          else
            let s := s.withReg { s.reg with records := s.reg.records.filter (fun q => q.number != p.number) }
            accept [n] (leaveList p.number (notifyOrigin (some l) p s))
    | _ => refuse .badField s

/-- The records with a tag, in queue order (R22). -/
def taggedRecords (tag : List Byte) (r : Register) : List Passage :=
  (queueOrder r.records).filter (fun p => p.tag == tag)

/-- LOOK UP PASSAGE by tag (R22). -/
def lookUpTag (octets : List Byte) (s : State) : Taken :=
  match normaliseTag octets with
  | none => refuse .badField s
  | some tag =>
    match taggedRecords tag s.reg with
    | [] => refuse .noSuchPassage s
    | p :: ps => accept (octet (ps.length + 1) :: (((p :: ps).take 8).map passageOctets).flatten) s

/-- LOOK UP PASSAGE (R22). -/
def takeLookUp (body : List Byte) (s : State) : Taken :=
  if inSetup s then refuse .wrongMode s
  else match body with
    | [] => refuse .badField s
    | selector :: rest =>
      if selector = 0 then
        match rest with
        | [n] => if n = 0 then refuse .badField s else acceptRecord n.toNat s
        | _ => refuse .badField s
      else if selector = 1 then (if rest.length = 12 then lookUpTag rest s else refuse .badField s)
      else refuse .badField s

/-- LIST PASSAGES (R23): the requesting link's attention line is lowered in the same event. -/
def takeList (l : Link) (body : List Byte) (s : State) : Taken :=
  if inSetup s then refuse .wrongMode s
  else match body with
    | [] =>
      accept (octet s.reg.records.length :: ((queueOrder s.reg.records).map listOctets).flatten) (lowerAttention l s)
    | _ :: _ => refuse .badField s

/-! ## The opening requests (Chapter 2) -/

/-- BEGIN OPENING (R33, R34). -/
def takeBegin (l : Link) (body : List Byte) (s : State) : Taken :=
  if !attended s then refuse .wrongMode s
  else match body with
    | [n] =>
      if n = 0 || 8 < n.toNat then refuse .badField s
      else if s.seq.opening.isSome then refuse .openingActive s
      else if s.leaf.group.state != .stowed || s.closure.state != .roadOpen || anyOccupied s then refuse .interlock s
      else if s.reg.records.all (fun p => p.state != .waiting) then refuse .noSuchPassage s
      else
        let s := setOpening (some ⟨.closingRoad, false, [], 0, none, none, false⟩) s
        let s := formTarget (admitFirst (some l) n.toNat s)
        let list := (s.seq.opening.map (·.list)).getD []
        accept (octet list.length :: list.map octet) (deriveDemands (closeRequest true s))
    | _ => refuse .badField s

/-- What ADMIT TO OPENING does once its record is admitted: the target is formed again in CLOSING_ROAD, raised in
LIFTING and OPEN where the record calls for it, and in OPEN the changeover is weighed (R35). -/
def afterAdmission (angle : Nat) (s : State) : State :=
  let s := if openingState s = some .closingRoad then formTarget s
    else if callsForRaise angle s then takeTargetRaise (withMargin s.conf angle) s
    else s
  deriveDemands (weighChangeover s)

/-- ADMIT TO OPENING (R35). -/
def takeAdmit (l : Link) (body : List Byte) (s : State) : Taken :=
  if !attended s then refuse .wrongMode s
  else match body with
    | [n] =>
      if n = 0 then refuse .badField s
      else match findPassage n.toNat s.reg with
        | none => refuse .noSuchPassage s
        | some p =>
          match s.seq.opening with
          | none => refuse .wrongState s
          | some o =>
            if o.recovery || o.state == .recoveryWait then refuse .wrongState s
            else if o.state == .lowering || o.state == .reopeningRoad then refuse .tooLate s
            else if p.state != .waiting then refuse .wrongState s
            else if Config.admittedListSize ≤ o.list.length then refuse .listFull s
            else if callsForRaise p.angle s && targetRaiseRefused s then refuse .interlock s
            else
              let s := afterAdmission p.angle (admitStep (some l) p s)
              accept (octets16 (openingTarget s)) s
    | _ => refuse .badField s

/-- MARK PASSED (R37). -/
def takeMark (l : Link) (body : List Byte) (s : State) : Taken :=
  if !attended s then refuse .wrongMode s
  else match body with
    | [n] =>
      if n = 0 then refuse .badField s
      else match findPassage n.toNat s.reg with
        | none => refuse .noSuchPassage s
        | some p =>
          if p.state = .cleared then
            accept [] (deriveDemands (weighChangeover (moveRecord (some l) p .completed s)))
          else refuse .wrongState s
    | _ => refuse .badField s

/-- Whether LOWER BRIDGE finds no opening that it may lower (R38). -/
def lowerWrongState (s : State) : Bool :=
  match openingState s with
  | none | some .closingRoad | some .lowering | some .reopeningRoad => true
  | some .lifting => s.leaf.group.state != .halted
  | some .open | some .recoveryWait => false

/-- The fields of an opening as it goes to LOWERING (R38, R39). -/
def loweringFields (o : Opening) : Opening :=
  { o with state := .lowering, served := none, changeover := none, extending := false, target := 0 }

/-- The ADMITTED records returned and the group asked to lower (R38, R39). -/
def beginLowering (l : Link) (s : State) : State :=
  deriveDemands (applyLeaf LeafMotion.lower (updateOpening loweringFields (returnAll (some l) s)))

/-- LOWER BRIDGE (R38). -/
def takeLower (l : Link) (body : List Byte) (s : State) : Taken :=
  if !attended s then refuse .wrongMode s
  else match body with
    | [] =>
      if lowerWrongState s then refuse .wrongState s
      else if (listedRecords s).any isCleared then refuse .vesselsCleared s
      else if (s.leaf.group.state != .heldOpen && s.leaf.group.state != .halted)
          || lowerRefused (roadIsClosed s) s.leaf then refuse .interlock s
      else accept [octet (admittedRecords s).length] (beginLowering l s)
    | _ :: _ => refuse .badField s

/-- ABORT OPENING from CLOSING_ROAD: the records are returned and the road reopens (R39). -/
def abortClosing (l : Link) (s : State) : State :=
  let s := updateOpening (fun o => { o with state := .reopeningRoad, extending := false, target := 0 })
    (returnAll (some l) s)
  deriveDemands (reopenRequest true s)

/-- ABORT OPENING (R39). -/
def takeAbort (l : Link) (body : List Byte) (s : State) : Taken :=
  if !attended s then refuse .wrongMode s
  else match body with
    | [] =>
      if inRecovery s then refuse .wrongState s
      else match openingState s with
        | some .closingRoad =>
          if (listedRecords s).any isCleared then refuse .vesselsCleared s
          else accept [octet (admittedRecords s).length] (abortClosing l s)
        | some .lifting =>
          if (listedRecords s).any isCleared then refuse .vesselsCleared s
          else if s.leaf.group.state == .tripped || lowerRefused (roadIsClosed s) s.leaf then refuse .interlock s
          else accept [octet (admittedRecords s).length] (beginLowering l s)
        | _ => refuse .wrongState s
    | _ :: _ => refuse .badField s

/-- CONTINUE MOTION (R40). -/
def takeContinue (body : List Byte) (s : State) : Taken :=
  if !attended s then refuse .wrongMode s
  else match body with
    | [] =>
      match openingState s with
      | some .lifting | some .open | some .lowering =>
        if s.leaf.group.state != .halted then refuse .wrongState s
        else if continueRefused (roadIsClosed s) s.leaf then refuse .interlock s
        else accept [] (applyLeaf LeafMotion.continueMotion s)
      | some .closingRoad =>
        if inRecovery s || !roadIsClosed s then refuse .wrongState s
        else if raiseRefused (roadIsClosed s) s.leaf then refuse .interlock s
        else accept []
          (applyLeaf (LeafMotion.raise (openingTarget s)) (enterOpeningQuietly .lifting s))
      | none | some .reopeningRoad | some .recoveryWait => refuse .wrongState s
    | _ :: _ => refuse .badField s

/-! ## The closure's requests (Chapter 5) -/

/-- CONFIRM SPAN CLEAR (R118). -/
def takeConfirm (body : List Byte) (s : State) : Taken :=
  if !attended s then refuse .wrongMode s
  else match body with
    | [] =>
      if s.closure.state = .spanClearing ∧ s.closure.clearDwell = .complete then accept [] (takeConfirmation s)
      else refuse .wrongState s
    | _ :: _ => refuse .badField s

/-- WARNING OVERRIDE (R116). -/
def takeWarningOverride (body : List Byte) (s : State) : Taken :=
  if !attended s then refuse .wrongMode s
  else match body with
    | [] => if overrideAllowed s.closure then accept [] (takeOverride s) else refuse .wrongState s
    | _ :: _ => refuse .badField s

/-- ARM SERVICE (R125). -/
def takeArmService (body : List Byte) (s : State) : Taken :=
  if !attended s then refuse .wrongMode s
  else match body with
    | [arm, setting] =>
      match armOf arm with
      | none => refuse .badField s
      | some a =>
        if setting = 0 then accept [] (armOut a s)
        else if setting = 1 then accept [] (armIn a s)
        else refuse .badField s
    | _ => refuse .badField s

/-- CLOSURE RETRY (R124). -/
def takeClosureRetry (body : List Byte) (s : State) : Taken :=
  if !attended s then refuse .wrongMode s
  else match body with
    | [] =>
      if s.closure.state = .closureHeld then accept [] (takeRetry (s.closure.heldIn.getD .closureHeld) s)
      else refuse .wrongState s
    | _ :: _ => refuse .badField s

/-- REOPEN ROAD (R122). -/
def takeReopenRoad (body : List Byte) (s : State) : Taken :=
  if !attended s then refuse .wrongMode s
  else match body with
    | [] =>
      if s.closure.state != .roadUncertain then refuse .wrongState s
      else if s.leaf.group.state != .stowed || s.seq.opening.isSome then refuse .interlock s
      else accept [] (startReopen true s)
    | _ :: _ => refuse .badField s

/-! ## The leaves', the lamps' and the supervisor's requests -/

/-- RESET TRIP taken: the cause goes and the group is HALTED (R101). -/
def resetTripped (m : LeafMotion) : LeafMotion :=
  (m.updateGroup (fun g => { g with cause := none })).enter .halted

/-- RESET TRIP (R101). -/
def takeResetTrip (body : List Byte) (s : State) : Taken :=
  if !attended s then refuse .wrongMode s
  else match body with
    | [] =>
      if s.leaf.group.state != .tripped then refuse .wrongState s
      else if s.leaf.group.emergencyStop
          || (s.leaf.group.cause == some .spanIntrusion && s.leaf.group.spanOccupied) then refuse .interlock s
      else accept [octet GroupState.halted.code] (applyLeaf resetTripped s)
    | _ :: _ => refuse .badField s

/-- How many fault flags a channel holds. -/
def flagCount (c : Channel) : Nat := c.openFlag.toNat + c.shortFlag.toNat + c.partialFlag.toNat

/-- How many channel flags are set (R158). -/
def channelFlags (u : LampUnit) : Nat := (u.channels.toList.map flagCount).sum

/-- Every latched lamp flag cleared (R158). -/
def LampUnit.cleared (u : LampUnit) : LampUnit :=
  { u with
    channels := tabMap (fun c => { c with openFlag := false, shortFlag := false, partialFlag := false }) u.channels
    lowSupply := false }

/-- CLEAR LAMP FAULTS (R158). -/
def takeClearFaults (body : List Byte) (s : State) : Taken :=
  if !attended s then refuse .wrongMode s
  else match body with
    | [] =>
      accept [octet (channelFlags s.lamp), octet s.lamp.lowSupply.toNat] (rederiveHealth (s.withLamp s.lamp.cleared))
    | _ :: _ => refuse .badField s

/-- The reply body of SET DIM LEVEL: the nominal on-time and the on-time in use (R149). -/
def dimReply (c : Configured) (level : Nat) : List Byte :=
  octets16 (nominalOnTime level) ++ octets16 (onTimeInUse level c.blanking)

/-- SET DIM LEVEL (R149). -/
def takeSetDim (body : List Byte) (s : State) : Taken :=
  if !attended s then refuse .wrongMode s
  else match body with
    | [group, level] =>
      if level.toNat < 10 || 100 < level.toNat then refuse .badField s
      else if group = 0 then
        accept (dimReply s.conf level.toNat) (s.withLamp { s.lamp with dimRoad := level.toNat })
      else if group = 1 then
        accept (dimReply s.conf level.toNat) (s.withLamp { s.lamp with dimShipping := level.toNat })
      else refuse .badField s
    | _ => refuse .badField s

/-- The waiting step that RESUME lets the sequencer take (R57). -/
def resumeOpening (s : State) : State :=
  match s.seq.opening with
  | none => s
  | some o =>
    if o.state == .closingRoad && !o.recovery && roadIsClosed s then startLift s
    else if o.state == .lowering && s.leaf.group.state == .stowed then
      reopenRequest false (enterOpening .reopeningRoad s)
    else s

/-- RESUME (R178). -/
def takeResume (body : List Byte) (s : State) : Taken :=
  match s.sup.mode with
  | .setup => refuse .wrongMode s
  | .attended => refuse .wrongState s
  | .unattended =>
    match body with
    | [] =>
      let s := s.withSup { s.sup with mode := .attended, watchdog := some (s.conf.watchdogTime * 1000) }
      accept [octet Mode.attended.code] (deriveDemands (resumeReopen (resumeOpening s)))
    | _ :: _ => refuse .badField s

/-! ## The store's requests and REVERT TO SETUP -/

/-- WRITE CONFIGURATION ITEM (R197). -/
def takeWriteItem (body : List Byte) (s : State) : Taken :=
  if !inSetup s then refuse .wrongMode s
  else match body with
    | [nh, nl, a, b, c, d] =>
      let n := word16 nh nl
      let v := signed32 a b c d
      if h : 1 ≤ n ∧ n ≤ 163 then
        if itemAdmits n v then
          accept [] (s.withStore { s.store with image := s.store.image.set (n - 1) (some v) (by omega) })
        else refuse .badField s
      else refuse .badField s
    | _ => refuse .badField s

/-- COMMIT CONFIGURATION (R199, R200): a failure is answered at once, an accepted commit at the end of the start-up
evaluation. -/
def takeCommit (body : List Byte) (s : State) : Taken :=
  if !inSetup s then refuse .wrongMode s
  else match body with
    | [h, l] =>
      match commitFailure s.store.image (h ++ l) with
      | some n => (s, some ⟨.configInvalid, octets16 n⟩)
      | none => (acceptCommit s, none)
    | _ => refuse .badField s

/-- REVERT TO SETUP (R179, R180). -/
def takeRevert (body : List Byte) (s : State) : Taken :=
  if !attended s then refuse .wrongMode s
  else match body with
    | [] =>
      if s.seq.opening.isSome || s.closure.state != .roadOpen || s.leaf.group.state != .stowed then
        refuse .interlock s
      else accept [octet Mode.setup.code] (revertState s)
    | _ :: _ => refuse .badField s

end Sys2Proof.Machine
end

