-- ==== Sys2Proof/Machine/Port.lean ====
section
/-!
DEFINITION. Chapter 10: the Request Port's intake, its one request in hand, its transmitter, and the meanings of the
commands that arrive as octets or as whole request frames (log entry 5).
-/

namespace Sys2Proof.Machine

open Sys2Proof

/-! ## A good frame (R175, R187, R188) -/

/-- A good frame of the control link restarts a running watchdog at its full time (R175). -/
def restartWatchdog (l : Link) (s : State) : State :=
  match l, s.sup.watchdog with
  | .control, some _ => s.withSup { s.sup with watchdog := some (s.conf.watchdogTime * 1000) }
  | _, _ => s

/-- The request in hand of a link replaced. -/
def setInHand (l : Link) (kind : Option Byte) (s : State) : State := updatePort l (fun p => { p with inHand := kind }) s

/-- A good frame of one kind completes: behind a request in hand it is discarded and sets the overrun flag; otherwise
it becomes the request in hand, a control-only kind from the harbour link is NOT_PERMITTED, and the owning block takes
the rest (R187, R188). -/
def portRequest (l : Link) (kind : Byte) (controlOnly : Bool) (take : State → Taken) (s : State) : State :=
  let s := restartWatchdog l s
  if (s.links.get l).inHand.isSome then updatePort l (fun p => { p with overrun := true }) s
  else
    let s := setInHand l (some kind) s
    if controlOnly && l == .harbour then putReply l kind .notPermitted [] s
    else
      match take s with
      | (t, some a) => putReply l kind a.outcome a.body t
      | (t, none) => t

/-- A request kind of R189: whether it is C only, and its owning block's part. -/
structure KindRow where
  controlOnly : Bool
  take : List Byte → State → Taken

/-- The table of R189; `none` for a kind that is not in it. -/
def kindRow (l : Link) (kind : Byte) : Option KindRow :=
  match kind.toNat with
  | 0x01 => some ⟨false, takeStatus l⟩
  | 0x10 => some ⟨false, takeEnter l⟩
  | 0x11 => some ⟨false, takeAmend l⟩
  | 0x12 => some ⟨false, takeWithdraw l⟩
  | 0x13 => some ⟨false, takeRelease l⟩
  | 0x14 => some ⟨false, takeLookUp⟩
  | 0x15 => some ⟨false, takeList l⟩
  | 0x20 => some ⟨true, takeBegin l⟩
  | 0x21 => some ⟨true, takeAdmit l⟩
  | 0x22 => some ⟨true, takeMark l⟩
  | 0x23 => some ⟨true, takeLower l⟩
  | 0x24 => some ⟨true, takeAbort l⟩
  | 0x25 => some ⟨true, takeContinue⟩
  | 0x30 => some ⟨true, takeConfirm⟩
  | 0x31 => some ⟨true, takeWarningOverride⟩
  | 0x32 => some ⟨true, takeArmService⟩
  | 0x33 => some ⟨true, takeClosureRetry⟩
  | 0x34 => some ⟨true, takeReopenRoad⟩
  | 0x40 => some ⟨true, takeResetTrip⟩
  | 0x41 => some ⟨true, takeClearFaults⟩
  | 0x42 => some ⟨true, takeSetDim⟩
  | 0x50 => some ⟨true, takeResume⟩
  | 0x51 => some ⟨true, takeWriteItem⟩
  | 0x52 => some ⟨true, takeCommit⟩
  | 0x53 => some ⟨true, takeRevert⟩
  | _ => none

/-- A good frame with its kind and body, by the table of R189; a kind outside it is UNKNOWN_REQUEST (R188). -/
def frameTaken (l : Link) (kind : Byte) (body : List Byte) (s : State) : State :=
  match kindRow l kind with
  | some r => portRequest l kind r.controlOnly (r.take body) s
  | none => portRequest l kind false (refuse .unknownRequest) s

/-! ## The intake (R185, R186) -/

/-- A link's intake replaced. -/
def setIntake (l : Link) (i : Intake) (s : State) : State := updatePort l (fun p => { p with intake := i }) s

/-- A complete frame: its length octet, and the L + 2 octets after it. A check that fails discards it (R185, R186). -/
def frameComplete (l : Link) (length : Byte) (octets : List Byte) (s : State) : State :=
  let n := length.toNat
  if octets.drop n = checkOctets (length :: octets.take n) then
    match octets.take n with
    | kind :: body => frameTaken l kind body s
    | [] => s
  else s

/-- An octet with its stop bit reaches an intake (R185). -/
def intakeOctet (l : Link) (b : Byte) (s : State) : State :=
  match (s.links.get l).intake with
  | .hunting => if b = 0xC3#8 then setIntake l .awaitingLength s else s
  | .awaitingLength =>
    if b = 0 || 250 < b.toNat then setIntake l .hunting s else setIntake l (.collecting b []) s
  | .collecting n octets =>
    let octets := octets ++ [b]
    if octets.length = n.toNat + 2 then frameComplete l n octets (setIntake l .hunting s)
    else setIntake l (.collecting n octets) s

/-- OCTET_RECEIVED: an octet without its stop bit sends the intake back to HUNTING (R185). -/
def execOctetReceived (l : Link) (b : Byte) (stopBit : Bool) (s : State) : Host.Outcome State Fault Refusal :=
  .next (if stopBit then intakeOctet l b s else setIntake l .hunting s)

/-- INTER_OCTET_GAP_TIMEOUT: a frame in ASSEMBLING is discarded (R185). -/
def execInterOctetGapTimeout (l : Link) (s : State) : Host.Outcome State Fault Refusal := .next (setIntake l .hunting s)

/-! ## The transmitter (R187) -/

/-- The outcome octet of the reply being sent leaves: it carries the overrun flag out and clears it, and the request is
no longer in hand (R187). -/
def outcomeLeaves (p : LinkPort) : LinkPort :=
  match p.sending with
  | some ⟨r, false⟩ =>
    { p with sending := some ⟨{ r with overrun := p.overrun }, true⟩, overrun := false, inHand := none }
  | some ⟨_, true⟩ | none => p

/-- The reply being sent ends, once its outcome octet has left: a waiting reply goes out at once (R187). -/
def replyEnds (p : LinkPort) : LinkPort :=
  match p.sending with
  | some ⟨_, true⟩ => { p with sending := p.waiting.map (fun r => ⟨r, false⟩), waiting := none }
  | some ⟨_, false⟩ | none => p

/-- OUTCOME_OCTET_SENT (R187). -/
def execOutcomeOctetSent (l : Link) (s : State) : Host.Outcome State Fault Refusal := .next (updatePort l outcomeLeaves s)

/-- REPLY_COMPLETE (R187). -/
def execReplyComplete (l : Link) (s : State) : Host.Outcome State Fault Refusal := .next (updatePort l replyEnds s)

/-! ## Request frames -/

/-- STATUS (R192): a good frame of kind 0x01 completes. -/
def execStatus (l : Link) (body : List Byte) (s : State) : Host.Outcome State Fault Refusal :=
  .next (portRequest l 0x01#8 false (takeStatus l body) s)

/-- ENTER_PASSAGE (R16, R17): a good frame of kind 0x10 completes. -/
def execEnterPassage (l : Link) (body : List Byte) (s : State) : Host.Outcome State Fault Refusal :=
  .next (portRequest l 0x10#8 false (takeEnter l body) s)

/-- AMEND_PASSAGE (R18, R19, R36): a good frame of kind 0x11 completes. -/
def execAmendPassage (l : Link) (body : List Byte) (s : State) : Host.Outcome State Fault Refusal :=
  .next (portRequest l 0x11#8 false (takeAmend l body) s)

/-- WITHDRAW_PASSAGE (R20): a good frame of kind 0x12 completes. -/
def execWithdrawPassage (l : Link) (body : List Byte) (s : State) : Host.Outcome State Fault Refusal :=
  .next (portRequest l 0x12#8 false (takeWithdraw l body) s)

/-- RELEASE_PASSAGE (R21): a good frame of kind 0x13 completes. -/
def execReleasePassage (l : Link) (body : List Byte) (s : State) : Host.Outcome State Fault Refusal :=
  .next (portRequest l 0x13#8 false (takeRelease l body) s)

/-- LOOK_UP_PASSAGE (R22): a good frame of kind 0x14 completes. -/
def execLookUpPassage (l : Link) (body : List Byte) (s : State) : Host.Outcome State Fault Refusal :=
  .next (portRequest l 0x14#8 false (takeLookUp body) s)

/-- LIST_PASSAGES (R23): a good frame of kind 0x15 completes. -/
def execListPassages (l : Link) (body : List Byte) (s : State) : Host.Outcome State Fault Refusal :=
  .next (portRequest l 0x15#8 false (takeList l body) s)

/-- BEGIN_OPENING (R33, R34): a good frame of kind 0x20 completes. -/
def execBeginOpening (l : Link) (body : List Byte) (s : State) : Host.Outcome State Fault Refusal :=
  .next (portRequest l 0x20#8 true (takeBegin l body) s)

/-- ADMIT_TO_OPENING (R35): a good frame of kind 0x21 completes. -/
def execAdmitToOpening (l : Link) (body : List Byte) (s : State) : Host.Outcome State Fault Refusal :=
  .next (portRequest l 0x21#8 true (takeAdmit l body) s)

/-- MARK_PASSED (R37): a good frame of kind 0x22 completes. -/
def execMarkPassed (l : Link) (body : List Byte) (s : State) : Host.Outcome State Fault Refusal :=
  .next (portRequest l 0x22#8 true (takeMark l body) s)

/-- LOWER_BRIDGE (R38): a good frame of kind 0x23 completes. -/
def execLowerBridge (l : Link) (body : List Byte) (s : State) : Host.Outcome State Fault Refusal :=
  .next (portRequest l 0x23#8 true (takeLower l body) s)

/-- ABORT_OPENING (R39): a good frame of kind 0x24 completes. -/
def execAbortOpening (l : Link) (body : List Byte) (s : State) : Host.Outcome State Fault Refusal :=
  .next (portRequest l 0x24#8 true (takeAbort l body) s)

/-- CONTINUE_MOTION (R40): a good frame of kind 0x25 completes. -/
def execContinueMotion (l : Link) (body : List Byte) (s : State) : Host.Outcome State Fault Refusal :=
  .next (portRequest l 0x25#8 true (takeContinue body) s)

/-- CONFIRM_SPAN_CLEAR (R118): a good frame of kind 0x30 completes. -/
def execConfirmSpanClear (l : Link) (body : List Byte) (s : State) : Host.Outcome State Fault Refusal :=
  .next (portRequest l 0x30#8 true (takeConfirm body) s)

/-- WARNING_OVERRIDE (R116): a good frame of kind 0x31 completes. -/
def execWarningOverride (l : Link) (body : List Byte) (s : State) : Host.Outcome State Fault Refusal :=
  .next (portRequest l 0x31#8 true (takeWarningOverride body) s)

/-- ARM_SERVICE (R125): a good frame of kind 0x32 completes. -/
def execArmService (l : Link) (body : List Byte) (s : State) : Host.Outcome State Fault Refusal :=
  .next (portRequest l 0x32#8 true (takeArmService body) s)

/-- CLOSURE_RETRY (R124): a good frame of kind 0x33 completes. -/
def execClosureRetry (l : Link) (body : List Byte) (s : State) : Host.Outcome State Fault Refusal :=
  .next (portRequest l 0x33#8 true (takeClosureRetry body) s)

/-- REOPEN_ROAD (R122): a good frame of kind 0x34 completes. -/
def execReopenRoad (l : Link) (body : List Byte) (s : State) : Host.Outcome State Fault Refusal :=
  .next (portRequest l 0x34#8 true (takeReopenRoad body) s)

/-- RESET_TRIP (R101): a good frame of kind 0x40 completes. -/
def execResetTrip (l : Link) (body : List Byte) (s : State) : Host.Outcome State Fault Refusal :=
  .next (portRequest l 0x40#8 true (takeResetTrip body) s)

/-- CLEAR_LAMP_FAULTS (R158): a good frame of kind 0x41 completes. -/
def execClearLampFaults (l : Link) (body : List Byte) (s : State) : Host.Outcome State Fault Refusal :=
  .next (portRequest l 0x41#8 true (takeClearFaults body) s)

/-- SET_DIM_LEVEL (R149): a good frame of kind 0x42 completes. -/
def execSetDimLevel (l : Link) (body : List Byte) (s : State) : Host.Outcome State Fault Refusal :=
  .next (portRequest l 0x42#8 true (takeSetDim body) s)

/-- RESUME (R178): a good frame of kind 0x50 completes. -/
def execResume (l : Link) (body : List Byte) (s : State) : Host.Outcome State Fault Refusal :=
  .next (portRequest l 0x50#8 true (takeResume body) s)

/-- WRITE_CONFIGURATION_ITEM (R197): a good frame of kind 0x51 completes. -/
def execWriteConfigurationItem (l : Link) (body : List Byte) (s : State) : Host.Outcome State Fault Refusal :=
  .next (portRequest l 0x51#8 true (takeWriteItem body) s)

/-- COMMIT_CONFIGURATION (R199, R200): a good frame of kind 0x52 completes. -/
def execCommitConfiguration (l : Link) (body : List Byte) (s : State) : Host.Outcome State Fault Refusal :=
  .next (portRequest l 0x52#8 true (takeCommit body) s)

/-- REVERT_TO_SETUP (R179, R180): a good frame of kind 0x53 completes. -/
def execRevertToSetup (l : Link) (body : List Byte) (s : State) : Host.Outcome State Fault Refusal :=
  .next (portRequest l 0x53#8 true (takeRevert body) s)

end Sys2Proof.Machine
end

