-- ==== Sys2Proof/Machine/Events.lean ====
section
/-!
DEFINITION. The meanings of the commands that are events of the field: resets, timers, inputs, the field loop's answers
and the lamps. A command whose timer is stopped, or that its part of the device cannot take, changes nothing (log
entry 4).
-/

namespace Sys2Proof.Machine

open Sys2Proof

/-! ## Resets -/

/-- POWER_ON (R27, R60, R77, R104, R130, R142, R161, R173, R183, R195, R196). -/
def execPowerOn (s : State) : Host.Outcome State Fault Refusal := .next (resetState s)

/-- RESET_LINE_RELEASE: as power-on (R202). -/
def execResetLineRelease (s : State) : Host.Outcome State Fault Refusal := .next (resetState s)

/-! ## The Passage Register and the Opening Sequencer -/

/-- A record's lifetime reduced by one minute, EXPIRED when it reaches 0 (R11). -/
def ageRecord (p : Passage) : Passage :=
  match p.state, p.lifetime with
  | .waiting, some n => if n ≤ 1 then { p with state := .expired, lifetime := none } else { p with lifetime := some (n - 1) }
  | _, _ => p

/-- Whether a minute timer expiry ends the record (R11). -/
def expires (p : Passage) : Bool := p.state == .waiting && (ageRecord p).state == .expired

/-- MINUTE_TIMER_EXPIRY (R10, R11, R25). -/
def execMinuteTimerExpiry (s : State) : Host.Outcome State Fault Refusal :=
  match s.reg.minuteTimer with
  | none => .next s
  | some _ =>
    let ended := s.reg.records.filter expires
    let s := s.withReg { s.reg with records := s.reg.records.map ageRecord, minuteTimer := some Config.minuteMs }
    .next (ended.foldl (fun t p => notifyOrigin none p t) s)

/-- CHANGEOVER_DWELL_EXPIRY: the served direction switches (R48). -/
def execChangeoverDwellExpiry (s : State) : Host.Outcome State Fault Refusal :=
  match s.seq.opening with
  | some ⟨.open, recovery, list, target, some d, some _, extending⟩ =>
    .next (deriveDemands (weighChangeover
      (setOpening (some ⟨.open, recovery, list, target, some (otherDirection d), none, extending⟩) s)))
  | _ => .next s

/-! ## The Leaf Motion Controller -/

/-- CONTROL_PERIOD (R61, R62): while the timer is stopped only the encoder inputs move. -/
def execControlPeriod (counts : PerDrive (BitVec 24)) (s : State) : Host.Outcome State Fault Refusal :=
  let s := s.withPins { s.pins with encoders := counts }
  match s.leaf.periodTimer with
  | none => .next s
  | some _ => .next (runPeriod counts s)

/-- SETTLE_DWELL_COMPLETE (R92). -/
def execSettleDwellComplete (s : State) : Host.Outcome State Fault Refusal := .next (applyLeaf settleComplete s)

/-- SEAT_DWELL_COMPLETE (R93). -/
def execSeatDwellComplete (s : State) : Host.Outcome State Fault Refusal := .next (applyLeaf seatComplete s)

/-- SETTLE_TIMEOUT (R92, R93). -/
def execSettleTimeout (s : State) : Host.Outcome State Fault Refusal := .next (applyLeaf restTimeout s)

/-- EMERGENCY_STOP_CHANGE (R97); a level that stands already is no change. -/
def execEmergencyStopChange (active : Bool) (s : State) : Host.Outcome State Fault Refusal :=
  if s.leaf.group.emergencyStop = active then .next s else .next (applyLeaf (LeafMotion.emergencyStop active) s)

/-- LOCK_SWITCH_CHANGE (R80, R88 to R91); a level that stands already is no change. -/
def execLockSwitchChange (lock : LockId) (switch : LockSwitch) (made : Bool) (s : State) :
    Host.Outcome State Fault Refusal :=
  let l := s.leaf.locks.get lock
  let old := match switch with
    | .driven => l.drivenSwitch
    | .withdrawn => l.withdrawnSwitch
  if old = made then .next s else .next (lockSwitchEvent lock switch made s)

/-- LOCK_TIMER_EXPIRY (R88, R89). -/
def execLockTimerExpiry (lock : LockId) (s : State) : Host.Outcome State Fault Refusal :=
  .next (applyLeaf (lockTimeout lock) s)

/-! ## The Road Closure Unit -/

/-- ZONE_INPUT_CHANGE (R112). -/
def execZoneInputChange (z : ZoneId) (active : Bool) (s : State) : Host.Outcome State Fault Refusal :=
  .next (zoneInput z active s)

/-- ZONE_DEBOUNCE_EXPIRY (R112). -/
def execZoneDebounceExpiry (z : ZoneId) (s : State) : Host.Outcome State Fault Refusal := .next (debounceExpired z s)

/-- PHASE_TIMER_EXPIRY (R114, R115). -/
def execPhaseTimerExpiry (s : State) : Host.Outcome State Fault Refusal := .next (phaseExpired s)

/-- CLEAR_DWELL_COMPLETE (R118). -/
def execClearDwellComplete (s : State) : Host.Outcome State Fault Refusal := .next (clearDwellComplete s)

/-- RETRY_DWELL_EXPIRY (R110). -/
def execRetryDwellExpiry (a : ArmId) (s : State) : Host.Outcome State Fault Refusal := .next (retryExpired a s)

/-- TRAVEL_TIMER_EXPIRY (R109). -/
def execTravelTimerExpiry (a : ArmId) (s : State) : Host.Outcome State Fault Refusal := .next (travelExpired a s)

/-! ## The Link Supervisor -/

/-- WATCHDOG_EXPIRY (R176). -/
def execWatchdogExpiry (s : State) : Host.Outcome State Fault Refusal :=
  match s.sup.mode, s.sup.watchdog with
  | .attended, some _ =>
    .next (deriveDemands (raiseAttention .control .mode
      (s.withSup { s.sup with mode := .unattended, watchdog := none })))
  | _, _ => .next s

/-- FAULT_PULSE_TIMER_EXPIRY (R182). -/
def execFaultPulseTimerExpiry (s : State) : Host.Outcome State Fault Refusal :=
  .next (s.withSup { s.sup with pulseTimer := none })

/-! ## The Field Loop Master -/

/-- SCAN_TIMER_EXPIRY (R141). -/
def execScanTimerExpiry (s : State) : Host.Outcome State Fault Refusal := .next (scanExpired s)

/-- TURN_START (R133). -/
def execTurnStart (s : State) : Host.Outcome State Fault Refusal := .next (startTurn s)

/-- ADDRESS_ANSWER (R134). -/
def execAddressAnswer (accepts : Bool) (s : State) : Host.Outcome State Fault Refusal :=
  .next (addressAnswered accepts s)

/-- COMMAND_ANSWER (R134, R136). -/
def execCommandAnswer (accepts : Bool) (s : State) : Host.Outcome State Fault Refusal :=
  .next (commandAnswered accepts s)

/-- REPORT_OCTET_RECEIVED (R134). -/
def execReportOctetReceived (b : Byte) (s : State) : Host.Outcome State Fault Refusal := .next (reportOctet b s)

/-- ANSWER_WINDOW_TIMEOUT (R135). -/
def execAnswerWindowTimeout (s : State) : Host.Outcome State Fault Refusal := .next (windowClosed s)

/-- TURN_END (R137, R138, R141, R201). -/
def execTurnEnd (s : State) : Host.Outcome State Fault Refusal := .next (endTurn s)

/-! ## The Lamp Unit -/

/-- PULSE_PERIOD_START: a half that has held its 50 periods and has not been ended by its own command ends first (R146
to R148, log entry 37). -/
def execPulsePeriodStart (s : State) : Host.Outcome State Fault Refusal :=
  .next (if lampsRun s then
      let s := endFlashHalf s
      s.withLamp (lampsAtPeriod s.conf s.lamp)
    else s)

/-- LAMP_FAULT_LATCH: a condition that has held for the deglitch time in a pulse's window sets its flag, if it is clear.
A window that ends with its pulse, at the period end, may latch at that instant after the events that fall in it (R151,
R154, R157, R159). -/
def execLampFaultLatch (i : ChannelId) (kind : LampFault) (current voltage supply : Nat) (s : State) :
    Host.Outcome State Fault Refusal :=
  let s := noteSupply supply s
  let ch := s.lamp.channels[i]
  .next (if ch.diagnosing && faultCondition s.conf ch kind current voltage supply && !hasFault ch kind then
      signalLatch (faultMasked s.conf kind) (rederiveHealth (updateChannel i (fun c => setFault c kind) s))
    else s)

/-- EVALUATION_WINDOW_END: the pulse was fully diagnosed when the supply stayed at or above the low-supply threshold and
the undervoltage condition stayed clear (R150, R155). -/
def execEvaluationWindowEnd (i : ChannelId) (lowestSupply clearFor : Nat) (s : State) :
    Host.Outcome State Fault Refusal :=
  let full := decide (s.conf.lowSupplyThreshold ≤ lowestSupply)
    && voltageStayedClear s.conf s.lamp s.lamp.channels[i] clearFor
  .next (if s.lamp.channels[i].output then updateChannel i (channelAtWindowEnd full) s else s)

/-- FLASH_HALF_END: in a half that has not held its 50 periods it changes nothing (R147, R155, R156). -/
def execFlashHalfEnd (s : State) : Host.Outcome State Fault Refusal := .next (endFlashHalf s)

/-- LOW_SUPPLY_LATCH (R152, R157). -/
def execLowSupplyLatch (supply : Nat) (s : State) : Host.Outcome State Fault Refusal :=
  let s := noteSupply supply s
  .next (if lampsRun s && decide (supply < s.conf.lowSupplyThreshold) && !s.lamp.lowSupply then
      signalLatch s.conf.maskLowSupply (s.withLamp { s.lamp with lowSupply := true })
    else s)

/-- UNDERVOLTAGE_CHANGE: the condition follows the supply, health is derived again, and the period notes that the
condition has been set in it (R150, R152, R154). -/
def execUndervoltageChange (supply : Nat) (s : State) : Host.Outcome State Fault Refusal :=
  let s := noteSupply supply s
  let under := decide (supply < s.conf.undervoltageThreshold)
  .next (if lampsRun s && s.lamp.undervoltage != under then
      rederiveHealth (s.withLamp { s.lamp with undervoltage := under, undervoltageSeen := true })
    else s)

end Sys2Proof.Machine
end

