-- ==== Sys2Proof/Machine/Dispatch.lean ====
section
/-!
DEFINITION. The meaning of every command: one arm per constructor of `Instr`, one direct call of its meaning.
-/

namespace Sys2Proof.Machine

open Sys2Proof

/-- The effect of a command on everything but the queue. -/
def exec (i : Instr) (s : State) : Host.Outcome State Fault Refusal :=
  match i with
  | .powerOn => Sys2Proof.Machine.execPowerOn s
  | .resetLineRelease => Sys2Proof.Machine.execResetLineRelease s
  | .octetReceived l b stopBit => Sys2Proof.Machine.execOctetReceived l b stopBit s
  | .interOctetGapTimeout l => Sys2Proof.Machine.execInterOctetGapTimeout l s
  | .outcomeOctetSent l => Sys2Proof.Machine.execOutcomeOctetSent l s
  | .replyComplete l => Sys2Proof.Machine.execReplyComplete l s
  | .status l b => Sys2Proof.Machine.execStatus l b s
  | .enterPassage l b => Sys2Proof.Machine.execEnterPassage l b s
  | .amendPassage l b => Sys2Proof.Machine.execAmendPassage l b s
  | .withdrawPassage l b => Sys2Proof.Machine.execWithdrawPassage l b s
  | .releasePassage l b => Sys2Proof.Machine.execReleasePassage l b s
  | .lookUpPassage l b => Sys2Proof.Machine.execLookUpPassage l b s
  | .listPassages l b => Sys2Proof.Machine.execListPassages l b s
  | .beginOpening l b => Sys2Proof.Machine.execBeginOpening l b s
  | .admitToOpening l b => Sys2Proof.Machine.execAdmitToOpening l b s
  | .markPassed l b => Sys2Proof.Machine.execMarkPassed l b s
  | .lowerBridge l b => Sys2Proof.Machine.execLowerBridge l b s
  | .abortOpening l b => Sys2Proof.Machine.execAbortOpening l b s
  | .continueMotion l b => Sys2Proof.Machine.execContinueMotion l b s
  | .confirmSpanClear l b => Sys2Proof.Machine.execConfirmSpanClear l b s
  | .warningOverride l b => Sys2Proof.Machine.execWarningOverride l b s
  | .armService l b => Sys2Proof.Machine.execArmService l b s
  | .closureRetry l b => Sys2Proof.Machine.execClosureRetry l b s
  | .reopenRoad l b => Sys2Proof.Machine.execReopenRoad l b s
  | .resetTrip l b => Sys2Proof.Machine.execResetTrip l b s
  | .clearLampFaults l b => Sys2Proof.Machine.execClearLampFaults l b s
  | .setDimLevel l b => Sys2Proof.Machine.execSetDimLevel l b s
  | .resume l b => Sys2Proof.Machine.execResume l b s
  | .writeConfigurationItem l b => Sys2Proof.Machine.execWriteConfigurationItem l b s
  | .commitConfiguration l b => Sys2Proof.Machine.execCommitConfiguration l b s
  | .revertToSetup l b => Sys2Proof.Machine.execRevertToSetup l b s
  | .minuteTimerExpiry => Sys2Proof.Machine.execMinuteTimerExpiry s
  | .controlPeriod counts => Sys2Proof.Machine.execControlPeriod counts s
  | .settleDwellComplete => Sys2Proof.Machine.execSettleDwellComplete s
  | .seatDwellComplete => Sys2Proof.Machine.execSeatDwellComplete s
  | .settleTimeout => Sys2Proof.Machine.execSettleTimeout s
  | .emergencyStopChange active => Sys2Proof.Machine.execEmergencyStopChange active s
  | .lockSwitchChange lock switch made => Sys2Proof.Machine.execLockSwitchChange lock switch made s
  | .lockTimerExpiry lock => Sys2Proof.Machine.execLockTimerExpiry lock s
  | .zoneInputChange zone active => Sys2Proof.Machine.execZoneInputChange zone active s
  | .zoneDebounceExpiry zone => Sys2Proof.Machine.execZoneDebounceExpiry zone s
  | .changeoverDwellExpiry => Sys2Proof.Machine.execChangeoverDwellExpiry s
  | .watchdogExpiry => Sys2Proof.Machine.execWatchdogExpiry s
  | .faultPulseTimerExpiry => Sys2Proof.Machine.execFaultPulseTimerExpiry s
  | .phaseTimerExpiry => Sys2Proof.Machine.execPhaseTimerExpiry s
  | .clearDwellComplete => Sys2Proof.Machine.execClearDwellComplete s
  | .retryDwellExpiry arm => Sys2Proof.Machine.execRetryDwellExpiry arm s
  | .travelTimerExpiry arm => Sys2Proof.Machine.execTravelTimerExpiry arm s
  | .scanTimerExpiry => Sys2Proof.Machine.execScanTimerExpiry s
  | .turnStart => Sys2Proof.Machine.execTurnStart s
  | .commandAnswer accept => Sys2Proof.Machine.execCommandAnswer accept s
  | .answerWindowTimeout => Sys2Proof.Machine.execAnswerWindowTimeout s
  | .turnEnd => Sys2Proof.Machine.execTurnEnd s
  | .pulsePeriodStart => Sys2Proof.Machine.execPulsePeriodStart s
  | .lampFaultLatch channel kind current voltage supply => Sys2Proof.Machine.execLampFaultLatch channel kind current voltage supply s
  | .evaluationWindowEnd channel lowestSupply clearFor => Sys2Proof.Machine.execEvaluationWindowEnd channel lowestSupply clearFor s
  | .flashHalfEnd => Sys2Proof.Machine.execFlashHalfEnd s
  | .lowSupplyLatch supply => Sys2Proof.Machine.execLowSupplyLatch supply s
  | .undervoltageChange supply => Sys2Proof.Machine.execUndervoltageChange supply s
  | .addressAnswer accept => Sys2Proof.Machine.execAddressAnswer accept s
  | .reportOctetReceived b => Sys2Proof.Machine.execReportOctetReceived b s

end Sys2Proof.Machine
end

