-- ==== Sys2Proof/Safety.lean ====
section
/-!
DEFINITION. The terms in which the statements speak of runs: what a command leaves as it was, when a link is ready for a
request and what its answer is, the conditions of the leaf records, of the road, of the supervisor, of the attention
lines and of the register that no step may break, and the commands in sequence.
-/

namespace Sys2Proof.Machine

open Sys2Proof

/-! ## What a command leaves as it was -/

/-- The parts of the state that a frame speaks of; each link's machinery is a part of its own. -/
inductive Part where
  | pending
  | freeCount
  | pins
  | controlPort
  | harbourPort
  | reg
  | seq
  | leaf
  | closure
  | arms
  | zones
  | loop
  | stations
  | lamp
  | display
  | sup
  | store
  | cfg
  deriving DecidableEq, Repr

/-- The part is the same in both states. -/
def Part.same (s t : State) : Part → Prop
  | .pending => t.pending = s.pending
  | .freeCount => t.freeCount = s.freeCount
  | .pins => t.pins = s.pins
  | .controlPort => t.links.control = s.links.control
  | .harbourPort => t.links.harbour = s.links.harbour
  | .reg => t.reg = s.reg
  | .seq => t.seq = s.seq
  | .leaf => t.leaf = s.leaf
  | .closure => t.closure = s.closure
  | .arms => t.arms = s.arms
  | .zones => t.zones = s.zones
  | .loop => t.loop = s.loop
  | .stations => t.stations = s.stations
  | .lamp => t.lamp = s.lamp
  | .display => t.display = s.display
  | .sup => t.sup = s.sup
  | .store => t.store = s.store
  | .cfg => t.cfg = s.cfg

/-- Every part outside the list is the same in both states. -/
def unchangedBut (changed : List Part) (s t : State) : Prop := ∀ p, p ∉ changed → p.same s t

/-- The part that holds a link's machinery. -/
def portPart : Link → Part
  | .control => .controlPort
  | .harbour => .harbourPort

/-! ## Requests and their answers (R175, R187) -/

/-- The link, the kind and the body of a command that is a request (R189). -/
def requestOf : Instr → Option (Link × Byte × List Byte)
  | .status l b => some (l, 0x01#8, b)
  | .enterPassage l b => some (l, 0x10#8, b)
  | .amendPassage l b => some (l, 0x11#8, b)
  | .withdrawPassage l b => some (l, 0x12#8, b)
  | .releasePassage l b => some (l, 0x13#8, b)
  | .lookUpPassage l b => some (l, 0x14#8, b)
  | .listPassages l b => some (l, 0x15#8, b)
  | .beginOpening l b => some (l, 0x20#8, b)
  | .admitToOpening l b => some (l, 0x21#8, b)
  | .markPassed l b => some (l, 0x22#8, b)
  | .lowerBridge l b => some (l, 0x23#8, b)
  | .abortOpening l b => some (l, 0x24#8, b)
  | .continueMotion l b => some (l, 0x25#8, b)
  | .confirmSpanClear l b => some (l, 0x30#8, b)
  | .warningOverride l b => some (l, 0x31#8, b)
  | .armService l b => some (l, 0x32#8, b)
  | .closureRetry l b => some (l, 0x33#8, b)
  | .reopenRoad l b => some (l, 0x34#8, b)
  | .resetTrip l b => some (l, 0x40#8, b)
  | .clearLampFaults l b => some (l, 0x41#8, b)
  | .setDimLevel l b => some (l, 0x42#8, b)
  | .resume l b => some (l, 0x50#8, b)
  | .writeConfigurationItem l b => some (l, 0x51#8, b)
  | .commitConfiguration l b => some (l, 0x52#8, b)
  | .revertToSetup l b => some (l, 0x53#8, b)
  | .powerOn | .resetLineRelease | .octetReceived _ _ _ | .interOctetGapTimeout _ | .outcomeOctetSent _
  | .replyComplete _ | .minuteTimerExpiry | .controlPeriod _ | .settleDwellComplete | .seatDwellComplete
  | .settleTimeout | .emergencyStopChange _ | .lockSwitchChange _ _ _ | .lockTimerExpiry _ | .zoneInputChange _ _
  | .zoneDebounceExpiry _ | .changeoverDwellExpiry | .watchdogExpiry | .faultPulseTimerExpiry | .phaseTimerExpiry
  | .clearDwellComplete | .retryDwellExpiry _ | .travelTimerExpiry _ | .scanTimerExpiry | .turnStart
  | .commandAnswer _ | .answerWindowTimeout | .turnEnd | .pulsePeriodStart | .lampFaultLatch _ _ _ _ _
  | .evaluationWindowEnd _ _ _ | .flashHalfEnd | .lowSupplyLatch _ | .undervoltageChange _ | .addressAnswer _
  | .reportOctetReceived _ => none

/-- A link is ready for a request: none in hand, and no reply being sent. -/
def readyFor (l : Link) (s : State) : Prop :=
  (s.links.get l).inHand = none ∧ (s.links.get l).sending = none

/-- The request of a kind has been taken in hand and its reply handed to an idle transmitter: the rest of the link's
machinery, the attention record apart, stands as it was (R187). -/
def answered (l : Link) (kind : Byte) (outcome : OutcomeCode) (body : List Byte) (s t : State) : Prop :=
  (t.links.get l).inHand = some kind ∧ (t.links.get l).sending = some ⟨⟨kind, outcome, false, body⟩, false⟩
    ∧ (t.links.get l).waiting = (s.links.get l).waiting ∧ (t.links.get l).overrun = (s.links.get l).overrun
    ∧ (t.links.get l).intake = (s.links.get l).intake

/-- The watchdog after a good frame of a link: a good frame of the control link restarts a running watchdog at its full
time, and any other frame leaves it as it stands (R175). -/
def frameWatchdog (l : Link) (s : State) : Option Nat :=
  match l, s.sup.watchdog with
  | .control, some _ => some (s.conf.watchdogTime * 1000)
  | .control, none => none
  | .harbour, w => w

/-- The supervisor's record after a good frame of a link that changes nothing else in it (R175). -/
def framedSup (l : Link) (s : State) : Supervisor := { s.sup with watchdog := frameWatchdog l s }

/-- The request has been answered with an outcome and a reply body, and beside the link's machinery and the watchdog
only the parts listed may have changed; the attention records stand. -/
def onlyAnswered (l : Link) (kind : Byte) (outcome : OutcomeCode) (body : List Byte) (changed : List Part)
    (s t : State) : Prop :=
  answered l kind outcome body s t ∧ (t.links.get l).attention = (s.links.get l).attention
    ∧ t.sup = framedSup l s ∧ unchangedBut (portPart l :: .sup :: changed) s t

/-- The mode refusal of a request kind in a mode, `none` where the owning block goes on to its next check (R189). -/
def modeRefusal (kind : Byte) (mode : Mode) : Option OutcomeCode :=
  let k := kind.toNat
  if k < 0x10 then none
  else if k < 0x20 then (if mode = .setup then some .wrongMode else none)
  else if k = 0x50 then
    match mode with
    | .setup => some .wrongMode
    | .attended => some .wrongState
    | .unattended => none
  else if k = 0x51 ∨ k = 0x52 then (if mode = .setup then none else some .wrongMode)
  else if mode = .attended then none else some .wrongMode

/-- The attention record of a passage's origin after a change by a request of a link: raised with the passage record
cause by the other link's request, as it stood after its own (R25). -/
def toldAttention (l : Link) (p : Passage) (s : State) : Attention :=
  let a := (s.links.get p.origin).attention
  if l = p.origin then a else ⟨true, a.causes.add .passageRecord⟩

/-- The clearance table is non-decreasing (R67). -/
def risingTable (t : Vector Nat 17) : Prop := ∀ k, k < 16 → tablePoint t k ≤ tablePoint t (k + 1)

/-- No in-service arm stands LOST or LOCAL (R111). -/
def noStandingFault (s : State) : Prop :=
  ∀ a, (s.arm a).inService = true → (s.arm a).lost = false ∧ (s.arm a).reported ≠ .localControl

/-! ## What a change of the leaf group does (R82, R100, R103, R181) -/

/-- The leaf records after an immediate trip: the cause, the brakes set with the demands at 0 and the saturated flags
clear, the lock commands removed and every count cleared (R100, log entry 39). -/
def trippedLeaf (cause : TripCause) (m : LeafMotion) : LeafMotion :=
  { m with
    group := { m.group with
      state := .tripped, cause := some cause, pendingLower := false, settleCount := 0, seatCount := 0, restCount := 0 }
    drives := m.drives.map (fun d => { d with brakeReleased := false, demand := 0, saturated := false })
    locks := m.locks.map (fun k => { k with command := none, timer := none }) }

/-- The opening record after a report of TRIPPED or HALTED: in OPEN extending clears (R45). -/
def stoppedOpening (s : State) : Option Opening :=
  s.seq.opening.map (fun o => if o.state = .open then { o with extending := false } else o)

/-- The demands of both heads stand as R58 gives them. -/
def demandsStand (t : State) : Prop := ∀ d, t.seq.demand.get d = demandFor d t

/-- A change of group state by an event of the field has been reported: the Link Supervisor knows whether the group is
TRIPPED, the control line is raised with the causes listed, the demands stand, and beside the leaf records, the opening,
what the heads show and the further parts listed nothing has changed (R59, R103, R181). -/
def groupReportedWith (changed : List Part) (causes : List AttentionCause) (s t : State) : Prop :=
  t.sup = { s.sup with groupTripped := t.leaf.group.state == .tripped, dark := t.sup.dark }
    ∧ t.links.control =
        { s.links.control with attention := ⟨true, causes.foldl CauseSet.add s.links.control.attention.causes⟩ }
    ∧ t.seq.clearance = s.seq.clearance ∧ demandsStand t
    ∧ unchangedBut ([.controlPort, .seq, .leaf, .lamp, .display, .sup] ++ changed) s t

/-- A change of group state has been reported, and nothing has followed from it at the other blocks (R59, R103, R181). -/
def groupReported (causes : List AttentionCause) (s t : State) : Prop := groupReportedWith [] causes s t

/-- An immediate trip with a cause, from the leaf records given, has been taken and reported (R100, R103). -/
def trips (cause : TripCause) (m : LeafMotion) (s t : State) : Prop :=
  t.leaf = trippedLeaf cause m ∧ t.seq.opening = stoppedOpening s ∧ groupReported [.leafGroup] s t

/-- A control request has been answered OK with a change of the group reported: as `groupReported`, with the link's
answer and the watchdog, and with the further parts listed (R59, R103, R187). -/
def answeredMoving (kind : Byte) (body : List Byte) (changed : List Part) (s t : State) : Prop :=
  answered .control kind .ok body s t
    ∧ (t.links.get .control).attention = ⟨true, (s.links.get .control).attention.causes.add .leafGroup⟩
    ∧ t.sup = { framedSup .control s with groupTripped := t.leaf.group.state == .tripped, dark := t.sup.dark }
    ∧ t.seq.clearance = s.seq.clearance ∧ demandsStand t
    ∧ unchangedBut ([.controlPort, .seq, .leaf, .lamp, .display, .sup] ++ changed) s t

/-- The group after a motion start: its state, its reference at the middle of the leaves within 0 to 144 000, no speed,
and the brakes released (R71, R83). -/
def startedMotion (st : GroupState) (target : Nat) (m n : LeafMotion) : Prop :=
  n.group.state = st ∧ n.group.target = some target ∧ n.group.pendingLower = false
    ∧ (∃ up, n.group.profile = some ⟨(max 0 (min 144000 ((m.west.angle + m.east.angle) / 2))).toNat, 0, up⟩)
    ∧ (∀ d, (n.drives.get d) = { m.drives.get d with brakeReleased := true })
    ∧ n.locks = m.locks ∧ n.west = m.west ∧ n.east = m.east

/-! ## What a control period finds (R92 to R96) -/

/-- The magnitude of a leaf's twist reaches the trip level (R95). -/
abbrev twistFound (c : Configured) (m : LeafMotion) : Prop :=
  c.twistTrip ≤ m.west.twist.natAbs ∨ c.twistTrip ≤ m.east.twist.natAbs

/-- The magnitude of the skew reaches the trip level (R96). -/
abbrev skewFound (c : Configured) (m : LeafMotion) : Prop := c.skewTrip ≤ m.group.skew.natAbs

/-- Some drive's range flag is set (R96). -/
def rangeFound (m : LeafMotion) : Prop := ∃ d, (m.drives.get d).rangeFlag = true

/-- Some drive's following error reaches the trip level (R96). -/
def followingFound (c : Configured) (m : LeafMotion) : Prop :=
  ∃ d, c.followingTrip ≤ (m.drives.get d).followingError.natAbs

/-- A period's records show nothing that trips or stops the group (R95, R96). -/
def nothingFound (c : Configured) (m : LeafMotion) : Prop :=
  ¬twistFound c m ∧ ¬rangeFound m ∧ ¬skewFound c m ∧ ¬followingFound c m

/-- The brakes are set with the demands at 0 and the saturated flags clear (R76, R82, log entry 39). -/
def brakesSet (m : LeafMotion) : Prop :=
  ∀ d, (m.drives.get d).brakeReleased = false ∧ (m.drives.get d).demand = 0 ∧ (m.drives.get d).saturated = false

/-- The settle, seat and rest-phase counts are 0 (R79). -/
def countsCleared (g : Group) : Prop := g.settleCount = 0 ∧ g.seatCount = 0 ∧ g.restCount = 0

/-- The group stands TRIPPED with a cause, and it is known: the brakes set, the counts and pending lower cleared, the Link
Supervisor told, and the control line raised (R99, R100, R103, R181). -/
def standsTripped (cause : TripCause) (t : State) : Prop :=
  t.leaf.group.state = .tripped ∧ t.leaf.group.cause = some cause ∧ t.leaf.group.pendingLower = false
    ∧ countsCleared t.leaf.group ∧ brakesSet t.leaf
    ∧ t.sup.groupTripped = true ∧ t.links.control.attention.raised = true
    ∧ t.links.control.attention.causes.leafGroup = true

/-- The group has taken an immediate trip with a cause: it stands TRIPPED, and every lock command is removed (R100). -/
def trippedNow (cause : TripCause) (t : State) : Prop :=
  standsTripped cause t ∧ ∀ k, (t.leaf.locks.get k).command = none ∧ (t.leaf.locks.get k).timer = none

/-- A stop has come to its end with a cause: the group stands TRIPPED, and the end of a stop commands no lock (R99). -/
def stoppedWith (cause : TripCause) (s t : State) : Prop := standsTripped cause t ∧ t.leaf.locks = s.leaf.locks

/-- The group is in a stop with a cause, or comes to the end of it at once (R96, R99, R100). -/
def stopsWith (cause : TripCause) (s t : State) : Prop :=
  stoppedWith cause s t ∨
    (t.leaf.group.state = .stopping ∧ t.leaf.group.cause = some cause ∧ t.leaf.group.pendingLower = false
      ∧ t.leaf.locks = s.leaf.locks)

/-- Whether a clearance update clears a record, from the opening, the group and the clearance as they then stand (R46). -/
def clearedByUpdate (t : State) (p : Passage) : Bool :=
  match t.seq.opening with
  | some o =>
    o.state == .open && o.changeover == none && t.sup.mode == .attended
      && (t.leaf.group.state == .heldOpen || (t.leaf.group.state == .raising && o.extending))
      && o.list.contains p.number && p.state == .admitted && o.served == some p.direction
      && decide (p.clearance ≤ t.seq.clearance)
  | none => false

/-- The brakes, demands, saturated flags and lock commands of the leaf records are those of the group state (R76, R81, R82,
log entry 39). -/
def leafTable (m : LeafMotion) : Prop :=
  (∀ d, (m.drives.get d).brakeReleased = m.group.state.profileRuns)
    ∧ (m.group.state.profileRuns = false → ∀ d, (m.drives.get d).demand = 0 ∧ (m.drives.get d).saturated = false)
    ∧ (∀ k, (m.locks.get k).command =
        match m.group.state with
        | .unlocking => some .withdraw
        | .locking => if k = .centre ∧ bothSeated m = false then none else some .drive
        | .inactive | .stowed | .raising | .settling | .heldOpen | .lowering | .seating | .stopping | .tripped
        | .halted => none)

/-! ## Arms as they are commanded (R109) -/

/-- An arm that has been commanded just now: the position, acknowledged no, the travel timer from zero, and the command
in its station's slot (R109). -/
def commandedNow (p : ArmPosition) (a : ArmId) (t : State) : Prop :=
  (t.arm a).commanded = some p ∧ (t.arm a).acknowledged = false ∧ (t.arm a).travelTimer = some 0
    ∧ (t.station a).slot = some (commandFor p)

/-- The in-service arms of a list have been commanded just now, and every other arm and station record stands. -/
def commandedOnly (p : ArmPosition) (arms : List ArmId) (s t : State) : Prop :=
  ∀ a, if a ∈ arms ∧ (s.arm a).inService = true then commandedNow p a t
    else t.arm a = s.arm a ∧ t.station a = s.station a

/-- The reopening of the road has started: the closure in ROAD_REOPENING with its timers stopped and no hold, the in-service
arms commanded UP, every retry dwell stopped, and the road lights red (R121). -/
def reopeningStarted (s t : State) : Prop :=
  t.closure = { s.closure with
      state := .roadReopening, phaseTimer := none, clearDwell := .stopped, heldCause := none, heldIn := none }
    ∧ (∀ a, (s.arm a).inService = true → commandedNow .up a t ∧ (t.arm a).retryDwell = none)
    ∧ (∀ a, (s.arm a).inService = false → t.arm a = { s.arm a with retryDwell := none } ∧ t.station a = s.station a)
    ∧ t.display.road = .red

/-- A lift has started from STOWED: the opening in LIFTING, the group UNLOCKING toward the target, every lock commanded to
withdraw (R41, R84, R88). -/
def liftStarted (o : Opening) (s t : State) : Prop :=
  t.seq.opening = some { o with state := .lifting }
    ∧ t.leaf.group = { s.leaf.group with state := .unlocking, target := some (16 * o.target) }
    ∧ (∀ k, (t.leaf.locks.get k).command = some .withdraw) ∧ t.leaf.drives = s.leaf.drives

/-- A start from STOWED is not refused, and some lock has still to be withdrawn (R83, R88). -/
def liftReady (s : State) : Prop :=
  s.leaf.group.state = .stowed ∧ s.leaf.group.emergencyStop = false ∧ s.leaf.group.spanOccupied = false
    ∧ leafTable s.leaf ∧ allLocks .withdrawn s.leaf = false

/-- The closure is held with a cause and a held-in state, its other fields standing: its timers and every arm's stopped, the
Link Supervisor told, the road lights red, and the control line raised (R123, R127, R181). -/
def heldNow (cause : HeldCause) (heldIn : ClosureState) (s t : State) : Prop :=
  t.closure = { s.closure with
      state := .closureHeld, heldCause := some cause, heldIn := some heldIn, phaseTimer := none, clearDwell := .stopped }
    ∧ (∀ b, (t.arm b).travelTimer = none ∧ (t.arm b).retryDwell = none) ∧ t.sup.closureHeld = true
    ∧ t.display.road = .red ∧ t.links.control.attention.raised = true ∧ t.links.control.attention.causes.closure = true

/-- The Opening Sequencer has taken ROAD_CLOSED: an opening in CLOSING_ROAD goes to RECOVERY_WAIT if it is the recovery
opening, takes its lift in ATTENDED, or is refused it with the control line raised; any other, and in UNATTENDED one that is
no recovery opening, stands (R41, R42, R56, R57). -/
def roadClosedTaken (s t : State) : Prop :=
  ((∀ o, s.seq.opening = some o → o.state ≠ .closingRoad ∨ (o.recovery = false ∧ s.sup.mode = .unattended)) →
      t.seq.opening = s.seq.opening ∧ t.leaf = s.leaf)
    ∧ ∀ o, s.seq.opening = some o → o.state = .closingRoad →
      (o.recovery = true → t.seq.opening = some { o with state := .recoveryWait } ∧ t.leaf = s.leaf ∧ demandsStand t)
      ∧ (o.recovery = false → s.sup.mode = .attended → liftReady s → liftStarted o s t ∧ demandsStand t)
      ∧ (o.recovery = false → s.sup.mode = .attended →
        (s.leaf.group.emergencyStop = true ∨ s.leaf.group.spanOccupied = true
          ∨ (s.leaf.group.state ≠ .stowed ∧ s.leaf.group.state ≠ .heldOpen)) →
        t.seq.opening = s.seq.opening ∧ t.leaf = s.leaf ∧ t.links.control.attention.causes.opening = true)

/-- The road has opened: the closure in ROAD_OPEN with its flags cleared, the road lights off, and an opening in
REOPENING_ROAD ended with the control line raised, while any other stands (R52, R121). -/
def roadOpened (s t : State) : Prop :=
  t.closure = { s.closure with
      state := .roadOpen, degraded := false, override := false, redSeen := .none, confirmation := false }
    ∧ t.display.road = .off
    ∧ ((∀ o, s.seq.opening = some o → o.state ≠ .reopeningRoad) → t.seq.opening = s.seq.opening)
    ∧ ((∃ o, s.seq.opening = some o ∧ o.state = .reopeningRoad) → t.seq.opening = none ∧ demandsStand t
      ∧ t.links.control.attention.raised = true ∧ t.links.control.attention.causes.opening = true)

/-- A turn comes to its STOP with a whole report of an arm's state, in a scan after the first (R134, R137, R143). -/
def reportArrives (a : ArmId) (st : ArmReport) (s : State) : Prop :=
  s.loop.firstScan = false ∧ ∃ x b c, s.loop.turn = some x ∧ x.step = .stop ∧ x.station = a ∧ x.stateOctet = some b
    ∧ x.angleOctet = some c ∧ reportOf b = st

/-- An arm is in position once it reports the position: it is in service, commanded there and acknowledged (R109). -/
def awaits (p : ArmPosition) (a : ArmId) (s : State) : Prop :=
  (s.arm a).inService = true ∧ (s.arm a).commanded = some p ∧ (s.arm a).acknowledged = true

/-- Every in-service arm of a list but one is in a position (R109). -/
def othersAt (p : ArmPosition) (a : ArmId) (arms : List ArmId) (s : State) : Prop :=
  ∀ x ∈ arms, x ≠ a → (s.arm x).inService = true → armIsAt p (s.arm x) = true

/-! ## Commands in sequence -/

/-- The state after the commands of a list, each executed in turn. -/
def runAll : List Instr → State → Host.Outcome State Fault Refusal
  | [], s => .next s
  | c :: cs, s =>
    match exec c s with
    | .next t => runAll cs t
    | .fault f => .fault f
    | .refused r => .refused r

/-- The octets of a frame as they arrive, each with its stop bit. -/
def octetCommands (l : Link) (octets : List Byte) : List Instr := octets.map (fun b => .octetReceived l b true)

/-! ## Conditions that no step breaks -/

/-- The road is closed while the brakes are released or the locks are being withdrawn (R82, R83). -/
def roadShutWhileMoving (s : State) : Prop :=
  (s.leaf.group.state.profileRuns = true ∨ s.leaf.group.state = .unlocking) → s.closure.state = .roadClosed

/-- The trip cause is present in TRIPPED, absent in every state but TRIPPED and STOPPING, and pending lower is set only
in STOPPING, without a cause (R79). -/
def causeTable (g : Group) : Prop :=
  (g.state = .tripped → g.cause.isSome = true) ∧ (g.cause.isSome = true → g.state = .tripped ∨ g.state = .stopping)
    ∧ (g.pendingLower = true → g.state = .stopping ∧ g.cause = none)

/-- The supervisor's fields are those of the blocks that hand them over, and the watchdog runs in ATTENDED alone (R174,
R175, R181). -/
def supervisorTable (s : State) : Prop :=
  (s.sup.groupTripped = true ↔ s.leaf.group.state = .tripped)
    ∧ (s.sup.closureHeld = true ↔ s.closure.state = .closureHeld)
    ∧ (∀ d, s.sup.dark.get d = (s.display.heads.get d).darkCondition)
    ∧ (∀ d, (s.display.heads.get d).darkCondition = true ↔
        (s.display.heads.get d).displayed = .dark ∧ (s.display.heads.get d).demanded ≠ .dark)
    ∧ (s.sup.watchdog.isSome = true ↔ s.sup.mode = .attended)

/-- Every attention line is raised exactly while its set holds a cause, and the harbour link's set holds the passage
record cause alone (R193). -/
def attentionTable (s : State) : Prop :=
  (∀ l, (s.links.get l).attention.raised = true ↔ (s.links.get l).attention.causes ≠ .empty)
    ∧ (s.links.harbour.attention.causes = .empty
        ∨ s.links.harbour.attention.causes = CauseSet.empty.add .passageRecord)

/-- What the heads and the road lights show: each demand is the one R58 gives, each head displays the walk of R166 from its
demand by the health of its functions, the sequencer's copy agrees (R171), and the road lights are those of the closure state
(R126). -/
def displayTable (s : State) : Prop :=
  demandsStand s ∧ s.display.road = roadLightOf s.closure.state
    ∧ ∀ d, (s.display.heads.get d).demanded = s.seq.demand.get d
      ∧ s.seq.shown.get d = walk (s.seq.demand.get d) (headHealth s.lamp d)
      ∧ (s.display.heads.get d).displayed = (s.seq.shown.get d).aspect
      ∧ (s.display.heads.get d).singleRed = (s.seq.shown.get d).singleRed

/-- A link's machinery: the request in hand stands until its outcome octet has left, a reply waits only behind one whose
outcome octet has left, and the overrun flag is set only while a request is in hand (R187). -/
def portTable (p : LinkPort) : Prop :=
  (p.waiting.isSome = true → p.inHand.isSome = true ∧ ∃ r, p.sending = some ⟨r, true⟩)
    ∧ ((∃ r, p.sending = some ⟨r, false⟩) → p.inHand.isSome = true)
    ∧ (p.overrun = true → p.inHand.isSome = true)

/-- The commit stands in hand at the control link, unanswered, while the first scan runs (R199, R201). -/
def commitInHand (s : State) : Prop :=
  s.loop.firstScan = true →
    s.links.control.inHand = some 0x52#8 ∧ s.links.control.waiting = none
      ∧ ∀ r, s.links.control.sending ≠ some ⟨r, false⟩

/-- The two links' machinery. -/
def portsSound (s : State) : Prop := portTable s.links.control ∧ portTable s.links.harbour ∧ commitInHand s

/-- The register's own limits: at most 32 records, distinct numbers of 1 to 255, no two non-terminal records with one
tag and one direction, and a withdrawn-by field in WITHDRAWN records alone (R1, R2, R3, R4). -/
def registerTable (r : Register) : Prop :=
  r.records.length ≤ Config.registerSize
    ∧ (r.records.map (·.number)).Nodup
    ∧ (∀ p ∈ r.records, 1 ≤ p.number ∧ p.number ≤ 255)
    ∧ (1 ≤ r.nextNumber ∧ r.nextNumber ≤ 255)
    ∧ r.records.Pairwise (fun p q =>
        p.state.terminal = true ∨ q.state.terminal = true ∨ p.tag ≠ q.tag ∨ p.direction ≠ q.direction)
    ∧ (∀ p ∈ r.records, p.withdrawnBy.isSome = true ↔ p.state = .withdrawn)

/-- The admitted list of the opening, empty for NONE. -/
def admittedList (s : State) : List Nat :=
  match s.seq.opening with
  | some o => o.list
  | none => []

/-- The register and the opening agree: every ADMITTED or CLEARED record stands in the list, and every number of the
list, at most eight and none twice, names a record in ADMITTED, CLEARED or COMPLETED (R28). In LOWERING, REOPENING_ROAD
and RECOVERY_WAIT none is ADMITTED or CLEARED (R29), the recovery opening's list is empty (R55), and in SETUP there is
neither record nor opening (R1, R60). -/
def listTable (s : State) : Prop :=
  (∀ p ∈ s.reg.records, isActive p = true → p.number ∈ admittedList s)
    ∧ (∀ n ∈ admittedList s, ∃ p ∈ s.reg.records,
        p.number = n ∧ (p.state = .admitted ∨ p.state = .cleared ∨ p.state = .completed))
    ∧ (admittedList s).length ≤ Config.admittedListSize ∧ (admittedList s).Nodup
    ∧ (∀ o, s.seq.opening = some o → (o.state = .lowering ∨ o.state = .reopeningRoad ∨ o.state = .recoveryWait) →
        ∀ p ∈ s.reg.records, isActive p = false)
    ∧ (∀ o, s.seq.opening = some o → o.recovery = true → o.list = [])
    ∧ (s.sup.mode = .setup → s.reg.records = [] ∧ s.seq.opening = none)
    ∧ (s.loop.firstScan = true → s.sup.mode = .setup)

/-- A safe state: the conditions that bear on people's safety. The leaves move only behind a closed road, their brakes
and locks are those of the group state, and a person is called while the bridge is tripped or held. -/
def safeState (s : State) : Prop := leafTable s.leaf ∧ roadShutWhileMoving s ∧ supervisorTable s

/-- A safe run: every state along the commands of the list is safe. -/
def safeRun : List Instr → State → Prop
  | [], s => safeState s
  | c :: cs, s =>
    safeState s ∧
      match exec c s with
      | .next t => safeRun cs t
      | .fault _ => True
      | .refused _ => True

end Sys2Proof.Machine
end

