-- ==== Sys2Proof/WellFormed.lean ====
section
/-!
DEFINITION. Which commands can reach the device. Every operand type holds only values the device can meet, but for the
body of a request, which must fit a frame: L is 1 to 250 and counts the kind, so a body has at most 249 octets (R184).
-/

namespace Sys2Proof

/-- The most octets a request body has (R184). -/
def maxBodyOctets : Nat := 249

/-- The body of a command that is a request, and none for any other command. -/
def Instr.body? : Instr → Option (List Byte)
  | .status _ b | .enterPassage _ b | .amendPassage _ b | .withdrawPassage _ b | .releasePassage _ b
  | .lookUpPassage _ b | .listPassages _ b | .beginOpening _ b | .admitToOpening _ b | .markPassed _ b
  | .lowerBridge _ b | .abortOpening _ b | .continueMotion _ b | .confirmSpanClear _ b | .warningOverride _ b
  | .armService _ b | .closureRetry _ b | .reopenRoad _ b | .resetTrip _ b | .clearLampFaults _ b
  | .setDimLevel _ b | .resume _ b | .writeConfigurationItem _ b | .commitConfiguration _ b
  | .revertToSetup _ b => some b
  | .powerOn | .resetLineRelease | .octetReceived _ _ _ | .interOctetGapTimeout _ | .outcomeOctetSent _
  | .replyComplete _ | .minuteTimerExpiry | .controlPeriod _ | .settleDwellComplete | .seatDwellComplete
  | .settleTimeout | .emergencyStopChange _ | .lockSwitchChange _ _ _ | .lockTimerExpiry _ | .zoneInputChange _ _
  | .zoneDebounceExpiry _ | .changeoverDwellExpiry | .watchdogExpiry | .faultPulseTimerExpiry | .phaseTimerExpiry
  | .clearDwellComplete | .retryDwellExpiry _ | .travelTimerExpiry _ | .scanTimerExpiry | .turnStart
  | .commandAnswer _ | .answerWindowTimeout | .turnEnd | .pulsePeriodStart | .lampFaultLatch _ _ _ _ _
  | .evaluationWindowEnd _ _ _ | .flashHalfEnd | .lowSupplyLatch _ | .undervoltageChange _ | .addressAnswer _
  | .reportOctetReceived _ => none

/-- A command is well formed when its body, if it has one, fits a request frame. -/
def Instr.wellFormed (i : Instr) : Bool :=
  match i.body? with
  | some b => b.length ≤ maxBodyOctets
  | none => true

end Sys2Proof
end

