-- ==== Sys2Proof/Certificates/Slice0/Obligations.lean ====
section
/-!
DEFINITION. The statements for the provers.
-/

section Slice0Statements

open Sys2Proof Sys2Proof.Machine

/-! ## The queue, the resets and the Request Port -/

/-- The command at the front of the queue is taken, and its effect is that of `exec` with the rest waiting. The queue is the
model's (log entry 22). -/
def Obligations.StepTakesTheFrontCommand : Prop :=
  ∀ (c : Instr) (rest : List Instr) (s : State),
    step { s with pending := c :: rest } = exec c { s with pending := rest }

/-- The model's choice (log entries 3 and 27): with no command waiting one millisecond passes, in which nothing
changes but timers: every zone is itself but for its debounce, and the opening but for its changeover. The watchdog and the
changeover lose one millisecond, and their last stands until its command arrives. -/
def Obligations.IdleStepCountsTheTimers : Prop :=
  ∀ s : State, s.pending = [] → ∃ t, step s = .next t
    ∧ unchangedBut [.reg, .seq, .leaf, .closure, .arms, .zones, .loop, .lamp, .sup] s t
    ∧ t.reg = { s.reg with minuteTimer := t.reg.minuteTimer }
    ∧ t.seq = { s.seq with opening := s.seq.opening.map (fun o =>
        { o with changeover := o.changeover.map (fun w => if 1 < w then w - 1 else w) }) }
    ∧ t.leaf = { s.leaf with locks := t.leaf.locks, periodTimer := t.leaf.periodTimer }
    ∧ (∀ k, t.leaf.locks.get k = { s.leaf.locks.get k with timer := (t.leaf.locks.get k).timer })
    ∧ t.closure = { s.closure with phaseTimer := t.closure.phaseTimer, clearDwell := t.closure.clearDwell }
    ∧ (∀ a, t.arm a = { s.arm a with retryDwell := (t.arm a).retryDwell, travelTimer := (t.arm a).travelTimer })
    ∧ (∀ z : ZoneId, t.zones[z] = { s.zones[z] with debounce := (t.zones[z]).debounce })
    ∧ t.loop = { s.loop with scanTimer := t.loop.scanTimer }
    ∧ t.lamp = { s.lamp with pulseClock := t.lamp.pulseClock }
    ∧ t.sup = { s.sup with watchdog := t.sup.watchdog, pulseTimer := t.sup.pulseTimer }
    ∧ t.sup.watchdog = s.sup.watchdog.map (fun w => if 1 < w then w - 1 else w)

/-- Power-on and release of the reset line leave every block at the values its chapter gives; the levels of the inputs stand
(the last is the model's choice, log entry 8). That no report has come since an acknowledgement is the model's own field (log
entry 9). -/
def Obligations.PowerOnValues : Prop :=
  ∀ s : State, ∃ t, exec .powerOn s = .next t ∧ exec .resetLineRelease s = .next t
    ∧ unchangedBut [.controlPort, .harbourPort, .reg, .seq, .leaf, .closure, .arms, .zones, .loop, .stations, .lamp,
        .display, .sup, .store, .cfg] s t
    ∧ (∀ l, t.links.get l = ⟨.hunting, none, none, none, false, ⟨false, .empty⟩⟩)
    ∧ t.reg = ⟨[], 1, 0, none⟩
    ∧ t.seq.opening = none ∧ t.seq.demand = ⟨.dark, .dark⟩ ∧ t.seq.shown = ⟨⟨.dark, none⟩, ⟨.dark, none⟩⟩
    ∧ t.leaf.group = ⟨.inactive, none, false, 0, 0, 0, s.leaf.group.emergencyStop, false, none, none, 0, false, 0⟩
    ∧ (∀ d, t.leaf.drives.get d = ⟨0, 0, false, 0, 0, false, false⟩)
    ∧ t.leaf.west = { t.leaf.west with angle := 0, twist := 0, twistWarning := false }
    ∧ t.leaf.east = { t.leaf.east with angle := 0, twist := 0, twistWarning := false }
    ∧ (∀ k, t.leaf.locks.get k = { s.leaf.locks.get k with command := none, timer := none, unproven := false })
    ∧ t.leaf.periodTimer = none
    ∧ t.closure = ⟨.inactive, ⟨false, false, false, false⟩, false, none, false, .stopped, false, false, none, none, false,
        false⟩
    ∧ (∀ a, t.arm a = ⟨true, none, false, false, .unknown, 0, false, 0, none, none, ⟨false, false, false, false⟩⟩)
    ∧ (∀ z : ZoneId, t.zones[z] = ⟨false, (s.zones[z]).input, none⟩)
    ∧ t.loop.held = true ∧ t.loop.turn = none ∧ t.loop.scanTimer = none
    ∧ (∀ a, t.station a = ⟨none, none, none, false, false, 0⟩)
    ∧ (∀ i : ChannelId, (t.lamp.channels[i]).demand = .off ∧ (t.lamp.channels[i]).function = none
        ∧ (t.lamp.channels[i]).openFlag = false ∧ (t.lamp.channels[i]).shortFlag = false
        ∧ (t.lamp.channels[i]).partialFlag = false ∧ (t.lamp.channels[i]).evaluated = false
        ∧ (t.lamp.channels[i]).output = false)
    ∧ (∀ f, functionHealthy f t.lamp = false) ∧ t.lamp.pulseClock = none ∧ t.lamp.flash = .stopped
    ∧ t.lamp.lowSupply = false ∧ t.lamp.undervoltage = false ∧ t.lamp.dimRoad = 100 ∧ t.lamp.dimShipping = 100
    ∧ t.display = ⟨.off, ⟨⟨.dark, .dark, none, false⟩, ⟨.dark, .dark, none, false⟩⟩⟩
    ∧ t.sup = ⟨.setup, none, false, false, ⟨false, false⟩, none⟩
    ∧ t.store.state = .editing ∧ (∀ i : Fin 163, t.store.image[i] = none) ∧ t.cfg = none

/-- One octet, or the lack of one, at an intake that it does not complete a frame at; a complete frame whose check octets
differ from the check of its own octets, which is discarded: the intake hunts again and nothing else changes (R185, R186); and
a good frame of a kind that R189 does not define, which a ready link answers UNKNOWN_REQUEST whatever its body and the mode,
and which does nothing else but restart the control link's watchdog (R175, R188). That an octet without its stop bit is dropped
while HUNTING is the model's reading (log entry 19). -/
def Obligations.IntakeTakesAnOctet : Prop :=
  ∀ (l : Link) (b : Byte) (s : State),
    (∃ t, exec (.octetReceived l b false) s = .next t ∧ exec (.interOctetGapTimeout l) s = .next t
      ∧ t.links.get l = { s.links.get l with intake := .hunting } ∧ unchangedBut [portPart l] s t)
    ∧ ((s.links.get l).intake = .hunting → ∃ t, exec (.octetReceived l b true) s = .next t
      ∧ t.links.get l = { s.links.get l with intake := if b = 0xC3#8 then .awaitingLength else .hunting }
      ∧ unchangedBut [portPart l] s t)
    ∧ ((s.links.get l).intake = .awaitingLength → ∃ t, exec (.octetReceived l b true) s = .next t
      ∧ t.links.get l = { s.links.get l with
          intake := if b.toNat = 0 ∨ 250 < b.toNat then .hunting else .collecting b [] }
      ∧ unchangedBut [portPart l] s t)
    ∧ (∀ n octets, (s.links.get l).intake = .collecting n octets → octets.length + 1 < n.toNat + 2 →
      ∃ t, exec (.octetReceived l b true) s = .next t
        ∧ t.links.get l = { s.links.get l with intake := .collecting n (octets ++ [b]) }
        ∧ unchangedBut [portPart l] s t)
    ∧ (∀ n octets, (s.links.get l).intake = .collecting n octets → octets.length + 1 = n.toNat + 2 →
      (octets ++ [b]).drop n.toNat ≠ checkOctets (n :: (octets ++ [b]).take n.toNat) →
      ∃ t, exec (.octetReceived l b true) s = .next t
        ∧ t.links.get l = { s.links.get l with intake := .hunting } ∧ unchangedBut [portPart l] s t)
    ∧ (∀ n octets kind body, (s.links.get l).intake = .collecting n octets → octets.length + 1 = n.toNat + 2 →
      (octets ++ [b]).drop n.toNat = checkOctets (n :: (octets ++ [b]).take n.toNat) →
      (octets ++ [b]).take n.toNat = kind :: body → readyFor l s →
      kind.toNat ∉ [0x01, 0x10, 0x11, 0x12, 0x13, 0x14, 0x15, 0x20, 0x21, 0x22, 0x23, 0x24, 0x25, 0x30, 0x31, 0x32, 0x33, 0x34,
        0x40, 0x41, 0x42, 0x50, 0x51, 0x52, 0x53] →
      ∃ t, exec (.octetReceived l b true) s = .next t
        ∧ t.links.get l = { s.links.get l with
            intake := .hunting, inHand := some kind, sending := some ⟨⟨kind, .unknownRequest, false, []⟩, false⟩ }
        ∧ t.sup = framedSup l s ∧ unchangedBut [portPart l, .sup] s t)

/-- The octets of a good request frame, received one after another while HUNTING, do what the request's own command does
(R184 to R188; that a request command stands for its whole good frame is log entry 5). -/
def Obligations.FrameOctetsAreTheRequest : Prop :=
  ∀ (c : Instr) (l : Link) (kind : Byte) (body : List Byte) (s : State),
    requestOf c = some (l, kind, body) → c.wellFormed = true → (s.links.get l).intake = .hunting →
    runAll (octetCommands l (requestFrame kind body)) s = exec c s

/-- The check of octets followed by their own two check octets is 0, and the check of "123456789" is 0x29B1 (R186). -/
def Obligations.CheckOfCheckedOctetsIsZero : Prop :=
  (∀ bs : List Byte, checkWord (bs ++ checkOctets bs) = 0)
    ∧ checkWord [0x31#8, 0x32#8, 0x33#8, 0x34#8, 0x35#8, 0x36#8, 0x37#8, 0x38#8, 0x39#8] = 0x29B1#16

/-- The outcome octet: the code in the low seven bits, the overrun flag in the highest (R190). -/
def Obligations.OutcomeOctetLayout : Prop :=
  ∀ r : Reply, (outcomeOctet r).toNat = (if r.overrun then 128 else 0) +
    match r.outcome with
    | .ok => 0 | .unknownRequest => 1 | .badField => 2 | .notPermitted => 3
    | .wrongMode => 4 | .noSuchPassage => 5 | .wrongState => 6 | .duplicateVessel => 7
    | .registerFull => 8 | .unreachable => 9 | .tooLate => 10 | .openingActive => 11
    | .listFull => 12 | .vesselsCleared => 13 | .interlock => 14 | .configInvalid => 15

/-- The outcome octet carries the overrun flag out and frees the link for the next request; a reply put together while an
earlier one is being sent waits behind it, and goes out when the earlier one ends (R187). A request command is a whole good
frame (log entry 5). -/
def Obligations.RepliesLeaveOneAfterAnother : Prop :=
  ∀ (l : Link) (s : State),
    (∀ r, (s.links.get l).sending = some ⟨r, false⟩ → ∃ t, exec (.outcomeOctetSent l) s = .next t
      ∧ t.links.get l = { s.links.get l with
          sending := some ⟨{ r with overrun := (s.links.get l).overrun }, true⟩, overrun := false, inHand := none }
      ∧ unchangedBut [portPart l] s t)
    ∧ (∀ r, (s.links.get l).sending = some ⟨r, true⟩ → ∃ t, exec (.replyComplete l) s = .next t
      ∧ t.links.get l = { s.links.get l with
          sending := (s.links.get l).waiting.map (fun q => ⟨q, false⟩), waiting := none }
      ∧ unchangedBut [portPart l] s t)
    ∧ ∀ (c : Instr) (kind : Byte) (body : List Byte) (x : Sending),
      requestOf c = some (l, kind, body) → (s.links.get l).inHand = none → (s.links.get l).sending = some x →
      ∃ t, exec c s = .next t ∧ (t.links.get l).sending = some x ∧ (t.links.get l).inHand = some kind
        ∧ ((∃ outcome reply, (t.links.get l).waiting = some ⟨kind, outcome, false, reply⟩)
          ∨ (kind = 0x52#8 ∧ (t.links.get l).waiting = (s.links.get l).waiting))

/-- A good frame behind a request in hand is discarded: it sets the overrun flag, restarts the control link's watchdog and
does nothing else (R175, R187). A request command is a whole good frame (log entry 5). -/
def Obligations.FrameBehindARequestIsDiscarded : Prop :=
  ∀ (c : Instr) (l : Link) (kind : Byte) (body : List Byte) (s : State),
    requestOf c = some (l, kind, body) → (s.links.get l).inHand.isSome = true →
    ∃ t, exec c s = .next t ∧ t.links.get l = { s.links.get l with overrun := true } ∧ t.sup = framedSup l s
      ∧ unchangedBut [portPart l, .sup] s t

/-- The harbour link's C only requests are answered NOT_PERMITTED, whatever their bodies and the mode; and a request in a mode
that its block does not take it in is refused, whatever its body, by the column "Taken in" of R189. Neither changes anything
(R188, R189). -/
def Obligations.RefusedWhateverTheBody : Prop :=
  ∀ (c : Instr) (l : Link) (kind : Byte) (body : List Byte) (s : State),
    requestOf c = some (l, kind, body) → readyFor l s →
    (l = .harbour → 0x20 ≤ kind.toNat → ∃ t, exec c s = .next t ∧ onlyAnswered l kind .notPermitted [] [] s t)
    ∧ ∀ outcome, (l = .control ∨ kind.toNat < 0x20) → modeRefusal kind s.sup.mode = some outcome →
      ∃ t, exec c s = .next t ∧ onlyAnswered l kind outcome [] [] s t

/-- A refused request changes no record, no counter, no line and no timer but the watchdog, and its reply has no body but
for the item number of CONFIG_INVALID (R14, R32, R189, R193). -/
def Obligations.RefusalChangesNothing : Prop :=
  ∀ (c : Instr) (l : Link) (kind : Byte) (body reply : List Byte) (outcome : OutcomeCode) (s t : State),
    requestOf c = some (l, kind, body) → readyFor l s → exec c s = .next t →
    (t.links.get l).sending = some ⟨⟨kind, outcome, false, reply⟩, false⟩ → outcome ≠ .ok →
    onlyAnswered l kind outcome reply [] s t
      ∧ (outcome ≠ .configInvalid → reply = []) ∧ (outcome = .configInvalid → reply.length = 2)

/-- The STATUS reply, with its link's line lowered and nothing else changed; a STATUS with a body is BAD_FIELD. Its 156 octets
where each block begins: mode, opening, closure, group, heads, road, first arm, dim levels, FAULT line, watchdog, record count,
and the causes that stood before (R192, R193). -/
def Obligations.StatusReadsTheDevice : Prop :=
  (∀ (l : Link) (s : State), readyFor l s →
    (∃ t, exec (.status l []) s = .next t ∧ answered l 0x01#8 .ok (statusBody l (setInHand l (some 0x01#8)
        (restartWatchdog l s))) s t
      ∧ (t.links.get l).attention = ⟨false, .empty⟩ ∧ t.sup = framedSup l s ∧ unchangedBut [portPart l, .sup] s t)
    ∧ (∀ b bs, ∃ t, exec (.status l (b :: bs)) s = .next t ∧ onlyAnswered l 0x01#8 .badField [] [] s t))
  ∧ ∀ (l : Link) (s : State), s.reg.records.length ≤ 32 → (∀ o, s.seq.opening = some o → o.list.length ≤ 8) →
    (statusBody l s).length = 156
    ∧ (statusBody l s)[0]? = some (octet s.sup.mode.code)
    ∧ (statusBody l s)[1]? = some (octet (match s.seq.opening with | none => 0 | some o => o.state.code))
    ∧ (statusBody l s)[17]? = some (octet s.closure.state.code)
    ∧ (statusBody l s)[21]? = some (octet s.leaf.group.state.code)
    ∧ (statusBody l s)[22]? = some (octet (optionCode TripCause.code s.leaf.group.cause))
    ∧ (statusBody l s)[40]? = some (octet (s.display.heads.get .seaward).displayed.code)
    ∧ (statusBody l s)[43]? = some (octet (s.display.heads.get .landward).displayed.code)
    ∧ (statusBody l s)[45]? = some (octet s.display.road.code)
    ∧ (statusBody l s)[48]? = some (octet (s.arm .wEntry1).reported.code)
    ∧ (statusBody l s)[146]? = some (octet s.lamp.dimRoad)
    ∧ (statusBody l s)[147]? = some (octet s.lamp.dimShipping)
    ∧ ((statusBody l s)[152]?.map (fun b => b.getLsbD 0)) = some (faultLine s.sup)
    ∧ (statusBody l s)[153]? = some (octet (((s.sup.watchdog.getD 0) + 999) / 1000))
    ∧ (statusBody l s)[154]? = some (octet s.reg.records.length)
    ∧ (statusBody l s)[155]? = some (statusCauses (s.links.get l).attention.causes)

/-! ## The Passage Register -/

/-- The number of a new record: the first from the next-number counter on, with 255 followed by 1, that no held record
carries (R4). Queue order: a rearrangement of the records in which every PRIORITY record stands before every ROUTINE record and
the stamps of one class ascend (R6). -/
def Obligations.NumbersAndQueueOrder : Prop :=
  (∀ r : Register, 1 ≤ r.nextNumber → r.nextNumber ≤ 255 → r.records.length ≤ 32 →
    (∀ p ∈ r.records, p.number ≠ allocatedNumber r)
    ∧ ∃ k, k < 255 ∧ allocatedNumber r = (r.nextNumber - 1 + k) % 255 + 1
      ∧ ∀ j < k, ∃ p ∈ r.records, p.number = (r.nextNumber - 1 + j) % 255 + 1)
  ∧ ∀ ps : List Passage, (queueOrder ps).Perm ps
    ∧ (queueOrder ps).Pairwise (fun a b => (a.cls = .priority ∧ b.cls = .routine) ∨ (a.cls = b.cls ∧ a.stamp ≤ b.stamp))

/-- ENTER PASSAGE taken: one WAITING record with the fields of the request, the number of R4 and the stamp of R5; the
counters move on, and nothing else changes (R17). With the last stamp the records are renumbered in queue order, where
`queueOrder` is that of R6 (R5). -/
def Obligations.EnterCreatesARecord : Prop :=
  ∀ (l : Link) (tagOctets : List Byte) (dir cls ch cl present lh ll : Byte) (tag : List Byte) (d : Direction)
    (k : PassageClass) (life : Option Nat) (angle : Nat) (s : State),
    readyFor l s → s.sup.mode ≠ .setup → tagOctets.length = 12 → normaliseTag tagOctets = some tag →
    (dir = 0 ∧ d = .seaward ∨ dir = 1 ∧ d = .landward) → (cls = 0 ∧ k = .priority ∨ cls = 1 ∧ k = .routine) →
    100 ≤ word16 ch cl →
    (present = 0 ∧ life = none ∨ present = 1 ∧ 1 ≤ word16 lh ll ∧ word16 lh ll ≤ 720 ∧ life = some (word16 lh ll)) →
    requiredAngle s.conf.clearances (word16 ch cl) = some angle → angle ≤ s.conf.openLimit →
    (∀ p ∈ s.reg.records, p.state.terminal = true ∨ p.tag ≠ tag ∨ p.direction ≠ d) → s.reg.records.length < 32 →
    ∃ t p, exec (.enterPassage l (tagOctets ++ [dir, cls, ch, cl, present, lh, ll])) s = .next t
      ∧ p = ⟨allocatedNumber s.reg, l, tag, d, k, word16 ch cl, angle, life, s.reg.nextStamp, .waiting, none⟩
      ∧ t.reg.nextNumber = (if 255 ≤ p.number then 1 else p.number + 1) ∧ t.reg.minuteTimer = s.reg.minuteTimer
      ∧ (s.reg.nextStamp ≠ 4294967295 →
          t.reg.records = s.reg.records ++ [p] ∧ t.reg.nextStamp = s.reg.nextStamp + 1)
      ∧ (s.reg.nextStamp = 4294967295 →
          t.reg.records.map (fun q => { q with stamp := 0 }) =
            (queueOrder (s.reg.records ++ [p])).map (fun q => { q with stamp := 0 })
          ∧ t.reg.records.map (·.stamp) = List.range (s.reg.records.length + 1)
          ∧ t.reg.nextStamp = s.reg.records.length + 1)
      ∧ onlyAnswered l 0x10#8 .ok [octet p.number] [.reg] s t

/-- The refusals of ENTER PASSAGE in their order (R16). -/
def Obligations.EnterRefusals : Prop :=
  (∀ (tagOctets : List Byte) (dir cls ch cl present lh ll : Byte), tagOctets.length = 12 →
    (entryOf (tagOctets ++ [dir, cls, ch, cl, present, lh, ll]) = none ↔
      normaliseTag tagOctets = none ∨ 1 < dir.toNat ∨ 1 < cls.toNat ∨ word16 ch cl < 100 ∨ 1 < present.toNat
        ∨ (present = 1 ∧ (word16 lh ll = 0 ∨ 720 < word16 lh ll))))
  ∧ (∀ body : List Byte, body.length ≠ 19 → entryOf body = none)
  ∧ ∀ (l : Link) (body : List Byte) (s : State), readyFor l s →
    let refused (o : OutcomeCode) : Prop := ∃ t, exec (.enterPassage l body) s = .next t ∧ onlyAnswered l 0x10#8 o [] [] s t
    (s.sup.mode = .setup → refused .wrongMode)
    ∧ (s.sup.mode ≠ .setup → entryOf body = none → refused .badField)
    ∧ ∀ e, s.sup.mode ≠ .setup → entryOf body = some e → risingTable s.conf.clearances →
      let reachable : Prop := e.clearance ≤ tablePoint s.conf.clearances 16
        ∧ ∀ a, requiredAngle s.conf.clearances e.clearance = some a → a ≤ s.conf.openLimit
      let duplicate : Prop := ∃ p ∈ s.reg.records, p.state.terminal = false ∧ p.tag = e.tag ∧ p.direction = e.direction
      (¬reachable → refused .unreachable)
      ∧ (reachable → duplicate → refused .duplicateVessel)
      ∧ (reachable → ¬duplicate → 32 ≤ s.reg.records.length → refused .registerFull)

/-- The tag of a request: its text ends at the first zero octet, and it is refused exactly when an octet of the text is
neither kept nor a lower-case letter, or when nothing but spaces is left; otherwise the tag is the text with its lower-case
letters replaced by the upper-case ones and the spaces at both ends removed. It normalises to itself (R7). -/
def Obligations.NormalisedTagsAreNormal : Prop :=
  ∀ bs : List Byte,
    let text := bs.takeWhile (fun b => b != 0x00#8)
    let kept (b : Byte) : Prop := (0x41 ≤ b.toNat ∧ b.toNat ≤ 0x5A) ∨ (0x30 ≤ b.toNat ∧ b.toNat ≤ 0x39) ∨ b = 0x20#8
      ∨ b = 0x2D#8 ∨ b = 0x2E#8
    let upper (b : Byte) : Byte := if 0x61 ≤ b.toNat ∧ b.toNat ≤ 0x7A then b - 0x20#8 else b
    (normaliseTag bs = none ↔
      (∃ b ∈ text, ¬kept b ∧ ¬(0x61 ≤ b.toNat ∧ b.toNat ≤ 0x7A)) ∨ ∀ b ∈ text, b = 0x20#8)
    ∧ ∀ tag, normaliseTag bs = some tag →
      (∃ before after, text.map upper = List.replicate before 0x20#8 ++ tag ++ List.replicate after 0x20#8)
      ∧ tag ≠ [] ∧ tag.length ≤ bs.length ∧ tag.head? ≠ some 0x20#8 ∧ tag.getLast? ≠ some 0x20#8 ∧ (∀ b ∈ tag, kept b)
      ∧ normaliseTag tag = some tag

/-- The required angle of a clearance: the three cases of R69; its range; and that it is the least angle at which the
available clearance of R68 covers the clearance, unreachable above C16 (R9). -/
def Obligations.RequiredAngleIsTheLeast : Prop :=
  ∀ (t : Vector Nat 17) (h : Nat), risingTable t →
    (h ≤ tablePoint t 0 → requiredAngle t h = some 0)
    ∧ (requiredAngle t h = none ↔ tablePoint t 16 < h)
    ∧ (∀ k, k < 16 → tablePoint t k < h → h ≤ tablePoint t (k + 1) → ∃ q,
        requiredAngle t h = some (500 * k + q)
        ∧ (h - tablePoint t k) * 500 ≤ q * (tablePoint t (k + 1) - tablePoint t k)
        ∧ ∀ q' < q, q' * (tablePoint t (k + 1) - tablePoint t k) < (h - tablePoint t k) * 500)
    ∧ ∀ a, requiredAngle t h = some a →
        a ≤ 8000 ∧ (∀ b, a ≤ b → h ≤ clearanceAt t b) ∧ ∀ b < a, clearanceAt t b < h

/-- AMEND PASSAGE taken on a WAITING record: every present item replaces its field together, the record keeps its number,
stamp and place among the records, the reply carries it, and the other link's amendment raises the origin's line (R19, R25).
That equal values raise it too is the model's reading (log entry 11). -/
def Obligations.AmendReplacesThePresentItems : Prop :=
  ∀ (l : Link) (n flags ch cl cls lh ll : Byte) (p : Passage) (angle : Nat) (s : State),
    readyFor l s → s.sup.mode ≠ .setup → n ≠ 0 → 1 ≤ flags.toNat → flags.toNat ≤ 7 →
    (flags.getLsbD 0 = true → 100 ≤ word16 ch cl) → (flags.getLsbD 1 = true → cls.toNat ≤ 1) →
    (flags.getLsbD 2 = true → word16 lh ll ≤ 720) →
    findPassage n.toNat s.reg = some p → p.state = .waiting → (l = .control ∨ p.origin = .harbour) →
    (flags.getLsbD 0 = true → passageAngle s.conf (word16 ch cl) = some angle) →
    let amend (q : Passage) : Passage := { q with
      clearance := if flags.getLsbD 0 then word16 ch cl else q.clearance
      angle := if flags.getLsbD 0 then angle else q.angle
      cls := if flags.getLsbD 1 then (if cls = 0 then .priority else .routine) else q.cls
      lifetime := if flags.getLsbD 2 then (if word16 lh ll = 0 then none else some (word16 lh ll)) else q.lifetime }
    ∃ t, exec (.amendPassage l [n, flags, ch, cl, cls, lh, ll]) s = .next t
      ∧ t.reg = { s.reg with records := s.reg.records.map (fun q => if q.number = n.toNat then amend q else q) }
      ∧ answered l 0x11#8 .ok (passageOctets (amend p)) s t
      ∧ (t.links.get p.origin).attention = toldAttention l p s
      ∧ (l ≠ p.origin → (t.links.get l).attention = (s.links.get l).attention)
      ∧ t.sup = framedSup l s ∧ unchangedBut [.controlPort, .harbourPort, .reg, .sup] s t

/-- The amendment of an ADMITTED record. A class or a lifetime is TOO_LATE, and so is a clearance in LOWERING,
REOPENING_ROAD and RECOVERY_WAIT. A clearance alone is taken in CLOSING_ROAD, where the target is formed again, and in LIFTING
and OPEN: with the target unchanged where its angle with the margin does not exceed it, and else as a target raise. The raise
is INTERLOCK with the closure degraded, in UNATTENDED, and in OPEN with the group HELD_OPEN where the start is refused; from
HELD_OPEN it sets extending and starts the leaves up, from SETTLING in LIFTING they rise again, and in any other group state
the new target is handed over without a start (R18, R30, R31, R36, R85). That equal values raise the origin's line too is the
model's reading (log entry 11). -/
def Obligations.AmendOfAnAdmittedRecord : Prop :=
  ∀ (l : Link) (body : List Byte) (a : Amendment) (p : Passage) (o : Opening) (s : State),
    readyFor l s → s.sup.mode ≠ .setup → amendmentOf body = some a → findPassage a.number s.reg = some p →
    p.state = .admitted → (l = .control ∨ p.origin = .harbour) → s.seq.opening = some o →
    ((a.cls ≠ none ∨ a.lifetime ≠ none) →
      ∃ t, exec (.amendPassage l body) s = .next t ∧ onlyAnswered l 0x11#8 .tooLate [] [] s t)
    ∧ ∀ cm angle, a.clearance = some cm → a.cls = none → a.lifetime = none → passageAngle s.conf cm = some angle →
      let records := s.reg.records.map
        (fun q => if q.number = a.number then { q with clearance := cm, angle := angle } else q)
      let amended (t : State) : Prop := t.reg = { s.reg with records := records }
        ∧ answered l 0x11#8 .ok (passageOctets { p with clearance := cm, angle := angle }) s t
      let told (t : State) : Prop := (t.links.get p.origin).attention = toldAttention l p s
        ∧ (l ≠ p.origin → (t.links.get l).attention = (s.links.get l).attention)
      let moved (t : State) : Prop := (t.links.get .control).attention =
            ⟨true, (s.links.get .control).attention.causes.add .leafGroup⟩
        ∧ (p.origin = .harbour → (t.links.get .harbour).attention = toldAttention l p s) ∧ demandsStand t
        ∧ unchangedBut [.controlPort, .harbourPort, .reg, .seq, .leaf, .lamp, .display, .sup] s t
      let raise : Nat := withMargin s.conf angle
      let startable : Prop := s.leaf.group.emergencyStop = false ∧ s.leaf.group.spanOccupied = false
        ∧ s.closure.state = .roadClosed
      ((o.state = .lowering ∨ o.state = .reopeningRoad ∨ o.state = .recoveryWait) →
        ∃ t, exec (.amendPassage l body) s = .next t ∧ onlyAnswered l 0x11#8 .tooLate [] [] s t)
      ∧ (o.state = .closingRoad → o.recovery = false → a.number ∈ o.list → (s.reg.records.map (·.number)).Nodup →
        ∃ t target, exec (.amendPassage l body) s = .next t ∧ amended t ∧ told t
          ∧ t.seq.opening = some { o with target := target }
          ∧ (∀ q ∈ listedRecords t, isActive q = true → withMargin s.conf q.angle ≤ target)
          ∧ (∃ q ∈ listedRecords t, isActive q = true ∧ target = withMargin s.conf q.angle) ∧ demandsStand t
          ∧ unchangedBut [.controlPort, .harbourPort, .reg, .seq, .lamp, .display, .sup] s t)
      ∧ ((o.state = .lifting ∨ o.state = .open) → raise ≤ o.target →
        ∃ t, exec (.amendPassage l body) s = .next t ∧ amended t ∧ told t ∧ t.seq.opening = some o ∧ demandsStand t
          ∧ unchangedBut [.controlPort, .harbourPort, .reg, .seq, .lamp, .display, .sup] s t)
      ∧ ((o.state = .lifting ∨ o.state = .open) → o.target < raise →
        ((s.closure.degraded = true ∨ s.sup.mode = .unattended
            ∨ (o.state = .open ∧ s.leaf.group.state = .heldOpen ∧ ¬startable)) →
          ∃ t, exec (.amendPassage l body) s = .next t ∧ onlyAnswered l 0x11#8 .interlock [] [] s t)
        ∧ (s.closure.degraded = false → s.sup.mode = .attended →
          (s.leaf.group.state ≠ .heldOpen → s.leaf.group.state ≠ .settling →
            ∃ t, exec (.amendPassage l body) s = .next t ∧ amended t ∧ told t
              ∧ t.seq.opening = some { o with target := raise } ∧ demandsStand t
              ∧ t.leaf = { s.leaf with group := { s.leaf.group with target := some (16 * raise) } }
              ∧ unchangedBut [.controlPort, .harbourPort, .reg, .seq, .leaf, .lamp, .display, .sup] s t)
          ∧ (s.leaf.group.state = .settling →
            ∃ t, exec (.amendPassage l body) s = .next t ∧ amended t ∧ moved t
              ∧ t.seq.opening = some { o with target := raise }
              ∧ t.leaf = { s.leaf with group := { s.leaf.group with
                  state := .raising, target := some (16 * raise), settleCount := 0, seatCount := 0, restCount := 0 } })
          ∧ (o.state = .open → s.leaf.group.state = .heldOpen → startable → allLocks .withdrawn s.leaf = true →
            ∃ t, exec (.amendPassage l body) s = .next t ∧ amended t ∧ moved t
              ∧ t.seq.opening = some { o with target := raise, extending := true }
              ∧ startedMotion .raising (16 * raise) s.leaf t.leaf)))

/-- WITHDRAW PASSAGE by the state of the record: a WAITING record becomes WITHDRAWN and nothing else changes; an ADMITTED
record, or for the control link a CLEARED one, becomes WITHDRAWN and leaves the admitted list; a harbour withdrawal of a
CLEARED record is TOO_LATE, and of a terminal record WRONG_STATE (R20, R25). In CLOSING_ROAD the target is then formed again,
or with the list empty the opening is abandoned: the target becomes 0, the state REOPENING_ROAD, and the road starts to reopen,
or waits for RESUME in UNATTENDED; in LIFTING the target stays (R43, R121). -/
def Obligations.WithdrawByState : Prop :=
  ∀ (l : Link) (n : Byte) (p : Passage) (s : State),
    readyFor l s → s.sup.mode ≠ .setup → n ≠ 0 → findPassage n.toNat s.reg = some p →
    (l = .control ∨ p.origin = .harbour) →
    let withdrawn (q : Passage) : Passage := { q with state := .withdrawn, withdrawnBy := some l }
    let records := s.reg.records.map (fun q => if q.number = n.toNat then withdrawn q else q)
    (p.state = .waiting → n.toNat ∉ admittedList s → ∃ t, exec (.withdrawPassage l [n]) s = .next t
      ∧ t.reg = { s.reg with records := records } ∧ answered l 0x12#8 .ok (passageOctets (withdrawn p)) s t
      ∧ (t.links.get p.origin).attention = toldAttention l p s
      ∧ (l ≠ p.origin → (t.links.get l).attention = (s.links.get l).attention)
      ∧ t.sup = framedSup l s ∧ unchangedBut [.controlPort, .harbourPort, .reg, .sup] s t)
    ∧ ((p.state = .admitted ∨ (p.state = .cleared ∧ l = .control)) → ∃ t, exec (.withdrawPassage l [n]) s = .next t
      ∧ t.reg = { s.reg with records := records } ∧ answered l 0x12#8 .ok (passageOctets (withdrawn p)) s t
      ∧ admittedList t = (admittedList s).filter (fun m => m != n.toNat)
      ∧ unchangedBut [.freeCount, .controlPort, .harbourPort, .reg, .seq, .closure, .arms, .stations, .lamp, .display,
          .sup] s t)
    ∧ (∀ o, s.seq.opening = some o → n.toNat ∈ o.list → (p.state = .admitted ∨ (p.state = .cleared ∧ l = .control)) →
      let left := o.list.filter (fun m => m != n.toNat)
      let abandoned (t : State) : Prop := t.seq.opening = some { o with state := .reopeningRoad, list := [], target := 0 }
        ∧ (t.links.get .control).attention.raised = true ∧ (t.links.get .control).attention.causes.opening = true
        ∧ demandsStand t
      (o.state = .closingRoad → o.recovery = false → left ≠ [] → ∃ t target, exec (.withdrawPassage l [n]) s = .next t
        ∧ t.seq.opening = some { o with list := left, target := target }
        ∧ (∀ q ∈ listedRecords t, isActive q = true → withMargin s.conf q.angle ≤ target)
        ∧ ((∃ q ∈ listedRecords t, isActive q = true) →
            ∃ q ∈ listedRecords t, isActive q = true ∧ target = withMargin s.conf q.angle)
        ∧ demandsStand t
        ∧ unchangedBut [.controlPort, .harbourPort, .reg, .seq, .lamp, .display, .sup] s t)
      ∧ (o.state = .closingRoad → left = [] → s.leaf.group.state = .stowed →
        (s.closure.state.closing = true ∨ s.closure.state = .closureHeld ∨ s.closure.state = .roadClosed) →
        (s.sup.mode = .attended → noStandingFault s → (∃ x, (s.arm x).inService = true) →
          ∃ t, exec (.withdrawPassage l [n]) s = .next t ∧ abandoned t ∧ reopeningStarted s t)
        ∧ (s.sup.mode = .unattended → ∃ t, exec (.withdrawPassage l [n]) s = .next t ∧ abandoned t
          ∧ t.closure = { s.closure with reopenPending := true } ∧ t.arms = s.arms ∧ t.stations = s.stations))
      ∧ (o.state = .lifting → ∃ t, exec (.withdrawPassage l [n]) s = .next t
        ∧ t.seq.opening = some { o with list := left } ∧ demandsStand t))
    ∧ (p.state = .cleared → l = .harbour →
      ∃ t, exec (.withdrawPassage l [n]) s = .next t ∧ onlyAnswered l 0x12#8 .tooLate [] [] s t)
    ∧ (p.state.terminal = true →
      ∃ t, exec (.withdrawPassage l [n]) s = .next t ∧ onlyAnswered l 0x12#8 .wrongState [] [] s t)

/-- RELEASE PASSAGE: a terminal record goes, with its number in the admitted list if it stands there, and the counters do
not move; a record that is not terminal is WRONG_STATE (R21, R25). -/
def Obligations.ReleaseRemovesATerminalRecord : Prop :=
  ∀ (l : Link) (n : Byte) (p : Passage) (s : State),
    readyFor l s → s.sup.mode ≠ .setup → n ≠ 0 → findPassage n.toNat s.reg = some p →
    (l = .control ∨ p.origin = .harbour) →
    (p.state.terminal = true → ∃ t, exec (.releasePassage l [n]) s = .next t
      ∧ t.reg = { s.reg with records := s.reg.records.filter (fun q => q.number != n.toNat) }
      ∧ answered l 0x13#8 .ok [n] s t ∧ admittedList t = (admittedList s).filter (fun m => m != n.toNat)
      ∧ (n.toNat ∉ admittedList s → (t.links.get p.origin).attention = toldAttention l p s
        ∧ (l ≠ p.origin → (t.links.get l).attention = (s.links.get l).attention)
        ∧ t.sup = framedSup l s ∧ unchangedBut [.controlPort, .harbourPort, .reg, .sup] s t)
      ∧ unchangedBut [.freeCount, .controlPort, .harbourPort, .reg, .seq, .closure, .arms, .stations, .lamp, .display,
          .sup] s t)
    ∧ (p.state.terminal = false →
      ∃ t, exec (.releasePassage l [n]) s = .next t ∧ onlyAnswered l 0x13#8 .wrongState [] [] s t)

/-- LOOK UP PASSAGE by number and by tag changes nothing: the record of the number, or the count and the first eight of
the records with the tag in queue order, or NO_SUCH_PASSAGE; a number of 0 and a tag that fails R7 are BAD_FIELD (R22). -/
def Obligations.LookUpReadsTheRegister : Prop :=
  ∀ (l : Link) (s : State), readyFor l s → s.sup.mode ≠ .setup →
    (∀ n : Byte, ∃ t, exec (.lookUpPassage l [0, n]) s = .next t
      ∧ if n = 0 then onlyAnswered l 0x14#8 .badField [] [] s t
        else match s.reg.records.find? (fun p => p.number == n.toNat) with
          | some p => onlyAnswered l 0x14#8 .ok (passageOctets p) [] s t
          | none => onlyAnswered l 0x14#8 .noSuchPassage [] [] s t)
    ∧ ∀ octets : List Byte, octets.length = 12 → ∃ t, exec (.lookUpPassage l (1 :: octets)) s = .next t
      ∧ match normaliseTag octets with
        | none => onlyAnswered l 0x14#8 .badField [] [] s t
        | some tag =>
          let found := (queueOrder s.reg.records).filter (fun p => p.tag == tag)
          if found = [] then onlyAnswered l 0x14#8 .noSuchPassage [] [] s t
          else onlyAnswered l 0x14#8 .ok (octet found.length :: ((found.take 8).map passageOctets).flatten) [] s t

/-- LIST PASSAGES: the count, then number, state, direction and class of every record in queue order; the requesting link's
attention line is lowered and the other's stands (R23). -/
def Obligations.ListPassagesInQueueOrder : Prop :=
  ∀ (l : Link) (s : State), readyFor l s → s.sup.mode ≠ .setup →
    ∃ t, exec (.listPassages l []) s = .next t
      ∧ answered l 0x15#8 .ok (octet s.reg.records.length ::
          ((queueOrder s.reg.records).map (fun p =>
            [octet p.number, octet p.state.code, octet p.direction.code, octet p.cls.code])).flatten) s t
      ∧ (t.links.get l).attention = ⟨false, .empty⟩ ∧ t.sup = framedSup l s ∧ unchangedBut [portPart l, .sup] s t

/-- A minute timer expiry: every WAITING record with a lifetime loses one minute, one that reaches 0 becomes EXPIRED with no
lifetime and raises its origin's line, and nothing else changes; the timer runs for another 60 s (R10, R11). -/
def Obligations.MinuteExpiryAgesWaitingRecords : Prop :=
  ∀ (ms : Nat) (s : State), s.reg.minuteTimer = some ms →
    let ends (p : Passage) : Prop := p.state = .waiting ∧ ∃ n, p.lifetime = some n ∧ n ≤ 1
    ∃ t, exec .minuteTimerExpiry s = .next t
      ∧ t.reg = { s.reg with
          minuteTimer := some 60000
          records := s.reg.records.map (fun p =>
            match p.state, p.lifetime with
            | .waiting, some n =>
              if n ≤ 1 then { p with state := .expired, lifetime := none } else { p with lifetime := some (n - 1) }
            | _, _ => p) }
      ∧ (∀ l, t.links.get l = { s.links.get l with attention := (t.links.get l).attention })
      ∧ (∀ l, (∃ p ∈ s.reg.records, p.origin = l ∧ ends p) →
          (t.links.get l).attention = ⟨true, (s.links.get l).attention.causes.add .passageRecord⟩)
      ∧ (∀ l, (∀ p ∈ s.reg.records, p.origin = l → ¬ends p) →
          (t.links.get l).attention = (s.links.get l).attention)
      ∧ unchangedBut [.controlPort, .harbourPort, .reg] s t

/-- The register keeps its own limits through every step, and the register and the admitted list agree (R1 to R4, R28, R29,
R55). -/
def Obligations.RegisterAndListAreKept : Prop :=
  ∀ s t : State, registerTable s.reg → listTable s → step s = .next t → registerTable t.reg ∧ listTable t
/-! ## The Opening Sequencer -/

/-- BEGIN OPENING taken: the first WAITING records in queue order are admitted, the target is the largest of their required
angles with the margin, the heads of their directions are demanded STAND_BY, and the closing starts in PREWARN_AMBER, or is
held at once where an arm stands LOST or LOCAL (R30, R34, R58, R111, R113). The reply carries the numbers. That the control
line stands where the closing starts, and the open choice between two held causes, are the model's readings (log entries 10,
34 and 2). -/
def Obligations.BeginOpensAndClosesTheRoad : Prop :=
  ∀ (n : Byte) (s : State),
    readyFor .control s → s.sup.mode = .attended → 1 ≤ n.toNat → n.toNat ≤ 8 → s.seq.opening = none →
    s.leaf.group.state = .stowed → s.closure.state = .roadOpen → anyOccupied s = false →
    (∃ p ∈ s.reg.records, p.state = .waiting) → (s.reg.records.map (·.number)).Nodup →
    let first := ((queueOrder s.reg.records).filter (fun p => p.state == .waiting)).take n.toNat
    ∃ t, exec (.beginOpening .control [n]) s = .next t
      ∧ t.reg = { s.reg with
          records := s.reg.records.map (fun p => if p ∈ first then { p with state := .admitted } else p) }
      ∧ t.seq.opening = some ⟨.closingRoad, false, first.map (·.number),
          withMargin s.conf ((first.map (·.angle)).foldl max 0), none, none, false⟩
      ∧ (∀ d, t.seq.demand.get d = if ∃ p ∈ first, p.direction = d then .standBy else .noPassage)
      ∧ answered .control 0x20#8 .ok (octet first.length :: first.map (fun p => octet p.number)) s t
      ∧ (t.links.get .harbour).attention = (if ∃ p ∈ first, p.origin = .harbour then
          ⟨true, s.links.harbour.attention.causes.add .passageRecord⟩ else s.links.harbour.attention)
      ∧ (∀ a, (t.arm a).retryCount = 0 ∧ (t.arm a).commanded = (s.arm a).commanded)
      ∧ (noStandingFault s → t.closure = { s.closure with
            state := .prewarnAmber, redSeen := .none, override := false, redTimeExpired := false, confirmation := false
            closeReported := false, phaseTimer := some (s.conf.amberTime * 1000) }
          ∧ t.display.road = .amber ∧ (∀ a, (t.arm a).latches = .none)
          ∧ (t.links.get .control).attention = (s.links.get .control).attention
          ∧ t.sup = { framedSup .control s with dark := t.sup.dark })
      ∧ (¬noStandingFault s → t.closure.state = .closureHeld ∧ t.closure.heldIn = some .prewarnAmber
          ∧ (t.closure.heldCause = some .armLost ∨ t.closure.heldCause = some .armLocal)
          ∧ t.closure.phaseTimer = none ∧ t.display.road = .red ∧ t.sup.closureHeld = true
          ∧ (t.links.get .control).attention.raised = true)
      ∧ unchangedBut [.freeCount, .controlPort, .harbourPort, .reg, .seq, .closure, .arms, .lamp, .display, .sup] s t

/-- The refusals of BEGIN OPENING in their order, after the checks of R32 (R33). -/
def Obligations.BeginRefusals : Prop :=
  ∀ (n : Byte) (s : State), readyFor .control s → s.sup.mode = .attended → 1 ≤ n.toNat → n.toNat ≤ 8 →
    let refused (o : OutcomeCode) : Prop :=
      ∃ t, exec (.beginOpening .control [n]) s = .next t ∧ onlyAnswered .control 0x20#8 o [] [] s t
    let interlock : Prop := s.leaf.group.state ≠ .stowed ∨ s.closure.state ≠ .roadOpen
      ∨ ∃ z : ZoneId, (s.zones[z]).occupied = true
    (s.seq.opening ≠ none → refused .openingActive)
    ∧ (s.seq.opening = none → interlock → refused .interlock)
    ∧ (s.seq.opening = none → s.closure.state = .roadUncertain → refused .interlock)
    ∧ (s.seq.opening = none → ¬interlock → (∀ p ∈ s.reg.records, p.state ≠ .waiting) → refused .noSuchPassage)

/-- ADMIT TO OPENING taken: the record becomes ADMITTED and joins the list at its end; the target is formed again in
CLOSING_ROAD, stands in LIFTING and OPEN where the record calls for no raise, and is handed to the rising leaves where it
does; from HELD_OPEN the raise sets extending and starts the leaves up, or is refused where the start is; in OPEN the
changeover is cancelled by a record of the served direction and started by one of the other when none of the served direction
is left (R31, R35, R47, R48). -/
def Obligations.AdmitJoinsTheOpening : Prop :=
  ∀ (n : Byte) (p : Passage) (o : Opening) (s : State),
    readyFor .control s → s.sup.mode = .attended → n ≠ 0 → findPassage n.toNat s.reg = some p → p.state = .waiting →
    (s.reg.records.map (·.number)).Nodup → s.seq.opening = some o → o.recovery = false → o.list.length < 8 →
    n.toNat ∉ o.list →
    let records := s.reg.records.map (fun q => if q.number = n.toNat then { q with state := .admitted } else q)
    let joined (target : Nat) (t : State) : Prop := t.reg = { s.reg with records := records }
      ∧ answered .control 0x21#8 .ok (octets16 target) s t
      ∧ (t.links.get p.origin).attention = toldAttention .control p s
      ∧ (t.links.get .control).attention = (s.links.get .control).attention
      ∧ t.sup = { framedSup .control s with dark := t.sup.dark } ∧ demandsStand t
    (o.state = .closingRoad → ∃ t target, exec (.admitToOpening .control [n]) s = .next t ∧ joined target t
      ∧ t.seq.opening = some { o with list := o.list ++ [n.toNat], target := target }
      ∧ (∀ q ∈ listedRecords t, isActive q = true → withMargin s.conf q.angle ≤ target)
      ∧ (∃ q ∈ listedRecords t, isActive q = true ∧ target = withMargin s.conf q.angle)
      ∧ t.seq.demand.get p.direction = .standBy
      ∧ unchangedBut [.controlPort, .harbourPort, .reg, .seq, .lamp, .display, .sup] s t)
    ∧ (o.state = .lifting → withMargin s.conf p.angle ≤ o.target → ∃ t,
      exec (.admitToOpening .control [n]) s = .next t ∧ joined o.target t
      ∧ t.seq.opening = some { o with list := o.list ++ [n.toNat] }
      ∧ unchangedBut [.controlPort, .harbourPort, .reg, .seq, .lamp, .display, .sup] s t)
    ∧ (∀ d, o.state = .open → o.served = some d → withMargin s.conf p.angle ≤ o.target → ∃ t,
      exec (.admitToOpening .control [n]) s = .next t ∧ joined o.target t
      ∧ t.seq.opening = some { o with
          list := o.list ++ [n.toNat]
          changeover := if p.direction = d ∨ activeIn d s = true then none
            else some (o.changeover.getD (s.conf.changeoverDwell * 1000)) }
      ∧ unchangedBut [.controlPort, .harbourPort, .reg, .seq, .lamp, .display, .sup] s t)
    ∧ (o.state = .lifting → s.leaf.group.state = .raising → s.closure.degraded = false →
      o.target < withMargin s.conf p.angle → ∃ t,
      exec (.admitToOpening .control [n]) s = .next t ∧ joined (withMargin s.conf p.angle) t
      ∧ t.seq.opening = some { o with list := o.list ++ [n.toNat], target := withMargin s.conf p.angle }
      ∧ t.leaf = { s.leaf with
          group := { s.leaf.group with target := some (16 * withMargin s.conf p.angle) } }
      ∧ unchangedBut [.controlPort, .harbourPort, .reg, .seq, .leaf, .lamp, .display, .sup] s t)
    ∧ ((o.state = .lifting ∨ o.state = .open) → s.closure.degraded = true → o.target < withMargin s.conf p.angle → ∃ t,
      exec (.admitToOpening .control [n]) s = .next t ∧ onlyAnswered .control 0x21#8 .interlock [] [] s t)
    ∧ (o.state = .open → s.leaf.group.state = .heldOpen → o.target < withMargin s.conf p.angle →
      let startable : Prop := s.leaf.group.emergencyStop = false ∧ s.leaf.group.spanOccupied = false
        ∧ s.closure.state = .roadClosed
      (¬startable → ∃ t, exec (.admitToOpening .control [n]) s = .next t
        ∧ onlyAnswered .control 0x21#8 .interlock [] [] s t)
      ∧ ∀ d, o.served = some d → startable → s.closure.degraded = false → allLocks .withdrawn s.leaf = true → ∃ t,
        exec (.admitToOpening .control [n]) s = .next t ∧ t.reg = { s.reg with records := records }
        ∧ answered .control 0x21#8 .ok (octets16 (withMargin s.conf p.angle)) s t
        ∧ t.seq.opening = some { o with
            list := o.list ++ [n.toNat], target := withMargin s.conf p.angle, extending := true
            changeover := if p.direction = d ∨ activeIn d s = true then none
              else some (o.changeover.getD (s.conf.changeoverDwell * 1000)) }
        ∧ startedMotion .raising (16 * withMargin s.conf p.angle) s.leaf t.leaf
        ∧ (t.links.get .control).attention.raised = true ∧ (t.links.get .control).attention.causes.leafGroup = true
        ∧ (p.origin = .harbour → (t.links.get .harbour).attention = toldAttention .control p s) ∧ demandsStand t
        ∧ unchangedBut [.controlPort, .harbourPort, .reg, .seq, .leaf, .lamp, .display, .sup] s t)

/-- MARK PASSED completes a CLEARED record, which stays in the list, and is refused for any other; the expiry of the
changeover dwell switches the served direction. Both weigh the changeover and raise the control line when nothing is left to
clear (R37, R47, R48, R50). -/
def Obligations.MarkPassedAndChangeover : Prop :=
  (∀ (n : Byte) (p : Passage) (s : State), readyFor .control s → s.sup.mode = .attended → n ≠ 0 →
    findPassage n.toNat s.reg = some p →
    (p.state ≠ .cleared → ∃ t, exec (.markPassed .control [n]) s = .next t
      ∧ onlyAnswered .control 0x22#8 .wrongState [] [] s t)
    ∧ (p.state = .cleared → ∃ t, exec (.markPassed .control [n]) s = .next t
      ∧ t.reg = { s.reg with
          records := s.reg.records.map (fun q => if q.number = n.toNat then { q with state := .completed } else q) }
      ∧ answered .control 0x22#8 .ok [] s t ∧ admittedList t = admittedList s ∧ demandsStand t
      ∧ (∀ o d, s.seq.opening = some o → o.state = .open → o.served = some d →
          t.seq.opening = some { o with
            changeover := if activeIn d t = true ∨ admittedIn (otherDirection d) t = false then none
              else some (o.changeover.getD (s.conf.changeoverDwell * 1000)) }
          ∧ (t.links.get .control).attention =
            (if activeIn d t = false ∧ activeIn (otherDirection d) t = false then
              ⟨true, s.links.control.attention.causes.add .opening⟩ else s.links.control.attention))
      ∧ t.sup = { framedSup .control s with dark := t.sup.dark }
      ∧ unchangedBut [.controlPort, .harbourPort, .reg, .seq, .lamp, .display, .sup] s t))
  ∧ ∀ (o : Opening) (d : Direction) (ms : Nat) (s : State), s.seq.opening = some o → o.state = .open →
    o.served = some d → o.changeover = some ms → ∃ t, exec .changeoverDwellExpiry s = .next t
      ∧ t.seq.opening = some { o with
          served := some (otherDirection d)
          changeover := if activeIn (otherDirection d) s = false ∧ admittedIn d s = true then
            some (s.conf.changeoverDwell * 1000) else none }
      ∧ t.links.control = { s.links.control with
          attention := if activeIn d s = false ∧ activeIn (otherDirection d) s = false then
            ⟨true, s.links.control.attention.causes.add .opening⟩ else s.links.control.attention }
      ∧ t.seq.clearance = s.seq.clearance ∧ demandsStand t ∧ t.sup = { s.sup with dark := t.sup.dark }
      ∧ unchangedBut [.controlPort, .seq, .lamp, .display, .sup] s t

/-- LOWER BRIDGE from leaves at rest, and ABORT OPENING of a road that is closing and of a lift under way: every ADMITTED
record is returned to WAITING and leaves the list, the reply counts them, and then the leaves start down, the road starts to
reopen, or the leaves start to stop with a lower pending (R38, R39, R86, R121). That the control line stands at the abort's
own changes is the model's reading (log entries 10 and 34). -/
def Obligations.LowerAndAbortReturnTheRecords : Prop :=
  ∀ (o : Opening) (s : State),
    readyFor .control s → s.sup.mode = .attended → s.seq.opening = some o → (s.reg.records.map (·.number)).Nodup →
    o.list.Nodup → (∀ p ∈ listedRecords s, p.state ≠ .cleared) →
    let back := (admittedRecords s).map (·.number)
    let returned (t : State) : Prop :=
      t.reg = { s.reg with
        records := s.reg.records.map (fun q => if q.number ∈ back then { q with state := .waiting } else q) }
      ∧ admittedList t = o.list.filter (fun m => !back.contains m)
      ∧ (t.links.get .harbour).attention = (if ∃ p ∈ admittedRecords s, p.origin = .harbour then
          ⟨true, s.links.harbour.attention.causes.add .passageRecord⟩ else s.links.harbour.attention)
    let lowering : Opening := { o with
      state := .lowering, list := o.list.filter (fun m => !back.contains m), served := none, changeover := none
      extending := false, target := 0 }
    ((o.state = .open ∨ o.state = .recoveryWait ∨ (o.state = .lifting ∧ s.leaf.group.state = .halted)) →
      (s.leaf.group.state = .heldOpen ∨ s.leaf.group.state = .halted) → bothSeated s.leaf = false →
      s.leaf.group.emergencyStop = false → s.leaf.group.spanOccupied = false → s.closure.state = .roadClosed →
      allLocks .withdrawn s.leaf = true → ∃ t, exec (.lowerBridge .control []) s = .next t ∧ returned t
        ∧ t.seq.opening = some lowering ∧ startedMotion .lowering 0 s.leaf t.leaf
        ∧ answeredMoving 0x23#8 [octet back.length] [.harbourPort, .reg] s t)
    ∧ (o.state = .closingRoad → o.recovery = false → s.leaf.group.state = .stowed →
      (s.closure.state.closing = true ∨ s.closure.state = .closureHeld ∨ s.closure.state = .roadClosed) →
      noStandingFault s → (∃ a, (s.arm a).inService = true) → ∃ t, exec (.abortOpening .control []) s = .next t ∧ returned t
        ∧ t.seq.opening = some { o with
            state := .reopeningRoad, list := o.list.filter (fun m => !back.contains m), extending := false, target := 0 }
        ∧ t.closure = { s.closure with
            state := .roadReopening, phaseTimer := none, clearDwell := .stopped, heldCause := none, heldIn := none }
        ∧ (∀ a, (s.arm a).inService = true → commandedNow .up a t) ∧ t.display.road = .red ∧ demandsStand t
        ∧ answered .control 0x24#8 .ok [octet back.length] s t
        ∧ (t.links.get .control).attention = (s.links.get .control).attention
        ∧ unchangedBut [.controlPort, .harbourPort, .reg, .seq, .closure, .arms, .stations, .lamp, .display, .sup] s t)
    ∧ (o.state = .lifting → o.recovery = false → (s.leaf.group.state = .raising ∨ s.leaf.group.state = .settling) →
      ∃ t, exec (.abortOpening .control []) s = .next t ∧ returned t ∧ t.seq.opening = some lowering
        ∧ t.leaf = { s.leaf with group := { s.leaf.group with
            state := .stopping, cause := none, pendingLower := true, target := some 0, settleCount := 0, seatCount := 0
            restCount := 0 } }
        ∧ answeredMoving 0x24#8 [octet back.length] [.harbourPort, .reg] s t)

/-- CONTINUE MOTION of HALTED leaves: seated leaves behind closed locks go to UNLOCKING, leaves with every lock WITHDRAWN
start up toward a target or down toward 0, and a lock in any other state trips the group with LOCK_FAULT; with the lift
refused before, it starts the lift from STOWED. It is INTERLOCK under the emergency stop (R40, R42, R83, R84, R87, R88). That
an absent T reads as 0, and that the lift's own change of the opening raises no line, are the model's readings (log entries 23
and 34). -/
def Obligations.ContinueMotionByTarget : Prop :=
  ∀ (o : Opening) (s : State),
    readyFor .control s → s.sup.mode = .attended → s.seq.opening = some o →
    let started : Prop := s.leaf.group.emergencyStop = false ∧ s.leaf.group.spanOccupied = false
      ∧ s.closure.state = .roadClosed
    let toward : Nat := s.leaf.group.target.getD 0
    let opening := if o.state = .open then { o with extending := false } else o
    ((o.state = .lifting ∨ o.state = .open ∨ o.state = .lowering) → s.leaf.group.state = .halted →
      (started → 0 < toward → allLocks .withdrawn s.leaf = true → ∃ t, exec (.continueMotion .control []) s = .next t
        ∧ startedMotion .raising toward s.leaf t.leaf ∧ t.seq.opening = some o ∧ answeredMoving 0x25#8 [] [] s t)
      ∧ (started → toward = 0 → bothSeated s.leaf = false → allLocks .withdrawn s.leaf = true → ∃ t,
        exec (.continueMotion .control []) s = .next t ∧ startedMotion .lowering 0 s.leaf t.leaf
        ∧ t.seq.opening = some o ∧ answeredMoving 0x25#8 [] [] s t)
      ∧ (started → 0 < toward → leafTable s.leaf → allLocks .withdrawn s.leaf = false → bothSeated s.leaf = true → ∃ t,
        exec (.continueMotion .control []) s = .next t ∧ t.leaf.group = { s.leaf.group with state := .unlocking }
        ∧ (∀ k, (t.leaf.locks.get k).command = some .withdraw) ∧ t.leaf.drives = s.leaf.drives
        ∧ t.seq.opening = some o ∧ answeredMoving 0x25#8 [] [] s t)
      ∧ (started → 0 < toward → allLocks .withdrawn s.leaf = false → bothSeated s.leaf = false → ∃ t,
        exec (.continueMotion .control []) s = .next t ∧ t.leaf = trippedLeaf .lockFault s.leaf
        ∧ t.seq.opening = some opening ∧ answeredMoving 0x25#8 [] [] s t)
      ∧ (s.leaf.group.emergencyStop = true → ∃ t, exec (.continueMotion .control []) s = .next t
        ∧ onlyAnswered .control 0x25#8 .interlock [] [] s t))
    ∧ (o.state = .closingRoad → o.recovery = false → s.leaf.group.state = .stowed → started → leafTable s.leaf →
      allLocks .withdrawn s.leaf = false → ∃ t, exec (.continueMotion .control []) s = .next t
        ∧ t.leaf.group = { s.leaf.group with state := .unlocking, target := some (16 * o.target) }
        ∧ (∀ k, (t.leaf.locks.get k).command = some .withdraw) ∧ t.leaf.drives = s.leaf.drives
        ∧ t.seq.opening = some { o with state := .lifting } ∧ answeredMoving 0x25#8 [] [] s t)

/-- What a PASS demand stands for: a head is demanded PASS only in ATTENDED, or in UNATTENDED with the policy HOLD, in OPEN
with no changeover, for the served direction, with the leaves held open or extending upward, and with every CLEARED vessel of
its direction, of which there is one, under the available clearance; the other head is not demanded PASS. What a head displays
is never ahead of its demand, and PASS, STAND_BY, NO_PASSAGE and RED_SINGLE are displayed only with their own lamps healthy
(R58, R165, R166). -/
def Obligations.PassOnlyForACoveredVessel : Prop :=
  (∀ (d : Direction) (s : State), demandFor d s = .pass →
    (s.sup.mode = .attended ∨ (s.sup.mode = .unattended ∧ s.conf.signalPolicy = .hold))
    ∧ ∃ o, s.seq.opening = some o ∧ o.state = .open ∧ o.changeover = none ∧ o.served = some d
      ∧ (s.leaf.group.state = .heldOpen ∨ (s.leaf.group.state = .raising ∧ o.extending = true))
      ∧ (∃ p ∈ listedRecords s, p.state = .cleared ∧ p.direction = d)
      ∧ (∀ p ∈ listedRecords s, p.state = .cleared → p.direction = d → p.clearance ≤ s.seq.clearance)
      ∧ demandFor (otherDirection d) s ≠ .pass)
  ∧ ∀ (a : Aspect) (h : HeadHealth),
    let shown (x : Aspect) : Bool := match x with
      | .pass => h.greenUp && h.greenLow
      | .standBy => h.redUp && h.greenUp
      | .noPassage => h.redUp && h.redLow
      | .redSingle => h.redUp || h.redLow
      | .dark => true
    let x := walk a h
    a.code ≤ x.aspect.code ∧ shown x.aspect = true ∧ (∀ b, a.code ≤ b.code → b.code < x.aspect.code → shown b = false)
      ∧ x.singleRed = if x.aspect = .redSingle then some (if h.redUp then .redUp else .redLow) else none

/-- What the heads show through every step: each demand is the one R58 gives, each head displays the walk from its demand by
the health of its functions, the sequencer's copy agrees, and the road lights are those of the closure state (R59, R126, R166,
R171). The register's own limits, which the step keeps too (`RegisterAndListAreKept`), are a premise: no two records share a
number (R3, R4). -/
def Obligations.DisplayTableIsKept : Prop :=
  ∀ s t : State, registerTable s.reg → displayTable s → step s = .next t → displayTable t

/-! ## The leaves, the locks and the brakes -/

/-- Stage 1 of the computation: the reduced difference in its three cases and its range, the product within its 41 bits, the
fine angle as the product over 65 536 rounded toward negative infinity and limited, and the range flag, set exactly when the
limit acts (R63, R64). -/
def Obligations.FineAngleOfADrive : Prop :=
  ∀ (c : Calibration) (count : Nat), (c.sign = 1 ∨ c.sign = -1) → c.scale ≤ 65535 → c.zero ≤ 16777215 → count ≤ 16777215 →
    let x : Int := (count : Int) - c.zero
    let p : Int := c.sign * countDifference count c.zero * c.scale
    (-8388608 ≤ x ∧ x ≤ 8388607 → countDifference count c.zero = x)
    ∧ (8388607 < x → countDifference count c.zero = x - 16777216)
    ∧ (x < -8388608 → countDifference count c.zero = x + 16777216)
    ∧ -8388608 ≤ countDifference count c.zero ∧ countDifference count c.zero ≤ 8388607
    ∧ p.natAbs ≤ 549747425280
    ∧ ∃ q : Int, q * 65536 ≤ p ∧ p < (q + 1) * 65536
      ∧ (q < -8000 → fineAngle c count = -8000) ∧ (144000 < q → fineAngle c count = 144000)
      ∧ (-8000 ≤ q → q ≤ 144000 → fineAngle c count = q)
      ∧ (rangeFlag c count = true ↔ q < -8000 ∨ 144000 < q)

/-- A control period with the timer running: each drive takes its count, its fine angle and its range flag; the leaf angles,
twists, skew, seated flags and hold flag follow from them; the available clearance under the lower leaf is kept and reaches the
sequencer; moving leaves that keep moving take one step of the profile and the demands it gives; and the timer starts another
20 ms. A leaf's twist warning latch is set at the warn level, in a rest state at the trip level too, and a latch newly set
pulses FAULT; it stays set but at the entry to STOWED. The update of the clearance clears the ADMITTED records it covers in the
served direction, with their origins told, and no others. With the timer stopped only the counts at the inputs move (the
model's choice, log entry 14) (R25, R46, R61 to R68, R72, R78, R94, R95). -/
def Obligations.ControlPeriodFormsTheAngles : Prop :=
  ∀ (counts : PerDrive (BitVec 24)) (s : State),
    let moving (x : State) : Prop := x.leaf.group.state = .raising ∨ x.leaf.group.state = .settling
      ∨ x.leaf.group.state = .lowering ∨ x.leaf.group.state = .seating
    (s.leaf.periodTimer = none → ∃ t, exec (.controlPeriod counts) s = .next t
      ∧ t.pins = { s.pins with encoders := counts } ∧ unchangedBut [.pins] s t)
    ∧ ∀ ms, s.leaf.periodTimer = some ms → ∃ t, exec (.controlPeriod counts) s = .next t
      ∧ t.pins = { s.pins with encoders := counts } ∧ t.leaf.periodTimer = some 20
      ∧ (∀ d, (t.leaf.drives.get d).count = (counts.get d).toNat
          ∧ (t.leaf.drives.get d).fine = fineAngle (s.conf.drives.get d) (counts.get d).toNat
          ∧ (t.leaf.drives.get d).rangeFlag = rangeFlag (s.conf.drives.get d) (counts.get d).toNat)
      ∧ t.leaf.west.angle = ((t.leaf.drives.get .wn).fine + (t.leaf.drives.get .ws).fine) / 2
      ∧ t.leaf.east.angle = ((t.leaf.drives.get .en).fine + (t.leaf.drives.get .es).fine) / 2
      ∧ t.leaf.west.twist = (t.leaf.drives.get .wn).fine - (t.leaf.drives.get .ws).fine
      ∧ t.leaf.east.twist = (t.leaf.drives.get .en).fine - (t.leaf.drives.get .es).fine
      ∧ (t.leaf.west.seated = true ↔ t.leaf.west.angle.natAbs ≤ s.conf.seatedWindow)
      ∧ (t.leaf.east.seated = true ↔ t.leaf.east.angle.natAbs ≤ s.conf.seatedWindow)
      ∧ t.leaf.group.skew = t.leaf.west.angle - t.leaf.east.angle
      ∧ (s.conf.skewHold ≤ t.leaf.group.skew.natAbs → t.leaf.group.hold = true)
      ∧ (t.leaf.group.skew.natAbs < s.conf.skewHold - s.conf.hysteresis → t.leaf.group.hold = false)
      ∧ (t.leaf.group.skew.natAbs < s.conf.skewHold → s.conf.skewHold - s.conf.hysteresis ≤ t.leaf.group.skew.natAbs →
          t.leaf.group.hold = s.leaf.group.hold)
      ∧ t.leaf.group.clearance = clearanceAt s.conf.clearances
          (max 0 (min 8000 (min t.leaf.west.angle t.leaf.east.angle / 16))).toNat
      ∧ t.seq.clearance = t.leaf.group.clearance ∧ demandsStand t
      ∧ (let warns (l : Leaf) : Prop := s.conf.twistWarn ≤ l.twist.natAbs
            ∨ (s.leaf.group.state.working = false ∧ s.conf.twistTrip ≤ l.twist.natAbs)
        let anew : Prop := (s.leaf.west.twistWarning = false ∧ warns t.leaf.west)
            ∨ (s.leaf.east.twistWarning = false ∧ warns t.leaf.east)
        ((t.leaf.group.state = .stowed → s.leaf.group.state = .stowed) →
          (t.leaf.west.twistWarning = true ↔ s.leaf.west.twistWarning = true ∨ warns t.leaf.west)
          ∧ (t.leaf.east.twistWarning = true ↔ s.leaf.east.twistWarning = true ∨ warns t.leaf.east))
        ∧ (anew → t.sup.pulseTimer = some 200) ∧ (¬anew → t.sup.pulseTimer = s.sup.pulseTimer))
      ∧ ((s.reg.records.map (·.number)).Nodup →
        t.reg = { s.reg with records :=
            s.reg.records.map (fun p => if clearedByUpdate t p = true then { p with state := .cleared } else p) }
        ∧ (let told : Bool := s.reg.records.any (fun p => clearedByUpdate t p && p.origin == .harbour)
          t.links.harbour = { s.links.harbour with attention :=
            if told = true then ⟨true, s.links.harbour.attention.causes.add .passageRecord⟩
            else s.links.harbour.attention })
        ∧ ((∃ p ∈ s.reg.records, clearedByUpdate t p = true ∧ p.origin = .control) →
          t.links.control.attention.raised = true ∧ t.links.control.attention.causes.passageRecord = true))
      ∧ (∀ p, s.leaf.group.profile = some p → ∀ target, s.leaf.group.target = some target → moving s → moving t →
          let q := advanceProfile s.conf t.leaf.group.hold target p
          t.leaf.group.profile = some q ∧ ∀ d,
            (t.leaf.drives.get d).followingError = (q.reference : Int) - (t.leaf.drives.get d).fine
            ∧ (t.leaf.drives.get d).demand = limitDemand (rawDemand s.conf (p.reference ≤ target) q.speed
                (t.leaf.drives.get d).followingError))
      ∧ unchangedBut [.freeCount, .pins, .controlPort, .harbourPort, .reg, .seq, .leaf, .closure, .arms, .stations, .lamp,
          .display, .sup] s t

/-- Step 6 of a period: in RAISING, SETTLING, LOWERING and SEATING the speed goes toward its cap by at most the acceleration,
and the reference moves toward the target by the step without passing it (R73); in STOPPING the speed falls by the
acceleration and the reference moves on in the direction of travel within 0 to 144 000 (R74). Step 7: each drive's following
error and its limited demand with the saturated flag (R75, R76). -/
def Obligations.ProfileAndDemandOfAPeriod : Prop :=
  ∀ (c : Configured) (m : LeafMotion) (p : Profile), m.group.profile = some p →
    ((m.group.state = .raising ∨ m.group.state = .settling ∨ m.group.state = .lowering ∨ m.group.state = .seating) →
      ∀ target, m.group.target = some target → ∃ q, (m.advance c).group = { m.group with profile := some q } ∧
        ∃ d cap v step : Nat, (d : Int) = |(target : Int) - p.reference|
        ∧ cap = (if m.group.hold = true then 0 else if c.dslow < d then c.vmax else if c.dcreep < d then c.vslow
            else c.vcreep)
        ∧ (p.speed ≤ cap → v = min (p.speed + c.accel) cap) ∧ (cap < p.speed → v = max (p.speed - c.accel) cap)
        ∧ step = min v d
        ∧ (p.reference ≤ target → q.reference = p.reference + step)
        ∧ (target < p.reference → q.reference + step = p.reference)
        ∧ (q.reference = target → q.speed = 0) ∧ (q.reference ≠ target → q.speed = step)
        ∧ (step ≠ 0 → (q.up = true ↔ p.reference < target)) ∧ (step = 0 → q.up = p.up)
        ∧ q.speed ≤ p.speed + c.accel ∧ (p.speed ≤ q.speed + c.accel ∨ q.reference = target)
        ∧ (p.reference = target → q.reference = target ∧ q.speed = 0))
    ∧ (m.group.state = .stopping → ∃ q, (m.advance c).group = { m.group with profile := some q }
      ∧ q.speed = p.speed - c.accel ∧ q.up = p.up
      ∧ (p.up = true → q.reference = min (p.reference + q.speed) 144000)
      ∧ (p.up = false → q.reference = p.reference - q.speed))
    ∧ (m.group.state.profileRuns = false → m.advance c = m ∧ ∀ positive d,
        ((m.drive c positive).drives.get d).followingError = 0 ∧ ((m.drive c positive).drives.get d).demand = 0
        ∧ ((m.drive c positive).drives.get d).saturated = false)
    ∧ (m.group.state.profileRuns = true → ∀ positive d,
        let e : Int := (p.reference : Int) - (m.drives.get d).fine
        let u : Int := (if positive then (p.speed : Int) else -(p.speed : Int)) * c.kff + (e * c.kp).tdiv 256
        ((m.drive c positive).drives.get d) = { m.drives.get d with
          followingError := e, demand := max (-32767) (min 32767 u), saturated := decide (u < -32767 ∨ 32767 < u) })

/-- A proving switch in a new level. In a rest state the lock record alone follows it, but for a lock that leaves DRIVEN in
STOWED, which is latched unproven with a FAULT pulse (R91). In RAISING to STOPPING a lock that leaves WITHDRAWN trips the
group, a stop with a cause keeping its own, and so does a new CONFLICT in UNLOCKING and LOCKING (R88 to R90, R100). The last
lock to reach WITHDRAWN in UNLOCKING starts the leaves up, or leaves them HALTED under an occupied span, and the last to reach
DRIVEN in LOCKING makes the group STOWED: an opening in LOWERING then goes on in ATTENDED to REOPENING_ROAD with the road
starting to reopen, and any other stands (R51, R57, R88, R89, R95). Else the lock's record and timer alone follow the switch
(R80). A lock timer that runs out in UNLOCKING or LOCKING trips the group with LOCK_TIMEOUT, and a stopped one does nothing.
That a stopped one does nothing, and that a drive's saturated flag clears at once with its demand where an event sets the
brakes, are the model's (log entries 4 and 39). -/
def Obligations.LockSwitchesAndTimers : Prop :=
  ∀ (k : LockId) (switch : LockSwitch) (made : Bool) (s : State),
    let old := s.leaf.locks.get k
    let moved : Lock := match switch with
      | .driven => { old with drivenSwitch := made }
      | .withdrawn => { old with withdrawnSwitch := made }
    let leaf : LeafMotion := { s.leaf with locks := s.leaf.locks.set k moved }
    let timed : Lock := if old.command = none then moved
      else if lockReached moved = true then { moved with timer := none }
      else if lockReached old = true then { moved with timer := some 0 } else moved
    moved ≠ old → leafTable s.leaf →
    ((s.leaf.group.state = .inactive ∨ s.leaf.group.state = .tripped ∨ s.leaf.group.state = .halted
        ∨ (s.leaf.group.state = .stowed ∧ lockState old ≠ .driven)
        ∨ ((s.leaf.group.state.profileRuns = true ∨ s.leaf.group.state = .heldOpen) ∧ lockState old ≠ .withdrawn)) → ∃ t,
      exec (.lockSwitchChange k switch made) s = .next t ∧ t.leaf = leaf ∧ unchangedBut [.leaf] s t)
    ∧ (s.leaf.group.state = .stowed → lockState old = .driven → ∃ t,
      exec (.lockSwitchChange k switch made) s = .next t
      ∧ t.leaf = { s.leaf with locks := s.leaf.locks.set k { moved with unproven := true } }
      ∧ t.sup = (if old.unproven = true then s.sup else { s.sup with pulseTimer := some 200 })
      ∧ unchangedBut [.leaf, .sup] s t)
    ∧ ((s.leaf.group.state = .raising ∨ s.leaf.group.state = .settling ∨ s.leaf.group.state = .heldOpen
        ∨ s.leaf.group.state = .lowering ∨ s.leaf.group.state = .seating) → lockState old = .withdrawn →
      ∃ t, exec (.lockSwitchChange k switch made) s = .next t ∧ trips .lockFault leaf s t)
    ∧ (s.leaf.group.state = .stopping → lockState old = .withdrawn →
      ∃ t, exec (.lockSwitchChange k switch made) s = .next t
        ∧ trips (s.leaf.group.cause.getD .lockFault) leaf s t)
    ∧ ((s.leaf.group.state = .unlocking ∨ s.leaf.group.state = .locking) → lockState old ≠ .conflict →
      lockState moved = .conflict → ∃ t, exec (.lockSwitchChange k switch made) s = .next t ∧ trips .lockFault leaf s t)
    ∧ (s.leaf.group.state = .unlocking → allLocks .withdrawn leaf = true → ∃ t,
      exec (.lockSwitchChange k switch made) s = .next t
      ∧ (∀ j, (t.leaf.locks.get j).command = none ∧ (t.leaf.locks.get j).timer = none)
      ∧ t.leaf.group.target = s.leaf.group.target
      ∧ (s.leaf.group.spanOccupied = false → t.leaf.group.state = .raising
        ∧ (∀ d, (t.leaf.drives.get d).brakeReleased = true) ∧ t.seq.opening = s.seq.opening)
      ∧ (s.leaf.group.spanOccupied = true → t.leaf.group.state = .halted ∧ brakesSet t.leaf
        ∧ t.seq.opening = stoppedOpening s)
      ∧ groupReported [.leafGroup] s t)
    ∧ (s.leaf.group.state = .locking → allLocks .driven leaf = true → ∃ t,
      exec (.lockSwitchChange k switch made) s = .next t ∧ t.leaf.group = { s.leaf.group with state := .stowed }
      ∧ (∀ j, (t.leaf.locks.get j).command = none ∧ (t.leaf.locks.get j).timer = none
          ∧ (t.leaf.locks.get j).unproven = false)
      ∧ t.leaf.west.twistWarning = false ∧ t.leaf.east.twistWarning = false ∧ t.leaf.drives = s.leaf.drives
      ∧ ((∀ o, s.seq.opening = some o → o.state = .lowering → s.sup.mode = .unattended) →
        t.seq.opening = s.seq.opening ∧ groupReported [.leafGroup] s t)
      ∧ ∀ o, s.seq.opening = some o → o.state = .lowering → s.sup.mode = .attended → s.closure.state = .roadClosed →
        noStandingFault s → (∃ a, (s.arm a).inService = true) →
        t.seq.opening = some { o with state := .reopeningRoad } ∧ reopeningStarted s t
          ∧ groupReportedWith [.closure, .arms, .stations] [.leafGroup, .opening, .closure] s t)
    ∧ ((s.leaf.group.state = .unlocking ∨ s.leaf.group.state = .locking) → lockState moved ≠ .conflict →
      (s.leaf.group.state = .unlocking → allLocks .withdrawn leaf = false) →
      (s.leaf.group.state = .locking → allLocks .driven leaf = false) → ∃ t,
      exec (.lockSwitchChange k switch made) s = .next t
      ∧ t.leaf = { s.leaf with locks := s.leaf.locks.set k timed } ∧ unchangedBut [.leaf] s t)
    ∧ ((s.leaf.group.state = .unlocking ∨ s.leaf.group.state = .locking) → old.timer.isSome = true → ∃ t,
      exec (.lockTimerExpiry k) s = .next t ∧ trips .lockTimeout s.leaf s t)
    ∧ (((s.leaf.group.state ≠ .unlocking ∧ s.leaf.group.state ≠ .locking) ∨ old.timer = none) →
      exec (.lockTimerExpiry k) s = .next s)

/-- The emergency stop trips a working group, keeps a stop's own cause, and in a rest state moves the field alone; the settle
dwell ends in HELD_OPEN and turns a lift into an open bridge; the seat dwell ends in LOCKING with the tail locks driven, and
the centre lock while both leaves are seated; the settle timeout trips SETTLING and SEATING (R44, R79, R89, R92, R93, R97).
That the three dwell rows act by the group state alone, and that a drive's saturated flag clears at once with its demand where
an event sets the brakes, are the model's choices (log entries 17 and 39).

A control period supervises the group by what it finds. Twist and a range flag trip a working group, skew stops moving leaves
and trips a working group at rest, and a following error trips moving leaves, a stop keeping its own cause (R95, R96, R100);
that the cause is some one of several found at step 5 is the model's choice (log entry 1). With nothing found, leaves that have
reached their reference go to SETTLING and SEATING, whose counts advance to HELD_OPEN, to LOCKING or to the settle timeout
(R92, R93), and a stop that has come to rest ends TRIPPED with its cause or HALTED, with a pending lower taken at once (R99).
That the seated flags stand before, and a following trip stands before, the transitions of the same step 8 (SEATING to LOCKING,
a stop without a cause to HALTED, and the others) is the model's reading (log entry 13). -/
def Obligations.GroupEvents : Prop :=
  ∀ s : State,
    (∀ active, s.leaf.group.emergencyStop ≠ active →
      let leaf : LeafMotion := { s.leaf with group := { s.leaf.group with emergencyStop := active } }
      ((active = false ∨ s.leaf.group.state.working = false) → ∃ t, exec (.emergencyStopChange active) s = .next t
        ∧ t.leaf = leaf ∧ unchangedBut [.leaf] s t)
      ∧ (active = true → s.leaf.group.state.working = true → causeTable s.leaf.group → ∃ t,
        exec (.emergencyStopChange active) s = .next t ∧ trips (s.leaf.group.cause.getD .estop) leaf s t))
    ∧ (s.leaf.group.state = .settling → ∃ t, exec .settleDwellComplete s = .next t
      ∧ t.leaf = { s.leaf with
          group := { s.leaf.group with state := .heldOpen, settleCount := 0, seatCount := 0, restCount := 0 }
          drives := s.leaf.drives.map (fun d => { d with brakeReleased := false, demand := 0, saturated := false }) }
      ∧ (∀ o, s.seq.opening = some o → o.state = .lifting →
          t.seq.opening = some { o with
            state := .open, changeover := none, extending := false
            served := some ((((admittedRecords s).head?).map (·.direction)).getD .seaward) }
          ∧ groupReported [.leafGroup, .opening] s t)
      ∧ (∀ o, s.seq.opening = some o → o.state = .open →
          t.seq.opening = some { o with extending := false } ∧ groupReported [.leafGroup] s t)
      ∧ ((∀ o, s.seq.opening = some o → o.state ≠ .lifting ∧ o.state ≠ .open) →
          t.seq.opening = s.seq.opening ∧ groupReported [.leafGroup] s t))
    ∧ (s.leaf.group.state = .seating → (∃ k, (s.leaf.locks.get k).drivenSwitch = false) → ∃ t,
      exec .seatDwellComplete s = .next t
      ∧ t.leaf.group = { s.leaf.group with state := .locking, settleCount := 0, seatCount := 0, restCount := 0 }
      ∧ (∀ d, t.leaf.drives.get d = { s.leaf.drives.get d with brakeReleased := false, demand := 0, saturated := false })
      ∧ (∀ k, (t.leaf.locks.get k).command = if k = .centre ∧ bothSeated s.leaf = false then none else some .drive)
      ∧ t.seq.opening = s.seq.opening ∧ groupReported [.leafGroup] s t)
    ∧ ((s.leaf.group.state = .settling ∨ s.leaf.group.state = .seating) → ∃ t,
      exec .settleTimeout s = .next t ∧ trips .settleTimeout s.leaf s t)
    ∧ ∀ counts ms, s.leaf.periodTimer = some ms → causeTable s.leaf.group → ∃ t, exec (.controlPeriod counts) s = .next t
      ∧ let c := s.conf
        let g := s.leaf.group
        let m := t.leaf
        let moving : Prop := g.state = .raising ∨ g.state = .settling ∨ g.state = .lowering ∨ g.state = .seating
        (g.state.working = true → (twistFound c m ∨ rangeFound m) → ∃ cause, trippedNow cause t
          ∧ (g.state = .stopping → g.cause = none ∨ g.cause = some cause)
          ∧ (g.cause = none → (cause = .twist ∧ twistFound c m) ∨ (cause = .encoderRange ∧ rangeFound m)
            ∨ (cause = .skew ∧ skewFound c m)))
        ∧ (¬twistFound c m → ¬rangeFound m → skewFound c m →
          (moving ∨ g.state = .stopping →
            (followingFound c m → trippedNow (g.cause.getD .skew) t)
            ∧ (¬followingFound c m → stopsWith (g.cause.getD .skew) s t))
          ∧ (g.state = .unlocking ∨ g.state = .heldOpen ∨ g.state = .locking → trippedNow .skew t))
        ∧ (¬twistFound c m → ¬rangeFound m → g.state.profileRuns = true → followingFound c m →
          trippedNow (g.cause.getD (if skewFound c m then .skew else .following)) t)
        ∧ (g.state.working = false → m.group.state = g.state)
        ∧ (nothingFound c m →
          (g.state = .raising → ∀ p target, m.group.profile = some p → g.target = some target →
            (p.reference = target ∧ p.speed = 0 → m.group.state = .settling ∧ countsCleared m.group)
            ∧ (¬(p.reference = target ∧ p.speed = 0) → m.group.state = .raising))
          ∧ (g.state = .lowering → ∀ p, m.group.profile = some p →
            (p.reference = 0 ∧ p.speed = 0 → m.group.state = .seating ∧ countsCleared m.group)
            ∧ (¬(p.reference = 0 ∧ p.speed = 0) → m.group.state = .lowering))
          ∧ (g.state = .settling → ∀ n,
            (((∀ d, (m.drives.get d).followingError.natAbs ≤ c.settleWindow) ∧ n = g.settleCount + 1)
              ∨ ((∃ d, c.settleWindow < (m.drives.get d).followingError.natAbs) ∧ n = 0)) →
            (c.settleDwell * 5 ≤ n → m.group.state = .heldOpen ∧ countsCleared m.group ∧ brakesSet m)
            ∧ (n < c.settleDwell * 5 → c.settleTimeout * 50 ≤ g.restCount + 1 → trippedNow .settleTimeout t)
            ∧ (n < c.settleDwell * 5 → g.restCount + 1 < c.settleTimeout * 50 → m.group.state = .settling
              ∧ m.group.settleCount = n ∧ m.group.restCount = g.restCount + 1))
          ∧ (g.state = .seating →
            let n : Nat := if bothSeated m = true then g.seatCount + 1 else 0
            (c.seatDwell * 5 ≤ n → (∃ k, (s.leaf.locks.get k).drivenSwitch = false) → m.group.state = .locking
              ∧ countsCleared m.group ∧ brakesSet m
              ∧ ∀ k, (m.locks.get k).command = if k = .centre ∧ bothSeated m = false then none else some .drive)
            ∧ (n < c.seatDwell * 5 → c.settleTimeout * 50 ≤ g.restCount + 1 → trippedNow .settleTimeout t)
            ∧ (n < c.seatDwell * 5 → g.restCount + 1 < c.settleTimeout * 50 → m.group.state = .seating
              ∧ m.group.seatCount = n ∧ m.group.restCount = g.restCount + 1))
          ∧ (g.state = .stopping → ∀ p, g.profile = some p →
            (c.accel < p.speed → m.group.state = .stopping ∧ m.group.cause = g.cause
              ∧ m.group.pendingLower = g.pendingLower)
            ∧ (p.speed ≤ c.accel →
              let startable : Prop := g.emergencyStop = false ∧ g.spanOccupied = false ∧ s.closure.state = .roadClosed
              (∀ cause, g.cause = some cause → stoppedWith cause s t)
              ∧ (g.cause = none → m.group.pendingLower = false ∧ countsCleared m.group)
              ∧ (g.cause = none → (g.pendingLower = false ∨ (bothSeated m = false ∧ ¬startable)
                  ∨ (bothSeated m = true ∧ g.emergencyStop = true)) →
                m.group.state = .halted ∧ m.group.target = g.target ∧ brakesSet m)
              ∧ (g.pendingLower = true → bothSeated m = false → startable → allLocks .withdrawn s.leaf = true →
                m.group.state = .lowering ∧ m.group.target = some 0 ∧ (∀ d, (m.drives.get d).brakeReleased = true))
              ∧ (g.pendingLower = true → bothSeated m = true → g.emergencyStop = false →
                (∃ k, (s.leaf.locks.get k).drivenSwitch = false) → m.group.state = .locking ∧ m.group.target = some 0
                  ∧ brakesSet m))))

/-- RESET TRIP: NOT_PERMITTED from the harbour link, then its refusals in their order; taken, the cause goes, the group is
HALTED, the brakes stay set, no lock moves, and the reply carries the group state, 11 (R101). -/
def Obligations.ResetTripHaltsTheGroup : Prop :=
  ∀ s : State,
    let refused (o : OutcomeCode) : Prop :=
      ∃ t, exec (.resetTrip .control []) s = .next t ∧ onlyAnswered .control 0x40#8 o [] [] s t
    let held : Prop := s.leaf.group.emergencyStop = true
      ∨ (s.leaf.group.cause = some .spanIntrusion ∧ s.leaf.group.spanOccupied = true)
    (readyFor .harbour s → ∃ t, exec (.resetTrip .harbour []) s = .next t
      ∧ onlyAnswered .harbour 0x40#8 .notPermitted [] [] s t)
    ∧ (readyFor .control s → s.sup.mode ≠ .attended → refused .wrongMode)
    ∧ (readyFor .control s → s.sup.mode = .attended → s.leaf.group.state ≠ .tripped → refused .wrongState)
    ∧ (readyFor .control s → s.sup.mode = .attended → s.leaf.group.state = .tripped → held → refused .interlock)
    ∧ (readyFor .control s → s.sup.mode = .attended → s.leaf.group.state = .tripped → ¬held → ∃ t,
      exec (.resetTrip .control []) s = .next t
      ∧ t.leaf = { s.leaf with group := { s.leaf.group with state := .halted, cause := none } }
      ∧ t.seq.opening = stoppedOpening s ∧ answeredMoving 0x40#8 [11#8] [] s t)

/-- The brakes, the demands, the saturated flags, the lock commands and the trip cause are those of the group state through
every step (R76, R79, R81, R82). That a saturated flag clears at once with its demand where an event between periods sets the
brakes is the model's choice (log entry 39). -/
def Obligations.LeafTableIsKept : Prop :=
  ∀ s t : State, leafTable s.leaf → causeTable s.leaf.group → step s = .next t →
    leafTable t.leaf ∧ causeTable t.leaf.group

/-- The leaves are released, or their locks being withdrawn, behind a closed road alone, through every step (R82, R83). -/
def Obligations.RoadShutWhileLeavesMove : Prop :=
  ∀ s t : State, roadShutWhileMoving s → step s = .next t → roadShutWhileMoving t
/-! ## The road, the arms and the span -/

/-- A zone input in a new level starts the zone's debounce from zero, once a commit has been accepted, and a level that stands
changes nothing. A debounce that runs out changes the zone to match its input: the span is reported occupied or not; a moving
group makes a controlled stop with SPAN_INTRUSION; in SPAN_CLEARING the clear dwell and the confirmation go, or the dwell starts
when the span is vacant; in EXIT_LOWERING the closure goes back to SPAN_CLEARING, with the exit arms commanded UP
while the leaves are down and standing as they are commanded while they are not (R98, R112, R118, R119). -/
def Obligations.ZonesStopAndHoldTheSpan : Prop :=
  ∀ (z : ZoneId) (s : State),
    (∀ active, ∃ t, exec (.zoneInputChange z active) s = .next t
      ∧ (∀ y : ZoneId, t.zones[y] = if y = z ∧ (s.zones[z]).input ≠ active then
          { s.zones[z] with input := active, debounce := if s.store.state = .editing then none else some 0 }
        else s.zones[y])
      ∧ unchangedBut [.zones] s t)
    ∧ ∀ ms, (s.zones[z]).debounce = some ms →
      let occupied : Bool := (s.zones[z]).input
      let zonesAfter (t : State) : Prop := ∀ y : ZoneId, t.zones[y] = if y = z then
        { s.zones[z] with occupied := occupied, debounce := none } else s.zones[y]
      let clear : Prop := occupied = false ∧ ∀ y : ZoneId, y ≠ z → (s.zones[y]).occupied = false
      (occupied = (s.zones[z]).occupied → ∃ t, exec (.zoneDebounceExpiry z) s = .next t ∧ zonesAfter t
        ∧ unchangedBut [.zones] s t)
      ∧ (occupied ≠ (s.zones[z]).occupied → ∃ t, exec (.zoneDebounceExpiry z) s = .next t ∧ zonesAfter t
        ∧ (t.leaf.group.spanOccupied = false ↔ clear)
        ∧ t.leaf.drives = s.leaf.drives ∧ t.leaf.locks = s.leaf.locks ∧ t.leaf.group.target = s.leaf.group.target
        ∧ (occupied = true → (s.leaf.group.state = .raising ∨ s.leaf.group.state = .settling
            ∨ s.leaf.group.state = .lowering ∨ s.leaf.group.state = .seating) →
          t.leaf.group.state = .stopping ∧ t.leaf.group.cause = some .spanIntrusion ∧ t.leaf.group.pendingLower = false)
        ∧ (occupied = true → s.leaf.group.state = .stopping → t.leaf.group.state = .stopping
          ∧ t.leaf.group.cause = some (s.leaf.group.cause.getD .spanIntrusion))
        ∧ ((occupied = false ∨ s.leaf.group.state.profileRuns = false) →
          t.leaf = { s.leaf with group := { s.leaf.group with spanOccupied := t.leaf.group.spanOccupied } })
        ∧ (s.closure.state = .spanClearing → t.closure = { s.closure with
            clearDwell := if occupied = true then .stopped
              else if t.leaf.group.spanOccupied = true then s.closure.clearDwell else .running (s.conf.clearDwell * 1000)
            confirmation := if occupied = true then false else s.closure.confirmation })
        ∧ (s.closure.state = .exitLowering → occupied = true → t.closure = { s.closure with
            state := .spanClearing, clearDwell := .stopped, confirmation := false }
          ∧ ((s.leaf.group.state = .stowed ∨ s.leaf.group.state = .inactive) → commandedOnly .up exitArms s t)
          ∧ (s.leaf.group.state ≠ .stowed → s.leaf.group.state ≠ .inactive → t.arms = s.arms ∧ t.stations = s.stations))
        ∧ (s.closure.state ≠ .spanClearing → (s.closure.state ≠ .exitLowering ∨ occupied = false) →
          t.closure = s.closure ∧ t.arms = s.arms ∧ t.stations = s.stations)
        ∧ unchangedBut [.controlPort, .seq, .leaf, .closure, .arms, .zones, .stations, .lamp, .display, .sup] s t)

/-- The phase timer ends PREWARN_AMBER in PREWARN_RED with the reds driven, and in PREWARN_RED sets red time expired: with the
warning proven or overridden the entry arms are commanded DOWN, and otherwise the closure stays and the control line is
raised. WARNING OVERRIDE sets override, and after the red time lets the entry arms down (R114 to R116). That the control line
stands at the override's own change is the model's reading (log entry 10). -/
def Obligations.WarningBeforeTheArms : Prop :=
  ∀ s : State,
    let lowered (t : State) : Prop := commandedOnly .down entryArms s t ∧ t.display.road = .red
    (∀ ms, s.closure.phaseTimer = some ms → s.closure.state = .prewarnAmber → ∃ t, exec .phaseTimerExpiry s = .next t
      ∧ t.closure = { s.closure with
          state := .prewarnRed, redSeen := .none, redTimeExpired := false
          phaseTimer := some (s.conf.redMinimum * 1000) }
      ∧ t.display.road = .red
      ∧ t.links.control = { s.links.control with
          attention := ⟨true, s.links.control.attention.causes.add .closure⟩ }
      ∧ unchangedBut [.controlPort, .closure, .lamp, .display] s t)
    ∧ (∀ ms, s.closure.phaseTimer = some ms → s.closure.state = .prewarnRed →
      let passed : Prop := (westProven s.closure = true ∧ eastProven s.closure = true) ∨ s.closure.override = true
      ∃ t, exec .phaseTimerExpiry s = .next t
      ∧ t.links.control = { s.links.control with
          attention := ⟨true, s.links.control.attention.causes.add .closure⟩ }
      ∧ (¬passed → t.closure = { s.closure with redTimeExpired := true, phaseTimer := none }
        ∧ unchangedBut [.controlPort, .closure] s t)
      ∧ (passed → hasEntryArms s = true → t.closure = { s.closure with
            state := .entryLowering, redTimeExpired := true, phaseTimer := none } ∧ lowered t
        ∧ unchangedBut [.controlPort, .closure, .arms, .stations, .lamp, .display] s t)
      ∧ (passed → hasEntryArms s = false → t.closure.state = .closureHeld
        ∧ t.closure.heldCause = some .noEntryArm ∧ t.closure.heldIn = some .entryLowering
        ∧ (∀ a, (t.arm a).commanded = (s.arm a).commanded) ∧ t.sup.closureHeld = true))
    ∧ (readyFor .control s → s.sup.mode = .attended → (s.closure.state = .prewarnAmber
        ∨ (s.closure.state = .prewarnRed ∧ s.closure.redTimeExpired = false)
        ∨ (s.closure.state = .closureHeld ∧ (s.closure.heldIn = some .prewarnAmber ∨ s.closure.heldIn = some .prewarnRed))) →
      ∃ t, exec (.warningOverride .control []) s = .next t ∧ t.closure = { s.closure with override := true }
        ∧ onlyAnswered .control 0x31#8 .ok [] [.closure] s t)
    ∧ (readyFor .control s → s.sup.mode = .attended → s.closure.state = .prewarnRed → s.closure.redTimeExpired = true →
      hasEntryArms s = true → ∃ t, exec (.warningOverride .control []) s = .next t
        ∧ t.closure = { s.closure with state := .entryLowering, override := true } ∧ lowered t
        ∧ onlyAnswered .control 0x31#8 .ok [] [.closure, .arms, .stations, .lamp, .display] s t)

/-- The clear dwell completes in SPAN_CLEARING: where confirmation is required the control line is raised and the closure
waits for CONFIRM SPAN CLEAR; where it is not, or once it is given, and the entry arms are DOWN, the exit arms are commanded
DOWN. CONFIRM SPAN CLEAR is refused before the dwell is complete (R118, R119). That the control line stands at the
confirmation's own change is the model's reading (log entry 10). -/
def Obligations.SpanProvedClearLowersTheExitArms : Prop :=
  ∀ s : State, s.closure.state = .spanClearing →
    let lowered (t : State) : Prop := t.closure.state = .exitLowering ∧ commandedOnly .down exitArms s t
    (∀ ms, s.closure.clearDwell = .running ms → s.conf.confirmationRequired = true → s.closure.confirmation = false →
      hasEntryArms s = true → ∃ t, exec .clearDwellComplete s = .next t
      ∧ t.closure = { s.closure with clearDwell := .complete }
      ∧ t.links.control = { s.links.control with
          attention := ⟨true, s.links.control.attention.causes.add .closure⟩ }
      ∧ unchangedBut [.controlPort, .closure] s t)
    ∧ (∀ ms, s.closure.clearDwell = .running ms → s.conf.confirmationRequired = false → hasEntryArms s = true →
      hasExitArms s = true → armsAt .down entryArms s = true → ∃ t, exec .clearDwellComplete s = .next t ∧ lowered t
      ∧ t.closure.clearDwell = .complete ∧ (t.links.get .control).attention.raised = true
      ∧ unchangedBut [.controlPort, .closure, .arms, .stations, .lamp, .display] s t)
    ∧ (readyFor .control s → s.sup.mode = .attended → s.closure.clearDwell = .complete →
      (hasEntryArms s = true → hasExitArms s = true → armsAt .down entryArms s = true → ∃ t,
        exec (.confirmSpanClear .control []) s = .next t ∧ lowered t ∧ t.closure.confirmation = true
        ∧ onlyAnswered .control 0x30#8 .ok [] [.closure, .arms, .stations, .lamp, .display] s t)
      ∧ (hasEntryArms s = true → armsAt .down entryArms s = false → ∃ t,
        exec (.confirmSpanClear .control []) s = .next t ∧ t.closure = { s.closure with confirmation := true }
        ∧ onlyAnswered .control 0x30#8 .ok [] [.closure] s t))
    ∧ (readyFor .control s → s.sup.mode = .attended → s.closure.clearDwell ≠ .complete → ∃ t,
      exec (.confirmSpanClear .control []) s = .next t ∧ onlyAnswered .control 0x30#8 .wrongState [] [] s t)

/-- A retry dwell that runs out commands its arm DOWN again and counts the retry; a travel timer that runs out latches
TRAVEL_TIMEOUT and raises the control line, holds the closure in a closing state and in ROAD_REOPENING, and degrades it in
ROAD_CLOSED (R109, R110, R120, R123). That the retry acts in every closure state is the model's reading (log entry 18). What
these timers answer to: a report of OBSTRUCTED by an arm commanded DOWN starts its retry dwell with a FAULT pulse, or at the
retry limit latches and holds the closure, and one while the dwell runs leaves the dwell, the count and the closure; a report of LOCAL latches, and holds a
closing state and ROAD_REOPENING or degrades ROAD_CLOSED (R110, R111, R120). -/
def Obligations.ArmTimersRunOut : Prop :=
  ∀ (a : ArmId) (ms : Nat) (s : State),
    ((s.arm a).retryDwell = some ms → ∃ t, exec (.retryDwellExpiry a) s = .next t ∧ commandedNow .down a t
      ∧ (t.arm a).retryDwell = none ∧ (t.arm a).retryCount = (s.arm a).retryCount + 1
      ∧ (∀ b, b ≠ a → t.arm b = s.arm b ∧ t.station b = s.station b) ∧ unchangedBut [.arms, .stations] s t)
    ∧ ((s.arm a).travelTimer = some ms → ∃ t, exec (.travelTimerExpiry a) s = .next t
      ∧ (t.arm a).travelTimer = none ∧ (t.arm a).latches = { (s.arm a).latches with travelTimeout := true }
      ∧ (t.arm a).commanded = (s.arm a).commanded
      ∧ ((s.arm a).latches.travelTimeout = false → (t.links.get .control).attention.raised = true
        ∧ (t.links.get .control).attention.causes.armLatch = true)
      ∧ ((s.closure.state.closing = true ∨ s.closure.state = .roadReopening) →
        t.closure = { s.closure with
          state := .closureHeld, heldCause := some .travelTimeout, heldIn := some s.closure.state, phaseTimer := none
          clearDwell := .stopped }
        ∧ (∀ b, (t.arm b).travelTimer = none ∧ (t.arm b).retryDwell = none) ∧ t.sup.closureHeld = true
        ∧ t.display.road = .red)
      ∧ (s.closure.state = .roadClosed → t.closure = { s.closure with degraded := true })
      ∧ ((s.closure.state = .inactive ∨ s.closure.state = .roadUncertain ∨ s.closure.state = .roadOpen
          ∨ s.closure.state = .closureHeld) → t.closure = s.closure)
      ∧ unchangedBut [.controlPort, .closure, .arms, .lamp, .display, .sup] s t)
    ∧ (let held (cause : HeldCause) (t : State) : Prop := t.closure = { s.closure with
            state := .closureHeld, heldCause := some cause, heldIn := some s.closure.state, phaseTimer := none
            clearDwell := .stopped }
          ∧ (∀ b, (t.arm b).travelTimer = none ∧ (t.arm b).retryDwell = none) ∧ t.sup.closureHeld = true
          ∧ t.display.road = .red
        let latched (t : State) : Prop := t.links.control.attention.raised = true
          ∧ t.links.control.attention.causes.armLatch = true
        let reports : List Part := [.controlPort, .closure, .arms, .loop, .stations, .lamp, .display, .sup]
        (reportArrives a .obstructed s → (s.arm a).inService = true → (s.arm a).commanded = some .down →
          hasEntryArms s = true → hasExitArms s = true →
          (s.closure.state = .exitLowering
            ∨ ((s.closure.state = .entryLowering ∨ s.closure.state = .spanClearing) ∧ isEntryArm a = true)) →
          ((s.arm a).retryDwell = none → (s.arm a).retryCount < s.conf.retryLimit → ∃ t, exec .turnEnd s = .next t
            ∧ (t.arm a).retryDwell = some (s.conf.retryDwell * 1000) ∧ (t.arm a).travelTimer = none
            ∧ (t.arm a).retryCount = (s.arm a).retryCount ∧ t.closure = s.closure
            ∧ t.sup = { s.sup with pulseTimer := some 200 } ∧ unchangedBut [.arms, .loop, .stations, .sup] s t)
          ∧ ((s.arm a).retryDwell = none → s.conf.retryLimit ≤ (s.arm a).retryCount → ∃ t, exec .turnEnd s = .next t
            ∧ (t.arm a).latches = { (s.arm a).latches with obstructionLimit := true } ∧ held .obstructionLimit t
            ∧ ((s.arm a).latches.obstructionLimit = false → latched t) ∧ unchangedBut reports s t)
          ∧ (∀ w, (s.arm a).retryDwell = some w → ∃ t, exec .turnEnd s = .next t ∧ (t.arm a).retryDwell = some w
            ∧ (t.arm a).retryCount = (s.arm a).retryCount ∧ t.closure = s.closure
            ∧ unchangedBut [.arms, .loop, .stations] s t))
        ∧ (reportArrives a .localControl s → ∃ t, exec .turnEnd s = .next t
          ∧ (t.arm a).latches = { (s.arm a).latches with localControl := true }
          ∧ ((s.arm a).latches.localControl = false → latched t)
          ∧ ((s.arm a).inService = true → (s.closure.state.closing = true ∨ s.closure.state = .roadReopening) →
            held .armLocal t ∧ unchangedBut reports s t)
          ∧ ((s.arm a).inService = true → s.closure.state = .roadClosed → t.closure = { s.closure with degraded := true })
          ∧ ((s.closure.state = .inactive ∨ s.closure.state = .roadUncertain ∨ s.closure.state = .roadOpen
              ∨ s.closure.state = .closureHeld) → t.closure = s.closure ∧ unchangedBut reports s t)))

/-- ARM SERVICE: an arm taken OUT leaves service uncommanded, its station is told to HALT where the arm was on its way, and in
ROAD_CLOSED the closure is degraded; an arm brought IN is commanded as its group has been; the present setting changes
nothing. An arm taken OUT while the closing or the reopening goes on has the groups evaluated: an approach left without an arm
holds the closure, and the last arm that was awaited lets it go on to SPAN_CLEARING, EXIT_LOWERING, ROAD_CLOSED or ROAD_OPEN.

CLOSURE RETRY clears the latches and retry counts and enters the held-in state again: a prewarning from its start, a lowering
or a reopening with its arms commanded anew, the span with its dwell from zero, a reopening without arms straight to ROAD_OPEN,
and an approach without an arm, or an arm still LOST or LOCAL, holds it again. REOPEN ROAD commands every in-service arm UP
from ROAD_UNCERTAIN (R111, R117 to R119, R121, R122, R124, R125).

That an arm OUT keeps its acknowledged flag, that a held closure evaluates nothing at it, what CLOSURE RETRY evaluates in its
own event, and that the control line stands at these requests' own changes, are the model's readings (log entries 30, 31, 32
and 10). That an exit arm taken OUT in SPAN_CLEARING holds a closure whose entry arms had gone before is the model's choice (log
entry 42). -/
def Obligations.ArmServiceRetryAndReopen : Prop :=
  ∀ s : State, readyFor .control s → s.sup.mode = .attended →
    (∀ (b : Byte) (a : ArmId), armOf b = some a →
      let others (t : State) : Prop := ∀ x, x ≠ a → t.arm x = s.arm x ∧ t.station x = s.station x
      let out : Arm := { s.arm a with
        inService := false, retryCount := 0, retryDwell := none, travelTimer := none, commanded := none }
      ((s.arm a).inService = false → ∃ t, exec (.armService .control [b, 0#8]) s = .next t
        ∧ onlyAnswered .control 0x32#8 .ok [] [] s t)
      ∧ ((s.arm a).inService = true → ∃ t, exec (.armService .control [b, 1#8]) s = .next t
        ∧ onlyAnswered .control 0x32#8 .ok [] [] s t)
      ∧ ((s.arm a).inService = true → (s.closure.state = .roadUncertain ∨ s.closure.state = .roadOpen
          ∨ s.closure.state = .prewarnAmber ∨ s.closure.state = .prewarnRed ∨ s.closure.state = .roadClosed
          ∨ s.closure.state = .closureHeld) → ∃ t, exec (.armService .control [b, 0#8]) s = .next t
        ∧ answered .control 0x32#8 .ok [] s t ∧ t.arm a = out ∧ others t
        ∧ (t.station a).slot = (if (s.arm a).commanded ≠ none ∧ armInPosition (s.arm a) = false then some .halt
            else (s.station a).slot)
        ∧ t.closure = { s.closure with
            degraded := s.closure.degraded || s.closure.state == .roadClosed }
        ∧ unchangedBut [.controlPort, .closure, .arms, .stations, .sup] s t ∧ t.sup = framedSup .control s)
      ∧ ((s.arm a).inService = true → (s.closure.state = .entryLowering ∨ s.closure.state = .spanClearing
          ∨ s.closure.state = .exitLowering ∨ s.closure.state = .roadReopening) →
        ∃ t, exec (.armService .control [b, 0#8]) s = .next t
        ∧ answered .control 0x32#8 .ok [] s t ∧ t.arm a = out
        ∧ (t.station a).slot = (if (s.arm a).commanded ≠ none ∧ armInPosition (s.arm a) = false then some .halt
            else (s.station a).slot)
        ∧ let w : State := { s with arms := s.arms.set (armIndex a) out }
          let stays : Prop := t.closure = s.closure ∧ others t
            ∧ onlyAnswered .control 0x32#8 .ok [] [.arms, .stations] s t
          let moves : Prop := onlyAnswered .control 0x32#8 .ok [] [.closure, .arms, .stations, .lamp, .display] s t
          (s.closure.state ≠ .roadReopening → hasEntryArms w = false →
            (s.closure.state = .exitLowering → hasExitArms w = true) → heldNow .noEntryArm s.closure.state s t)
          ∧ (s.closure.state = .entryLowering → hasEntryArms w = true →
            (armsAt .down entryArms w = false → stays)
            ∧ (armsAt .down entryArms w = true → t.closure = { s.closure with
                state := .spanClearing, confirmation := false
                clearDwell := if anyOccupied s = true then .stopped else .running (s.conf.clearDwell * 1000) }
              ∧ others t ∧ moves))
          ∧ (s.closure.state = .spanClearing → hasEntryArms w = true →
            let proved : Prop := s.closure.clearDwell = .complete
              ∧ (s.closure.confirmation = true ∨ s.conf.confirmationRequired = false) ∧ armsAt .down entryArms w = true
            (¬proved → stays)
            ∧ (proved → hasExitArms w = true → t.closure = { s.closure with state := .exitLowering }
              ∧ (∀ x, x ≠ a → if isEntryArm x = false ∧ (s.arm x).inService = true then commandedNow .down x t
                  else t.arm x = s.arm x ∧ t.station x = s.station x)
              ∧ moves)
            ∧ (proved → hasExitArms w = false → heldNow .noExitArm .exitLowering s t))
          ∧ (s.closure.state = .exitLowering → hasEntryArms w = true →
            (hasExitArms w = false → heldNow .noExitArm .exitLowering s t)
            ∧ (hasExitArms w = true → armsAt .down ringOrder w = false → stays)
            ∧ (hasExitArms w = true → armsAt .down ringOrder w = true → s.closure.closeReported = false →
              t.closure = { s.closure with state := .roadClosed, closeReported := true } ∧ others t
              ∧ roadClosedTaken s t))
          ∧ (s.closure.state = .roadReopening → (armsAt .up ringOrder w = false → stays)
            ∧ (armsAt .up ringOrder w = true → roadOpened s t ∧ others t)))
      ∧ ((s.arm a).inService = false → ∃ t, exec (.armService .control [b, 1#8]) s = .next t ∧ others t
        ∧ onlyAnswered .control 0x32#8 .ok [] [.arms, .stations] s t
        ∧ (t.arm a).inService = true ∧ (t.arm a).retryCount = 0
        ∧ ((s.closure.state = .exitLowering ∨ s.closure.state = .roadClosed
            ∨ ((s.closure.state = .entryLowering ∨ s.closure.state = .spanClearing) ∧ isEntryArm a = true)) →
          commandedNow .down a t)
        ∧ (s.closure.state = .roadReopening → s.leaf.group.state = .stowed → commandedNow .up a t)
        ∧ ((s.closure.state = .roadOpen ∨ s.closure.state = .roadUncertain ∨ s.closure.state = .prewarnAmber
            ∨ s.closure.state = .prewarnRed ∨ s.closure.state = .closureHeld
            ∨ ((s.closure.state = .entryLowering ∨ s.closure.state = .spanClearing) ∧ isEntryArm a = false)) →
          t.arm a = { s.arm a with inService := true, retryCount := 0 } ∧ t.station a = s.station a)))
    ∧ (s.closure.state = .closureHeld → noStandingFault s →
      (s.closure.heldIn = some .prewarnAmber ∨ s.closure.heldIn = some .prewarnRed) → ∃ t,
      exec (.closureRetry .control []) s = .next t ∧ answered .control 0x33#8 .ok [] s t
        ∧ some t.closure.state = s.closure.heldIn
        ∧ t.closure.heldCause = none ∧ t.closure.heldIn = none ∧ t.closure.redSeen = .none
        ∧ t.closure.override = s.closure.override
        ∧ t.closure.phaseTimer = some (if s.closure.heldIn = some .prewarnAmber then s.conf.amberTime * 1000
            else s.conf.redMinimum * 1000)
        ∧ (∀ a, t.arm a = { s.arm a with latches := .none, retryCount := 0 })
        ∧ (t.links.get .control).attention = (s.links.get .control).attention
        ∧ t.sup = { framedSup .control s with closureHeld := false } ∧ t.display.road = roadLightOf t.closure.state
        ∧ unchangedBut [.controlPort, .closure, .arms, .lamp, .display, .sup] s t)
    ∧ (∀ st, s.closure.state = .closureHeld → s.closure.heldIn = some st → st.holdable = true →
      let cleared (x : ArmId) : Arm := { s.arm x with latches := .none, retryCount := 0 }
      let commanded (p : ArmPosition) (arms : List ArmId) (t : State) : Prop := ∀ x,
        if x ∈ arms ∧ (s.arm x).inService = true then
          commandedNow p x t ∧ (t.arm x).latches = .none ∧ (t.arm x).retryCount = 0
        else t.arm x = cleared x ∧ t.station x = s.station x
      let stood (t : State) : Prop := (∀ x, t.arm x = { cleared x with travelTimer := none, retryDwell := none })
        ∧ t.stations = s.stations
      let entered (c : Closure) (t : State) : Prop :=
        t.closure = { c with state := st, heldCause := none, heldIn := none }
          ∧ (t.links.get .control).attention = (s.links.get .control).attention
          ∧ t.sup = { framedSup .control s with closureHeld := false } ∧ t.display.road = .red
          ∧ unchangedBut [.controlPort, .closure, .arms, .stations, .lamp, .display, .sup] s t
      ∃ t, exec (.closureRetry .control []) s = .next t ∧ answered .control 0x33#8 .ok [] s t
        ∧ (noStandingFault s → st = .entryLowering →
          (hasEntryArms s = true → entered s.closure t ∧ commanded .down entryArms t)
          ∧ (hasEntryArms s = false → heldNow .noEntryArm st s t ∧ stood t))
        ∧ (noStandingFault s → st = .spanClearing → commanded .down entryArms t ∧ entered { s.closure with
            clearDwell := if anyOccupied s = true then .stopped else .running (s.conf.clearDwell * 1000)
            confirmation := false } t)
        ∧ (noStandingFault s → st = .exitLowering →
          (hasExitArms s = true → entered s.closure t ∧ commanded .down ringOrder t)
          ∧ (hasExitArms s = false → heldNow .noExitArm st s t ∧ stood t))
        ∧ (noStandingFault s → st = .roadReopening → s.leaf.group.state = .stowed →
          ((∃ x, (s.arm x).inService = true) → entered s.closure t ∧ commanded .up ringOrder t)
          ∧ ((∀ x, (s.arm x).inService = false) → commanded .up [] t
            ∧ roadOpened { s with closure := { s.closure with heldCause := none, heldIn := none } } t))
        ∧ ((st = .entryLowering → hasEntryArms s = true) → (st = .exitLowering → hasExitArms s = true) →
          let again (cause : HeldCause) : Prop := t.closure.state = .closureHeld ∧ t.closure.heldCause = some cause
            ∧ t.closure.heldIn = some st ∧ t.sup.closureHeld = true ∧ t.links.control.attention.raised = true
          let lost : Prop := ∃ x, (s.arm x).inService = true ∧ (s.arm x).lost = true
          let isLocal : Prop := ∃ x, (s.arm x).inService = true ∧ (s.arm x).reported = .localControl
          (lost → ¬isLocal → again .armLost) ∧ (isLocal → ¬lost → again .armLocal)
          ∧ ∀ x, (t.arm x).latches = { ArmLatches.none with
              lost := (s.arm x).inService && (s.arm x).lost
              localControl := (s.arm x).inService && (s.arm x).reported == .localControl }))
    ∧ (s.closure.state = .roadUncertain → s.leaf.group.state = .stowed → s.seq.opening = none → noStandingFault s →
      (∃ a, (s.arm a).inService = true) → ∃ t, exec (.reopenRoad .control []) s = .next t
        ∧ t.closure = { s.closure with
            state := .roadReopening, phaseTimer := none, clearDwell := .stopped, heldCause := none, heldIn := none }
        ∧ (∀ a, (s.arm a).inService = true → commandedNow .up a t)
        ∧ (∀ a, (s.arm a).inService = false → t.arm a = { s.arm a with retryDwell := none } ∧ t.station a = s.station a)
        ∧ t.display.road = .red
        ∧ onlyAnswered .control 0x34#8 .ok [] [.closure, .arms, .stations, .lamp, .display] s t)

/-! ## The field loop -/

/-- A turn step by step: it takes the slot as its command; the station's answers carry it on to the command octet, to the
report and to the STOP, and a refused or unanswered command leaves the slot as it stands; an accepted command empties the slot,
unless it was rewritten since the turn began, and acknowledges the arm it was meant for. At each step the octet on the loop is
the station's address octet in the direction of the step, or the command octet, and the master answers ACCEPT to the state and
REFUSE to the angle (R133 to R136, R109, R194). -/
def Obligations.TurnStepByStep : Prop :=
  ∀ (s : State),
    (∀ a, s.loop.held = false → s.loop.turn = none → s.loop.next = some a → ∃ t, exec .turnStart s = .next t
      ∧ t.loop = { s.loop with turn := some ⟨a, (s.station a).slot,
          if (s.station a).slot = none then .reportAddress else .commandAddress, none, none⟩ }
      ∧ (∀ b, t.station b = if b = a then { s.station a with
          lastSent := (s.station a).slot.map (fun c => (c, none)), rewritten := false } else s.station b)
      ∧ unchangedBut [.loop, .stations] s t)
    ∧ ∀ x, s.loop.turn = some x →
      let address : Option Nat := (s.station x.station).address
      (loopOctet s = match x.step with
        | .commandAddress => address.map (fun n => octet (2 * n))
        | .commandOctet => x.command.map (fun c => match c with
          | .lower => 0x01#8
          | .raise => 0x02#8
          | .halt => 0x03#8)
        | .reportAddress => address.map (fun n => octet (2 * n + 1))
        | .stateOctet | .angleOctet | .stop => none)
      ∧ (x.step = .stateOctet → answerGiven x = some true) ∧ (x.step = .angleOctet → answerGiven x = some false)
      ∧ let goesTo (y : TurnStep) (t : State) : Prop := t.loop = { s.loop with turn := some { x with step := y } }
      let refused (t : State) : Prop := goesTo .reportAddress t
        ∧ (∀ b, t.station b = if b = x.station then
            { s.station b with lastSent := x.command.map (fun c => (c, some false)) } else s.station b)
        ∧ unchangedBut [.loop, .stations] s t
      (x.step = .commandAddress →
        (∃ t, exec (.addressAnswer true) s = .next t ∧ goesTo .commandOctet t ∧ unchangedBut [.loop] s t)
        ∧ (∃ t, exec (.addressAnswer false) s = .next t ∧ refused t)
        ∧ (∃ t, exec .answerWindowTimeout s = .next t ∧ refused t))
      ∧ (x.step = .commandOctet →
        (∃ t, exec (.commandAnswer false) s = .next t ∧ refused t)
        ∧ (∃ t, exec .answerWindowTimeout s = .next t ∧ refused t)
        ∧ ∀ c, x.command = some c → ∃ t, exec (.commandAnswer true) s = .next t ∧ goesTo .reportAddress t
          ∧ (∀ b, t.station b = if b = x.station then { s.station b with
              lastSent := some (c, some true)
              slot := if (s.station b).rewritten = true then (s.station b).slot else none } else s.station b)
          ∧ (∀ b, b ≠ x.station → t.arm b = s.arm b)
          ∧ ((∃ p, (s.arm x.station).commanded = some p ∧ commandFor p = c) → (t.arm x.station).acknowledged = true
            ∧ (s.closure.state ≠ .closureHeld → (t.arm x.station).travelTimer = some 0))
          ∧ ((∀ p, (s.arm x.station).commanded = some p → commandFor p ≠ c) → t.arms = s.arms)
          ∧ unchangedBut [.arms, .loop, .stations] s t)
      ∧ (x.step = .reportAddress →
        (∃ t, exec (.addressAnswer true) s = .next t ∧ goesTo .stateOctet t ∧ unchangedBut [.loop] s t)
        ∧ (∃ t, exec (.addressAnswer false) s = .next t ∧ goesTo .stop t ∧ unchangedBut [.loop] s t))
      ∧ (x.step = .stateOctet → ∀ b, ∃ t, exec (.reportOctetReceived b) s = .next t
        ∧ t.loop = { s.loop with turn := some { x with step := .angleOctet, stateOctet := some b } }
        ∧ unchangedBut [.loop] s t)
      ∧ (x.step = .angleOctet → ∀ b, ∃ t, exec (.reportOctetReceived b) s = .next t
        ∧ t.loop = { s.loop with turn := some { x with step := .stop, angleOctet := some b } }
        ∧ unchangedBut [.loop] s t)
      ∧ ((x.step = .reportAddress ∨ x.step = .stateOctet ∨ x.step = .angleOctet) → ∃ t,
        exec .answerWindowTimeout s = .next t ∧ goesTo .stop t ∧ unchangedBut [.loop] s t)

/-- The STOP of a turn. With both report octets the station is PRESENT and its arm takes the state and the angle, limited to
90; without them it is missed, and the third miss in a row makes the station and its arm LOST, with the LOST latch, a hold of
the closing and of ROAD_REOPENING, and degraded in ROAD_CLOSED. Then the next station of the ring is due, or the next scan once the scan timer has
run out (R111, R120, R132, R137, R138, R141). The first scan after a commit ends apart. That a loss latches and raises the
line while the road is INACTIVE is the model's reading (log entry 29).

What a report makes of the road: the last entry arm DOWN leads to SPAN_CLEARING with the clear dwell started in a vacant span;
the last arm DOWN in EXIT_LOWERING to ROAD_CLOSED, where an opening that waits for it takes its lift, is refused it or, for the
recovery opening, goes to RECOVERY_WAIT, and in UNATTENDED waits; a departure from DOWN in ROAD_CLOSED degrades the closure;
and the last arm UP in ROAD_REOPENING opens the road and ends the opening (R41, R42, R52, R56, R109, R117, R119 to R121). -/
def Obligations.TurnEndsAndScansFollow : Prop :=
  ∀ (s : State),
    (∀ x, s.loop.turn = some x → x.step = .stop → s.loop.firstScan = false →
      let a := x.station
      let due (t : State) : Prop := t.loop = { s.loop with
        turn := none
        next := match nextInRing a with
          | some b => some b
          | none => if s.loop.scanTimer = none then some .wEntry1 else none
        scanTimer := if nextInRing a = none ∧ s.loop.scanTimer = none then some s.conf.scanPeriod
          else s.loop.scanTimer }
      (∀ b c, x.stateOctet = some b → x.angleOctet = some c → ∃ t, exec .turnEnd s = .next t ∧ due t
        ∧ (t.station a).misses = 0 ∧ (t.station a).lost = false
        ∧ (t.arm a).reported = reportOf b ∧ (t.arm a).angle = min c.toNat 90 ∧ (t.arm a).lost = false
        ∧ (s.closure.state = .roadOpen → t.closure = s.closure ∧ t.stations = s.stations.set (armIndex a) (t.station a))
        ∧ unchangedBut [.freeCount, .controlPort, .harbourPort, .reg, .seq, .leaf, .closure, .arms, .loop, .stations, .lamp,
            .display, .sup] s t)
      ∧ ((x.stateOctet = none ∨ x.angleOctet = none) →
        ((s.station a).lost = true → ∃ t, exec .turnEnd s = .next t ∧ due t ∧ unchangedBut [.loop] s t)
        ∧ ((s.station a).lost = false → (s.station a).misses < 2 → ∃ t, exec .turnEnd s = .next t ∧ due t
          ∧ (∀ b, t.station b = if b = a then { s.station a with misses := (s.station a).misses + 1 } else s.station b)
          ∧ unchangedBut [.loop, .stations] s t)
        ∧ ((s.station a).lost = false → 2 ≤ (s.station a).misses → ∃ t, exec .turnEnd s = .next t ∧ due t
          ∧ (t.station a).lost = true ∧ (t.station a).misses = 3
          ∧ (t.arm a).lost = true ∧ (t.arm a).reported = .unknown ∧ (t.arm a).latches.lost = true
          ∧ ((s.arm a).latches.lost = false → (t.links.get .control).attention.raised = true)
          ∧ ((s.arm a).inService = true → (s.closure.state.closing = true ∨ s.closure.state = .roadReopening) →
            heldNow .armLost s.closure.state s t)
          ∧ ((s.arm a).inService = true → s.closure.state = .roadClosed → t.closure = { s.closure with degraded := true })
          ∧ unchangedBut [.freeCount, .controlPort, .harbourPort, .reg, .seq, .leaf, .closure, .arms, .loop, .stations,
              .lamp, .display, .sup] s t)))
    ∧ (∀ a, reportArrives a .down s → awaits .down a s →
      (s.closure.state = .entryLowering → isEntryArm a = true → hasEntryArms s = true → othersAt .down a entryArms s →
        ∃ t, exec .turnEnd s = .next t
          ∧ t.closure = { s.closure with
              state := .spanClearing, confirmation := false
              clearDwell := if anyOccupied s = true then .stopped else .running (s.conf.clearDwell * 1000) }
          ∧ (t.arm a).travelTimer = none ∧ armIsAt .down (t.arm a) = true ∧ t.display.road = .red
          ∧ (t.links.get .control).attention = ⟨true, s.links.control.attention.causes.add .closure⟩
          ∧ unchangedBut [.controlPort, .closure, .arms, .loop, .stations, .lamp, .display] s t)
      ∧ (s.closure.state = .exitLowering → s.closure.closeReported = false → hasEntryArms s = true →
        hasExitArms s = true → othersAt .down a ringOrder s → ∃ t, exec .turnEnd s = .next t
          ∧ t.closure = { s.closure with state := .roadClosed, closeReported := true }
          ∧ (t.arm a).travelTimer = none ∧ armIsAt .down (t.arm a) = true ∧ t.display.road = .red
          ∧ t.links.control.attention.raised = true ∧ t.links.control.attention.causes.closure = true
          ∧ roadClosedTaken s t
          ∧ unchangedBut [.controlPort, .seq, .leaf, .closure, .arms, .loop, .stations, .lamp, .display, .sup] s t))
    ∧ (∀ a st, reportArrives a st s → s.closure.state = .roadClosed → (s.arm a).inService = true →
      ∃ t, exec .turnEnd s = .next t
        ∧ t.closure = { s.closure with degraded := s.closure.degraded || decide (st ≠ .down) }
        ∧ (st ≠ .down → s.closure.degraded = false → t.links.control.attention.raised = true
          ∧ t.links.control.attention.causes.closure = true)
        ∧ unchangedBut [.controlPort, .closure, .arms, .loop, .stations] s t)
    ∧ (∀ a, reportArrives a .up s → awaits .up a s → s.closure.state = .roadReopening → othersAt .up a ringOrder s →
      ∃ t, exec .turnEnd s = .next t
        ∧ roadOpened s t ∧ t.links.control.attention.raised = true
        ∧ t.links.control.attention.causes.closure = true
        ∧ unchangedBut [.controlPort, .seq, .closure, .arms, .loop, .stations, .lamp, .display, .sup] s t)
    ∧ ∀ ms, s.loop.scanTimer = some ms → ∃ t, exec .scanTimerExpiry s = .next t
      ∧ t.loop = (if s.loop.next = none ∧ s.loop.turn = none then
          { s.loop with next := some .wEntry1, scanTimer := some s.conf.scanPeriod } else { s.loop with scanTimer := none })
      ∧ unchangedBut [.loop] s t
/-! ## The lamps -/

/-- The pulse drive and the proof of an on-phase: at a period start every assigned channel without a SHORT flag is driven when
its demand is STEADY or that of the current half, for the longer of its group's nominal on-time and the blanking time with the
deglitch time; the end of its evaluation window ends the pulse and decides a STEADY channel, by the lowest supply of the window
and by the undervoltage condition, which must have stayed clear for the whole of the window; the end of a half that has held its 50
periods decides the channels of its phase, sets the red-seen flags of the functions proven in PREWARN_RED, and begins the other
half, and no half ends before. The half that completes the proof once the red time has run out lets the closure leave
PREWARN_RED: the entry arms are commanded DOWN, or an approach without one holds it (R146, R147, R150, R155, R156, R114, R115). That the commands carry what the window saw, and that a
period start ends a full half whose own command has not come, are the model's choices (log entries 15 and 37), and so is that
a STEADY channel's evaluated on-phase flag is set again only with its OPEN and SHORT flags clear, at the first fully diagnosed
window once they are (log entry 43). -/
def Obligations.PulsesAreDrivenAndEvaluated : Prop :=
  ∀ s : State,
    (∀ ms, s.lamp.pulseClock = some ms → (∀ second n, s.lamp.flash = .running second n → n < 50) →
      ∃ t, exec .pulsePeriodStart s = .next t ∧ t.lamp.pulseClock = some 10
      ∧ t.lamp.undervoltage = s.lamp.undervoltage ∧ t.lamp.undervoltageSeen = s.lamp.undervoltage
      ∧ t.lamp.lowSupply = s.lamp.lowSupply
      ∧ t.lamp.dimRoad = s.lamp.dimRoad ∧ t.lamp.dimShipping = s.lamp.dimShipping ∧ t.lamp.functions = s.lamp.functions
      ∧ (∀ i : ChannelId, t.lamp.channels[i] = { s.lamp.channels[i] with
          inEffect := true
          onTime := (t.lamp.channels[i]).onTime, output := (t.lamp.channels[i]).output
          diagnosing := (t.lamp.channels[i]).output
          drivenInHalf := (t.lamp.channels[i]).drivenInHalf })
      ∧ (∀ (i : ChannelId) f, (s.lamp.channels[i]).function = some f → (t.lamp.channels[i]).onTime =
          max ((if isRoadFunction f = true then s.lamp.dimRoad else s.lamp.dimShipping) * 100)
            (s.conf.blanking * 100 + 500))
      ∧ (∀ i : ChannelId, (t.lamp.channels[i]).output = true ↔
          (s.lamp.channels[i]).function ≠ none ∧ (s.lamp.channels[i]).shortFlag = false
          ∧ ((s.lamp.channels[i]).demand = .steady
            ∨ ((s.lamp.channels[i]).demand = .phaseA ∧ ∃ n, t.lamp.flash = .running false n)
            ∨ ((s.lamp.channels[i]).demand = .phaseB ∧ ∃ n, t.lamp.flash = .running true n)))
      ∧ ((∀ i : ChannelId, (s.lamp.channels[i]).demand = .off ∨ (s.lamp.channels[i]).demand = .steady) →
          t.lamp.flash = .stopped)
      ∧ ((∃ i : ChannelId, (s.lamp.channels[i]).demand = .phaseA ∨ (s.lamp.channels[i]).demand = .phaseB) →
          t.lamp.flash = (match s.lamp.flash with
            | .running second n => .running second (n + 1)
            | .stopped | .starting => .running false 1))
      ∧ unchangedBut [.lamp] s t)
    ∧ (∀ ms u, s.lamp.pulseClock = some ms → exec .flashHalfEnd s = .next u →
      exec .pulsePeriodStart s = exec .pulsePeriodStart u)
    ∧ (∀ (i : ChannelId) (lowest clearFor : Nat), (s.lamp.channels[i]).output = true →
      let full : Bool := s.conf.lowSupplyThreshold ≤ lowest && !s.lamp.undervoltage
        && (!s.lamp.undervoltageSeen || (s.lamp.channels[i]).onTime - s.conf.blanking * 100 ≤ clearFor)
      ∃ t, exec (.evaluationWindowEnd i lowest clearFor) s = .next t ∧ (t.lamp.channels[i]).output = false
        ∧ ((s.lamp.channels[i]).inEffect = true → (s.lamp.channels[i]).demand = .steady →
          ((t.lamp.channels[i]).evaluated = true ↔ full = true ∧ (s.lamp.channels[i]).openFlag = false
            ∧ (s.lamp.channels[i]).shortFlag = false))
        ∧ ((s.lamp.channels[i]).inEffect = true → (s.lamp.channels[i]).demand.phased = true →
          (t.lamp.channels[i]).diagnosedInHalf = (s.lamp.channels[i]).diagnosedInHalf + full.toNat
          ∧ (t.lamp.channels[i]).evaluated = (s.lamp.channels[i]).evaluated)
        ∧ t.lamp = { s.lamp with channels := s.lamp.channels.set i (t.lamp.channels[i]) } ∧ unchangedBut [.lamp] s t)
    ∧ ((∀ second n, s.lamp.flash = .running second n → n < 50) → exec .flashHalfEnd s = .next s)
    ∧ ∀ second n, s.lamp.flash = .running second n → 50 ≤ n → s.display.road = roadLightOf s.closure.state →
      let phase : ChannelDemand := if second then .phaseB else .phaseA
      let proven (c : Channel) : Prop := c.drivenInHalf = 50 ∧ c.diagnosedInHalf = 50 ∧ c.openFlag = false
        ∧ c.shortFlag = false
      ∃ t, exec .flashHalfEnd s = .next t ∧ t.lamp.flash = .running (!second) 0
        ∧ (∀ i : ChannelId, (s.lamp.channels[i]).demand = phase →
          ((t.lamp.channels[i]).evaluated = true ↔ proven (s.lamp.channels[i])))
        ∧ (∀ i : ChannelId, (s.lamp.channels[i]).demand ≠ phase →
          (t.lamp.channels[i]).evaluated = (s.lamp.channels[i]).evaluated)
        ∧ (s.closure.state ≠ .prewarnRed → unchangedBut [.lamp] s t)
        ∧ (s.closure.state = .prewarnRed →
          let seen : Closure := { s.closure with redSeen :=
            ⟨s.closure.redSeen.wRedA || functionProven phase s.lamp .wRedA,
              s.closure.redSeen.wRedB || functionProven phase s.lamp .wRedB,
              s.closure.redSeen.eRedA || functionProven phase s.lamp .eRedA,
              s.closure.redSeen.eRedB || functionProven phase s.lamp .eRedB⟩ }
          let passed : Prop := (westProven seen = true ∧ eastProven seen = true) ∨ seen.override = true
          (s.closure.redTimeExpired = false ∨ ¬passed → t.closure = seen ∧ unchangedBut [.closure, .lamp] s t)
          ∧ (s.closure.redTimeExpired = true → passed →
            (hasEntryArms s = true → t.closure = { seen with state := .entryLowering } ∧ commandedOnly .down entryArms s t
              ∧ t.display.road = .red
              ∧ t.links.control = { s.links.control with
                  attention := ⟨true, s.links.control.attention.causes.add .closure⟩ }
              ∧ unchangedBut [.controlPort, .closure, .arms, .stations, .lamp] s t)
            ∧ (hasEntryArms s = false → heldNow .noEntryArm .entryLowering { s with closure := seen } t
              ∧ unchangedBut [.controlPort, .closure, .arms, .lamp, .sup] s t)))

/-- A fault condition that holds on a channel whose pulse is diagnosed sets its clear flag; a new flag pulses FAULT and raises
the control line unless its kind is masked; low supply latches in the same way and undervoltage follows the supply,
each change being noted for the period; CLEAR LAMP FAULTS clears every latch and reports what it cleared. Every function's health follows its
channels and its policy at once, and in PREWARN_RED a red function that becomes unhealthy loses its red-seen flag, just set or
not (R145, R150 to R154, R157 to R159). That the commands carry what was sensed, and that a pulse's window may latch until the
next period start, are the model's choices (log entries 15 and 38). -/
def Obligations.LampFaultsLatchAndClear : Prop :=
  ∀ s : State,
    let healthFollows (t : State) : Prop := ∀ f, functionHealthy f t.lamp = functionHealthFrom f t.lamp
    let signalled (masked : Bool) (t : State) : Prop :=
      t.sup.pulseTimer = (if masked = true then s.sup.pulseTimer else some 200)
      ∧ t.links.control = (if masked = true then s.links.control else { s.links.control with
          attention := ⟨true, s.links.control.attention.causes.add .lampLatch⟩ })
    let redSeenFollows (t : State) : Prop := s.closure.state = .prewarnRed →
      let kept (f : FunctionId) : Bool := !(functionHealthy f s.lamp && !functionHealthy f t.lamp)
      t.closure = { s.closure with redSeen :=
        ⟨s.closure.redSeen.wRedA && kept .wRedA, s.closure.redSeen.wRedB && kept .wRedB,
          s.closure.redSeen.eRedA && kept .eRedA, s.closure.redSeen.eRedB && kept .eRedB⟩ }
    (∀ (i : ChannelId) (kind : LampFault) (current voltage supply : Nat),
      let ch := s.lamp.channels[i]
      let holds : Prop := match kind with
        | .openString => current < s.conf.openThreshold ∧ s.conf.lowSupplyThreshold ≤ supply
        | .shortString => voltage < s.conf.shortThreshold
        | .partialString => s.conf.shortThreshold ≤ voltage
            ∧ voltage < (if ch.partialSelectTwo = true then s.conf.partialTwo else s.conf.partialOne)
            ∧ s.conf.lowSupplyThreshold ≤ supply
      ((ch.diagnosing = false ∨ ¬holds ∨ hasFault ch kind = true) → ∃ t,
        exec (.lampFaultLatch i kind current voltage supply) s = .next t
        ∧ t.pins = { s.pins with supply := supply } ∧ unchangedBut [.pins] s t)
      ∧ (ch.diagnosing = true → holds → hasFault ch kind = false → ∃ t,
        exec (.lampFaultLatch i kind current voltage supply) s = .next t
        ∧ t.pins = { s.pins with supply := supply } ∧ hasFault (t.lamp.channels[i]) kind = true
        ∧ (∀ k, k ≠ kind → hasFault (t.lamp.channels[i]) k = hasFault ch k)
        ∧ (∀ j : ChannelId, j ≠ i → ∀ k, hasFault (t.lamp.channels[j]) k = hasFault (s.lamp.channels[j]) k)
        ∧ ((kind = .openString ∨ kind = .shortString) → (t.lamp.channels[i]).evaluated = false)
        ∧ healthFollows t ∧ redSeenFollows t
        ∧ signalled (match kind with
            | .openString => s.conf.maskOpen | .shortString => s.conf.maskShort | .partialString => s.conf.maskPartial) t
        ∧ unchangedBut [.pins, .controlPort, .seq, .closure, .lamp, .display, .sup] s t))
    ∧ (∀ (supply ms : Nat), s.lamp.pulseClock = some ms →
      (supply < s.conf.lowSupplyThreshold → s.lamp.lowSupply = false → ∃ t, exec (.lowSupplyLatch supply) s = .next t
        ∧ t.pins = { s.pins with supply := supply } ∧ t.lamp = { s.lamp with lowSupply := true }
        ∧ signalled s.conf.maskLowSupply t ∧ t.sup = { s.sup with pulseTimer := t.sup.pulseTimer }
        ∧ unchangedBut [.pins, .controlPort, .lamp, .sup] s t)
      ∧ (supply < s.conf.undervoltageThreshold → s.lamp.undervoltage = false → ∃ t,
        exec (.undervoltageChange supply) s = .next t ∧ t.pins = { s.pins with supply := supply }
        ∧ t.lamp.undervoltage = true ∧ t.lamp.undervoltageSeen = true
        ∧ (∀ f, functionHealthy f t.lamp = false) ∧ redSeenFollows t
        ∧ unchangedBut [.pins, .seq, .closure, .lamp, .display, .sup] s t)
      ∧ (s.conf.undervoltageThreshold ≤ supply → s.lamp.undervoltage = true → ∃ t,
        exec (.undervoltageChange supply) s = .next t ∧ t.pins = { s.pins with supply := supply }
        ∧ t.lamp.undervoltage = false ∧ t.lamp.undervoltageSeen = true ∧ healthFollows t ∧ redSeenFollows t
        ∧ unchangedBut [.pins, .seq, .closure, .lamp, .display, .sup] s t))
    ∧ (readyFor .control s → s.sup.mode = .attended → ∃ t, exec (.clearLampFaults .control []) s = .next t
      ∧ answered .control 0x41#8 .ok [octet ((s.lamp.channels.toList.map (fun c =>
          c.openFlag.toNat + c.shortFlag.toNat + c.partialFlag.toNat)).sum), octet s.lamp.lowSupply.toNat] s t
      ∧ (∀ (i : ChannelId) k, hasFault (t.lamp.channels[i]) k = false) ∧ t.lamp.lowSupply = false
      ∧ t.lamp.undervoltage = s.lamp.undervoltage ∧ healthFollows t ∧ redSeenFollows t
      ∧ (t.links.get .control).attention = (s.links.get .control).attention
      ∧ t.sup = { framedSup .control s with dark := t.sup.dark }
      ∧ unchangedBut [.controlPort, .seq, .closure, .lamp, .display, .sup] s t)

/-- SET DIM LEVEL sets its group's level and nothing else, so a pulse in progress keeps its on-time; the reply carries the
nominal on-time and the on-time in use, and the next period start gives the group's channels the on-time in use. A level outside
10 to 100 and an undefined group are BAD_FIELD (R146, R149). -/
def Obligations.SetDimLevelTakesTheNextPeriod : Prop :=
  ∀ (group level : Byte) (s : State), readyFor .control s → s.sup.mode = .attended →
    let inUse : Nat := max (level.toNat * 100) (s.conf.blanking * 100 + 500)
    ((1 < group.toNat ∨ level.toNat < 10 ∨ 100 < level.toNat) → ∃ t, exec (.setDimLevel .control [group, level]) s = .next t
      ∧ onlyAnswered .control 0x42#8 .badField [] [] s t)
    ∧ (group.toNat ≤ 1 → 10 ≤ level.toNat → level.toNat ≤ 100 → ∃ t, exec (.setDimLevel .control [group, level]) s = .next t
      ∧ t.lamp = (if group = 0 then { s.lamp with dimRoad := level.toNat } else { s.lamp with dimShipping := level.toNat })
      ∧ onlyAnswered .control 0x42#8 .ok (octets16 (level.toNat * 100) ++ octets16 inUse) [.lamp] s t
      ∧ (s.lamp.pulseClock ≠ none → ∃ u, exec .pulsePeriodStart t = .next u
        ∧ ∀ (i : ChannelId) f, (s.lamp.channels[i]).function = some f → isRoadFunction f = (group == 0) →
          (u.lamp.channels[i]).onTime = inUse))

/-! ## The Link Supervisor, the store and the start-up -/

/-- The watchdog's expiry makes the device UNATTENDED, with the FAULT line held and the control line raised, and one while it
does not run in ATTENDED changes nothing (the last is the model's reading, log entry 4); RESUME brings it back to ATTENDED with
the watchdog at its full time, starts the lift that ROAD_CLOSED found waiting, or leaves it waiting with the control line raised
where Leaf Motion refuses it, starts the reopening that was pending, and takes an opening in LOWERING with the group STOWED to
REOPENING_ROAD with its reopening; the pulse timer's expiry leaves the FAULT line to the held conditions (R42, R57, R121, R176,
R178, R181, R182). -/
def Obligations.UnattendedAndResumed : Prop :=
  ∀ s : State,
    (∀ ms, s.sup.mode = .attended → s.sup.watchdog = some ms → ∃ t, exec .watchdogExpiry s = .next t
      ∧ t.sup = { s.sup with mode := .unattended, watchdog := none, dark := t.sup.dark } ∧ faultLine t.sup = true
      ∧ t.links.control = { s.links.control with attention := ⟨true, s.links.control.attention.causes.add .mode⟩ }
      ∧ t.seq.opening = s.seq.opening ∧ demandsStand t
      ∧ (s.conf.signalPolicy = .restrict → t.seq.demand = ⟨.noPassage, .noPassage⟩)
      ∧ unchangedBut [.controlPort, .seq, .lamp, .display, .sup] s t)
    ∧ ((s.sup.mode ≠ .attended ∨ s.sup.watchdog = none) → exec .watchdogExpiry s = .next s)
    ∧ (∃ t, exec .faultPulseTimerExpiry s = .next t ∧ t.sup = { s.sup with pulseTimer := none }
      ∧ (faultLine t.sup = true ↔ s.sup.groupTripped = true ∨ s.sup.closureHeld = true ∨ (∃ d, s.sup.dark.get d = true)
          ∨ s.sup.mode = .unattended)
      ∧ unchangedBut [.sup] s t)
    ∧ (readyFor .control s → s.sup.mode = .unattended →
      let resumed (t : State) : Prop := answered .control 0x50#8 .ok [1#8] s t ∧ demandsStand t
        ∧ t.sup.mode = .attended ∧ t.sup.watchdog = some (s.conf.watchdogTime * 1000)
      (∃ t, exec (.resume .control []) s = .next t ∧ resumed t)
      ∧ (s.closure.reopenPending = false → (∀ o, s.seq.opening = some o → o.state ≠ .closingRoad ∧ o.state ≠ .lowering) →
        ∃ t, exec (.resume .control []) s = .next t ∧ resumed t ∧ t.seq.opening = s.seq.opening
          ∧ (t.links.get .control).attention = (s.links.get .control).attention
          ∧ unchangedBut [.controlPort, .seq, .lamp, .display, .sup] s t)
      ∧ (∀ o, s.closure.reopenPending = false → s.seq.opening = some o → o.state = .closingRoad → o.recovery = false →
        s.closure.state = .roadClosed →
        (liftReady s → ∃ t, exec (.resume .control []) s = .next t ∧ resumed t ∧ liftStarted o s t)
        ∧ ((s.leaf.group.emergencyStop = true ∨ s.leaf.group.spanOccupied = true) → ∃ t,
          exec (.resume .control []) s = .next t ∧ resumed t ∧ t.seq.opening = some o ∧ t.leaf = s.leaf
            ∧ (t.links.get .control).attention = ⟨true, s.links.control.attention.causes.add .opening⟩))
      ∧ (s.leaf.group.state = .stowed → noStandingFault s → (∃ a, (s.arm a).inService = true) →
        (s.closure.reopenPending = true →
          (∀ o, s.seq.opening = some o → o.state ≠ .closingRoad ∧ o.state ≠ .lowering) →
          ∃ t, exec (.resume .control []) s = .next t ∧ resumed t ∧ t.seq.opening = s.seq.opening ∧ t.leaf = s.leaf
            ∧ reopeningStarted { s with closure := { s.closure with reopenPending := false } } t)
        ∧ (s.closure.reopenPending = false → s.closure.state = .roadClosed →
          ∀ o, s.seq.opening = some o → o.state = .lowering →
          ∃ t, exec (.resume .control []) s = .next t ∧ resumed t
            ∧ t.seq.opening = some { o with state := .reopeningRoad } ∧ t.leaf = s.leaf ∧ reopeningStarted s t
            ∧ (t.links.get .control).attention.raised = true
            ∧ (t.links.get .control).attention.causes.opening = true)))

/-- REVERT TO SETUP: refused INTERLOCK unless the opening is NONE, the road open and the leaves stowed; taken, every block takes
its values for SETUP, while the image, the station addresses, the lamp assignments and the unproven latches are kept (R27, R60,
R104, R130, R142, R161, R173, R179, R180). -/
def Obligations.RevertToSetupKeepsTheImage : Prop :=
  ∀ s : State, readyFor .control s → s.sup.mode = .attended →
    let allowed : Prop := s.seq.opening = none ∧ s.closure.state = .roadOpen ∧ s.leaf.group.state = .stowed
    (¬allowed → ∃ t, exec (.revertToSetup .control []) s = .next t ∧ onlyAnswered .control 0x53#8 .interlock [] [] s t)
    ∧ (allowed → ∃ t, exec (.revertToSetup .control []) s = .next t ∧ answered .control 0x53#8 .ok [0#8] s t
      ∧ (t.links.get .control).attention = (s.links.get .control).attention
      ∧ t.sup = ⟨.setup, none, false, false, ⟨false, false⟩, none⟩ ∧ faultLine t.sup = false
      ∧ t.reg = ⟨[], 1, 0, none⟩ ∧ t.seq.opening = none ∧ t.seq.demand = ⟨.dark, .dark⟩
      ∧ t.leaf.group.state = .inactive ∧ t.leaf.periodTimer = none
      ∧ t.leaf.group.emergencyStop = s.leaf.group.emergencyStop
      ∧ (∀ d, t.leaf.drives.get d = ⟨0, 0, false, 0, 0, false, false⟩)
      ∧ (∀ k, t.leaf.locks.get k = { s.leaf.locks.get k with command := none, timer := none })
      ∧ t.closure = .reset ∧ (∀ a, t.arm a = .reset) ∧ (∀ z : ZoneId, t.zones[z] = ⟨false, (s.zones[z]).input, none⟩)
      ∧ t.loop.held = true ∧ t.loop.turn = none ∧ t.loop.scanTimer = none
      ∧ (∀ a, t.station a = ⟨(s.station a).address, none, none, false, false, 0⟩)
      ∧ (∀ i : ChannelId, (t.lamp.channels[i]).function = (s.lamp.channels[i]).function
          ∧ (t.lamp.channels[i]).output = false ∧ (t.lamp.channels[i]).demand = .off
          ∧ ∀ k, hasFault (t.lamp.channels[i]) k = false)
      ∧ (∀ f, functionHealthy f t.lamp = false) ∧ t.lamp.pulseClock = none
      ∧ t.display = ⟨.off, ⟨⟨.dark, .dark, none, false⟩, ⟨.dark, .dark, none, false⟩⟩⟩
      ∧ t.store = { s.store with state := .editing } ∧ t.cfg = s.cfg
      ∧ unchangedBut [.controlPort, .reg, .seq, .leaf, .closure, .arms, .zones, .loop, .stations, .lamp, .display, .sup,
          .store] s t)

/-- WRITE CONFIGURATION ITEM: NOT_PERMITTED from the harbour link, WRONG_MODE outside SETUP, BAD_FIELD for an item number of 0
or above 163 or a value outside the item's range in R196, which leaves the image as it was, and otherwise the item is present
with the value, whatever it held before (R197). -/
def Obligations.WriteItemSetsOneItem : Prop :=
  ∀ (nh nl a b c d : Byte) (s : State),
    let body := [nh, nl, a, b, c, d]
    let n := word16 nh nl
    let v := signed32 a b c d
    let refused (o : OutcomeCode) : Prop :=
      ∃ t, exec (.writeConfigurationItem .control body) s = .next t ∧ onlyAnswered .control 0x51#8 o [] [] s t
    (readyFor .harbour s → ∃ t, exec (.writeConfigurationItem .harbour body) s = .next t
      ∧ onlyAnswered .harbour 0x51#8 .notPermitted [] [] s t)
    ∧ (readyFor .control s → s.sup.mode ≠ .setup → refused .wrongMode)
    ∧ (readyFor .control s → s.sup.mode = .setup → (n = 0 ∨ 163 < n ∨ itemAdmits n v = false) → refused .badField)
    ∧ (readyFor .control s → s.sup.mode = .setup → 1 ≤ n → n ≤ 163 → itemAdmits n v = true → ∃ t,
      exec (.writeConfigurationItem .control body) s = .next t
      ∧ t.store.state = s.store.state
      ∧ (∀ i : Fin 163, t.store.image[i] = if i.val + 1 = n then some v else s.store.image[i])
      ∧ onlyAnswered .control 0x51#8 .ok [] [.store] s t)

/-- COMMIT CONFIGURATION and its tests: NOT_PERMITTED from the harbour link, WRONG_MODE outside SETUP, then CONFIG_INVALID at the first
stage that fails, with the lowest absent item, with 0 for the check word, or with the lowest item named by a failing condition;
nothing changes. With every stage passed the evaluation begins and the request stays in hand, unanswered (R199). -/
def Obligations.CommitNamesTheFailingItem : Prop :=
  ∀ (h l : Byte) (s : State),
    let image := s.store.image
    let item (n : Nat) : Int := itemOf image n
    let named (n : Nat) (k : Nat) : Prop := 80 ≤ k ∧ k ≤ 111 ∧ item k = n
    let failing (n : Nat) : Prop :=
      (36 ≤ n ∧ n ≤ 51 ∧ item n < item (n - 1)) ∨ (n = 14 ∧ item 13 < item 14) ∨ (n = 15 ∧ item 14 < item 15)
      ∨ (n = 16 ∧ item 13 < item 16) ∨ (n = 18 ∧ item 17 ≤ item 18) ∨ (n = 24 ∧ item 23 - item 24 < 16)
      ∨ (80 ≤ n ∧ n ≤ 111 ∧ item n ≠ 0 ∧
          ∃ j k, 80 ≤ j ∧ j < k ∧ k < n ∧ item j = item n ∧ item k = item n)
      ∨ (n = 150 ∧ ¬∃ k, named 7 k) ∨ (n = 151 ∧ ¬∃ k, named 8 k) ∨ (n = 154 ∧ ¬∃ k, named 11 k)
      ∨ (n = 155 ∧ ¬∃ k, named 12 k) ∨ (64 ≤ n ∧ n ≤ 71 ∧ ∃ k, 64 ≤ k ∧ k < n ∧ item k = item n)
    let invalid (n : Nat) : Prop := ∃ t, exec (.commitConfiguration .control [h, l]) s = .next t
      ∧ onlyAnswered .control 0x52#8 .configInvalid (octets16 n) [] s t
    let complete : Prop := ∀ i : Fin 163, image[i] ≠ none
    (readyFor .harbour s → ∃ t, exec (.commitConfiguration .harbour [h, l]) s = .next t
      ∧ onlyAnswered .harbour 0x52#8 .notPermitted [] [] s t)
    ∧ (readyFor .control s → s.sup.mode ≠ .setup → ∃ t, exec (.commitConfiguration .control [h, l]) s = .next t
      ∧ onlyAnswered .control 0x52#8 .wrongMode [] [] s t)
    ∧ (readyFor .control s → s.sup.mode = .setup →
      (∀ i : Fin 163, image[i] = none → (∀ j : Fin 163, j < i → image[j] ≠ none) → invalid (i.val + 1))
      ∧ (complete → imageCheck image ≠ h ++ l → invalid 0)
      ∧ (∀ n, complete → imageCheck image = h ++ l → failing n → (∀ m < n, ¬failing m) → invalid n)
      ∧ (complete → imageCheck image = h ++ l → (∀ n, ¬failing n) → commitFailure image (h ++ l) = none
        ∧ ∃ t, exec (.commitConfiguration .control [h, l]) s = .next t ∧ (t.links.get .control).inHand = some 0x52#8
          ∧ (t.links.get .control).sending = none ∧ t.sup.mode = .setup ∧ t.store.state = .evaluating
          ∧ t.store.image = image))

/-- An accepted commit: the request stays in hand unanswered, the store is EVALUATING with the mode still SETUP, the
configured values and the station addresses are those of the image, the zones take their inputs at once, the lamps run, the
minute timer starts and the first scan begins (R112, R143, R161, R200). That the first comparison reads the supply noted last
is the model's choice (log entry 15). -/
def Obligations.CommitStartsTheEvaluation : Prop :=
  ∀ (h l : Byte) (s : State), readyFor .control s → s.sup.mode = .setup →
    commitFailure s.store.image (h ++ l) = none →
    ∃ t, exec (.commitConfiguration .control [h, l]) s = .next t
      ∧ t.links.control = { s.links.control with inHand := some 0x52#8 }
      ∧ t.store = { s.store with state := .evaluating } ∧ t.cfg = some (configuredOf s.store.image)
      ∧ t.reg = { s.reg with minuteTimer := some 60000 }
      ∧ (∀ a, t.station a = ⟨some (itemNat s.store.image (64 + (armIndex a).val)), none, none, false, false, 0⟩)
      ∧ (∀ z : ZoneId, t.zones[z] = ⟨(s.zones[z]).input, (s.zones[z]).input, none⟩)
      ∧ (t.leaf.group.spanOccupied = true ↔ ∃ z : ZoneId, (s.zones[z]).input = true)
      ∧ t.loop = ⟨false, some .wEntry1, none, some (itemNat s.store.image 72), true⟩
      ∧ (∀ i : ChannelId, (t.lamp.channels[i]).function = functionOfCode (itemNat s.store.image (80 + i.val))
          ∧ ((t.lamp.channels[i]).partialSelectTwo = true ↔ itemNat s.store.image (112 + i.val) = 2)
          ∧ (t.lamp.channels[i]).demand = .off ∧ ∀ k, hasFault (t.lamp.channels[i]) k = false)
      ∧ t.lamp.pulseClock = some 10
      ∧ (t.lamp.undervoltage = true ↔ s.pins.supply < itemNat s.store.image 79)
      ∧ (∀ f, functionHealthy f t.lamp = functionHealthFrom f t.lamp)
      ∧ t.sup = framedSup .control s
      ∧ unchangedBut [.controlPort, .reg, .leaf, .zones, .loop, .stations, .lamp, .sup, .store, .cfg] s t

/-- The end of the first scan's last turn completes the start-up evaluation: the road is open only when every in-service arm
reports UP, the leaves are STOWED only when seated behind DRIVEN locks and otherwise HALTED with the recovery opening begun, the
store is COMMITTED, the device ATTENDED with its watchdog at full time, and the commit is answered with the mode, both links'
attention records standing as they did but for a latch that the turn's own report sets (R55, R105, R130, R195, R201). That the
whole evaluation leaves the records, and that a latch set while the road is INACTIVE raises the line, are the model's readings
(log entries 24 and 29). The premises beside the turn's are what the start-up leaves: no opening, the group INACTIVE and the road INACTIVE. -/
def Obligations.FirstScanEndsTheStartUp : Prop :=
  ∀ (x : Turn) (b c : Byte) (s : State), s.loop.turn = some x → x.step = .stop → x.station = .eExit2 →
    s.loop.firstScan = true → x.stateOctet = some b → x.angleOctet = some c → s.seq.opening = none →
    s.leaf.group.state = .inactive → s.closure.state = .inactive → s.links.control.sending = none →
    ∃ t, exec .turnEnd s = .next t
      ∧ let up : Prop := ∀ a, (s.arm a).inService = true →
          (if a = .eExit2 then reportOf b else (s.arm a).reported) = .up
        let fine (d : DriveId) : Int := fineAngle (s.conf.drives.get d) (s.pins.encoders.get d).toNat
        let stowed : Prop := ((fine .wn + fine .ws) / 2).natAbs ≤ s.conf.seatedWindow
          ∧ ((fine .en + fine .es) / 2).natAbs ≤ s.conf.seatedWindow
          ∧ ∀ k, (s.leaf.locks.get k).drivenSwitch = true ∧ (s.leaf.locks.get k).withdrawnSwitch = false
        t.store.state = .committed ∧ t.sup.mode = .attended ∧ t.sup.watchdog = some (s.conf.watchdogTime * 1000)
        ∧ t.links.control = { s.links.control with
            sending := some ⟨⟨0x52#8, .ok, false, [1#8]⟩, false⟩
            attention := if reportOf b = .localControl ∧ (s.arm .eExit2).latches.localControl = false then
                ⟨true, s.links.control.attention.causes.add .armLatch⟩
              else s.links.control.attention }
        ∧ t.links.harbour = s.links.harbour
        ∧ t.loop.firstScan = false ∧ t.leaf.periodTimer = some 20
        ∧ (∀ d, (t.leaf.drives.get d).fine = fine d ∧ (t.leaf.drives.get d).brakeReleased = false)
        ∧ (stowed → t.leaf.group.state = .stowed ∧ t.seq.opening = none ∧ t.seq.demand = ⟨.noPassage, .noPassage⟩
          ∧ (up → t.closure.state = .roadOpen) ∧ (¬up → t.closure.state = .roadUncertain))
        ∧ (¬stowed → t.leaf.group.state = .halted
          ∧ t.seq.opening = some ⟨.closingRoad, true, [], 0, none, none, false⟩
          ∧ (t.closure.state = .prewarnAmber ∨ (t.closure.state = .closureHeld ∧ t.closure.heldIn = some .prewarnAmber)))

/-! ## Conditions kept by every step -/

/-- The Link Supervisor's copies and the FAULT line's held conditions through every step: they are those of the blocks, a head's
dark condition stands exactly while a head that should show an aspect shows none, and the watchdog runs in ATTENDED alone (R170,
R174, R175, R181). -/
def Obligations.SupervisorTableIsKept : Prop :=
  ∀ s t : State, supervisorTable s → step s = .next t → supervisorTable t

/-- The attention lines and the links through every step: a line stands raised exactly while its set holds a cause, the harbour's
for passage records alone (R193); a reply waits only behind one whose outcome octet has left, one whose outcome octet has not
left answers a request in hand, and the commit stays in hand through the first scan (R187, R200). -/
def Obligations.AttentionAndPortsAreKept : Prop :=
  ∀ s t : State, attentionTable s → portsSound s → step s = .next t → attentionTable t ∧ portsSound t

/-- The machine after reset meets every condition that the steps keep, and the FAULT line is released. The input levels at
reset are the model's (log entries 6 and 7). -/
def Obligations.ResetMeetsEveryCondition : Prop :=
  leafTable State.reset.leaf ∧ causeTable State.reset.leaf.group ∧ roadShutWhileMoving State.reset
    ∧ supervisorTable State.reset ∧ attentionTable State.reset ∧ portsSound State.reset ∧ registerTable State.reset.reg
    ∧ listTable State.reset ∧ displayTable State.reset ∧ faultLine State.reset.sup = false
end Slice0Statements
end

