-- ==== Sys2Proof/Laws/State.lean ====
section
/-!
SUPPORT. What each replacement of one part of the state leaves in every field: one lemma per field per update.
-/

namespace Sys2Proof.Machine

variable {α : Type}

@[simp] theorem State.withPending_pending (s : State) (x : List Instr) : (s.withPending x).pending = x := rfl
@[simp] theorem State.withPending_freeCount (s : State) (x : List Instr) : (s.withPending x).freeCount = s.freeCount := rfl
@[simp] theorem State.withPending_pins (s : State) (x : List Instr) : (s.withPending x).pins = s.pins := rfl
@[simp] theorem State.withPending_links (s : State) (x : List Instr) : (s.withPending x).links = s.links := rfl
@[simp] theorem State.withPending_reg (s : State) (x : List Instr) : (s.withPending x).reg = s.reg := rfl
@[simp] theorem State.withPending_seq (s : State) (x : List Instr) : (s.withPending x).seq = s.seq := rfl
@[simp] theorem State.withPending_leaf (s : State) (x : List Instr) : (s.withPending x).leaf = s.leaf := rfl
@[simp] theorem State.withPending_closure (s : State) (x : List Instr) : (s.withPending x).closure = s.closure := rfl
@[simp] theorem State.withPending_arms (s : State) (x : List Instr) : (s.withPending x).arms = s.arms := rfl
@[simp] theorem State.withPending_zones (s : State) (x : List Instr) : (s.withPending x).zones = s.zones := rfl
@[simp] theorem State.withPending_loop (s : State) (x : List Instr) : (s.withPending x).loop = s.loop := rfl
@[simp] theorem State.withPending_stations (s : State) (x : List Instr) : (s.withPending x).stations = s.stations := rfl
@[simp] theorem State.withPending_lamp (s : State) (x : List Instr) : (s.withPending x).lamp = s.lamp := rfl
@[simp] theorem State.withPending_display (s : State) (x : List Instr) : (s.withPending x).display = s.display := rfl
@[simp] theorem State.withPending_sup (s : State) (x : List Instr) : (s.withPending x).sup = s.sup := rfl
@[simp] theorem State.withPending_store (s : State) (x : List Instr) : (s.withPending x).store = s.store := rfl
@[simp] theorem State.withPending_cfg (s : State) (x : List Instr) : (s.withPending x).cfg = s.cfg := rfl

@[simp] theorem State.withFreeCount_pending (s : State) (x : Nat) : (s.withFreeCount x).pending = s.pending := rfl
@[simp] theorem State.withFreeCount_freeCount (s : State) (x : Nat) : (s.withFreeCount x).freeCount = x := rfl
@[simp] theorem State.withFreeCount_pins (s : State) (x : Nat) : (s.withFreeCount x).pins = s.pins := rfl
@[simp] theorem State.withFreeCount_links (s : State) (x : Nat) : (s.withFreeCount x).links = s.links := rfl
@[simp] theorem State.withFreeCount_reg (s : State) (x : Nat) : (s.withFreeCount x).reg = s.reg := rfl
@[simp] theorem State.withFreeCount_seq (s : State) (x : Nat) : (s.withFreeCount x).seq = s.seq := rfl
@[simp] theorem State.withFreeCount_leaf (s : State) (x : Nat) : (s.withFreeCount x).leaf = s.leaf := rfl
@[simp] theorem State.withFreeCount_closure (s : State) (x : Nat) : (s.withFreeCount x).closure = s.closure := rfl
@[simp] theorem State.withFreeCount_arms (s : State) (x : Nat) : (s.withFreeCount x).arms = s.arms := rfl
@[simp] theorem State.withFreeCount_zones (s : State) (x : Nat) : (s.withFreeCount x).zones = s.zones := rfl
@[simp] theorem State.withFreeCount_loop (s : State) (x : Nat) : (s.withFreeCount x).loop = s.loop := rfl
@[simp] theorem State.withFreeCount_stations (s : State) (x : Nat) : (s.withFreeCount x).stations = s.stations := rfl
@[simp] theorem State.withFreeCount_lamp (s : State) (x : Nat) : (s.withFreeCount x).lamp = s.lamp := rfl
@[simp] theorem State.withFreeCount_display (s : State) (x : Nat) : (s.withFreeCount x).display = s.display := rfl
@[simp] theorem State.withFreeCount_sup (s : State) (x : Nat) : (s.withFreeCount x).sup = s.sup := rfl
@[simp] theorem State.withFreeCount_store (s : State) (x : Nat) : (s.withFreeCount x).store = s.store := rfl
@[simp] theorem State.withFreeCount_cfg (s : State) (x : Nat) : (s.withFreeCount x).cfg = s.cfg := rfl

@[simp] theorem State.withPins_pending (s : State) (x : Pins) : (s.withPins x).pending = s.pending := rfl
@[simp] theorem State.withPins_freeCount (s : State) (x : Pins) : (s.withPins x).freeCount = s.freeCount := rfl
@[simp] theorem State.withPins_pins (s : State) (x : Pins) : (s.withPins x).pins = x := rfl
@[simp] theorem State.withPins_links (s : State) (x : Pins) : (s.withPins x).links = s.links := rfl
@[simp] theorem State.withPins_reg (s : State) (x : Pins) : (s.withPins x).reg = s.reg := rfl
@[simp] theorem State.withPins_seq (s : State) (x : Pins) : (s.withPins x).seq = s.seq := rfl
@[simp] theorem State.withPins_leaf (s : State) (x : Pins) : (s.withPins x).leaf = s.leaf := rfl
@[simp] theorem State.withPins_closure (s : State) (x : Pins) : (s.withPins x).closure = s.closure := rfl
@[simp] theorem State.withPins_arms (s : State) (x : Pins) : (s.withPins x).arms = s.arms := rfl
@[simp] theorem State.withPins_zones (s : State) (x : Pins) : (s.withPins x).zones = s.zones := rfl
@[simp] theorem State.withPins_loop (s : State) (x : Pins) : (s.withPins x).loop = s.loop := rfl
@[simp] theorem State.withPins_stations (s : State) (x : Pins) : (s.withPins x).stations = s.stations := rfl
@[simp] theorem State.withPins_lamp (s : State) (x : Pins) : (s.withPins x).lamp = s.lamp := rfl
@[simp] theorem State.withPins_display (s : State) (x : Pins) : (s.withPins x).display = s.display := rfl
@[simp] theorem State.withPins_sup (s : State) (x : Pins) : (s.withPins x).sup = s.sup := rfl
@[simp] theorem State.withPins_store (s : State) (x : Pins) : (s.withPins x).store = s.store := rfl
@[simp] theorem State.withPins_cfg (s : State) (x : Pins) : (s.withPins x).cfg = s.cfg := rfl

@[simp] theorem State.withLinks_pending (s : State) (x : PerLink LinkPort) : (s.withLinks x).pending = s.pending := rfl
@[simp] theorem State.withLinks_freeCount (s : State) (x : PerLink LinkPort) : (s.withLinks x).freeCount = s.freeCount := rfl
@[simp] theorem State.withLinks_pins (s : State) (x : PerLink LinkPort) : (s.withLinks x).pins = s.pins := rfl
@[simp] theorem State.withLinks_links (s : State) (x : PerLink LinkPort) : (s.withLinks x).links = x := rfl
@[simp] theorem State.withLinks_reg (s : State) (x : PerLink LinkPort) : (s.withLinks x).reg = s.reg := rfl
@[simp] theorem State.withLinks_seq (s : State) (x : PerLink LinkPort) : (s.withLinks x).seq = s.seq := rfl
@[simp] theorem State.withLinks_leaf (s : State) (x : PerLink LinkPort) : (s.withLinks x).leaf = s.leaf := rfl
@[simp] theorem State.withLinks_closure (s : State) (x : PerLink LinkPort) : (s.withLinks x).closure = s.closure := rfl
@[simp] theorem State.withLinks_arms (s : State) (x : PerLink LinkPort) : (s.withLinks x).arms = s.arms := rfl
@[simp] theorem State.withLinks_zones (s : State) (x : PerLink LinkPort) : (s.withLinks x).zones = s.zones := rfl
@[simp] theorem State.withLinks_loop (s : State) (x : PerLink LinkPort) : (s.withLinks x).loop = s.loop := rfl
@[simp] theorem State.withLinks_stations (s : State) (x : PerLink LinkPort) : (s.withLinks x).stations = s.stations := rfl
@[simp] theorem State.withLinks_lamp (s : State) (x : PerLink LinkPort) : (s.withLinks x).lamp = s.lamp := rfl
@[simp] theorem State.withLinks_display (s : State) (x : PerLink LinkPort) : (s.withLinks x).display = s.display := rfl
@[simp] theorem State.withLinks_sup (s : State) (x : PerLink LinkPort) : (s.withLinks x).sup = s.sup := rfl
@[simp] theorem State.withLinks_store (s : State) (x : PerLink LinkPort) : (s.withLinks x).store = s.store := rfl
@[simp] theorem State.withLinks_cfg (s : State) (x : PerLink LinkPort) : (s.withLinks x).cfg = s.cfg := rfl

@[simp] theorem State.withReg_pending (s : State) (x : Register) : (s.withReg x).pending = s.pending := rfl
@[simp] theorem State.withReg_freeCount (s : State) (x : Register) : (s.withReg x).freeCount = s.freeCount := rfl
@[simp] theorem State.withReg_pins (s : State) (x : Register) : (s.withReg x).pins = s.pins := rfl
@[simp] theorem State.withReg_links (s : State) (x : Register) : (s.withReg x).links = s.links := rfl
@[simp] theorem State.withReg_reg (s : State) (x : Register) : (s.withReg x).reg = x := rfl
@[simp] theorem State.withReg_seq (s : State) (x : Register) : (s.withReg x).seq = s.seq := rfl
@[simp] theorem State.withReg_leaf (s : State) (x : Register) : (s.withReg x).leaf = s.leaf := rfl
@[simp] theorem State.withReg_closure (s : State) (x : Register) : (s.withReg x).closure = s.closure := rfl
@[simp] theorem State.withReg_arms (s : State) (x : Register) : (s.withReg x).arms = s.arms := rfl
@[simp] theorem State.withReg_zones (s : State) (x : Register) : (s.withReg x).zones = s.zones := rfl
@[simp] theorem State.withReg_loop (s : State) (x : Register) : (s.withReg x).loop = s.loop := rfl
@[simp] theorem State.withReg_stations (s : State) (x : Register) : (s.withReg x).stations = s.stations := rfl
@[simp] theorem State.withReg_lamp (s : State) (x : Register) : (s.withReg x).lamp = s.lamp := rfl
@[simp] theorem State.withReg_display (s : State) (x : Register) : (s.withReg x).display = s.display := rfl
@[simp] theorem State.withReg_sup (s : State) (x : Register) : (s.withReg x).sup = s.sup := rfl
@[simp] theorem State.withReg_store (s : State) (x : Register) : (s.withReg x).store = s.store := rfl
@[simp] theorem State.withReg_cfg (s : State) (x : Register) : (s.withReg x).cfg = s.cfg := rfl

@[simp] theorem State.withSeq_pending (s : State) (x : Sequencer) : (s.withSeq x).pending = s.pending := rfl
@[simp] theorem State.withSeq_freeCount (s : State) (x : Sequencer) : (s.withSeq x).freeCount = s.freeCount := rfl
@[simp] theorem State.withSeq_pins (s : State) (x : Sequencer) : (s.withSeq x).pins = s.pins := rfl
@[simp] theorem State.withSeq_links (s : State) (x : Sequencer) : (s.withSeq x).links = s.links := rfl
@[simp] theorem State.withSeq_reg (s : State) (x : Sequencer) : (s.withSeq x).reg = s.reg := rfl
@[simp] theorem State.withSeq_seq (s : State) (x : Sequencer) : (s.withSeq x).seq = x := rfl
@[simp] theorem State.withSeq_leaf (s : State) (x : Sequencer) : (s.withSeq x).leaf = s.leaf := rfl
@[simp] theorem State.withSeq_closure (s : State) (x : Sequencer) : (s.withSeq x).closure = s.closure := rfl
@[simp] theorem State.withSeq_arms (s : State) (x : Sequencer) : (s.withSeq x).arms = s.arms := rfl
@[simp] theorem State.withSeq_zones (s : State) (x : Sequencer) : (s.withSeq x).zones = s.zones := rfl
@[simp] theorem State.withSeq_loop (s : State) (x : Sequencer) : (s.withSeq x).loop = s.loop := rfl
@[simp] theorem State.withSeq_stations (s : State) (x : Sequencer) : (s.withSeq x).stations = s.stations := rfl
@[simp] theorem State.withSeq_lamp (s : State) (x : Sequencer) : (s.withSeq x).lamp = s.lamp := rfl
@[simp] theorem State.withSeq_display (s : State) (x : Sequencer) : (s.withSeq x).display = s.display := rfl
@[simp] theorem State.withSeq_sup (s : State) (x : Sequencer) : (s.withSeq x).sup = s.sup := rfl
@[simp] theorem State.withSeq_store (s : State) (x : Sequencer) : (s.withSeq x).store = s.store := rfl
@[simp] theorem State.withSeq_cfg (s : State) (x : Sequencer) : (s.withSeq x).cfg = s.cfg := rfl

@[simp] theorem State.withLeaf_pending (s : State) (x : LeafMotion) : (s.withLeaf x).pending = s.pending := rfl
@[simp] theorem State.withLeaf_freeCount (s : State) (x : LeafMotion) : (s.withLeaf x).freeCount = s.freeCount := rfl
@[simp] theorem State.withLeaf_pins (s : State) (x : LeafMotion) : (s.withLeaf x).pins = s.pins := rfl
@[simp] theorem State.withLeaf_links (s : State) (x : LeafMotion) : (s.withLeaf x).links = s.links := rfl
@[simp] theorem State.withLeaf_reg (s : State) (x : LeafMotion) : (s.withLeaf x).reg = s.reg := rfl
@[simp] theorem State.withLeaf_seq (s : State) (x : LeafMotion) : (s.withLeaf x).seq = s.seq := rfl
@[simp] theorem State.withLeaf_leaf (s : State) (x : LeafMotion) : (s.withLeaf x).leaf = x := rfl
@[simp] theorem State.withLeaf_closure (s : State) (x : LeafMotion) : (s.withLeaf x).closure = s.closure := rfl
@[simp] theorem State.withLeaf_arms (s : State) (x : LeafMotion) : (s.withLeaf x).arms = s.arms := rfl
@[simp] theorem State.withLeaf_zones (s : State) (x : LeafMotion) : (s.withLeaf x).zones = s.zones := rfl
@[simp] theorem State.withLeaf_loop (s : State) (x : LeafMotion) : (s.withLeaf x).loop = s.loop := rfl
@[simp] theorem State.withLeaf_stations (s : State) (x : LeafMotion) : (s.withLeaf x).stations = s.stations := rfl
@[simp] theorem State.withLeaf_lamp (s : State) (x : LeafMotion) : (s.withLeaf x).lamp = s.lamp := rfl
@[simp] theorem State.withLeaf_display (s : State) (x : LeafMotion) : (s.withLeaf x).display = s.display := rfl
@[simp] theorem State.withLeaf_sup (s : State) (x : LeafMotion) : (s.withLeaf x).sup = s.sup := rfl
@[simp] theorem State.withLeaf_store (s : State) (x : LeafMotion) : (s.withLeaf x).store = s.store := rfl
@[simp] theorem State.withLeaf_cfg (s : State) (x : LeafMotion) : (s.withLeaf x).cfg = s.cfg := rfl

@[simp] theorem State.withClosure_pending (s : State) (x : Closure) : (s.withClosure x).pending = s.pending := rfl
@[simp] theorem State.withClosure_freeCount (s : State) (x : Closure) : (s.withClosure x).freeCount = s.freeCount := rfl
@[simp] theorem State.withClosure_pins (s : State) (x : Closure) : (s.withClosure x).pins = s.pins := rfl
@[simp] theorem State.withClosure_links (s : State) (x : Closure) : (s.withClosure x).links = s.links := rfl
@[simp] theorem State.withClosure_reg (s : State) (x : Closure) : (s.withClosure x).reg = s.reg := rfl
@[simp] theorem State.withClosure_seq (s : State) (x : Closure) : (s.withClosure x).seq = s.seq := rfl
@[simp] theorem State.withClosure_leaf (s : State) (x : Closure) : (s.withClosure x).leaf = s.leaf := rfl
@[simp] theorem State.withClosure_closure (s : State) (x : Closure) : (s.withClosure x).closure = x := rfl
@[simp] theorem State.withClosure_arms (s : State) (x : Closure) : (s.withClosure x).arms = s.arms := rfl
@[simp] theorem State.withClosure_zones (s : State) (x : Closure) : (s.withClosure x).zones = s.zones := rfl
@[simp] theorem State.withClosure_loop (s : State) (x : Closure) : (s.withClosure x).loop = s.loop := rfl
@[simp] theorem State.withClosure_stations (s : State) (x : Closure) : (s.withClosure x).stations = s.stations := rfl
@[simp] theorem State.withClosure_lamp (s : State) (x : Closure) : (s.withClosure x).lamp = s.lamp := rfl
@[simp] theorem State.withClosure_display (s : State) (x : Closure) : (s.withClosure x).display = s.display := rfl
@[simp] theorem State.withClosure_sup (s : State) (x : Closure) : (s.withClosure x).sup = s.sup := rfl
@[simp] theorem State.withClosure_store (s : State) (x : Closure) : (s.withClosure x).store = s.store := rfl
@[simp] theorem State.withClosure_cfg (s : State) (x : Closure) : (s.withClosure x).cfg = s.cfg := rfl

@[simp] theorem State.withArms_pending (s : State) (x : Vector Arm 8) : (s.withArms x).pending = s.pending := rfl
@[simp] theorem State.withArms_freeCount (s : State) (x : Vector Arm 8) : (s.withArms x).freeCount = s.freeCount := rfl
@[simp] theorem State.withArms_pins (s : State) (x : Vector Arm 8) : (s.withArms x).pins = s.pins := rfl
@[simp] theorem State.withArms_links (s : State) (x : Vector Arm 8) : (s.withArms x).links = s.links := rfl
@[simp] theorem State.withArms_reg (s : State) (x : Vector Arm 8) : (s.withArms x).reg = s.reg := rfl
@[simp] theorem State.withArms_seq (s : State) (x : Vector Arm 8) : (s.withArms x).seq = s.seq := rfl
@[simp] theorem State.withArms_leaf (s : State) (x : Vector Arm 8) : (s.withArms x).leaf = s.leaf := rfl
@[simp] theorem State.withArms_closure (s : State) (x : Vector Arm 8) : (s.withArms x).closure = s.closure := rfl
@[simp] theorem State.withArms_arms (s : State) (x : Vector Arm 8) : (s.withArms x).arms = x := rfl
@[simp] theorem State.withArms_zones (s : State) (x : Vector Arm 8) : (s.withArms x).zones = s.zones := rfl
@[simp] theorem State.withArms_loop (s : State) (x : Vector Arm 8) : (s.withArms x).loop = s.loop := rfl
@[simp] theorem State.withArms_stations (s : State) (x : Vector Arm 8) : (s.withArms x).stations = s.stations := rfl
@[simp] theorem State.withArms_lamp (s : State) (x : Vector Arm 8) : (s.withArms x).lamp = s.lamp := rfl
@[simp] theorem State.withArms_display (s : State) (x : Vector Arm 8) : (s.withArms x).display = s.display := rfl
@[simp] theorem State.withArms_sup (s : State) (x : Vector Arm 8) : (s.withArms x).sup = s.sup := rfl
@[simp] theorem State.withArms_store (s : State) (x : Vector Arm 8) : (s.withArms x).store = s.store := rfl
@[simp] theorem State.withArms_cfg (s : State) (x : Vector Arm 8) : (s.withArms x).cfg = s.cfg := rfl

@[simp] theorem State.withZones_pending (s : State) (x : Vector Zone 4) : (s.withZones x).pending = s.pending := rfl
@[simp] theorem State.withZones_freeCount (s : State) (x : Vector Zone 4) : (s.withZones x).freeCount = s.freeCount := rfl
@[simp] theorem State.withZones_pins (s : State) (x : Vector Zone 4) : (s.withZones x).pins = s.pins := rfl
@[simp] theorem State.withZones_links (s : State) (x : Vector Zone 4) : (s.withZones x).links = s.links := rfl
@[simp] theorem State.withZones_reg (s : State) (x : Vector Zone 4) : (s.withZones x).reg = s.reg := rfl
@[simp] theorem State.withZones_seq (s : State) (x : Vector Zone 4) : (s.withZones x).seq = s.seq := rfl
@[simp] theorem State.withZones_leaf (s : State) (x : Vector Zone 4) : (s.withZones x).leaf = s.leaf := rfl
@[simp] theorem State.withZones_closure (s : State) (x : Vector Zone 4) : (s.withZones x).closure = s.closure := rfl
@[simp] theorem State.withZones_arms (s : State) (x : Vector Zone 4) : (s.withZones x).arms = s.arms := rfl
@[simp] theorem State.withZones_zones (s : State) (x : Vector Zone 4) : (s.withZones x).zones = x := rfl
@[simp] theorem State.withZones_loop (s : State) (x : Vector Zone 4) : (s.withZones x).loop = s.loop := rfl
@[simp] theorem State.withZones_stations (s : State) (x : Vector Zone 4) : (s.withZones x).stations = s.stations := rfl
@[simp] theorem State.withZones_lamp (s : State) (x : Vector Zone 4) : (s.withZones x).lamp = s.lamp := rfl
@[simp] theorem State.withZones_display (s : State) (x : Vector Zone 4) : (s.withZones x).display = s.display := rfl
@[simp] theorem State.withZones_sup (s : State) (x : Vector Zone 4) : (s.withZones x).sup = s.sup := rfl
@[simp] theorem State.withZones_store (s : State) (x : Vector Zone 4) : (s.withZones x).store = s.store := rfl
@[simp] theorem State.withZones_cfg (s : State) (x : Vector Zone 4) : (s.withZones x).cfg = s.cfg := rfl

@[simp] theorem State.withLoop_pending (s : State) (x : Loop) : (s.withLoop x).pending = s.pending := rfl
@[simp] theorem State.withLoop_freeCount (s : State) (x : Loop) : (s.withLoop x).freeCount = s.freeCount := rfl
@[simp] theorem State.withLoop_pins (s : State) (x : Loop) : (s.withLoop x).pins = s.pins := rfl
@[simp] theorem State.withLoop_links (s : State) (x : Loop) : (s.withLoop x).links = s.links := rfl
@[simp] theorem State.withLoop_reg (s : State) (x : Loop) : (s.withLoop x).reg = s.reg := rfl
@[simp] theorem State.withLoop_seq (s : State) (x : Loop) : (s.withLoop x).seq = s.seq := rfl
@[simp] theorem State.withLoop_leaf (s : State) (x : Loop) : (s.withLoop x).leaf = s.leaf := rfl
@[simp] theorem State.withLoop_closure (s : State) (x : Loop) : (s.withLoop x).closure = s.closure := rfl
@[simp] theorem State.withLoop_arms (s : State) (x : Loop) : (s.withLoop x).arms = s.arms := rfl
@[simp] theorem State.withLoop_zones (s : State) (x : Loop) : (s.withLoop x).zones = s.zones := rfl
@[simp] theorem State.withLoop_loop (s : State) (x : Loop) : (s.withLoop x).loop = x := rfl
@[simp] theorem State.withLoop_stations (s : State) (x : Loop) : (s.withLoop x).stations = s.stations := rfl
@[simp] theorem State.withLoop_lamp (s : State) (x : Loop) : (s.withLoop x).lamp = s.lamp := rfl
@[simp] theorem State.withLoop_display (s : State) (x : Loop) : (s.withLoop x).display = s.display := rfl
@[simp] theorem State.withLoop_sup (s : State) (x : Loop) : (s.withLoop x).sup = s.sup := rfl
@[simp] theorem State.withLoop_store (s : State) (x : Loop) : (s.withLoop x).store = s.store := rfl
@[simp] theorem State.withLoop_cfg (s : State) (x : Loop) : (s.withLoop x).cfg = s.cfg := rfl

@[simp] theorem State.withStations_pending (s : State) (x : Vector Station 8) : (s.withStations x).pending = s.pending := rfl
@[simp] theorem State.withStations_freeCount (s : State) (x : Vector Station 8) : (s.withStations x).freeCount = s.freeCount := rfl
@[simp] theorem State.withStations_pins (s : State) (x : Vector Station 8) : (s.withStations x).pins = s.pins := rfl
@[simp] theorem State.withStations_links (s : State) (x : Vector Station 8) : (s.withStations x).links = s.links := rfl
@[simp] theorem State.withStations_reg (s : State) (x : Vector Station 8) : (s.withStations x).reg = s.reg := rfl
@[simp] theorem State.withStations_seq (s : State) (x : Vector Station 8) : (s.withStations x).seq = s.seq := rfl
@[simp] theorem State.withStations_leaf (s : State) (x : Vector Station 8) : (s.withStations x).leaf = s.leaf := rfl
@[simp] theorem State.withStations_closure (s : State) (x : Vector Station 8) : (s.withStations x).closure = s.closure := rfl
@[simp] theorem State.withStations_arms (s : State) (x : Vector Station 8) : (s.withStations x).arms = s.arms := rfl
@[simp] theorem State.withStations_zones (s : State) (x : Vector Station 8) : (s.withStations x).zones = s.zones := rfl
@[simp] theorem State.withStations_loop (s : State) (x : Vector Station 8) : (s.withStations x).loop = s.loop := rfl
@[simp] theorem State.withStations_stations (s : State) (x : Vector Station 8) : (s.withStations x).stations = x := rfl
@[simp] theorem State.withStations_lamp (s : State) (x : Vector Station 8) : (s.withStations x).lamp = s.lamp := rfl
@[simp] theorem State.withStations_display (s : State) (x : Vector Station 8) : (s.withStations x).display = s.display := rfl
@[simp] theorem State.withStations_sup (s : State) (x : Vector Station 8) : (s.withStations x).sup = s.sup := rfl
@[simp] theorem State.withStations_store (s : State) (x : Vector Station 8) : (s.withStations x).store = s.store := rfl
@[simp] theorem State.withStations_cfg (s : State) (x : Vector Station 8) : (s.withStations x).cfg = s.cfg := rfl

@[simp] theorem State.withLamp_pending (s : State) (x : LampUnit) : (s.withLamp x).pending = s.pending := rfl
@[simp] theorem State.withLamp_freeCount (s : State) (x : LampUnit) : (s.withLamp x).freeCount = s.freeCount := rfl
@[simp] theorem State.withLamp_pins (s : State) (x : LampUnit) : (s.withLamp x).pins = s.pins := rfl
@[simp] theorem State.withLamp_links (s : State) (x : LampUnit) : (s.withLamp x).links = s.links := rfl
@[simp] theorem State.withLamp_reg (s : State) (x : LampUnit) : (s.withLamp x).reg = s.reg := rfl
@[simp] theorem State.withLamp_seq (s : State) (x : LampUnit) : (s.withLamp x).seq = s.seq := rfl
@[simp] theorem State.withLamp_leaf (s : State) (x : LampUnit) : (s.withLamp x).leaf = s.leaf := rfl
@[simp] theorem State.withLamp_closure (s : State) (x : LampUnit) : (s.withLamp x).closure = s.closure := rfl
@[simp] theorem State.withLamp_arms (s : State) (x : LampUnit) : (s.withLamp x).arms = s.arms := rfl
@[simp] theorem State.withLamp_zones (s : State) (x : LampUnit) : (s.withLamp x).zones = s.zones := rfl
@[simp] theorem State.withLamp_loop (s : State) (x : LampUnit) : (s.withLamp x).loop = s.loop := rfl
@[simp] theorem State.withLamp_stations (s : State) (x : LampUnit) : (s.withLamp x).stations = s.stations := rfl
@[simp] theorem State.withLamp_lamp (s : State) (x : LampUnit) : (s.withLamp x).lamp = x := rfl
@[simp] theorem State.withLamp_display (s : State) (x : LampUnit) : (s.withLamp x).display = s.display := rfl
@[simp] theorem State.withLamp_sup (s : State) (x : LampUnit) : (s.withLamp x).sup = s.sup := rfl
@[simp] theorem State.withLamp_store (s : State) (x : LampUnit) : (s.withLamp x).store = s.store := rfl
@[simp] theorem State.withLamp_cfg (s : State) (x : LampUnit) : (s.withLamp x).cfg = s.cfg := rfl

@[simp] theorem State.withDisplay_pending (s : State) (x : Display) : (s.withDisplay x).pending = s.pending := rfl
@[simp] theorem State.withDisplay_freeCount (s : State) (x : Display) : (s.withDisplay x).freeCount = s.freeCount := rfl
@[simp] theorem State.withDisplay_pins (s : State) (x : Display) : (s.withDisplay x).pins = s.pins := rfl
@[simp] theorem State.withDisplay_links (s : State) (x : Display) : (s.withDisplay x).links = s.links := rfl
@[simp] theorem State.withDisplay_reg (s : State) (x : Display) : (s.withDisplay x).reg = s.reg := rfl
@[simp] theorem State.withDisplay_seq (s : State) (x : Display) : (s.withDisplay x).seq = s.seq := rfl
@[simp] theorem State.withDisplay_leaf (s : State) (x : Display) : (s.withDisplay x).leaf = s.leaf := rfl
@[simp] theorem State.withDisplay_closure (s : State) (x : Display) : (s.withDisplay x).closure = s.closure := rfl
@[simp] theorem State.withDisplay_arms (s : State) (x : Display) : (s.withDisplay x).arms = s.arms := rfl
@[simp] theorem State.withDisplay_zones (s : State) (x : Display) : (s.withDisplay x).zones = s.zones := rfl
@[simp] theorem State.withDisplay_loop (s : State) (x : Display) : (s.withDisplay x).loop = s.loop := rfl
@[simp] theorem State.withDisplay_stations (s : State) (x : Display) : (s.withDisplay x).stations = s.stations := rfl
@[simp] theorem State.withDisplay_lamp (s : State) (x : Display) : (s.withDisplay x).lamp = s.lamp := rfl
@[simp] theorem State.withDisplay_display (s : State) (x : Display) : (s.withDisplay x).display = x := rfl
@[simp] theorem State.withDisplay_sup (s : State) (x : Display) : (s.withDisplay x).sup = s.sup := rfl
@[simp] theorem State.withDisplay_store (s : State) (x : Display) : (s.withDisplay x).store = s.store := rfl
@[simp] theorem State.withDisplay_cfg (s : State) (x : Display) : (s.withDisplay x).cfg = s.cfg := rfl

@[simp] theorem State.withSup_pending (s : State) (x : Supervisor) : (s.withSup x).pending = s.pending := rfl
@[simp] theorem State.withSup_freeCount (s : State) (x : Supervisor) : (s.withSup x).freeCount = s.freeCount := rfl
@[simp] theorem State.withSup_pins (s : State) (x : Supervisor) : (s.withSup x).pins = s.pins := rfl
@[simp] theorem State.withSup_links (s : State) (x : Supervisor) : (s.withSup x).links = s.links := rfl
@[simp] theorem State.withSup_reg (s : State) (x : Supervisor) : (s.withSup x).reg = s.reg := rfl
@[simp] theorem State.withSup_seq (s : State) (x : Supervisor) : (s.withSup x).seq = s.seq := rfl
@[simp] theorem State.withSup_leaf (s : State) (x : Supervisor) : (s.withSup x).leaf = s.leaf := rfl
@[simp] theorem State.withSup_closure (s : State) (x : Supervisor) : (s.withSup x).closure = s.closure := rfl
@[simp] theorem State.withSup_arms (s : State) (x : Supervisor) : (s.withSup x).arms = s.arms := rfl
@[simp] theorem State.withSup_zones (s : State) (x : Supervisor) : (s.withSup x).zones = s.zones := rfl
@[simp] theorem State.withSup_loop (s : State) (x : Supervisor) : (s.withSup x).loop = s.loop := rfl
@[simp] theorem State.withSup_stations (s : State) (x : Supervisor) : (s.withSup x).stations = s.stations := rfl
@[simp] theorem State.withSup_lamp (s : State) (x : Supervisor) : (s.withSup x).lamp = s.lamp := rfl
@[simp] theorem State.withSup_display (s : State) (x : Supervisor) : (s.withSup x).display = s.display := rfl
@[simp] theorem State.withSup_sup (s : State) (x : Supervisor) : (s.withSup x).sup = x := rfl
@[simp] theorem State.withSup_store (s : State) (x : Supervisor) : (s.withSup x).store = s.store := rfl
@[simp] theorem State.withSup_cfg (s : State) (x : Supervisor) : (s.withSup x).cfg = s.cfg := rfl

@[simp] theorem State.withStore_pending (s : State) (x : Store) : (s.withStore x).pending = s.pending := rfl
@[simp] theorem State.withStore_freeCount (s : State) (x : Store) : (s.withStore x).freeCount = s.freeCount := rfl
@[simp] theorem State.withStore_pins (s : State) (x : Store) : (s.withStore x).pins = s.pins := rfl
@[simp] theorem State.withStore_links (s : State) (x : Store) : (s.withStore x).links = s.links := rfl
@[simp] theorem State.withStore_reg (s : State) (x : Store) : (s.withStore x).reg = s.reg := rfl
@[simp] theorem State.withStore_seq (s : State) (x : Store) : (s.withStore x).seq = s.seq := rfl
@[simp] theorem State.withStore_leaf (s : State) (x : Store) : (s.withStore x).leaf = s.leaf := rfl
@[simp] theorem State.withStore_closure (s : State) (x : Store) : (s.withStore x).closure = s.closure := rfl
@[simp] theorem State.withStore_arms (s : State) (x : Store) : (s.withStore x).arms = s.arms := rfl
@[simp] theorem State.withStore_zones (s : State) (x : Store) : (s.withStore x).zones = s.zones := rfl
@[simp] theorem State.withStore_loop (s : State) (x : Store) : (s.withStore x).loop = s.loop := rfl
@[simp] theorem State.withStore_stations (s : State) (x : Store) : (s.withStore x).stations = s.stations := rfl
@[simp] theorem State.withStore_lamp (s : State) (x : Store) : (s.withStore x).lamp = s.lamp := rfl
@[simp] theorem State.withStore_display (s : State) (x : Store) : (s.withStore x).display = s.display := rfl
@[simp] theorem State.withStore_sup (s : State) (x : Store) : (s.withStore x).sup = s.sup := rfl
@[simp] theorem State.withStore_store (s : State) (x : Store) : (s.withStore x).store = x := rfl
@[simp] theorem State.withStore_cfg (s : State) (x : Store) : (s.withStore x).cfg = s.cfg := rfl

@[simp] theorem State.withCfg_pending (s : State) (x : Option Configured) : (s.withCfg x).pending = s.pending := rfl
@[simp] theorem State.withCfg_freeCount (s : State) (x : Option Configured) : (s.withCfg x).freeCount = s.freeCount := rfl
@[simp] theorem State.withCfg_pins (s : State) (x : Option Configured) : (s.withCfg x).pins = s.pins := rfl
@[simp] theorem State.withCfg_links (s : State) (x : Option Configured) : (s.withCfg x).links = s.links := rfl
@[simp] theorem State.withCfg_reg (s : State) (x : Option Configured) : (s.withCfg x).reg = s.reg := rfl
@[simp] theorem State.withCfg_seq (s : State) (x : Option Configured) : (s.withCfg x).seq = s.seq := rfl
@[simp] theorem State.withCfg_leaf (s : State) (x : Option Configured) : (s.withCfg x).leaf = s.leaf := rfl
@[simp] theorem State.withCfg_closure (s : State) (x : Option Configured) : (s.withCfg x).closure = s.closure := rfl
@[simp] theorem State.withCfg_arms (s : State) (x : Option Configured) : (s.withCfg x).arms = s.arms := rfl
@[simp] theorem State.withCfg_zones (s : State) (x : Option Configured) : (s.withCfg x).zones = s.zones := rfl
@[simp] theorem State.withCfg_loop (s : State) (x : Option Configured) : (s.withCfg x).loop = s.loop := rfl
@[simp] theorem State.withCfg_stations (s : State) (x : Option Configured) : (s.withCfg x).stations = s.stations := rfl
@[simp] theorem State.withCfg_lamp (s : State) (x : Option Configured) : (s.withCfg x).lamp = s.lamp := rfl
@[simp] theorem State.withCfg_display (s : State) (x : Option Configured) : (s.withCfg x).display = s.display := rfl
@[simp] theorem State.withCfg_sup (s : State) (x : Option Configured) : (s.withCfg x).sup = s.sup := rfl
@[simp] theorem State.withCfg_store (s : State) (x : Option Configured) : (s.withCfg x).store = s.store := rfl
@[simp] theorem State.withCfg_cfg (s : State) (x : Option Configured) : (s.withCfg x).cfg = x := rfl
@[simp] theorem PerLink.get_set (t : PerLink α) (l : Link) (x : α) : (t.set l x).get l = x := by cases l <;> rfl

theorem PerLink.get_set_ne (t : PerLink α) (l k : Link) (x : α) (h : k ≠ l) : (t.set l x).get k = t.get k := by
  cases l <;> cases k <;> first | rfl | exact absurd rfl h

@[simp] theorem PerLink.set_set (t : PerLink α) (l : Link) (x y : α) : (t.set l x).set l y = t.set l y := by
  cases l <;> rfl

@[simp] theorem PerLink.set_get (t : PerLink α) (l : Link) : t.set l (t.get l) = t := by cases l <;> rfl

@[simp] theorem PerHead.get_set (t : PerHead α) (d : Direction) (x : α) : (t.set d x).get d = x := by cases d <;> rfl

theorem PerHead.get_set_ne (t : PerHead α) (d e : Direction) (x : α) (h : e ≠ d) : (t.set d x).get e = t.get e := by
  cases d <;> cases e <;> first | rfl | exact absurd rfl h

@[simp] theorem PerHead.set_get (t : PerHead α) (d : Direction) : t.set d (t.get d) = t := by cases d <;> rfl

@[simp] theorem PerLock.get_set (t : PerLock α) (l : LockId) (x : α) : (t.set l x).get l = x := by cases l <;> rfl

theorem PerLock.get_set_ne (t : PerLock α) (l k : LockId) (x : α) (h : k ≠ l) : (t.set l x).get k = t.get k := by
  cases l <;> cases k <;> first | rfl | exact absurd rfl h

@[simp] theorem tabMap_getElem {α β : Type} {n : Nat} (f : α → β) (v : Vector α n) (i : Nat) (h : i < n) :
    (tabMap f v)[i] = f v[i] := by
  simp [tabMap]

@[simp] theorem tabModify_self {α : Type} {n : Nat} (i : Fin n) (f : α → α) (v : Vector α n) :
    (tabModify i f v)[i] = f v[i] := by
  simp [tabModify]

theorem tabModify_ne {α : Type} {n : Nat} (i j : Fin n) (f : α → α) (v : Vector α n) (h : j ≠ i) :
    (tabModify i f v)[j] = v[j] := by
  have h' : i.val ≠ j.val := fun e => h (Fin.ext e.symm)
  simp [tabModify, h']

/-- A fold keeps whatever each of its steps keeps. -/
theorem foldl_keeps {α β γ : Type} (g : α → γ) (f : α → β → α) (h : ∀ t a, g (f t a) = g t) (l : List β) (s : α) :
    g (l.foldl f s) = g s := by
  induction l generalizing s with
  | nil => rfl
  | cons a l ih => rw [List.foldl_cons, ih, h]

end Sys2Proof.Machine
end

