-- ==== Sys2Proof/Laws/Frame.lean ====
section
/-! SUPPORT. What each shared operation leaves alone: for an operation op and a field f of State
that it never writes, op_f says that op answers a state with the same f. -/
namespace Sys2Proof.Machine
open Sys2Proof
@[simp] theorem updatePort_pending (l : Link) (f : LinkPort → LinkPort) (s : State) : (updatePort l f s).pending = s.pending := by
  unfold updatePort; simp
@[simp] theorem updatePort_freeCount (l : Link) (f : LinkPort → LinkPort) (s : State) : (updatePort l f s).freeCount = s.freeCount := by
  unfold updatePort; simp
@[simp] theorem updatePort_pins (l : Link) (f : LinkPort → LinkPort) (s : State) : (updatePort l f s).pins = s.pins := by
  unfold updatePort; simp
@[simp] theorem updatePort_reg (l : Link) (f : LinkPort → LinkPort) (s : State) : (updatePort l f s).reg = s.reg := by
  unfold updatePort; simp
@[simp] theorem updatePort_seq (l : Link) (f : LinkPort → LinkPort) (s : State) : (updatePort l f s).seq = s.seq := by
  unfold updatePort; simp
@[simp] theorem updatePort_leaf (l : Link) (f : LinkPort → LinkPort) (s : State) : (updatePort l f s).leaf = s.leaf := by
  unfold updatePort; simp
@[simp] theorem updatePort_closure (l : Link) (f : LinkPort → LinkPort) (s : State) : (updatePort l f s).closure = s.closure := by
  unfold updatePort; simp
@[simp] theorem updatePort_arms (l : Link) (f : LinkPort → LinkPort) (s : State) : (updatePort l f s).arms = s.arms := by
  unfold updatePort; simp
@[simp] theorem updatePort_zones (l : Link) (f : LinkPort → LinkPort) (s : State) : (updatePort l f s).zones = s.zones := by
  unfold updatePort; simp
@[simp] theorem updatePort_loop (l : Link) (f : LinkPort → LinkPort) (s : State) : (updatePort l f s).loop = s.loop := by
  unfold updatePort; simp
@[simp] theorem updatePort_stations (l : Link) (f : LinkPort → LinkPort) (s : State) : (updatePort l f s).stations = s.stations := by
  unfold updatePort; simp
@[simp] theorem updatePort_lamp (l : Link) (f : LinkPort → LinkPort) (s : State) : (updatePort l f s).lamp = s.lamp := by
  unfold updatePort; simp
@[simp] theorem updatePort_display (l : Link) (f : LinkPort → LinkPort) (s : State) : (updatePort l f s).display = s.display := by
  unfold updatePort; simp
@[simp] theorem updatePort_sup (l : Link) (f : LinkPort → LinkPort) (s : State) : (updatePort l f s).sup = s.sup := by
  unfold updatePort; simp
@[simp] theorem updatePort_store (l : Link) (f : LinkPort → LinkPort) (s : State) : (updatePort l f s).store = s.store := by
  unfold updatePort; simp
@[simp] theorem updatePort_cfg (l : Link) (f : LinkPort → LinkPort) (s : State) : (updatePort l f s).cfg = s.cfg := by
  unfold updatePort; simp
@[simp] theorem raiseAttention_pending (l : Link) (c : AttentionCause) (s : State) : (raiseAttention l c s).pending = s.pending := by
  unfold raiseAttention; simp
@[simp] theorem raiseAttention_freeCount (l : Link) (c : AttentionCause) (s : State) : (raiseAttention l c s).freeCount = s.freeCount := by
  unfold raiseAttention; simp
@[simp] theorem raiseAttention_pins (l : Link) (c : AttentionCause) (s : State) : (raiseAttention l c s).pins = s.pins := by
  unfold raiseAttention; simp
@[simp] theorem raiseAttention_reg (l : Link) (c : AttentionCause) (s : State) : (raiseAttention l c s).reg = s.reg := by
  unfold raiseAttention; simp
@[simp] theorem raiseAttention_seq (l : Link) (c : AttentionCause) (s : State) : (raiseAttention l c s).seq = s.seq := by
  unfold raiseAttention; simp
@[simp] theorem raiseAttention_leaf (l : Link) (c : AttentionCause) (s : State) : (raiseAttention l c s).leaf = s.leaf := by
  unfold raiseAttention; simp
@[simp] theorem raiseAttention_closure (l : Link) (c : AttentionCause) (s : State) : (raiseAttention l c s).closure = s.closure := by
  unfold raiseAttention; simp
@[simp] theorem raiseAttention_arms (l : Link) (c : AttentionCause) (s : State) : (raiseAttention l c s).arms = s.arms := by
  unfold raiseAttention; simp
@[simp] theorem raiseAttention_zones (l : Link) (c : AttentionCause) (s : State) : (raiseAttention l c s).zones = s.zones := by
  unfold raiseAttention; simp
@[simp] theorem raiseAttention_loop (l : Link) (c : AttentionCause) (s : State) : (raiseAttention l c s).loop = s.loop := by
  unfold raiseAttention; simp
@[simp] theorem raiseAttention_stations (l : Link) (c : AttentionCause) (s : State) : (raiseAttention l c s).stations = s.stations := by
  unfold raiseAttention; simp
@[simp] theorem raiseAttention_lamp (l : Link) (c : AttentionCause) (s : State) : (raiseAttention l c s).lamp = s.lamp := by
  unfold raiseAttention; simp
@[simp] theorem raiseAttention_display (l : Link) (c : AttentionCause) (s : State) : (raiseAttention l c s).display = s.display := by
  unfold raiseAttention; simp
@[simp] theorem raiseAttention_sup (l : Link) (c : AttentionCause) (s : State) : (raiseAttention l c s).sup = s.sup := by
  unfold raiseAttention; simp
@[simp] theorem raiseAttention_store (l : Link) (c : AttentionCause) (s : State) : (raiseAttention l c s).store = s.store := by
  unfold raiseAttention; simp
@[simp] theorem raiseAttention_cfg (l : Link) (c : AttentionCause) (s : State) : (raiseAttention l c s).cfg = s.cfg := by
  unfold raiseAttention; simp
@[simp] theorem lowerAttention_pending (l : Link) (s : State) : (lowerAttention l s).pending = s.pending := by
  unfold lowerAttention; simp
@[simp] theorem lowerAttention_freeCount (l : Link) (s : State) : (lowerAttention l s).freeCount = s.freeCount := by
  unfold lowerAttention; simp
@[simp] theorem lowerAttention_pins (l : Link) (s : State) : (lowerAttention l s).pins = s.pins := by
  unfold lowerAttention; simp
@[simp] theorem lowerAttention_reg (l : Link) (s : State) : (lowerAttention l s).reg = s.reg := by
  unfold lowerAttention; simp
@[simp] theorem lowerAttention_seq (l : Link) (s : State) : (lowerAttention l s).seq = s.seq := by
  unfold lowerAttention; simp
@[simp] theorem lowerAttention_leaf (l : Link) (s : State) : (lowerAttention l s).leaf = s.leaf := by
  unfold lowerAttention; simp
@[simp] theorem lowerAttention_closure (l : Link) (s : State) : (lowerAttention l s).closure = s.closure := by
  unfold lowerAttention; simp
@[simp] theorem lowerAttention_arms (l : Link) (s : State) : (lowerAttention l s).arms = s.arms := by
  unfold lowerAttention; simp
@[simp] theorem lowerAttention_zones (l : Link) (s : State) : (lowerAttention l s).zones = s.zones := by
  unfold lowerAttention; simp
@[simp] theorem lowerAttention_loop (l : Link) (s : State) : (lowerAttention l s).loop = s.loop := by
  unfold lowerAttention; simp
@[simp] theorem lowerAttention_stations (l : Link) (s : State) : (lowerAttention l s).stations = s.stations := by
  unfold lowerAttention; simp
@[simp] theorem lowerAttention_lamp (l : Link) (s : State) : (lowerAttention l s).lamp = s.lamp := by
  unfold lowerAttention; simp
@[simp] theorem lowerAttention_display (l : Link) (s : State) : (lowerAttention l s).display = s.display := by
  unfold lowerAttention; simp
@[simp] theorem lowerAttention_sup (l : Link) (s : State) : (lowerAttention l s).sup = s.sup := by
  unfold lowerAttention; simp
@[simp] theorem lowerAttention_store (l : Link) (s : State) : (lowerAttention l s).store = s.store := by
  unfold lowerAttention; simp
@[simp] theorem lowerAttention_cfg (l : Link) (s : State) : (lowerAttention l s).cfg = s.cfg := by
  unfold lowerAttention; simp
@[simp] theorem raiseControlIf_pending (b : Bool) (c : AttentionCause) (s : State) : (raiseControlIf b c s).pending = s.pending := by
  unfold raiseControlIf; (repeat' split) <;> first | with_reducible rfl | simp
@[simp] theorem raiseControlIf_freeCount (b : Bool) (c : AttentionCause) (s : State) : (raiseControlIf b c s).freeCount = s.freeCount := by
  unfold raiseControlIf; (repeat' split) <;> first | with_reducible rfl | simp
@[simp] theorem raiseControlIf_pins (b : Bool) (c : AttentionCause) (s : State) : (raiseControlIf b c s).pins = s.pins := by
  unfold raiseControlIf; (repeat' split) <;> first | with_reducible rfl | simp
@[simp] theorem raiseControlIf_reg (b : Bool) (c : AttentionCause) (s : State) : (raiseControlIf b c s).reg = s.reg := by
  unfold raiseControlIf; (repeat' split) <;> first | with_reducible rfl | simp
@[simp] theorem raiseControlIf_seq (b : Bool) (c : AttentionCause) (s : State) : (raiseControlIf b c s).seq = s.seq := by
  unfold raiseControlIf; (repeat' split) <;> first | with_reducible rfl | simp
@[simp] theorem raiseControlIf_leaf (b : Bool) (c : AttentionCause) (s : State) : (raiseControlIf b c s).leaf = s.leaf := by
  unfold raiseControlIf; (repeat' split) <;> first | with_reducible rfl | simp
@[simp] theorem raiseControlIf_closure (b : Bool) (c : AttentionCause) (s : State) : (raiseControlIf b c s).closure = s.closure := by
  unfold raiseControlIf; (repeat' split) <;> first | with_reducible rfl | simp
@[simp] theorem raiseControlIf_arms (b : Bool) (c : AttentionCause) (s : State) : (raiseControlIf b c s).arms = s.arms := by
  unfold raiseControlIf; (repeat' split) <;> first | with_reducible rfl | simp
@[simp] theorem raiseControlIf_zones (b : Bool) (c : AttentionCause) (s : State) : (raiseControlIf b c s).zones = s.zones := by
  unfold raiseControlIf; (repeat' split) <;> first | with_reducible rfl | simp
@[simp] theorem raiseControlIf_loop (b : Bool) (c : AttentionCause) (s : State) : (raiseControlIf b c s).loop = s.loop := by
  unfold raiseControlIf; (repeat' split) <;> first | with_reducible rfl | simp
@[simp] theorem raiseControlIf_stations (b : Bool) (c : AttentionCause) (s : State) : (raiseControlIf b c s).stations = s.stations := by
  unfold raiseControlIf; (repeat' split) <;> first | with_reducible rfl | simp
@[simp] theorem raiseControlIf_lamp (b : Bool) (c : AttentionCause) (s : State) : (raiseControlIf b c s).lamp = s.lamp := by
  unfold raiseControlIf; (repeat' split) <;> first | with_reducible rfl | simp
@[simp] theorem raiseControlIf_display (b : Bool) (c : AttentionCause) (s : State) : (raiseControlIf b c s).display = s.display := by
  unfold raiseControlIf; (repeat' split) <;> first | with_reducible rfl | simp
@[simp] theorem raiseControlIf_sup (b : Bool) (c : AttentionCause) (s : State) : (raiseControlIf b c s).sup = s.sup := by
  unfold raiseControlIf; (repeat' split) <;> first | with_reducible rfl | simp
@[simp] theorem raiseControlIf_store (b : Bool) (c : AttentionCause) (s : State) : (raiseControlIf b c s).store = s.store := by
  unfold raiseControlIf; (repeat' split) <;> first | with_reducible rfl | simp
@[simp] theorem raiseControlIf_cfg (b : Bool) (c : AttentionCause) (s : State) : (raiseControlIf b c s).cfg = s.cfg := by
  unfold raiseControlIf; (repeat' split) <;> first | with_reducible rfl | simp
@[simp] theorem pulseFault_pending (s : State) : (pulseFault s).pending = s.pending := by
  unfold pulseFault; simp
@[simp] theorem pulseFault_freeCount (s : State) : (pulseFault s).freeCount = s.freeCount := by
  unfold pulseFault; simp
@[simp] theorem pulseFault_pins (s : State) : (pulseFault s).pins = s.pins := by
  unfold pulseFault; simp
@[simp] theorem pulseFault_links (s : State) : (pulseFault s).links = s.links := by
  unfold pulseFault; simp
@[simp] theorem pulseFault_reg (s : State) : (pulseFault s).reg = s.reg := by
  unfold pulseFault; simp
@[simp] theorem pulseFault_seq (s : State) : (pulseFault s).seq = s.seq := by
  unfold pulseFault; simp
@[simp] theorem pulseFault_leaf (s : State) : (pulseFault s).leaf = s.leaf := by
  unfold pulseFault; simp
@[simp] theorem pulseFault_closure (s : State) : (pulseFault s).closure = s.closure := by
  unfold pulseFault; simp
@[simp] theorem pulseFault_arms (s : State) : (pulseFault s).arms = s.arms := by
  unfold pulseFault; simp
@[simp] theorem pulseFault_zones (s : State) : (pulseFault s).zones = s.zones := by
  unfold pulseFault; simp
@[simp] theorem pulseFault_loop (s : State) : (pulseFault s).loop = s.loop := by
  unfold pulseFault; simp
@[simp] theorem pulseFault_stations (s : State) : (pulseFault s).stations = s.stations := by
  unfold pulseFault; simp
@[simp] theorem pulseFault_lamp (s : State) : (pulseFault s).lamp = s.lamp := by
  unfold pulseFault; simp
@[simp] theorem pulseFault_display (s : State) : (pulseFault s).display = s.display := by
  unfold pulseFault; simp
@[simp] theorem pulseFault_store (s : State) : (pulseFault s).store = s.store := by
  unfold pulseFault; simp
@[simp] theorem pulseFault_cfg (s : State) : (pulseFault s).cfg = s.cfg := by
  unfold pulseFault; simp
@[simp] theorem pulseFault_sup_mode (s : State) : (pulseFault s).sup.mode = s.sup.mode := by
  unfold pulseFault; simp
@[simp] theorem pulseFault_sup_watchdog (s : State) : (pulseFault s).sup.watchdog = s.sup.watchdog := by
  unfold pulseFault; simp
@[simp] theorem pulseFault_sup_groupTripped (s : State) : (pulseFault s).sup.groupTripped = s.sup.groupTripped := by
  unfold pulseFault; simp
@[simp] theorem pulseFault_sup_closureHeld (s : State) : (pulseFault s).sup.closureHeld = s.sup.closureHeld := by
  unfold pulseFault; simp
@[simp] theorem pulseFault_sup_dark (s : State) : (pulseFault s).sup.dark = s.sup.dark := by
  unfold pulseFault; simp
@[simp] theorem handGroupTripped_pending (b : Bool) (s : State) : (handGroupTripped b s).pending = s.pending := by
  unfold handGroupTripped; simp
@[simp] theorem handGroupTripped_freeCount (b : Bool) (s : State) : (handGroupTripped b s).freeCount = s.freeCount := by
  unfold handGroupTripped; simp
@[simp] theorem handGroupTripped_pins (b : Bool) (s : State) : (handGroupTripped b s).pins = s.pins := by
  unfold handGroupTripped; simp
@[simp] theorem handGroupTripped_links (b : Bool) (s : State) : (handGroupTripped b s).links = s.links := by
  unfold handGroupTripped; simp
@[simp] theorem handGroupTripped_reg (b : Bool) (s : State) : (handGroupTripped b s).reg = s.reg := by
  unfold handGroupTripped; simp
@[simp] theorem handGroupTripped_seq (b : Bool) (s : State) : (handGroupTripped b s).seq = s.seq := by
  unfold handGroupTripped; simp
@[simp] theorem handGroupTripped_leaf (b : Bool) (s : State) : (handGroupTripped b s).leaf = s.leaf := by
  unfold handGroupTripped; simp
@[simp] theorem handGroupTripped_closure (b : Bool) (s : State) : (handGroupTripped b s).closure = s.closure := by
  unfold handGroupTripped; simp
@[simp] theorem handGroupTripped_arms (b : Bool) (s : State) : (handGroupTripped b s).arms = s.arms := by
  unfold handGroupTripped; simp
@[simp] theorem handGroupTripped_zones (b : Bool) (s : State) : (handGroupTripped b s).zones = s.zones := by
  unfold handGroupTripped; simp
@[simp] theorem handGroupTripped_loop (b : Bool) (s : State) : (handGroupTripped b s).loop = s.loop := by
  unfold handGroupTripped; simp
@[simp] theorem handGroupTripped_stations (b : Bool) (s : State) : (handGroupTripped b s).stations = s.stations := by
  unfold handGroupTripped; simp
@[simp] theorem handGroupTripped_lamp (b : Bool) (s : State) : (handGroupTripped b s).lamp = s.lamp := by
  unfold handGroupTripped; simp
@[simp] theorem handGroupTripped_display (b : Bool) (s : State) : (handGroupTripped b s).display = s.display := by
  unfold handGroupTripped; simp
@[simp] theorem handGroupTripped_store (b : Bool) (s : State) : (handGroupTripped b s).store = s.store := by
  unfold handGroupTripped; simp
@[simp] theorem handGroupTripped_cfg (b : Bool) (s : State) : (handGroupTripped b s).cfg = s.cfg := by
  unfold handGroupTripped; simp
@[simp] theorem handGroupTripped_sup_mode (b : Bool) (s : State) : (handGroupTripped b s).sup.mode = s.sup.mode := by
  unfold handGroupTripped; simp
@[simp] theorem handGroupTripped_sup_watchdog (b : Bool) (s : State) : (handGroupTripped b s).sup.watchdog = s.sup.watchdog := by
  unfold handGroupTripped; simp
@[simp] theorem handGroupTripped_sup_closureHeld (b : Bool) (s : State) : (handGroupTripped b s).sup.closureHeld = s.sup.closureHeld := by
  unfold handGroupTripped; simp
@[simp] theorem handGroupTripped_sup_dark (b : Bool) (s : State) : (handGroupTripped b s).sup.dark = s.sup.dark := by
  unfold handGroupTripped; simp
@[simp] theorem handGroupTripped_sup_pulseTimer (b : Bool) (s : State) : (handGroupTripped b s).sup.pulseTimer = s.sup.pulseTimer := by
  unfold handGroupTripped; simp
@[simp] theorem handClosureHeld_pending (b : Bool) (s : State) : (handClosureHeld b s).pending = s.pending := by
  unfold handClosureHeld; simp
@[simp] theorem handClosureHeld_freeCount (b : Bool) (s : State) : (handClosureHeld b s).freeCount = s.freeCount := by
  unfold handClosureHeld; simp
@[simp] theorem handClosureHeld_pins (b : Bool) (s : State) : (handClosureHeld b s).pins = s.pins := by
  unfold handClosureHeld; simp
@[simp] theorem handClosureHeld_links (b : Bool) (s : State) : (handClosureHeld b s).links = s.links := by
  unfold handClosureHeld; simp
@[simp] theorem handClosureHeld_reg (b : Bool) (s : State) : (handClosureHeld b s).reg = s.reg := by
  unfold handClosureHeld; simp
@[simp] theorem handClosureHeld_seq (b : Bool) (s : State) : (handClosureHeld b s).seq = s.seq := by
  unfold handClosureHeld; simp
@[simp] theorem handClosureHeld_leaf (b : Bool) (s : State) : (handClosureHeld b s).leaf = s.leaf := by
  unfold handClosureHeld; simp
@[simp] theorem handClosureHeld_closure (b : Bool) (s : State) : (handClosureHeld b s).closure = s.closure := by
  unfold handClosureHeld; simp
@[simp] theorem handClosureHeld_arms (b : Bool) (s : State) : (handClosureHeld b s).arms = s.arms := by
  unfold handClosureHeld; simp
@[simp] theorem handClosureHeld_zones (b : Bool) (s : State) : (handClosureHeld b s).zones = s.zones := by
  unfold handClosureHeld; simp
@[simp] theorem handClosureHeld_loop (b : Bool) (s : State) : (handClosureHeld b s).loop = s.loop := by
  unfold handClosureHeld; simp
@[simp] theorem handClosureHeld_stations (b : Bool) (s : State) : (handClosureHeld b s).stations = s.stations := by
  unfold handClosureHeld; simp
@[simp] theorem handClosureHeld_lamp (b : Bool) (s : State) : (handClosureHeld b s).lamp = s.lamp := by
  unfold handClosureHeld; simp
@[simp] theorem handClosureHeld_display (b : Bool) (s : State) : (handClosureHeld b s).display = s.display := by
  unfold handClosureHeld; simp
@[simp] theorem handClosureHeld_store (b : Bool) (s : State) : (handClosureHeld b s).store = s.store := by
  unfold handClosureHeld; simp
@[simp] theorem handClosureHeld_cfg (b : Bool) (s : State) : (handClosureHeld b s).cfg = s.cfg := by
  unfold handClosureHeld; simp
@[simp] theorem handClosureHeld_sup_mode (b : Bool) (s : State) : (handClosureHeld b s).sup.mode = s.sup.mode := by
  unfold handClosureHeld; simp
@[simp] theorem handClosureHeld_sup_watchdog (b : Bool) (s : State) : (handClosureHeld b s).sup.watchdog = s.sup.watchdog := by
  unfold handClosureHeld; simp
@[simp] theorem handClosureHeld_sup_groupTripped (b : Bool) (s : State) : (handClosureHeld b s).sup.groupTripped = s.sup.groupTripped := by
  unfold handClosureHeld; simp
@[simp] theorem handClosureHeld_sup_dark (b : Bool) (s : State) : (handClosureHeld b s).sup.dark = s.sup.dark := by
  unfold handClosureHeld; simp
@[simp] theorem handClosureHeld_sup_pulseTimer (b : Bool) (s : State) : (handClosureHeld b s).sup.pulseTimer = s.sup.pulseTimer := by
  unfold handClosureHeld; simp
@[simp] theorem handDark_pending (d : Direction) (b : Bool) (s : State) : (handDark d b s).pending = s.pending := by
  unfold handDark; simp
@[simp] theorem handDark_freeCount (d : Direction) (b : Bool) (s : State) : (handDark d b s).freeCount = s.freeCount := by
  unfold handDark; simp
@[simp] theorem handDark_pins (d : Direction) (b : Bool) (s : State) : (handDark d b s).pins = s.pins := by
  unfold handDark; simp
@[simp] theorem handDark_links (d : Direction) (b : Bool) (s : State) : (handDark d b s).links = s.links := by
  unfold handDark; simp
@[simp] theorem handDark_reg (d : Direction) (b : Bool) (s : State) : (handDark d b s).reg = s.reg := by
  unfold handDark; simp
@[simp] theorem handDark_seq (d : Direction) (b : Bool) (s : State) : (handDark d b s).seq = s.seq := by
  unfold handDark; simp
@[simp] theorem handDark_leaf (d : Direction) (b : Bool) (s : State) : (handDark d b s).leaf = s.leaf := by
  unfold handDark; simp
@[simp] theorem handDark_closure (d : Direction) (b : Bool) (s : State) : (handDark d b s).closure = s.closure := by
  unfold handDark; simp
@[simp] theorem handDark_arms (d : Direction) (b : Bool) (s : State) : (handDark d b s).arms = s.arms := by
  unfold handDark; simp
@[simp] theorem handDark_zones (d : Direction) (b : Bool) (s : State) : (handDark d b s).zones = s.zones := by
  unfold handDark; simp
@[simp] theorem handDark_loop (d : Direction) (b : Bool) (s : State) : (handDark d b s).loop = s.loop := by
  unfold handDark; simp
@[simp] theorem handDark_stations (d : Direction) (b : Bool) (s : State) : (handDark d b s).stations = s.stations := by
  unfold handDark; simp
@[simp] theorem handDark_lamp (d : Direction) (b : Bool) (s : State) : (handDark d b s).lamp = s.lamp := by
  unfold handDark; simp
@[simp] theorem handDark_display (d : Direction) (b : Bool) (s : State) : (handDark d b s).display = s.display := by
  unfold handDark; simp
@[simp] theorem handDark_store (d : Direction) (b : Bool) (s : State) : (handDark d b s).store = s.store := by
  unfold handDark; simp
@[simp] theorem handDark_cfg (d : Direction) (b : Bool) (s : State) : (handDark d b s).cfg = s.cfg := by
  unfold handDark; simp
@[simp] theorem handDark_sup_mode (d : Direction) (b : Bool) (s : State) : (handDark d b s).sup.mode = s.sup.mode := by
  unfold handDark; simp
@[simp] theorem handDark_sup_watchdog (d : Direction) (b : Bool) (s : State) : (handDark d b s).sup.watchdog = s.sup.watchdog := by
  unfold handDark; simp
@[simp] theorem handDark_sup_groupTripped (d : Direction) (b : Bool) (s : State) : (handDark d b s).sup.groupTripped = s.sup.groupTripped := by
  unfold handDark; simp
@[simp] theorem handDark_sup_closureHeld (d : Direction) (b : Bool) (s : State) : (handDark d b s).sup.closureHeld = s.sup.closureHeld := by
  unfold handDark; simp
@[simp] theorem handDark_sup_pulseTimer (d : Direction) (b : Bool) (s : State) : (handDark d b s).sup.pulseTimer = s.sup.pulseTimer := by
  unfold handDark; simp
@[simp] theorem updateArm_pending (a : ArmId) (f : Arm → Arm) (s : State) : (updateArm a f s).pending = s.pending := by
  unfold updateArm; simp
@[simp] theorem updateArm_freeCount (a : ArmId) (f : Arm → Arm) (s : State) : (updateArm a f s).freeCount = s.freeCount := by
  unfold updateArm; simp
@[simp] theorem updateArm_pins (a : ArmId) (f : Arm → Arm) (s : State) : (updateArm a f s).pins = s.pins := by
  unfold updateArm; simp
@[simp] theorem updateArm_links (a : ArmId) (f : Arm → Arm) (s : State) : (updateArm a f s).links = s.links := by
  unfold updateArm; simp
@[simp] theorem updateArm_reg (a : ArmId) (f : Arm → Arm) (s : State) : (updateArm a f s).reg = s.reg := by
  unfold updateArm; simp
@[simp] theorem updateArm_seq (a : ArmId) (f : Arm → Arm) (s : State) : (updateArm a f s).seq = s.seq := by
  unfold updateArm; simp
@[simp] theorem updateArm_leaf (a : ArmId) (f : Arm → Arm) (s : State) : (updateArm a f s).leaf = s.leaf := by
  unfold updateArm; simp
@[simp] theorem updateArm_closure (a : ArmId) (f : Arm → Arm) (s : State) : (updateArm a f s).closure = s.closure := by
  unfold updateArm; simp
@[simp] theorem updateArm_zones (a : ArmId) (f : Arm → Arm) (s : State) : (updateArm a f s).zones = s.zones := by
  unfold updateArm; simp
@[simp] theorem updateArm_loop (a : ArmId) (f : Arm → Arm) (s : State) : (updateArm a f s).loop = s.loop := by
  unfold updateArm; simp
@[simp] theorem updateArm_stations (a : ArmId) (f : Arm → Arm) (s : State) : (updateArm a f s).stations = s.stations := by
  unfold updateArm; simp
@[simp] theorem updateArm_lamp (a : ArmId) (f : Arm → Arm) (s : State) : (updateArm a f s).lamp = s.lamp := by
  unfold updateArm; simp
@[simp] theorem updateArm_display (a : ArmId) (f : Arm → Arm) (s : State) : (updateArm a f s).display = s.display := by
  unfold updateArm; simp
@[simp] theorem updateArm_sup (a : ArmId) (f : Arm → Arm) (s : State) : (updateArm a f s).sup = s.sup := by
  unfold updateArm; simp
@[simp] theorem updateArm_store (a : ArmId) (f : Arm → Arm) (s : State) : (updateArm a f s).store = s.store := by
  unfold updateArm; simp
@[simp] theorem updateArm_cfg (a : ArmId) (f : Arm → Arm) (s : State) : (updateArm a f s).cfg = s.cfg := by
  unfold updateArm; simp
@[simp] theorem updateStation_pending (a : ArmId) (f : Station → Station) (s : State) : (updateStation a f s).pending = s.pending := by
  unfold updateStation; simp
@[simp] theorem updateStation_freeCount (a : ArmId) (f : Station → Station) (s : State) : (updateStation a f s).freeCount = s.freeCount := by
  unfold updateStation; simp
@[simp] theorem updateStation_pins (a : ArmId) (f : Station → Station) (s : State) : (updateStation a f s).pins = s.pins := by
  unfold updateStation; simp
@[simp] theorem updateStation_links (a : ArmId) (f : Station → Station) (s : State) : (updateStation a f s).links = s.links := by
  unfold updateStation; simp
@[simp] theorem updateStation_reg (a : ArmId) (f : Station → Station) (s : State) : (updateStation a f s).reg = s.reg := by
  unfold updateStation; simp
@[simp] theorem updateStation_seq (a : ArmId) (f : Station → Station) (s : State) : (updateStation a f s).seq = s.seq := by
  unfold updateStation; simp
@[simp] theorem updateStation_leaf (a : ArmId) (f : Station → Station) (s : State) : (updateStation a f s).leaf = s.leaf := by
  unfold updateStation; simp
@[simp] theorem updateStation_closure (a : ArmId) (f : Station → Station) (s : State) : (updateStation a f s).closure = s.closure := by
  unfold updateStation; simp
@[simp] theorem updateStation_arms (a : ArmId) (f : Station → Station) (s : State) : (updateStation a f s).arms = s.arms := by
  unfold updateStation; simp
@[simp] theorem updateStation_zones (a : ArmId) (f : Station → Station) (s : State) : (updateStation a f s).zones = s.zones := by
  unfold updateStation; simp
@[simp] theorem updateStation_loop (a : ArmId) (f : Station → Station) (s : State) : (updateStation a f s).loop = s.loop := by
  unfold updateStation; simp
@[simp] theorem updateStation_lamp (a : ArmId) (f : Station → Station) (s : State) : (updateStation a f s).lamp = s.lamp := by
  unfold updateStation; simp
@[simp] theorem updateStation_display (a : ArmId) (f : Station → Station) (s : State) : (updateStation a f s).display = s.display := by
  unfold updateStation; simp
@[simp] theorem updateStation_sup (a : ArmId) (f : Station → Station) (s : State) : (updateStation a f s).sup = s.sup := by
  unfold updateStation; simp
@[simp] theorem updateStation_store (a : ArmId) (f : Station → Station) (s : State) : (updateStation a f s).store = s.store := by
  unfold updateStation; simp
@[simp] theorem updateStation_cfg (a : ArmId) (f : Station → Station) (s : State) : (updateStation a f s).cfg = s.cfg := by
  unfold updateStation; simp
@[simp] theorem writeSlot_pending (a : ArmId) (c : LoopCommand) (s : State) : (writeSlot a c s).pending = s.pending := by
  unfold writeSlot; simp
@[simp] theorem writeSlot_freeCount (a : ArmId) (c : LoopCommand) (s : State) : (writeSlot a c s).freeCount = s.freeCount := by
  unfold writeSlot; simp
@[simp] theorem writeSlot_pins (a : ArmId) (c : LoopCommand) (s : State) : (writeSlot a c s).pins = s.pins := by
  unfold writeSlot; simp
@[simp] theorem writeSlot_links (a : ArmId) (c : LoopCommand) (s : State) : (writeSlot a c s).links = s.links := by
  unfold writeSlot; simp
@[simp] theorem writeSlot_reg (a : ArmId) (c : LoopCommand) (s : State) : (writeSlot a c s).reg = s.reg := by
  unfold writeSlot; simp
@[simp] theorem writeSlot_seq (a : ArmId) (c : LoopCommand) (s : State) : (writeSlot a c s).seq = s.seq := by
  unfold writeSlot; simp
@[simp] theorem writeSlot_leaf (a : ArmId) (c : LoopCommand) (s : State) : (writeSlot a c s).leaf = s.leaf := by
  unfold writeSlot; simp
@[simp] theorem writeSlot_closure (a : ArmId) (c : LoopCommand) (s : State) : (writeSlot a c s).closure = s.closure := by
  unfold writeSlot; simp
@[simp] theorem writeSlot_arms (a : ArmId) (c : LoopCommand) (s : State) : (writeSlot a c s).arms = s.arms := by
  unfold writeSlot; simp
@[simp] theorem writeSlot_zones (a : ArmId) (c : LoopCommand) (s : State) : (writeSlot a c s).zones = s.zones := by
  unfold writeSlot; simp
@[simp] theorem writeSlot_loop (a : ArmId) (c : LoopCommand) (s : State) : (writeSlot a c s).loop = s.loop := by
  unfold writeSlot; simp
@[simp] theorem writeSlot_lamp (a : ArmId) (c : LoopCommand) (s : State) : (writeSlot a c s).lamp = s.lamp := by
  unfold writeSlot; simp
@[simp] theorem writeSlot_display (a : ArmId) (c : LoopCommand) (s : State) : (writeSlot a c s).display = s.display := by
  unfold writeSlot; simp
@[simp] theorem writeSlot_sup (a : ArmId) (c : LoopCommand) (s : State) : (writeSlot a c s).sup = s.sup := by
  unfold writeSlot; simp
@[simp] theorem writeSlot_store (a : ArmId) (c : LoopCommand) (s : State) : (writeSlot a c s).store = s.store := by
  unfold writeSlot; simp
@[simp] theorem writeSlot_cfg (a : ArmId) (c : LoopCommand) (s : State) : (writeSlot a c s).cfg = s.cfg := by
  unfold writeSlot; simp
@[simp] theorem countChoice_pending (s : State) : (countChoice s).pending = s.pending := by
  unfold countChoice; simp
@[simp] theorem countChoice_pins (s : State) : (countChoice s).pins = s.pins := by
  unfold countChoice; simp
@[simp] theorem countChoice_links (s : State) : (countChoice s).links = s.links := by
  unfold countChoice; simp
@[simp] theorem countChoice_reg (s : State) : (countChoice s).reg = s.reg := by
  unfold countChoice; simp
@[simp] theorem countChoice_seq (s : State) : (countChoice s).seq = s.seq := by
  unfold countChoice; simp
@[simp] theorem countChoice_leaf (s : State) : (countChoice s).leaf = s.leaf := by
  unfold countChoice; simp
@[simp] theorem countChoice_closure (s : State) : (countChoice s).closure = s.closure := by
  unfold countChoice; simp
@[simp] theorem countChoice_arms (s : State) : (countChoice s).arms = s.arms := by
  unfold countChoice; simp
@[simp] theorem countChoice_zones (s : State) : (countChoice s).zones = s.zones := by
  unfold countChoice; simp
@[simp] theorem countChoice_loop (s : State) : (countChoice s).loop = s.loop := by
  unfold countChoice; simp
@[simp] theorem countChoice_stations (s : State) : (countChoice s).stations = s.stations := by
  unfold countChoice; simp
@[simp] theorem countChoice_lamp (s : State) : (countChoice s).lamp = s.lamp := by
  unfold countChoice; simp
@[simp] theorem countChoice_display (s : State) : (countChoice s).display = s.display := by
  unfold countChoice; simp
@[simp] theorem countChoice_sup (s : State) : (countChoice s).sup = s.sup := by
  unfold countChoice; simp
@[simp] theorem countChoice_store (s : State) : (countChoice s).store = s.store := by
  unfold countChoice; simp
@[simp] theorem countChoice_cfg (s : State) : (countChoice s).cfg = s.cfg := by
  unfold countChoice; simp
@[simp] theorem handRoadLight_pending (p : RoadLight) (s : State) : (handRoadLight p s).pending = s.pending := by
  unfold handRoadLight; dsimp only; (repeat' split) <;> first | with_reducible rfl | simp
@[simp] theorem handRoadLight_freeCount (p : RoadLight) (s : State) : (handRoadLight p s).freeCount = s.freeCount := by
  unfold handRoadLight; dsimp only; (repeat' split) <;> first | with_reducible rfl | simp
@[simp] theorem handRoadLight_pins (p : RoadLight) (s : State) : (handRoadLight p s).pins = s.pins := by
  unfold handRoadLight; dsimp only; (repeat' split) <;> first | with_reducible rfl | simp
@[simp] theorem handRoadLight_links (p : RoadLight) (s : State) : (handRoadLight p s).links = s.links := by
  unfold handRoadLight; dsimp only; (repeat' split) <;> first | with_reducible rfl | simp
@[simp] theorem handRoadLight_reg (p : RoadLight) (s : State) : (handRoadLight p s).reg = s.reg := by
  unfold handRoadLight; dsimp only; (repeat' split) <;> first | with_reducible rfl | simp
@[simp] theorem handRoadLight_seq (p : RoadLight) (s : State) : (handRoadLight p s).seq = s.seq := by
  unfold handRoadLight; dsimp only; (repeat' split) <;> first | with_reducible rfl | simp
@[simp] theorem handRoadLight_leaf (p : RoadLight) (s : State) : (handRoadLight p s).leaf = s.leaf := by
  unfold handRoadLight; dsimp only; (repeat' split) <;> first | with_reducible rfl | simp
@[simp] theorem handRoadLight_closure (p : RoadLight) (s : State) : (handRoadLight p s).closure = s.closure := by
  unfold handRoadLight; dsimp only; (repeat' split) <;> first | with_reducible rfl | simp
@[simp] theorem handRoadLight_arms (p : RoadLight) (s : State) : (handRoadLight p s).arms = s.arms := by
  unfold handRoadLight; dsimp only; (repeat' split) <;> first | with_reducible rfl | simp
@[simp] theorem handRoadLight_zones (p : RoadLight) (s : State) : (handRoadLight p s).zones = s.zones := by
  unfold handRoadLight; dsimp only; (repeat' split) <;> first | with_reducible rfl | simp
@[simp] theorem handRoadLight_loop (p : RoadLight) (s : State) : (handRoadLight p s).loop = s.loop := by
  unfold handRoadLight; dsimp only; (repeat' split) <;> first | with_reducible rfl | simp
@[simp] theorem handRoadLight_stations (p : RoadLight) (s : State) : (handRoadLight p s).stations = s.stations := by
  unfold handRoadLight; dsimp only; (repeat' split) <;> first | with_reducible rfl | simp
@[simp] theorem handRoadLight_sup (p : RoadLight) (s : State) : (handRoadLight p s).sup = s.sup := by
  unfold handRoadLight; dsimp only; (repeat' split) <;> first | with_reducible rfl | simp
@[simp] theorem handRoadLight_store (p : RoadLight) (s : State) : (handRoadLight p s).store = s.store := by
  unfold handRoadLight; dsimp only; (repeat' split) <;> first | with_reducible rfl | simp
@[simp] theorem handRoadLight_cfg (p : RoadLight) (s : State) : (handRoadLight p s).cfg = s.cfg := by
  unfold handRoadLight; dsimp only; (repeat' split) <;> first | with_reducible rfl | simp
@[simp] theorem walkHead_pending (d : Direction) (s : State) : (walkHead d s).pending = s.pending := by
  unfold walkHead; dsimp only; (repeat' split) <;> first | with_reducible rfl | simp
@[simp] theorem walkHead_freeCount (d : Direction) (s : State) : (walkHead d s).freeCount = s.freeCount := by
  unfold walkHead; dsimp only; (repeat' split) <;> first | with_reducible rfl | simp
@[simp] theorem walkHead_pins (d : Direction) (s : State) : (walkHead d s).pins = s.pins := by
  unfold walkHead; dsimp only; (repeat' split) <;> first | with_reducible rfl | simp
@[simp] theorem walkHead_links (d : Direction) (s : State) : (walkHead d s).links = s.links := by
  unfold walkHead; dsimp only; (repeat' split) <;> first | with_reducible rfl | simp
@[simp] theorem walkHead_reg (d : Direction) (s : State) : (walkHead d s).reg = s.reg := by
  unfold walkHead; dsimp only; (repeat' split) <;> first | with_reducible rfl | simp
@[simp] theorem walkHead_leaf (d : Direction) (s : State) : (walkHead d s).leaf = s.leaf := by
  unfold walkHead; dsimp only; (repeat' split) <;> first | with_reducible rfl | simp
@[simp] theorem walkHead_closure (d : Direction) (s : State) : (walkHead d s).closure = s.closure := by
  unfold walkHead; dsimp only; (repeat' split) <;> first | with_reducible rfl | simp
@[simp] theorem walkHead_arms (d : Direction) (s : State) : (walkHead d s).arms = s.arms := by
  unfold walkHead; dsimp only; (repeat' split) <;> first | with_reducible rfl | simp
@[simp] theorem walkHead_zones (d : Direction) (s : State) : (walkHead d s).zones = s.zones := by
  unfold walkHead; dsimp only; (repeat' split) <;> first | with_reducible rfl | simp
@[simp] theorem walkHead_loop (d : Direction) (s : State) : (walkHead d s).loop = s.loop := by
  unfold walkHead; dsimp only; (repeat' split) <;> first | with_reducible rfl | simp
@[simp] theorem walkHead_stations (d : Direction) (s : State) : (walkHead d s).stations = s.stations := by
  unfold walkHead; dsimp only; (repeat' split) <;> first | with_reducible rfl | simp
@[simp] theorem walkHead_store (d : Direction) (s : State) : (walkHead d s).store = s.store := by
  unfold walkHead; dsimp only; (repeat' split) <;> first | with_reducible rfl | simp
@[simp] theorem walkHead_cfg (d : Direction) (s : State) : (walkHead d s).cfg = s.cfg := by
  unfold walkHead; dsimp only; (repeat' split) <;> first | with_reducible rfl | simp
@[simp] theorem walkHead_seq_opening (d : Direction) (s : State) : (walkHead d s).seq.opening = s.seq.opening := by
  unfold walkHead; dsimp only; (repeat' split) <;> first | with_reducible rfl | simp
@[simp] theorem walkHead_seq_demand (d : Direction) (s : State) : (walkHead d s).seq.demand = s.seq.demand := by
  unfold walkHead; dsimp only; (repeat' split) <;> first | with_reducible rfl | simp
@[simp] theorem walkHead_seq_clearance (d : Direction) (s : State) : (walkHead d s).seq.clearance = s.seq.clearance := by
  unfold walkHead; dsimp only; (repeat' split) <;> first | with_reducible rfl | simp
@[simp] theorem walkHead_sup_mode (d : Direction) (s : State) : (walkHead d s).sup.mode = s.sup.mode := by
  unfold walkHead; dsimp only; (repeat' split) <;> first | with_reducible rfl | simp
@[simp] theorem walkHead_sup_watchdog (d : Direction) (s : State) : (walkHead d s).sup.watchdog = s.sup.watchdog := by
  unfold walkHead; dsimp only; (repeat' split) <;> first | with_reducible rfl | simp
@[simp] theorem walkHead_sup_groupTripped (d : Direction) (s : State) : (walkHead d s).sup.groupTripped = s.sup.groupTripped := by
  unfold walkHead; dsimp only; (repeat' split) <;> first | with_reducible rfl | simp
@[simp] theorem walkHead_sup_closureHeld (d : Direction) (s : State) : (walkHead d s).sup.closureHeld = s.sup.closureHeld := by
  unfold walkHead; dsimp only; (repeat' split) <;> first | with_reducible rfl | simp
@[simp] theorem walkHead_sup_pulseTimer (d : Direction) (s : State) : (walkHead d s).sup.pulseTimer = s.sup.pulseTimer := by
  unfold walkHead; dsimp only; (repeat' split) <;> first | with_reducible rfl | simp
@[simp] theorem handAspect_pending (d : Direction) (a : Aspect) (s : State) : (handAspect d a s).pending = s.pending := by
  unfold handAspect; simp
@[simp] theorem handAspect_freeCount (d : Direction) (a : Aspect) (s : State) : (handAspect d a s).freeCount = s.freeCount := by
  unfold handAspect; simp
@[simp] theorem handAspect_pins (d : Direction) (a : Aspect) (s : State) : (handAspect d a s).pins = s.pins := by
  unfold handAspect; simp
@[simp] theorem handAspect_links (d : Direction) (a : Aspect) (s : State) : (handAspect d a s).links = s.links := by
  unfold handAspect; simp
@[simp] theorem handAspect_reg (d : Direction) (a : Aspect) (s : State) : (handAspect d a s).reg = s.reg := by
  unfold handAspect; simp
@[simp] theorem handAspect_leaf (d : Direction) (a : Aspect) (s : State) : (handAspect d a s).leaf = s.leaf := by
  unfold handAspect; simp
@[simp] theorem handAspect_closure (d : Direction) (a : Aspect) (s : State) : (handAspect d a s).closure = s.closure := by
  unfold handAspect; simp
@[simp] theorem handAspect_arms (d : Direction) (a : Aspect) (s : State) : (handAspect d a s).arms = s.arms := by
  unfold handAspect; simp
@[simp] theorem handAspect_zones (d : Direction) (a : Aspect) (s : State) : (handAspect d a s).zones = s.zones := by
  unfold handAspect; simp
@[simp] theorem handAspect_loop (d : Direction) (a : Aspect) (s : State) : (handAspect d a s).loop = s.loop := by
  unfold handAspect; simp
@[simp] theorem handAspect_stations (d : Direction) (a : Aspect) (s : State) : (handAspect d a s).stations = s.stations := by
  unfold handAspect; simp
@[simp] theorem handAspect_store (d : Direction) (a : Aspect) (s : State) : (handAspect d a s).store = s.store := by
  unfold handAspect; simp
@[simp] theorem handAspect_cfg (d : Direction) (a : Aspect) (s : State) : (handAspect d a s).cfg = s.cfg := by
  unfold handAspect; simp
@[simp] theorem handAspect_seq_opening (d : Direction) (a : Aspect) (s : State) : (handAspect d a s).seq.opening = s.seq.opening := by
  unfold handAspect; simp
@[simp] theorem handAspect_seq_demand (d : Direction) (a : Aspect) (s : State) : (handAspect d a s).seq.demand = s.seq.demand := by
  unfold handAspect; simp
@[simp] theorem handAspect_seq_clearance (d : Direction) (a : Aspect) (s : State) : (handAspect d a s).seq.clearance = s.seq.clearance := by
  unfold handAspect; simp
@[simp] theorem handAspect_sup_mode (d : Direction) (a : Aspect) (s : State) : (handAspect d a s).sup.mode = s.sup.mode := by
  unfold handAspect; simp
@[simp] theorem handAspect_sup_watchdog (d : Direction) (a : Aspect) (s : State) : (handAspect d a s).sup.watchdog = s.sup.watchdog := by
  unfold handAspect; simp
@[simp] theorem handAspect_sup_groupTripped (d : Direction) (a : Aspect) (s : State) : (handAspect d a s).sup.groupTripped = s.sup.groupTripped := by
  unfold handAspect; simp
@[simp] theorem handAspect_sup_closureHeld (d : Direction) (a : Aspect) (s : State) : (handAspect d a s).sup.closureHeld = s.sup.closureHeld := by
  unfold handAspect; simp
@[simp] theorem handAspect_sup_pulseTimer (d : Direction) (a : Aspect) (s : State) : (handAspect d a s).sup.pulseTimer = s.sup.pulseTimer := by
  unfold handAspect; simp
@[simp] theorem rederiveHealth_pending (s : State) : (rederiveHealth s).pending = s.pending := by
  simp only [rederiveHealth]; split <;> split <;> split <;> simp
@[simp] theorem rederiveHealth_freeCount (s : State) : (rederiveHealth s).freeCount = s.freeCount := by
  simp only [rederiveHealth]; split <;> split <;> split <;> simp
@[simp] theorem rederiveHealth_pins (s : State) : (rederiveHealth s).pins = s.pins := by
  simp only [rederiveHealth]; split <;> split <;> split <;> simp
@[simp] theorem rederiveHealth_links (s : State) : (rederiveHealth s).links = s.links := by
  simp only [rederiveHealth]; split <;> split <;> split <;> simp
@[simp] theorem rederiveHealth_reg (s : State) : (rederiveHealth s).reg = s.reg := by
  simp only [rederiveHealth]; split <;> split <;> split <;> simp
@[simp] theorem rederiveHealth_leaf (s : State) : (rederiveHealth s).leaf = s.leaf := by
  simp only [rederiveHealth]; split <;> split <;> split <;> simp
@[simp] theorem rederiveHealth_arms (s : State) : (rederiveHealth s).arms = s.arms := by
  simp only [rederiveHealth]; split <;> split <;> split <;> simp
@[simp] theorem rederiveHealth_zones (s : State) : (rederiveHealth s).zones = s.zones := by
  simp only [rederiveHealth]; split <;> split <;> split <;> simp
@[simp] theorem rederiveHealth_loop (s : State) : (rederiveHealth s).loop = s.loop := by
  simp only [rederiveHealth]; split <;> split <;> split <;> simp
@[simp] theorem rederiveHealth_stations (s : State) : (rederiveHealth s).stations = s.stations := by
  simp only [rederiveHealth]; split <;> split <;> split <;> simp
@[simp] theorem rederiveHealth_store (s : State) : (rederiveHealth s).store = s.store := by
  simp only [rederiveHealth]; split <;> split <;> split <;> simp
@[simp] theorem rederiveHealth_cfg (s : State) : (rederiveHealth s).cfg = s.cfg := by
  simp only [rederiveHealth]; split <;> split <;> split <;> simp
@[simp] theorem rederiveHealth_seq_opening (s : State) : (rederiveHealth s).seq.opening = s.seq.opening := by
  simp only [rederiveHealth]; split <;> split <;> split <;> simp
@[simp] theorem rederiveHealth_seq_demand (s : State) : (rederiveHealth s).seq.demand = s.seq.demand := by
  simp only [rederiveHealth]; split <;> split <;> split <;> simp
@[simp] theorem rederiveHealth_seq_clearance (s : State) : (rederiveHealth s).seq.clearance = s.seq.clearance := by
  simp only [rederiveHealth]; split <;> split <;> split <;> simp
@[simp] theorem rederiveHealth_closure_state (s : State) : (rederiveHealth s).closure.state = s.closure.state := by
  simp only [rederiveHealth]; split <;> split <;> split <;> simp
@[simp] theorem rederiveHealth_sup_mode (s : State) : (rederiveHealth s).sup.mode = s.sup.mode := by
  simp only [rederiveHealth]; split <;> split <;> split <;> simp
@[simp] theorem rederiveHealth_sup_watchdog (s : State) : (rederiveHealth s).sup.watchdog = s.sup.watchdog := by
  simp only [rederiveHealth]; split <;> split <;> split <;> simp
@[simp] theorem rederiveHealth_sup_groupTripped (s : State) : (rederiveHealth s).sup.groupTripped = s.sup.groupTripped := by
  simp only [rederiveHealth]; split <;> split <;> split <;> simp
@[simp] theorem rederiveHealth_sup_closureHeld (s : State) : (rederiveHealth s).sup.closureHeld = s.sup.closureHeld := by
  simp only [rederiveHealth]; split <;> split <;> split <;> simp
@[simp] theorem rederiveHealth_sup_pulseTimer (s : State) : (rederiveHealth s).sup.pulseTimer = s.sup.pulseTimer := by
  simp only [rederiveHealth]; split <;> split <;> split <;> simp
@[simp] theorem updateChannel_pending (i : ChannelId) (f : Channel → Channel) (s : State) : (updateChannel i f s).pending = s.pending := by
  unfold updateChannel; simp
@[simp] theorem updateChannel_freeCount (i : ChannelId) (f : Channel → Channel) (s : State) : (updateChannel i f s).freeCount = s.freeCount := by
  unfold updateChannel; simp
@[simp] theorem updateChannel_pins (i : ChannelId) (f : Channel → Channel) (s : State) : (updateChannel i f s).pins = s.pins := by
  unfold updateChannel; simp
@[simp] theorem updateChannel_links (i : ChannelId) (f : Channel → Channel) (s : State) : (updateChannel i f s).links = s.links := by
  unfold updateChannel; simp
@[simp] theorem updateChannel_reg (i : ChannelId) (f : Channel → Channel) (s : State) : (updateChannel i f s).reg = s.reg := by
  unfold updateChannel; simp
@[simp] theorem updateChannel_seq (i : ChannelId) (f : Channel → Channel) (s : State) : (updateChannel i f s).seq = s.seq := by
  unfold updateChannel; simp
@[simp] theorem updateChannel_leaf (i : ChannelId) (f : Channel → Channel) (s : State) : (updateChannel i f s).leaf = s.leaf := by
  unfold updateChannel; simp
@[simp] theorem updateChannel_closure (i : ChannelId) (f : Channel → Channel) (s : State) : (updateChannel i f s).closure = s.closure := by
  unfold updateChannel; simp
@[simp] theorem updateChannel_arms (i : ChannelId) (f : Channel → Channel) (s : State) : (updateChannel i f s).arms = s.arms := by
  unfold updateChannel; simp
@[simp] theorem updateChannel_zones (i : ChannelId) (f : Channel → Channel) (s : State) : (updateChannel i f s).zones = s.zones := by
  unfold updateChannel; simp
@[simp] theorem updateChannel_loop (i : ChannelId) (f : Channel → Channel) (s : State) : (updateChannel i f s).loop = s.loop := by
  unfold updateChannel; simp
@[simp] theorem updateChannel_stations (i : ChannelId) (f : Channel → Channel) (s : State) : (updateChannel i f s).stations = s.stations := by
  unfold updateChannel; simp
@[simp] theorem updateChannel_display (i : ChannelId) (f : Channel → Channel) (s : State) : (updateChannel i f s).display = s.display := by
  unfold updateChannel; simp
@[simp] theorem updateChannel_sup (i : ChannelId) (f : Channel → Channel) (s : State) : (updateChannel i f s).sup = s.sup := by
  unfold updateChannel; simp
@[simp] theorem updateChannel_store (i : ChannelId) (f : Channel → Channel) (s : State) : (updateChannel i f s).store = s.store := by
  unfold updateChannel; simp
@[simp] theorem updateChannel_cfg (i : ChannelId) (f : Channel → Channel) (s : State) : (updateChannel i f s).cfg = s.cfg := by
  unfold updateChannel; simp
@[simp] theorem noteSupply_pending (v : Nat) (s : State) : (noteSupply v s).pending = s.pending := by
  unfold noteSupply; simp
@[simp] theorem noteSupply_freeCount (v : Nat) (s : State) : (noteSupply v s).freeCount = s.freeCount := by
  unfold noteSupply; simp
@[simp] theorem noteSupply_links (v : Nat) (s : State) : (noteSupply v s).links = s.links := by
  unfold noteSupply; simp
@[simp] theorem noteSupply_reg (v : Nat) (s : State) : (noteSupply v s).reg = s.reg := by
  unfold noteSupply; simp
@[simp] theorem noteSupply_seq (v : Nat) (s : State) : (noteSupply v s).seq = s.seq := by
  unfold noteSupply; simp
@[simp] theorem noteSupply_leaf (v : Nat) (s : State) : (noteSupply v s).leaf = s.leaf := by
  unfold noteSupply; simp
@[simp] theorem noteSupply_closure (v : Nat) (s : State) : (noteSupply v s).closure = s.closure := by
  unfold noteSupply; simp
@[simp] theorem noteSupply_arms (v : Nat) (s : State) : (noteSupply v s).arms = s.arms := by
  unfold noteSupply; simp
@[simp] theorem noteSupply_zones (v : Nat) (s : State) : (noteSupply v s).zones = s.zones := by
  unfold noteSupply; simp
@[simp] theorem noteSupply_loop (v : Nat) (s : State) : (noteSupply v s).loop = s.loop := by
  unfold noteSupply; simp
@[simp] theorem noteSupply_stations (v : Nat) (s : State) : (noteSupply v s).stations = s.stations := by
  unfold noteSupply; simp
@[simp] theorem noteSupply_lamp (v : Nat) (s : State) : (noteSupply v s).lamp = s.lamp := by
  unfold noteSupply; simp
@[simp] theorem noteSupply_display (v : Nat) (s : State) : (noteSupply v s).display = s.display := by
  unfold noteSupply; simp
@[simp] theorem noteSupply_sup (v : Nat) (s : State) : (noteSupply v s).sup = s.sup := by
  unfold noteSupply; simp
@[simp] theorem noteSupply_store (v : Nat) (s : State) : (noteSupply v s).store = s.store := by
  unfold noteSupply; simp
@[simp] theorem noteSupply_cfg (v : Nat) (s : State) : (noteSupply v s).cfg = s.cfg := by
  unfold noteSupply; simp
@[simp] theorem signalLatch_pending (b : Bool) (s : State) : (signalLatch b s).pending = s.pending := by
  unfold signalLatch; (repeat' split) <;> first | with_reducible rfl | simp
@[simp] theorem signalLatch_freeCount (b : Bool) (s : State) : (signalLatch b s).freeCount = s.freeCount := by
  unfold signalLatch; (repeat' split) <;> first | with_reducible rfl | simp
@[simp] theorem signalLatch_pins (b : Bool) (s : State) : (signalLatch b s).pins = s.pins := by
  unfold signalLatch; (repeat' split) <;> first | with_reducible rfl | simp
@[simp] theorem signalLatch_reg (b : Bool) (s : State) : (signalLatch b s).reg = s.reg := by
  unfold signalLatch; (repeat' split) <;> first | with_reducible rfl | simp
@[simp] theorem signalLatch_seq (b : Bool) (s : State) : (signalLatch b s).seq = s.seq := by
  unfold signalLatch; (repeat' split) <;> first | with_reducible rfl | simp
@[simp] theorem signalLatch_leaf (b : Bool) (s : State) : (signalLatch b s).leaf = s.leaf := by
  unfold signalLatch; (repeat' split) <;> first | with_reducible rfl | simp
@[simp] theorem signalLatch_closure (b : Bool) (s : State) : (signalLatch b s).closure = s.closure := by
  unfold signalLatch; (repeat' split) <;> first | with_reducible rfl | simp
@[simp] theorem signalLatch_arms (b : Bool) (s : State) : (signalLatch b s).arms = s.arms := by
  unfold signalLatch; (repeat' split) <;> first | with_reducible rfl | simp
@[simp] theorem signalLatch_zones (b : Bool) (s : State) : (signalLatch b s).zones = s.zones := by
  unfold signalLatch; (repeat' split) <;> first | with_reducible rfl | simp
@[simp] theorem signalLatch_loop (b : Bool) (s : State) : (signalLatch b s).loop = s.loop := by
  unfold signalLatch; (repeat' split) <;> first | with_reducible rfl | simp
@[simp] theorem signalLatch_stations (b : Bool) (s : State) : (signalLatch b s).stations = s.stations := by
  unfold signalLatch; (repeat' split) <;> first | with_reducible rfl | simp
@[simp] theorem signalLatch_lamp (b : Bool) (s : State) : (signalLatch b s).lamp = s.lamp := by
  unfold signalLatch; (repeat' split) <;> first | with_reducible rfl | simp
@[simp] theorem signalLatch_display (b : Bool) (s : State) : (signalLatch b s).display = s.display := by
  unfold signalLatch; (repeat' split) <;> first | with_reducible rfl | simp
@[simp] theorem signalLatch_store (b : Bool) (s : State) : (signalLatch b s).store = s.store := by
  unfold signalLatch; (repeat' split) <;> first | with_reducible rfl | simp
@[simp] theorem signalLatch_cfg (b : Bool) (s : State) : (signalLatch b s).cfg = s.cfg := by
  unfold signalLatch; (repeat' split) <;> first | with_reducible rfl | simp
@[simp] theorem signalLatch_sup_mode (b : Bool) (s : State) : (signalLatch b s).sup.mode = s.sup.mode := by
  unfold signalLatch; (repeat' split) <;> first | with_reducible rfl | simp
@[simp] theorem signalLatch_sup_watchdog (b : Bool) (s : State) : (signalLatch b s).sup.watchdog = s.sup.watchdog := by
  unfold signalLatch; (repeat' split) <;> first | with_reducible rfl | simp
@[simp] theorem signalLatch_sup_groupTripped (b : Bool) (s : State) : (signalLatch b s).sup.groupTripped = s.sup.groupTripped := by
  unfold signalLatch; (repeat' split) <;> first | with_reducible rfl | simp
@[simp] theorem signalLatch_sup_closureHeld (b : Bool) (s : State) : (signalLatch b s).sup.closureHeld = s.sup.closureHeld := by
  unfold signalLatch; (repeat' split) <;> first | with_reducible rfl | simp
@[simp] theorem signalLatch_sup_dark (b : Bool) (s : State) : (signalLatch b s).sup.dark = s.sup.dark := by
  unfold signalLatch; (repeat' split) <;> first | with_reducible rfl | simp
@[simp] theorem notifyOrigin_pending (r : Option Link) (p : Passage) (s : State) : (notifyOrigin r p s).pending = s.pending := by
  unfold notifyOrigin; (repeat' split) <;> first | with_reducible rfl | simp
@[simp] theorem notifyOrigin_freeCount (r : Option Link) (p : Passage) (s : State) : (notifyOrigin r p s).freeCount = s.freeCount := by
  unfold notifyOrigin; (repeat' split) <;> first | with_reducible rfl | simp
@[simp] theorem notifyOrigin_pins (r : Option Link) (p : Passage) (s : State) : (notifyOrigin r p s).pins = s.pins := by
  unfold notifyOrigin; (repeat' split) <;> first | with_reducible rfl | simp
@[simp] theorem notifyOrigin_reg (r : Option Link) (p : Passage) (s : State) : (notifyOrigin r p s).reg = s.reg := by
  unfold notifyOrigin; (repeat' split) <;> first | with_reducible rfl | simp
@[simp] theorem notifyOrigin_seq (r : Option Link) (p : Passage) (s : State) : (notifyOrigin r p s).seq = s.seq := by
  unfold notifyOrigin; (repeat' split) <;> first | with_reducible rfl | simp
@[simp] theorem notifyOrigin_leaf (r : Option Link) (p : Passage) (s : State) : (notifyOrigin r p s).leaf = s.leaf := by
  unfold notifyOrigin; (repeat' split) <;> first | with_reducible rfl | simp
@[simp] theorem notifyOrigin_closure (r : Option Link) (p : Passage) (s : State) : (notifyOrigin r p s).closure = s.closure := by
  unfold notifyOrigin; (repeat' split) <;> first | with_reducible rfl | simp
@[simp] theorem notifyOrigin_arms (r : Option Link) (p : Passage) (s : State) : (notifyOrigin r p s).arms = s.arms := by
  unfold notifyOrigin; (repeat' split) <;> first | with_reducible rfl | simp
@[simp] theorem notifyOrigin_zones (r : Option Link) (p : Passage) (s : State) : (notifyOrigin r p s).zones = s.zones := by
  unfold notifyOrigin; (repeat' split) <;> first | with_reducible rfl | simp
@[simp] theorem notifyOrigin_loop (r : Option Link) (p : Passage) (s : State) : (notifyOrigin r p s).loop = s.loop := by
  unfold notifyOrigin; (repeat' split) <;> first | with_reducible rfl | simp
@[simp] theorem notifyOrigin_stations (r : Option Link) (p : Passage) (s : State) : (notifyOrigin r p s).stations = s.stations := by
  unfold notifyOrigin; (repeat' split) <;> first | with_reducible rfl | simp
@[simp] theorem notifyOrigin_lamp (r : Option Link) (p : Passage) (s : State) : (notifyOrigin r p s).lamp = s.lamp := by
  unfold notifyOrigin; (repeat' split) <;> first | with_reducible rfl | simp
@[simp] theorem notifyOrigin_display (r : Option Link) (p : Passage) (s : State) : (notifyOrigin r p s).display = s.display := by
  unfold notifyOrigin; (repeat' split) <;> first | with_reducible rfl | simp
@[simp] theorem notifyOrigin_sup (r : Option Link) (p : Passage) (s : State) : (notifyOrigin r p s).sup = s.sup := by
  unfold notifyOrigin; (repeat' split) <;> first | with_reducible rfl | simp
@[simp] theorem notifyOrigin_store (r : Option Link) (p : Passage) (s : State) : (notifyOrigin r p s).store = s.store := by
  unfold notifyOrigin; (repeat' split) <;> first | with_reducible rfl | simp
@[simp] theorem notifyOrigin_cfg (r : Option Link) (p : Passage) (s : State) : (notifyOrigin r p s).cfg = s.cfg := by
  unfold notifyOrigin; (repeat' split) <;> first | with_reducible rfl | simp
@[simp] theorem moveRecord_pending (r : Option Link) (p : Passage) (st : PassageState) (s : State) : (moveRecord r p st s).pending = s.pending := by
  unfold moveRecord; simp
@[simp] theorem moveRecord_freeCount (r : Option Link) (p : Passage) (st : PassageState) (s : State) : (moveRecord r p st s).freeCount = s.freeCount := by
  unfold moveRecord; simp
@[simp] theorem moveRecord_pins (r : Option Link) (p : Passage) (st : PassageState) (s : State) : (moveRecord r p st s).pins = s.pins := by
  unfold moveRecord; simp
@[simp] theorem moveRecord_seq (r : Option Link) (p : Passage) (st : PassageState) (s : State) : (moveRecord r p st s).seq = s.seq := by
  unfold moveRecord; simp
@[simp] theorem moveRecord_leaf (r : Option Link) (p : Passage) (st : PassageState) (s : State) : (moveRecord r p st s).leaf = s.leaf := by
  unfold moveRecord; simp
@[simp] theorem moveRecord_closure (r : Option Link) (p : Passage) (st : PassageState) (s : State) : (moveRecord r p st s).closure = s.closure := by
  unfold moveRecord; simp
@[simp] theorem moveRecord_arms (r : Option Link) (p : Passage) (st : PassageState) (s : State) : (moveRecord r p st s).arms = s.arms := by
  unfold moveRecord; simp
@[simp] theorem moveRecord_zones (r : Option Link) (p : Passage) (st : PassageState) (s : State) : (moveRecord r p st s).zones = s.zones := by
  unfold moveRecord; simp
@[simp] theorem moveRecord_loop (r : Option Link) (p : Passage) (st : PassageState) (s : State) : (moveRecord r p st s).loop = s.loop := by
  unfold moveRecord; simp
@[simp] theorem moveRecord_stations (r : Option Link) (p : Passage) (st : PassageState) (s : State) : (moveRecord r p st s).stations = s.stations := by
  unfold moveRecord; simp
@[simp] theorem moveRecord_lamp (r : Option Link) (p : Passage) (st : PassageState) (s : State) : (moveRecord r p st s).lamp = s.lamp := by
  unfold moveRecord; simp
@[simp] theorem moveRecord_display (r : Option Link) (p : Passage) (st : PassageState) (s : State) : (moveRecord r p st s).display = s.display := by
  unfold moveRecord; simp
@[simp] theorem moveRecord_sup (r : Option Link) (p : Passage) (st : PassageState) (s : State) : (moveRecord r p st s).sup = s.sup := by
  unfold moveRecord; simp
@[simp] theorem moveRecord_store (r : Option Link) (p : Passage) (st : PassageState) (s : State) : (moveRecord r p st s).store = s.store := by
  unfold moveRecord; simp
@[simp] theorem moveRecord_cfg (r : Option Link) (p : Passage) (st : PassageState) (s : State) : (moveRecord r p st s).cfg = s.cfg := by
  unfold moveRecord; simp
@[simp] theorem setOpening_pending (o : Option Opening) (s : State) : (setOpening o s).pending = s.pending := by
  unfold setOpening; simp
@[simp] theorem setOpening_freeCount (o : Option Opening) (s : State) : (setOpening o s).freeCount = s.freeCount := by
  unfold setOpening; simp
@[simp] theorem setOpening_pins (o : Option Opening) (s : State) : (setOpening o s).pins = s.pins := by
  unfold setOpening; simp
@[simp] theorem setOpening_links (o : Option Opening) (s : State) : (setOpening o s).links = s.links := by
  unfold setOpening; simp
@[simp] theorem setOpening_reg (o : Option Opening) (s : State) : (setOpening o s).reg = s.reg := by
  unfold setOpening; simp
@[simp] theorem setOpening_leaf (o : Option Opening) (s : State) : (setOpening o s).leaf = s.leaf := by
  unfold setOpening; simp
@[simp] theorem setOpening_closure (o : Option Opening) (s : State) : (setOpening o s).closure = s.closure := by
  unfold setOpening; simp
@[simp] theorem setOpening_arms (o : Option Opening) (s : State) : (setOpening o s).arms = s.arms := by
  unfold setOpening; simp
@[simp] theorem setOpening_zones (o : Option Opening) (s : State) : (setOpening o s).zones = s.zones := by
  unfold setOpening; simp
@[simp] theorem setOpening_loop (o : Option Opening) (s : State) : (setOpening o s).loop = s.loop := by
  unfold setOpening; simp
@[simp] theorem setOpening_stations (o : Option Opening) (s : State) : (setOpening o s).stations = s.stations := by
  unfold setOpening; simp
@[simp] theorem setOpening_lamp (o : Option Opening) (s : State) : (setOpening o s).lamp = s.lamp := by
  unfold setOpening; simp
@[simp] theorem setOpening_display (o : Option Opening) (s : State) : (setOpening o s).display = s.display := by
  unfold setOpening; simp
@[simp] theorem setOpening_sup (o : Option Opening) (s : State) : (setOpening o s).sup = s.sup := by
  unfold setOpening; simp
@[simp] theorem setOpening_store (o : Option Opening) (s : State) : (setOpening o s).store = s.store := by
  unfold setOpening; simp
@[simp] theorem setOpening_cfg (o : Option Opening) (s : State) : (setOpening o s).cfg = s.cfg := by
  unfold setOpening; simp
@[simp] theorem setOpening_seq_demand (o : Option Opening) (s : State) : (setOpening o s).seq.demand = s.seq.demand := by
  unfold setOpening; simp
@[simp] theorem setOpening_seq_shown (o : Option Opening) (s : State) : (setOpening o s).seq.shown = s.seq.shown := by
  unfold setOpening; simp
@[simp] theorem setOpening_seq_clearance (o : Option Opening) (s : State) : (setOpening o s).seq.clearance = s.seq.clearance := by
  unfold setOpening; simp
@[simp] theorem updateOpening_pending (f : Opening → Opening) (s : State) : (updateOpening f s).pending = s.pending := by
  unfold updateOpening; simp
@[simp] theorem updateOpening_freeCount (f : Opening → Opening) (s : State) : (updateOpening f s).freeCount = s.freeCount := by
  unfold updateOpening; simp
@[simp] theorem updateOpening_pins (f : Opening → Opening) (s : State) : (updateOpening f s).pins = s.pins := by
  unfold updateOpening; simp
@[simp] theorem updateOpening_links (f : Opening → Opening) (s : State) : (updateOpening f s).links = s.links := by
  unfold updateOpening; simp
@[simp] theorem updateOpening_reg (f : Opening → Opening) (s : State) : (updateOpening f s).reg = s.reg := by
  unfold updateOpening; simp
@[simp] theorem updateOpening_leaf (f : Opening → Opening) (s : State) : (updateOpening f s).leaf = s.leaf := by
  unfold updateOpening; simp
@[simp] theorem updateOpening_closure (f : Opening → Opening) (s : State) : (updateOpening f s).closure = s.closure := by
  unfold updateOpening; simp
@[simp] theorem updateOpening_arms (f : Opening → Opening) (s : State) : (updateOpening f s).arms = s.arms := by
  unfold updateOpening; simp
@[simp] theorem updateOpening_zones (f : Opening → Opening) (s : State) : (updateOpening f s).zones = s.zones := by
  unfold updateOpening; simp
@[simp] theorem updateOpening_loop (f : Opening → Opening) (s : State) : (updateOpening f s).loop = s.loop := by
  unfold updateOpening; simp
@[simp] theorem updateOpening_stations (f : Opening → Opening) (s : State) : (updateOpening f s).stations = s.stations := by
  unfold updateOpening; simp
@[simp] theorem updateOpening_lamp (f : Opening → Opening) (s : State) : (updateOpening f s).lamp = s.lamp := by
  unfold updateOpening; simp
@[simp] theorem updateOpening_display (f : Opening → Opening) (s : State) : (updateOpening f s).display = s.display := by
  unfold updateOpening; simp
@[simp] theorem updateOpening_sup (f : Opening → Opening) (s : State) : (updateOpening f s).sup = s.sup := by
  unfold updateOpening; simp
@[simp] theorem updateOpening_store (f : Opening → Opening) (s : State) : (updateOpening f s).store = s.store := by
  unfold updateOpening; simp
@[simp] theorem updateOpening_cfg (f : Opening → Opening) (s : State) : (updateOpening f s).cfg = s.cfg := by
  unfold updateOpening; simp
@[simp] theorem updateOpening_seq_demand (f : Opening → Opening) (s : State) : (updateOpening f s).seq.demand = s.seq.demand := by
  unfold updateOpening; simp
@[simp] theorem updateOpening_seq_shown (f : Opening → Opening) (s : State) : (updateOpening f s).seq.shown = s.seq.shown := by
  unfold updateOpening; simp
@[simp] theorem updateOpening_seq_clearance (f : Opening → Opening) (s : State) : (updateOpening f s).seq.clearance = s.seq.clearance := by
  unfold updateOpening; simp
@[simp] theorem enterOpeningQuietly_pending (st : OpeningState) (s : State) : (enterOpeningQuietly st s).pending = s.pending := by
  unfold enterOpeningQuietly; simp
@[simp] theorem enterOpeningQuietly_freeCount (st : OpeningState) (s : State) : (enterOpeningQuietly st s).freeCount = s.freeCount := by
  unfold enterOpeningQuietly; simp
@[simp] theorem enterOpeningQuietly_pins (st : OpeningState) (s : State) : (enterOpeningQuietly st s).pins = s.pins := by
  unfold enterOpeningQuietly; simp
@[simp] theorem enterOpeningQuietly_links (st : OpeningState) (s : State) : (enterOpeningQuietly st s).links = s.links := by
  unfold enterOpeningQuietly; simp
@[simp] theorem enterOpeningQuietly_reg (st : OpeningState) (s : State) : (enterOpeningQuietly st s).reg = s.reg := by
  unfold enterOpeningQuietly; simp
@[simp] theorem enterOpeningQuietly_leaf (st : OpeningState) (s : State) : (enterOpeningQuietly st s).leaf = s.leaf := by
  unfold enterOpeningQuietly; simp
@[simp] theorem enterOpeningQuietly_closure (st : OpeningState) (s : State) : (enterOpeningQuietly st s).closure = s.closure := by
  unfold enterOpeningQuietly; simp
@[simp] theorem enterOpeningQuietly_arms (st : OpeningState) (s : State) : (enterOpeningQuietly st s).arms = s.arms := by
  unfold enterOpeningQuietly; simp
@[simp] theorem enterOpeningQuietly_zones (st : OpeningState) (s : State) : (enterOpeningQuietly st s).zones = s.zones := by
  unfold enterOpeningQuietly; simp
@[simp] theorem enterOpeningQuietly_loop (st : OpeningState) (s : State) : (enterOpeningQuietly st s).loop = s.loop := by
  unfold enterOpeningQuietly; simp
@[simp] theorem enterOpeningQuietly_stations (st : OpeningState) (s : State) : (enterOpeningQuietly st s).stations = s.stations := by
  unfold enterOpeningQuietly; simp
@[simp] theorem enterOpeningQuietly_lamp (st : OpeningState) (s : State) : (enterOpeningQuietly st s).lamp = s.lamp := by
  unfold enterOpeningQuietly; simp
@[simp] theorem enterOpeningQuietly_display (st : OpeningState) (s : State) : (enterOpeningQuietly st s).display = s.display := by
  unfold enterOpeningQuietly; simp
@[simp] theorem enterOpeningQuietly_sup (st : OpeningState) (s : State) : (enterOpeningQuietly st s).sup = s.sup := by
  unfold enterOpeningQuietly; simp
@[simp] theorem enterOpeningQuietly_store (st : OpeningState) (s : State) : (enterOpeningQuietly st s).store = s.store := by
  unfold enterOpeningQuietly; simp
@[simp] theorem enterOpeningQuietly_cfg (st : OpeningState) (s : State) : (enterOpeningQuietly st s).cfg = s.cfg := by
  unfold enterOpeningQuietly; simp
@[simp] theorem enterOpeningQuietly_seq_demand (st : OpeningState) (s : State) : (enterOpeningQuietly st s).seq.demand = s.seq.demand := by
  unfold enterOpeningQuietly; simp
@[simp] theorem enterOpeningQuietly_seq_shown (st : OpeningState) (s : State) : (enterOpeningQuietly st s).seq.shown = s.seq.shown := by
  unfold enterOpeningQuietly; simp
@[simp] theorem enterOpeningQuietly_seq_clearance (st : OpeningState) (s : State) : (enterOpeningQuietly st s).seq.clearance = s.seq.clearance := by
  unfold enterOpeningQuietly; simp
@[simp] theorem enterOpening_pending (st : OpeningState) (s : State) : (enterOpening st s).pending = s.pending := by
  unfold enterOpening; simp
@[simp] theorem enterOpening_freeCount (st : OpeningState) (s : State) : (enterOpening st s).freeCount = s.freeCount := by
  unfold enterOpening; simp
@[simp] theorem enterOpening_pins (st : OpeningState) (s : State) : (enterOpening st s).pins = s.pins := by
  unfold enterOpening; simp
@[simp] theorem enterOpening_reg (st : OpeningState) (s : State) : (enterOpening st s).reg = s.reg := by
  unfold enterOpening; simp
@[simp] theorem enterOpening_leaf (st : OpeningState) (s : State) : (enterOpening st s).leaf = s.leaf := by
  unfold enterOpening; simp
@[simp] theorem enterOpening_closure (st : OpeningState) (s : State) : (enterOpening st s).closure = s.closure := by
  unfold enterOpening; simp
@[simp] theorem enterOpening_arms (st : OpeningState) (s : State) : (enterOpening st s).arms = s.arms := by
  unfold enterOpening; simp
@[simp] theorem enterOpening_zones (st : OpeningState) (s : State) : (enterOpening st s).zones = s.zones := by
  unfold enterOpening; simp
@[simp] theorem enterOpening_loop (st : OpeningState) (s : State) : (enterOpening st s).loop = s.loop := by
  unfold enterOpening; simp
@[simp] theorem enterOpening_stations (st : OpeningState) (s : State) : (enterOpening st s).stations = s.stations := by
  unfold enterOpening; simp
@[simp] theorem enterOpening_lamp (st : OpeningState) (s : State) : (enterOpening st s).lamp = s.lamp := by
  unfold enterOpening; simp
@[simp] theorem enterOpening_display (st : OpeningState) (s : State) : (enterOpening st s).display = s.display := by
  unfold enterOpening; simp
@[simp] theorem enterOpening_sup (st : OpeningState) (s : State) : (enterOpening st s).sup = s.sup := by
  unfold enterOpening; simp
@[simp] theorem enterOpening_store (st : OpeningState) (s : State) : (enterOpening st s).store = s.store := by
  unfold enterOpening; simp
@[simp] theorem enterOpening_cfg (st : OpeningState) (s : State) : (enterOpening st s).cfg = s.cfg := by
  unfold enterOpening; simp
@[simp] theorem enterOpening_seq_demand (st : OpeningState) (s : State) : (enterOpening st s).seq.demand = s.seq.demand := by
  unfold enterOpening; simp
@[simp] theorem enterOpening_seq_shown (st : OpeningState) (s : State) : (enterOpening st s).seq.shown = s.seq.shown := by
  unfold enterOpening; simp
@[simp] theorem enterOpening_seq_clearance (st : OpeningState) (s : State) : (enterOpening st s).seq.clearance = s.seq.clearance := by
  unfold enterOpening; simp
@[simp] theorem formTarget_pending (s : State) : (formTarget s).pending = s.pending := by
  unfold formTarget; simp
@[simp] theorem formTarget_freeCount (s : State) : (formTarget s).freeCount = s.freeCount := by
  unfold formTarget; simp
@[simp] theorem formTarget_pins (s : State) : (formTarget s).pins = s.pins := by
  unfold formTarget; simp
@[simp] theorem formTarget_links (s : State) : (formTarget s).links = s.links := by
  unfold formTarget; simp
@[simp] theorem formTarget_reg (s : State) : (formTarget s).reg = s.reg := by
  unfold formTarget; simp
@[simp] theorem formTarget_leaf (s : State) : (formTarget s).leaf = s.leaf := by
  unfold formTarget; simp
@[simp] theorem formTarget_closure (s : State) : (formTarget s).closure = s.closure := by
  unfold formTarget; simp
@[simp] theorem formTarget_arms (s : State) : (formTarget s).arms = s.arms := by
  unfold formTarget; simp
@[simp] theorem formTarget_zones (s : State) : (formTarget s).zones = s.zones := by
  unfold formTarget; simp
@[simp] theorem formTarget_loop (s : State) : (formTarget s).loop = s.loop := by
  unfold formTarget; simp
@[simp] theorem formTarget_stations (s : State) : (formTarget s).stations = s.stations := by
  unfold formTarget; simp
@[simp] theorem formTarget_lamp (s : State) : (formTarget s).lamp = s.lamp := by
  unfold formTarget; simp
@[simp] theorem formTarget_display (s : State) : (formTarget s).display = s.display := by
  unfold formTarget; simp
@[simp] theorem formTarget_sup (s : State) : (formTarget s).sup = s.sup := by
  unfold formTarget; simp
@[simp] theorem formTarget_store (s : State) : (formTarget s).store = s.store := by
  unfold formTarget; simp
@[simp] theorem formTarget_cfg (s : State) : (formTarget s).cfg = s.cfg := by
  unfold formTarget; simp
@[simp] theorem formTarget_seq_demand (s : State) : (formTarget s).seq.demand = s.seq.demand := by
  unfold formTarget; simp
@[simp] theorem formTarget_seq_shown (s : State) : (formTarget s).seq.shown = s.seq.shown := by
  unfold formTarget; simp
@[simp] theorem formTarget_seq_clearance (s : State) : (formTarget s).seq.clearance = s.seq.clearance := by
  unfold formTarget; simp
@[simp] theorem admitStep_pending (r : Option Link) (p : Passage) (s : State) : (admitStep r p s).pending = s.pending := by
  unfold admitStep; simp
@[simp] theorem admitStep_freeCount (r : Option Link) (p : Passage) (s : State) : (admitStep r p s).freeCount = s.freeCount := by
  unfold admitStep; simp
@[simp] theorem admitStep_pins (r : Option Link) (p : Passage) (s : State) : (admitStep r p s).pins = s.pins := by
  unfold admitStep; simp
@[simp] theorem admitStep_leaf (r : Option Link) (p : Passage) (s : State) : (admitStep r p s).leaf = s.leaf := by
  unfold admitStep; simp
@[simp] theorem admitStep_closure (r : Option Link) (p : Passage) (s : State) : (admitStep r p s).closure = s.closure := by
  unfold admitStep; simp
@[simp] theorem admitStep_arms (r : Option Link) (p : Passage) (s : State) : (admitStep r p s).arms = s.arms := by
  unfold admitStep; simp
@[simp] theorem admitStep_zones (r : Option Link) (p : Passage) (s : State) : (admitStep r p s).zones = s.zones := by
  unfold admitStep; simp
@[simp] theorem admitStep_loop (r : Option Link) (p : Passage) (s : State) : (admitStep r p s).loop = s.loop := by
  unfold admitStep; simp
@[simp] theorem admitStep_stations (r : Option Link) (p : Passage) (s : State) : (admitStep r p s).stations = s.stations := by
  unfold admitStep; simp
@[simp] theorem admitStep_lamp (r : Option Link) (p : Passage) (s : State) : (admitStep r p s).lamp = s.lamp := by
  unfold admitStep; simp
@[simp] theorem admitStep_display (r : Option Link) (p : Passage) (s : State) : (admitStep r p s).display = s.display := by
  unfold admitStep; simp
@[simp] theorem admitStep_sup (r : Option Link) (p : Passage) (s : State) : (admitStep r p s).sup = s.sup := by
  unfold admitStep; simp
@[simp] theorem admitStep_store (r : Option Link) (p : Passage) (s : State) : (admitStep r p s).store = s.store := by
  unfold admitStep; simp
@[simp] theorem admitStep_cfg (r : Option Link) (p : Passage) (s : State) : (admitStep r p s).cfg = s.cfg := by
  unfold admitStep; simp
@[simp] theorem admitStep_seq_demand (r : Option Link) (p : Passage) (s : State) : (admitStep r p s).seq.demand = s.seq.demand := by
  unfold admitStep; simp
@[simp] theorem admitStep_seq_shown (r : Option Link) (p : Passage) (s : State) : (admitStep r p s).seq.shown = s.seq.shown := by
  unfold admitStep; simp
@[simp] theorem admitStep_seq_clearance (r : Option Link) (p : Passage) (s : State) : (admitStep r p s).seq.clearance = s.seq.clearance := by
  unfold admitStep; simp
@[simp] theorem returnStep_pending (r : Option Link) (p : Passage) (s : State) : (returnStep r p s).pending = s.pending := by
  unfold returnStep; simp
@[simp] theorem returnStep_freeCount (r : Option Link) (p : Passage) (s : State) : (returnStep r p s).freeCount = s.freeCount := by
  unfold returnStep; simp
@[simp] theorem returnStep_pins (r : Option Link) (p : Passage) (s : State) : (returnStep r p s).pins = s.pins := by
  unfold returnStep; simp
@[simp] theorem returnStep_leaf (r : Option Link) (p : Passage) (s : State) : (returnStep r p s).leaf = s.leaf := by
  unfold returnStep; simp
@[simp] theorem returnStep_closure (r : Option Link) (p : Passage) (s : State) : (returnStep r p s).closure = s.closure := by
  unfold returnStep; simp
@[simp] theorem returnStep_arms (r : Option Link) (p : Passage) (s : State) : (returnStep r p s).arms = s.arms := by
  unfold returnStep; simp
@[simp] theorem returnStep_zones (r : Option Link) (p : Passage) (s : State) : (returnStep r p s).zones = s.zones := by
  unfold returnStep; simp
@[simp] theorem returnStep_loop (r : Option Link) (p : Passage) (s : State) : (returnStep r p s).loop = s.loop := by
  unfold returnStep; simp
@[simp] theorem returnStep_stations (r : Option Link) (p : Passage) (s : State) : (returnStep r p s).stations = s.stations := by
  unfold returnStep; simp
@[simp] theorem returnStep_lamp (r : Option Link) (p : Passage) (s : State) : (returnStep r p s).lamp = s.lamp := by
  unfold returnStep; simp
@[simp] theorem returnStep_display (r : Option Link) (p : Passage) (s : State) : (returnStep r p s).display = s.display := by
  unfold returnStep; simp
@[simp] theorem returnStep_sup (r : Option Link) (p : Passage) (s : State) : (returnStep r p s).sup = s.sup := by
  unfold returnStep; simp
@[simp] theorem returnStep_store (r : Option Link) (p : Passage) (s : State) : (returnStep r p s).store = s.store := by
  unfold returnStep; simp
@[simp] theorem returnStep_cfg (r : Option Link) (p : Passage) (s : State) : (returnStep r p s).cfg = s.cfg := by
  unfold returnStep; simp
@[simp] theorem returnStep_seq_demand (r : Option Link) (p : Passage) (s : State) : (returnStep r p s).seq.demand = s.seq.demand := by
  unfold returnStep; simp
@[simp] theorem returnStep_seq_shown (r : Option Link) (p : Passage) (s : State) : (returnStep r p s).seq.shown = s.seq.shown := by
  unfold returnStep; simp
@[simp] theorem returnStep_seq_clearance (r : Option Link) (p : Passage) (s : State) : (returnStep r p s).seq.clearance = s.seq.clearance := by
  unfold returnStep; simp
@[simp] theorem returnAll_pending (r : Option Link) (s : State) : (returnAll r s).pending = s.pending := by
  exact foldl_keeps (fun t : State => t.pending) _ (fun t a => by simp) _ _
@[simp] theorem returnAll_freeCount (r : Option Link) (s : State) : (returnAll r s).freeCount = s.freeCount := by
  exact foldl_keeps (fun t : State => t.freeCount) _ (fun t a => by simp) _ _
@[simp] theorem returnAll_pins (r : Option Link) (s : State) : (returnAll r s).pins = s.pins := by
  exact foldl_keeps (fun t : State => t.pins) _ (fun t a => by simp) _ _
@[simp] theorem returnAll_leaf (r : Option Link) (s : State) : (returnAll r s).leaf = s.leaf := by
  exact foldl_keeps (fun t : State => t.leaf) _ (fun t a => by simp) _ _
@[simp] theorem returnAll_closure (r : Option Link) (s : State) : (returnAll r s).closure = s.closure := by
  exact foldl_keeps (fun t : State => t.closure) _ (fun t a => by simp) _ _
@[simp] theorem returnAll_arms (r : Option Link) (s : State) : (returnAll r s).arms = s.arms := by
  exact foldl_keeps (fun t : State => t.arms) _ (fun t a => by simp) _ _
@[simp] theorem returnAll_zones (r : Option Link) (s : State) : (returnAll r s).zones = s.zones := by
  exact foldl_keeps (fun t : State => t.zones) _ (fun t a => by simp) _ _
@[simp] theorem returnAll_loop (r : Option Link) (s : State) : (returnAll r s).loop = s.loop := by
  exact foldl_keeps (fun t : State => t.loop) _ (fun t a => by simp) _ _
@[simp] theorem returnAll_stations (r : Option Link) (s : State) : (returnAll r s).stations = s.stations := by
  exact foldl_keeps (fun t : State => t.stations) _ (fun t a => by simp) _ _
@[simp] theorem returnAll_lamp (r : Option Link) (s : State) : (returnAll r s).lamp = s.lamp := by
  exact foldl_keeps (fun t : State => t.lamp) _ (fun t a => by simp) _ _
@[simp] theorem returnAll_display (r : Option Link) (s : State) : (returnAll r s).display = s.display := by
  exact foldl_keeps (fun t : State => t.display) _ (fun t a => by simp) _ _
@[simp] theorem returnAll_sup (r : Option Link) (s : State) : (returnAll r s).sup = s.sup := by
  exact foldl_keeps (fun t : State => t.sup) _ (fun t a => by simp) _ _
@[simp] theorem returnAll_store (r : Option Link) (s : State) : (returnAll r s).store = s.store := by
  exact foldl_keeps (fun t : State => t.store) _ (fun t a => by simp) _ _
@[simp] theorem returnAll_cfg (r : Option Link) (s : State) : (returnAll r s).cfg = s.cfg := by
  exact foldl_keeps (fun t : State => t.cfg) _ (fun t a => by simp) _ _
@[simp] theorem returnAll_seq_demand (r : Option Link) (s : State) : (returnAll r s).seq.demand = s.seq.demand := by
  exact foldl_keeps (fun t : State => t.seq.demand) _ (fun t a => by simp) _ _
@[simp] theorem returnAll_seq_shown (r : Option Link) (s : State) : (returnAll r s).seq.shown = s.seq.shown := by
  exact foldl_keeps (fun t : State => t.seq.shown) _ (fun t a => by simp) _ _
@[simp] theorem returnAll_seq_clearance (r : Option Link) (s : State) : (returnAll r s).seq.clearance = s.seq.clearance := by
  exact foldl_keeps (fun t : State => t.seq.clearance) _ (fun t a => by simp) _ _
@[simp] theorem admitFirst_pending (r : Option Link) (n : Nat) (s : State) : (admitFirst r n s).pending = s.pending := by
  exact foldl_keeps (fun t : State => t.pending) _ (fun t a => by simp) _ _
@[simp] theorem admitFirst_freeCount (r : Option Link) (n : Nat) (s : State) : (admitFirst r n s).freeCount = s.freeCount := by
  exact foldl_keeps (fun t : State => t.freeCount) _ (fun t a => by simp) _ _
@[simp] theorem admitFirst_pins (r : Option Link) (n : Nat) (s : State) : (admitFirst r n s).pins = s.pins := by
  exact foldl_keeps (fun t : State => t.pins) _ (fun t a => by simp) _ _
@[simp] theorem admitFirst_leaf (r : Option Link) (n : Nat) (s : State) : (admitFirst r n s).leaf = s.leaf := by
  exact foldl_keeps (fun t : State => t.leaf) _ (fun t a => by simp) _ _
@[simp] theorem admitFirst_closure (r : Option Link) (n : Nat) (s : State) : (admitFirst r n s).closure = s.closure := by
  exact foldl_keeps (fun t : State => t.closure) _ (fun t a => by simp) _ _
@[simp] theorem admitFirst_arms (r : Option Link) (n : Nat) (s : State) : (admitFirst r n s).arms = s.arms := by
  exact foldl_keeps (fun t : State => t.arms) _ (fun t a => by simp) _ _
@[simp] theorem admitFirst_zones (r : Option Link) (n : Nat) (s : State) : (admitFirst r n s).zones = s.zones := by
  exact foldl_keeps (fun t : State => t.zones) _ (fun t a => by simp) _ _
@[simp] theorem admitFirst_loop (r : Option Link) (n : Nat) (s : State) : (admitFirst r n s).loop = s.loop := by
  exact foldl_keeps (fun t : State => t.loop) _ (fun t a => by simp) _ _
@[simp] theorem admitFirst_stations (r : Option Link) (n : Nat) (s : State) : (admitFirst r n s).stations = s.stations := by
  exact foldl_keeps (fun t : State => t.stations) _ (fun t a => by simp) _ _
@[simp] theorem admitFirst_lamp (r : Option Link) (n : Nat) (s : State) : (admitFirst r n s).lamp = s.lamp := by
  exact foldl_keeps (fun t : State => t.lamp) _ (fun t a => by simp) _ _
@[simp] theorem admitFirst_display (r : Option Link) (n : Nat) (s : State) : (admitFirst r n s).display = s.display := by
  exact foldl_keeps (fun t : State => t.display) _ (fun t a => by simp) _ _
@[simp] theorem admitFirst_sup (r : Option Link) (n : Nat) (s : State) : (admitFirst r n s).sup = s.sup := by
  exact foldl_keeps (fun t : State => t.sup) _ (fun t a => by simp) _ _
@[simp] theorem admitFirst_store (r : Option Link) (n : Nat) (s : State) : (admitFirst r n s).store = s.store := by
  exact foldl_keeps (fun t : State => t.store) _ (fun t a => by simp) _ _
@[simp] theorem admitFirst_cfg (r : Option Link) (n : Nat) (s : State) : (admitFirst r n s).cfg = s.cfg := by
  exact foldl_keeps (fun t : State => t.cfg) _ (fun t a => by simp) _ _
@[simp] theorem admitFirst_seq_demand (r : Option Link) (n : Nat) (s : State) : (admitFirst r n s).seq.demand = s.seq.demand := by
  exact foldl_keeps (fun t : State => t.seq.demand) _ (fun t a => by simp) _ _
@[simp] theorem admitFirst_seq_shown (r : Option Link) (n : Nat) (s : State) : (admitFirst r n s).seq.shown = s.seq.shown := by
  exact foldl_keeps (fun t : State => t.seq.shown) _ (fun t a => by simp) _ _
@[simp] theorem admitFirst_seq_clearance (r : Option Link) (n : Nat) (s : State) : (admitFirst r n s).seq.clearance = s.seq.clearance := by
  exact foldl_keeps (fun t : State => t.seq.clearance) _ (fun t a => by simp) _ _
@[simp] theorem weighChangeover_pending (s : State) : (weighChangeover s).pending = s.pending := by
  unfold weighChangeover; dsimp only; (repeat' split) <;> first | with_reducible rfl | simp
@[simp] theorem weighChangeover_freeCount (s : State) : (weighChangeover s).freeCount = s.freeCount := by
  unfold weighChangeover; dsimp only; (repeat' split) <;> first | with_reducible rfl | simp
@[simp] theorem weighChangeover_pins (s : State) : (weighChangeover s).pins = s.pins := by
  unfold weighChangeover; dsimp only; (repeat' split) <;> first | with_reducible rfl | simp
@[simp] theorem weighChangeover_reg (s : State) : (weighChangeover s).reg = s.reg := by
  unfold weighChangeover; dsimp only; (repeat' split) <;> first | with_reducible rfl | simp
@[simp] theorem weighChangeover_leaf (s : State) : (weighChangeover s).leaf = s.leaf := by
  unfold weighChangeover; dsimp only; (repeat' split) <;> first | with_reducible rfl | simp
@[simp] theorem weighChangeover_closure (s : State) : (weighChangeover s).closure = s.closure := by
  unfold weighChangeover; dsimp only; (repeat' split) <;> first | with_reducible rfl | simp
@[simp] theorem weighChangeover_arms (s : State) : (weighChangeover s).arms = s.arms := by
  unfold weighChangeover; dsimp only; (repeat' split) <;> first | with_reducible rfl | simp
@[simp] theorem weighChangeover_zones (s : State) : (weighChangeover s).zones = s.zones := by
  unfold weighChangeover; dsimp only; (repeat' split) <;> first | with_reducible rfl | simp
@[simp] theorem weighChangeover_loop (s : State) : (weighChangeover s).loop = s.loop := by
  unfold weighChangeover; dsimp only; (repeat' split) <;> first | with_reducible rfl | simp
@[simp] theorem weighChangeover_stations (s : State) : (weighChangeover s).stations = s.stations := by
  unfold weighChangeover; dsimp only; (repeat' split) <;> first | with_reducible rfl | simp
@[simp] theorem weighChangeover_lamp (s : State) : (weighChangeover s).lamp = s.lamp := by
  unfold weighChangeover; dsimp only; (repeat' split) <;> first | with_reducible rfl | simp
@[simp] theorem weighChangeover_display (s : State) : (weighChangeover s).display = s.display := by
  unfold weighChangeover; dsimp only; (repeat' split) <;> first | with_reducible rfl | simp
@[simp] theorem weighChangeover_sup (s : State) : (weighChangeover s).sup = s.sup := by
  unfold weighChangeover; dsimp only; (repeat' split) <;> first | with_reducible rfl | simp
@[simp] theorem weighChangeover_store (s : State) : (weighChangeover s).store = s.store := by
  unfold weighChangeover; dsimp only; (repeat' split) <;> first | with_reducible rfl | simp
@[simp] theorem weighChangeover_cfg (s : State) : (weighChangeover s).cfg = s.cfg := by
  unfold weighChangeover; dsimp only; (repeat' split) <;> first | with_reducible rfl | simp
@[simp] theorem weighChangeover_seq_demand (s : State) : (weighChangeover s).seq.demand = s.seq.demand := by
  unfold weighChangeover; dsimp only; (repeat' split) <;> first | with_reducible rfl | simp
@[simp] theorem weighChangeover_seq_shown (s : State) : (weighChangeover s).seq.shown = s.seq.shown := by
  unfold weighChangeover; dsimp only; (repeat' split) <;> first | with_reducible rfl | simp
@[simp] theorem weighChangeover_seq_clearance (s : State) : (weighChangeover s).seq.clearance = s.seq.clearance := by
  unfold weighChangeover; dsimp only; (repeat' split) <;> first | with_reducible rfl | simp
@[simp] theorem deriveDemand_pending (d : Direction) (s : State) : (deriveDemand d s).pending = s.pending := by
  unfold deriveDemand; dsimp only; (repeat' split) <;> first | with_reducible rfl | simp
@[simp] theorem deriveDemand_freeCount (d : Direction) (s : State) : (deriveDemand d s).freeCount = s.freeCount := by
  unfold deriveDemand; dsimp only; (repeat' split) <;> first | with_reducible rfl | simp
@[simp] theorem deriveDemand_pins (d : Direction) (s : State) : (deriveDemand d s).pins = s.pins := by
  unfold deriveDemand; dsimp only; (repeat' split) <;> first | with_reducible rfl | simp
@[simp] theorem deriveDemand_links (d : Direction) (s : State) : (deriveDemand d s).links = s.links := by
  unfold deriveDemand; dsimp only; (repeat' split) <;> first | with_reducible rfl | simp
@[simp] theorem deriveDemand_reg (d : Direction) (s : State) : (deriveDemand d s).reg = s.reg := by
  unfold deriveDemand; dsimp only; (repeat' split) <;> first | with_reducible rfl | simp
@[simp] theorem deriveDemand_leaf (d : Direction) (s : State) : (deriveDemand d s).leaf = s.leaf := by
  unfold deriveDemand; dsimp only; (repeat' split) <;> first | with_reducible rfl | simp
@[simp] theorem deriveDemand_closure (d : Direction) (s : State) : (deriveDemand d s).closure = s.closure := by
  unfold deriveDemand; dsimp only; (repeat' split) <;> first | with_reducible rfl | simp
@[simp] theorem deriveDemand_arms (d : Direction) (s : State) : (deriveDemand d s).arms = s.arms := by
  unfold deriveDemand; dsimp only; (repeat' split) <;> first | with_reducible rfl | simp
@[simp] theorem deriveDemand_zones (d : Direction) (s : State) : (deriveDemand d s).zones = s.zones := by
  unfold deriveDemand; dsimp only; (repeat' split) <;> first | with_reducible rfl | simp
@[simp] theorem deriveDemand_loop (d : Direction) (s : State) : (deriveDemand d s).loop = s.loop := by
  unfold deriveDemand; dsimp only; (repeat' split) <;> first | with_reducible rfl | simp
@[simp] theorem deriveDemand_stations (d : Direction) (s : State) : (deriveDemand d s).stations = s.stations := by
  unfold deriveDemand; dsimp only; (repeat' split) <;> first | with_reducible rfl | simp
@[simp] theorem deriveDemand_store (d : Direction) (s : State) : (deriveDemand d s).store = s.store := by
  unfold deriveDemand; dsimp only; (repeat' split) <;> first | with_reducible rfl | simp
@[simp] theorem deriveDemand_cfg (d : Direction) (s : State) : (deriveDemand d s).cfg = s.cfg := by
  unfold deriveDemand; dsimp only; (repeat' split) <;> first | with_reducible rfl | simp
@[simp] theorem deriveDemand_seq_opening (d : Direction) (s : State) : (deriveDemand d s).seq.opening = s.seq.opening := by
  unfold deriveDemand; dsimp only; (repeat' split) <;> first | with_reducible rfl | simp
@[simp] theorem deriveDemand_seq_clearance (d : Direction) (s : State) : (deriveDemand d s).seq.clearance = s.seq.clearance := by
  unfold deriveDemand; dsimp only; (repeat' split) <;> first | with_reducible rfl | simp
@[simp] theorem deriveDemand_sup_mode (d : Direction) (s : State) : (deriveDemand d s).sup.mode = s.sup.mode := by
  unfold deriveDemand; dsimp only; (repeat' split) <;> first | with_reducible rfl | simp
@[simp] theorem deriveDemand_sup_watchdog (d : Direction) (s : State) : (deriveDemand d s).sup.watchdog = s.sup.watchdog := by
  unfold deriveDemand; dsimp only; (repeat' split) <;> first | with_reducible rfl | simp
@[simp] theorem deriveDemand_sup_groupTripped (d : Direction) (s : State) : (deriveDemand d s).sup.groupTripped = s.sup.groupTripped := by
  unfold deriveDemand; dsimp only; (repeat' split) <;> first | with_reducible rfl | simp
@[simp] theorem deriveDemand_sup_closureHeld (d : Direction) (s : State) : (deriveDemand d s).sup.closureHeld = s.sup.closureHeld := by
  unfold deriveDemand; dsimp only; (repeat' split) <;> first | with_reducible rfl | simp
@[simp] theorem deriveDemand_sup_pulseTimer (d : Direction) (s : State) : (deriveDemand d s).sup.pulseTimer = s.sup.pulseTimer := by
  unfold deriveDemand; dsimp only; (repeat' split) <;> first | with_reducible rfl | simp
@[simp] theorem deriveDemands_pending (s : State) : (deriveDemands s).pending = s.pending := by
  unfold deriveDemands; simp
@[simp] theorem deriveDemands_freeCount (s : State) : (deriveDemands s).freeCount = s.freeCount := by
  unfold deriveDemands; simp
@[simp] theorem deriveDemands_pins (s : State) : (deriveDemands s).pins = s.pins := by
  unfold deriveDemands; simp
@[simp] theorem deriveDemands_links (s : State) : (deriveDemands s).links = s.links := by
  unfold deriveDemands; simp
@[simp] theorem deriveDemands_reg (s : State) : (deriveDemands s).reg = s.reg := by
  unfold deriveDemands; simp
@[simp] theorem deriveDemands_leaf (s : State) : (deriveDemands s).leaf = s.leaf := by
  unfold deriveDemands; simp
@[simp] theorem deriveDemands_closure (s : State) : (deriveDemands s).closure = s.closure := by
  unfold deriveDemands; simp
@[simp] theorem deriveDemands_arms (s : State) : (deriveDemands s).arms = s.arms := by
  unfold deriveDemands; simp
@[simp] theorem deriveDemands_zones (s : State) : (deriveDemands s).zones = s.zones := by
  unfold deriveDemands; simp
@[simp] theorem deriveDemands_loop (s : State) : (deriveDemands s).loop = s.loop := by
  unfold deriveDemands; simp
@[simp] theorem deriveDemands_stations (s : State) : (deriveDemands s).stations = s.stations := by
  unfold deriveDemands; simp
@[simp] theorem deriveDemands_store (s : State) : (deriveDemands s).store = s.store := by
  unfold deriveDemands; simp
@[simp] theorem deriveDemands_cfg (s : State) : (deriveDemands s).cfg = s.cfg := by
  unfold deriveDemands; simp
@[simp] theorem deriveDemands_seq_opening (s : State) : (deriveDemands s).seq.opening = s.seq.opening := by
  unfold deriveDemands; simp
@[simp] theorem deriveDemands_seq_clearance (s : State) : (deriveDemands s).seq.clearance = s.seq.clearance := by
  unfold deriveDemands; simp
@[simp] theorem deriveDemands_sup_mode (s : State) : (deriveDemands s).sup.mode = s.sup.mode := by
  unfold deriveDemands; simp
@[simp] theorem deriveDemands_sup_watchdog (s : State) : (deriveDemands s).sup.watchdog = s.sup.watchdog := by
  unfold deriveDemands; simp
@[simp] theorem deriveDemands_sup_groupTripped (s : State) : (deriveDemands s).sup.groupTripped = s.sup.groupTripped := by
  unfold deriveDemands; simp
@[simp] theorem deriveDemands_sup_closureHeld (s : State) : (deriveDemands s).sup.closureHeld = s.sup.closureHeld := by
  unfold deriveDemands; simp
@[simp] theorem deriveDemands_sup_pulseTimer (s : State) : (deriveDemands s).sup.pulseTimer = s.sup.pulseTimer := by
  unfold deriveDemands; simp
@[simp] theorem clearanceUpdate_pending (n : Nat) (s : State) : (clearanceUpdate n s).pending = s.pending := by
  unfold clearanceUpdate; dsimp only; rw [deriveDemands_pending]; (repeat' split) <;> first | rfl | (rw [foldl_keeps (fun t : State => t.pending) _ (fun t a => by simp)]; done) | (rw [foldl_keeps (fun t : State => t.pending) _ (fun t a => by simp)]; simp)
@[simp] theorem clearanceUpdate_freeCount (n : Nat) (s : State) : (clearanceUpdate n s).freeCount = s.freeCount := by
  unfold clearanceUpdate; dsimp only; rw [deriveDemands_freeCount]; (repeat' split) <;> first | rfl | (rw [foldl_keeps (fun t : State => t.freeCount) _ (fun t a => by simp)]; done) | (rw [foldl_keeps (fun t : State => t.freeCount) _ (fun t a => by simp)]; simp)
@[simp] theorem clearanceUpdate_pins (n : Nat) (s : State) : (clearanceUpdate n s).pins = s.pins := by
  unfold clearanceUpdate; dsimp only; rw [deriveDemands_pins]; (repeat' split) <;> first | rfl | (rw [foldl_keeps (fun t : State => t.pins) _ (fun t a => by simp)]; done) | (rw [foldl_keeps (fun t : State => t.pins) _ (fun t a => by simp)]; simp)
@[simp] theorem clearanceUpdate_leaf (n : Nat) (s : State) : (clearanceUpdate n s).leaf = s.leaf := by
  unfold clearanceUpdate; dsimp only; rw [deriveDemands_leaf]; (repeat' split) <;> first | rfl | (rw [foldl_keeps (fun t : State => t.leaf) _ (fun t a => by simp)]; done) | (rw [foldl_keeps (fun t : State => t.leaf) _ (fun t a => by simp)]; simp)
@[simp] theorem clearanceUpdate_closure (n : Nat) (s : State) : (clearanceUpdate n s).closure = s.closure := by
  unfold clearanceUpdate; dsimp only; rw [deriveDemands_closure]; (repeat' split) <;> first | rfl | (rw [foldl_keeps (fun t : State => t.closure) _ (fun t a => by simp)]; done) | (rw [foldl_keeps (fun t : State => t.closure) _ (fun t a => by simp)]; simp)
@[simp] theorem clearanceUpdate_arms (n : Nat) (s : State) : (clearanceUpdate n s).arms = s.arms := by
  unfold clearanceUpdate; dsimp only; rw [deriveDemands_arms]; (repeat' split) <;> first | rfl | (rw [foldl_keeps (fun t : State => t.arms) _ (fun t a => by simp)]; done) | (rw [foldl_keeps (fun t : State => t.arms) _ (fun t a => by simp)]; simp)
@[simp] theorem clearanceUpdate_zones (n : Nat) (s : State) : (clearanceUpdate n s).zones = s.zones := by
  unfold clearanceUpdate; dsimp only; rw [deriveDemands_zones]; (repeat' split) <;> first | rfl | (rw [foldl_keeps (fun t : State => t.zones) _ (fun t a => by simp)]; done) | (rw [foldl_keeps (fun t : State => t.zones) _ (fun t a => by simp)]; simp)
@[simp] theorem clearanceUpdate_loop (n : Nat) (s : State) : (clearanceUpdate n s).loop = s.loop := by
  unfold clearanceUpdate; dsimp only; rw [deriveDemands_loop]; (repeat' split) <;> first | rfl | (rw [foldl_keeps (fun t : State => t.loop) _ (fun t a => by simp)]; done) | (rw [foldl_keeps (fun t : State => t.loop) _ (fun t a => by simp)]; simp)
@[simp] theorem clearanceUpdate_stations (n : Nat) (s : State) : (clearanceUpdate n s).stations = s.stations := by
  unfold clearanceUpdate; dsimp only; rw [deriveDemands_stations]; (repeat' split) <;> first | rfl | (rw [foldl_keeps (fun t : State => t.stations) _ (fun t a => by simp)]; done) | (rw [foldl_keeps (fun t : State => t.stations) _ (fun t a => by simp)]; simp)
@[simp] theorem clearanceUpdate_store (n : Nat) (s : State) : (clearanceUpdate n s).store = s.store := by
  unfold clearanceUpdate; dsimp only; rw [deriveDemands_store]; (repeat' split) <;> first | rfl | (rw [foldl_keeps (fun t : State => t.store) _ (fun t a => by simp)]; done) | (rw [foldl_keeps (fun t : State => t.store) _ (fun t a => by simp)]; simp)
@[simp] theorem clearanceUpdate_cfg (n : Nat) (s : State) : (clearanceUpdate n s).cfg = s.cfg := by
  unfold clearanceUpdate; dsimp only; rw [deriveDemands_cfg]; (repeat' split) <;> first | rfl | (rw [foldl_keeps (fun t : State => t.cfg) _ (fun t a => by simp)]; done) | (rw [foldl_keeps (fun t : State => t.cfg) _ (fun t a => by simp)]; simp)
@[simp] theorem clearanceUpdate_seq_opening (n : Nat) (s : State) : (clearanceUpdate n s).seq.opening = s.seq.opening := by
  unfold clearanceUpdate; dsimp only; rw [deriveDemands_seq_opening]; (repeat' split) <;> first | rfl | (rw [foldl_keeps (fun t : State => t.seq.opening) _ (fun t a => by simp)]; done) | (rw [foldl_keeps (fun t : State => t.seq.opening) _ (fun t a => by simp)]; simp)
@[simp] theorem clearanceUpdate_sup_mode (n : Nat) (s : State) : (clearanceUpdate n s).sup.mode = s.sup.mode := by
  unfold clearanceUpdate; dsimp only; rw [deriveDemands_sup_mode]; (repeat' split) <;> first | rfl | (rw [foldl_keeps (fun t : State => t.sup.mode) _ (fun t a => by simp)]; done) | (rw [foldl_keeps (fun t : State => t.sup.mode) _ (fun t a => by simp)]; simp)
@[simp] theorem clearanceUpdate_sup_watchdog (n : Nat) (s : State) : (clearanceUpdate n s).sup.watchdog = s.sup.watchdog := by
  unfold clearanceUpdate; dsimp only; rw [deriveDemands_sup_watchdog]; (repeat' split) <;> first | rfl | (rw [foldl_keeps (fun t : State => t.sup.watchdog) _ (fun t a => by simp)]; done) | (rw [foldl_keeps (fun t : State => t.sup.watchdog) _ (fun t a => by simp)]; simp)
@[simp] theorem clearanceUpdate_sup_groupTripped (n : Nat) (s : State) : (clearanceUpdate n s).sup.groupTripped = s.sup.groupTripped := by
  unfold clearanceUpdate; dsimp only; rw [deriveDemands_sup_groupTripped]; (repeat' split) <;> first | rfl | (rw [foldl_keeps (fun t : State => t.sup.groupTripped) _ (fun t a => by simp)]; done) | (rw [foldl_keeps (fun t : State => t.sup.groupTripped) _ (fun t a => by simp)]; simp)
@[simp] theorem clearanceUpdate_sup_closureHeld (n : Nat) (s : State) : (clearanceUpdate n s).sup.closureHeld = s.sup.closureHeld := by
  unfold clearanceUpdate; dsimp only; rw [deriveDemands_sup_closureHeld]; (repeat' split) <;> first | rfl | (rw [foldl_keeps (fun t : State => t.sup.closureHeld) _ (fun t a => by simp)]; done) | (rw [foldl_keeps (fun t : State => t.sup.closureHeld) _ (fun t a => by simp)]; simp)
@[simp] theorem clearanceUpdate_sup_pulseTimer (n : Nat) (s : State) : (clearanceUpdate n s).sup.pulseTimer = s.sup.pulseTimer := by
  unfold clearanceUpdate; dsimp only; rw [deriveDemands_sup_pulseTimer]; (repeat' split) <;> first | rfl | (rw [foldl_keeps (fun t : State => t.sup.pulseTimer) _ (fun t a => by simp)]; done) | (rw [foldl_keeps (fun t : State => t.sup.pulseTimer) _ (fun t a => by simp)]; simp)
@[simp] theorem setClosureState_pending (q : Bool) (st : ClosureState) (s : State) : (setClosureState q st s).pending = s.pending := by
  unfold setClosureState; dsimp only; (repeat' split) <;> first | with_reducible rfl | simp
@[simp] theorem setClosureState_freeCount (q : Bool) (st : ClosureState) (s : State) : (setClosureState q st s).freeCount = s.freeCount := by
  unfold setClosureState; dsimp only; (repeat' split) <;> first | with_reducible rfl | simp
@[simp] theorem setClosureState_pins (q : Bool) (st : ClosureState) (s : State) : (setClosureState q st s).pins = s.pins := by
  unfold setClosureState; dsimp only; (repeat' split) <;> first | with_reducible rfl | simp
@[simp] theorem setClosureState_reg (q : Bool) (st : ClosureState) (s : State) : (setClosureState q st s).reg = s.reg := by
  unfold setClosureState; dsimp only; (repeat' split) <;> first | with_reducible rfl | simp
@[simp] theorem setClosureState_seq (q : Bool) (st : ClosureState) (s : State) : (setClosureState q st s).seq = s.seq := by
  unfold setClosureState; dsimp only; (repeat' split) <;> first | with_reducible rfl | simp
@[simp] theorem setClosureState_leaf (q : Bool) (st : ClosureState) (s : State) : (setClosureState q st s).leaf = s.leaf := by
  unfold setClosureState; dsimp only; (repeat' split) <;> first | with_reducible rfl | simp
@[simp] theorem setClosureState_arms (q : Bool) (st : ClosureState) (s : State) : (setClosureState q st s).arms = s.arms := by
  unfold setClosureState; dsimp only; (repeat' split) <;> first | with_reducible rfl | simp
@[simp] theorem setClosureState_zones (q : Bool) (st : ClosureState) (s : State) : (setClosureState q st s).zones = s.zones := by
  unfold setClosureState; dsimp only; (repeat' split) <;> first | with_reducible rfl | simp
@[simp] theorem setClosureState_loop (q : Bool) (st : ClosureState) (s : State) : (setClosureState q st s).loop = s.loop := by
  unfold setClosureState; dsimp only; (repeat' split) <;> first | with_reducible rfl | simp
@[simp] theorem setClosureState_stations (q : Bool) (st : ClosureState) (s : State) : (setClosureState q st s).stations = s.stations := by
  unfold setClosureState; dsimp only; (repeat' split) <;> first | with_reducible rfl | simp
@[simp] theorem setClosureState_store (q : Bool) (st : ClosureState) (s : State) : (setClosureState q st s).store = s.store := by
  unfold setClosureState; dsimp only; (repeat' split) <;> first | with_reducible rfl | simp
@[simp] theorem setClosureState_cfg (q : Bool) (st : ClosureState) (s : State) : (setClosureState q st s).cfg = s.cfg := by
  unfold setClosureState; dsimp only; (repeat' split) <;> first | with_reducible rfl | simp
@[simp] theorem setClosureState_sup_mode (q : Bool) (st : ClosureState) (s : State) : (setClosureState q st s).sup.mode = s.sup.mode := by
  unfold setClosureState; dsimp only; (repeat' split) <;> first | with_reducible rfl | simp
@[simp] theorem setClosureState_sup_watchdog (q : Bool) (st : ClosureState) (s : State) : (setClosureState q st s).sup.watchdog = s.sup.watchdog := by
  unfold setClosureState; dsimp only; (repeat' split) <;> first | with_reducible rfl | simp
@[simp] theorem setClosureState_sup_groupTripped (q : Bool) (st : ClosureState) (s : State) : (setClosureState q st s).sup.groupTripped = s.sup.groupTripped := by
  unfold setClosureState; dsimp only; (repeat' split) <;> first | with_reducible rfl | simp
@[simp] theorem setClosureState_sup_dark (q : Bool) (st : ClosureState) (s : State) : (setClosureState q st s).sup.dark = s.sup.dark := by
  unfold setClosureState; dsimp only; (repeat' split) <;> first | with_reducible rfl | simp
@[simp] theorem setClosureState_sup_pulseTimer (q : Bool) (st : ClosureState) (s : State) : (setClosureState q st s).sup.pulseTimer = s.sup.pulseTimer := by
  unfold setClosureState; dsimp only; (repeat' split) <;> first | with_reducible rfl | simp
@[simp] theorem holdWith_pending (c : HeldCause) (st : ClosureState) (s : State) : (holdWith c st s).pending = s.pending := by
  unfold holdWith; simp
@[simp] theorem holdWith_freeCount (c : HeldCause) (st : ClosureState) (s : State) : (holdWith c st s).freeCount = s.freeCount := by
  unfold holdWith; simp
@[simp] theorem holdWith_pins (c : HeldCause) (st : ClosureState) (s : State) : (holdWith c st s).pins = s.pins := by
  unfold holdWith; simp
@[simp] theorem holdWith_reg (c : HeldCause) (st : ClosureState) (s : State) : (holdWith c st s).reg = s.reg := by
  unfold holdWith; simp
@[simp] theorem holdWith_seq (c : HeldCause) (st : ClosureState) (s : State) : (holdWith c st s).seq = s.seq := by
  unfold holdWith; simp
@[simp] theorem holdWith_leaf (c : HeldCause) (st : ClosureState) (s : State) : (holdWith c st s).leaf = s.leaf := by
  unfold holdWith; simp
@[simp] theorem holdWith_zones (c : HeldCause) (st : ClosureState) (s : State) : (holdWith c st s).zones = s.zones := by
  unfold holdWith; simp
@[simp] theorem holdWith_loop (c : HeldCause) (st : ClosureState) (s : State) : (holdWith c st s).loop = s.loop := by
  unfold holdWith; simp
@[simp] theorem holdWith_stations (c : HeldCause) (st : ClosureState) (s : State) : (holdWith c st s).stations = s.stations := by
  unfold holdWith; simp
@[simp] theorem holdWith_store (c : HeldCause) (st : ClosureState) (s : State) : (holdWith c st s).store = s.store := by
  unfold holdWith; simp
@[simp] theorem holdWith_cfg (c : HeldCause) (st : ClosureState) (s : State) : (holdWith c st s).cfg = s.cfg := by
  unfold holdWith; simp
@[simp] theorem holdWith_sup_mode (c : HeldCause) (st : ClosureState) (s : State) : (holdWith c st s).sup.mode = s.sup.mode := by
  unfold holdWith; simp
@[simp] theorem holdWith_sup_watchdog (c : HeldCause) (st : ClosureState) (s : State) : (holdWith c st s).sup.watchdog = s.sup.watchdog := by
  unfold holdWith; simp
@[simp] theorem holdWith_sup_groupTripped (c : HeldCause) (st : ClosureState) (s : State) : (holdWith c st s).sup.groupTripped = s.sup.groupTripped := by
  unfold holdWith; simp
@[simp] theorem holdWith_sup_dark (c : HeldCause) (st : ClosureState) (s : State) : (holdWith c st s).sup.dark = s.sup.dark := by
  unfold holdWith; simp
@[simp] theorem holdWith_sup_pulseTimer (c : HeldCause) (st : ClosureState) (s : State) : (holdWith c st s).sup.pulseTimer = s.sup.pulseTimer := by
  unfold holdWith; simp
@[simp] theorem holdClosure_pending (c : HeldCause) (s : State) : (holdClosure c s).pending = s.pending := by
  unfold holdClosure; (repeat' split) <;> first | with_reducible rfl | simp
@[simp] theorem holdClosure_freeCount (c : HeldCause) (s : State) : (holdClosure c s).freeCount = s.freeCount := by
  unfold holdClosure; (repeat' split) <;> first | with_reducible rfl | simp
@[simp] theorem holdClosure_pins (c : HeldCause) (s : State) : (holdClosure c s).pins = s.pins := by
  unfold holdClosure; (repeat' split) <;> first | with_reducible rfl | simp
@[simp] theorem holdClosure_reg (c : HeldCause) (s : State) : (holdClosure c s).reg = s.reg := by
  unfold holdClosure; (repeat' split) <;> first | with_reducible rfl | simp
@[simp] theorem holdClosure_seq (c : HeldCause) (s : State) : (holdClosure c s).seq = s.seq := by
  unfold holdClosure; (repeat' split) <;> first | with_reducible rfl | simp
@[simp] theorem holdClosure_leaf (c : HeldCause) (s : State) : (holdClosure c s).leaf = s.leaf := by
  unfold holdClosure; (repeat' split) <;> first | with_reducible rfl | simp
@[simp] theorem holdClosure_zones (c : HeldCause) (s : State) : (holdClosure c s).zones = s.zones := by
  unfold holdClosure; (repeat' split) <;> first | with_reducible rfl | simp
@[simp] theorem holdClosure_loop (c : HeldCause) (s : State) : (holdClosure c s).loop = s.loop := by
  unfold holdClosure; (repeat' split) <;> first | with_reducible rfl | simp
@[simp] theorem holdClosure_stations (c : HeldCause) (s : State) : (holdClosure c s).stations = s.stations := by
  unfold holdClosure; (repeat' split) <;> first | with_reducible rfl | simp
@[simp] theorem holdClosure_store (c : HeldCause) (s : State) : (holdClosure c s).store = s.store := by
  unfold holdClosure; (repeat' split) <;> first | with_reducible rfl | simp
@[simp] theorem holdClosure_cfg (c : HeldCause) (s : State) : (holdClosure c s).cfg = s.cfg := by
  unfold holdClosure; (repeat' split) <;> first | with_reducible rfl | simp
@[simp] theorem holdClosure_sup_mode (c : HeldCause) (s : State) : (holdClosure c s).sup.mode = s.sup.mode := by
  unfold holdClosure; (repeat' split) <;> first | with_reducible rfl | simp
@[simp] theorem holdClosure_sup_watchdog (c : HeldCause) (s : State) : (holdClosure c s).sup.watchdog = s.sup.watchdog := by
  unfold holdClosure; (repeat' split) <;> first | with_reducible rfl | simp
@[simp] theorem holdClosure_sup_groupTripped (c : HeldCause) (s : State) : (holdClosure c s).sup.groupTripped = s.sup.groupTripped := by
  unfold holdClosure; (repeat' split) <;> first | with_reducible rfl | simp
@[simp] theorem holdClosure_sup_dark (c : HeldCause) (s : State) : (holdClosure c s).sup.dark = s.sup.dark := by
  unfold holdClosure; (repeat' split) <;> first | with_reducible rfl | simp
@[simp] theorem holdClosure_sup_pulseTimer (c : HeldCause) (s : State) : (holdClosure c s).sup.pulseTimer = s.sup.pulseTimer := by
  unfold holdClosure; (repeat' split) <;> first | with_reducible rfl | simp
@[simp] theorem setDegraded_pending (s : State) : (setDegraded s).pending = s.pending := by
  unfold setDegraded; dsimp only; (repeat' split) <;> first | with_reducible rfl | simp
@[simp] theorem setDegraded_freeCount (s : State) : (setDegraded s).freeCount = s.freeCount := by
  unfold setDegraded; dsimp only; (repeat' split) <;> first | with_reducible rfl | simp
@[simp] theorem setDegraded_pins (s : State) : (setDegraded s).pins = s.pins := by
  unfold setDegraded; dsimp only; (repeat' split) <;> first | with_reducible rfl | simp
@[simp] theorem setDegraded_reg (s : State) : (setDegraded s).reg = s.reg := by
  unfold setDegraded; dsimp only; (repeat' split) <;> first | with_reducible rfl | simp
@[simp] theorem setDegraded_seq (s : State) : (setDegraded s).seq = s.seq := by
  unfold setDegraded; dsimp only; (repeat' split) <;> first | with_reducible rfl | simp
@[simp] theorem setDegraded_leaf (s : State) : (setDegraded s).leaf = s.leaf := by
  unfold setDegraded; dsimp only; (repeat' split) <;> first | with_reducible rfl | simp
@[simp] theorem setDegraded_arms (s : State) : (setDegraded s).arms = s.arms := by
  unfold setDegraded; dsimp only; (repeat' split) <;> first | with_reducible rfl | simp
@[simp] theorem setDegraded_zones (s : State) : (setDegraded s).zones = s.zones := by
  unfold setDegraded; dsimp only; (repeat' split) <;> first | with_reducible rfl | simp
@[simp] theorem setDegraded_loop (s : State) : (setDegraded s).loop = s.loop := by
  unfold setDegraded; dsimp only; (repeat' split) <;> first | with_reducible rfl | simp
@[simp] theorem setDegraded_stations (s : State) : (setDegraded s).stations = s.stations := by
  unfold setDegraded; dsimp only; (repeat' split) <;> first | with_reducible rfl | simp
@[simp] theorem setDegraded_lamp (s : State) : (setDegraded s).lamp = s.lamp := by
  unfold setDegraded; dsimp only; (repeat' split) <;> first | with_reducible rfl | simp
@[simp] theorem setDegraded_display (s : State) : (setDegraded s).display = s.display := by
  unfold setDegraded; dsimp only; (repeat' split) <;> first | with_reducible rfl | simp
@[simp] theorem setDegraded_sup (s : State) : (setDegraded s).sup = s.sup := by
  unfold setDegraded; dsimp only; (repeat' split) <;> first | with_reducible rfl | simp
@[simp] theorem setDegraded_store (s : State) : (setDegraded s).store = s.store := by
  unfold setDegraded; dsimp only; (repeat' split) <;> first | with_reducible rfl | simp
@[simp] theorem setDegraded_cfg (s : State) : (setDegraded s).cfg = s.cfg := by
  unfold setDegraded; dsimp only; (repeat' split) <;> first | with_reducible rfl | simp
@[simp] theorem setDegraded_closure_state (s : State) : (setDegraded s).closure.state = s.closure.state := by
  unfold setDegraded; dsimp only; (repeat' split) <;> first | with_reducible rfl | simp
@[simp] theorem armFault_pending (c : HeldCause) (s : State) : (armFault c s).pending = s.pending := by
  unfold armFault; (repeat' split) <;> first | with_reducible rfl | simp
@[simp] theorem armFault_freeCount (c : HeldCause) (s : State) : (armFault c s).freeCount = s.freeCount := by
  unfold armFault; (repeat' split) <;> first | with_reducible rfl | simp
@[simp] theorem armFault_pins (c : HeldCause) (s : State) : (armFault c s).pins = s.pins := by
  unfold armFault; (repeat' split) <;> first | with_reducible rfl | simp
@[simp] theorem armFault_reg (c : HeldCause) (s : State) : (armFault c s).reg = s.reg := by
  unfold armFault; (repeat' split) <;> first | with_reducible rfl | simp
@[simp] theorem armFault_seq (c : HeldCause) (s : State) : (armFault c s).seq = s.seq := by
  unfold armFault; (repeat' split) <;> first | with_reducible rfl | simp
@[simp] theorem armFault_leaf (c : HeldCause) (s : State) : (armFault c s).leaf = s.leaf := by
  unfold armFault; (repeat' split) <;> first | with_reducible rfl | simp
@[simp] theorem armFault_zones (c : HeldCause) (s : State) : (armFault c s).zones = s.zones := by
  unfold armFault; (repeat' split) <;> first | with_reducible rfl | simp
@[simp] theorem armFault_loop (c : HeldCause) (s : State) : (armFault c s).loop = s.loop := by
  unfold armFault; (repeat' split) <;> first | with_reducible rfl | simp
@[simp] theorem armFault_stations (c : HeldCause) (s : State) : (armFault c s).stations = s.stations := by
  unfold armFault; (repeat' split) <;> first | with_reducible rfl | simp
@[simp] theorem armFault_store (c : HeldCause) (s : State) : (armFault c s).store = s.store := by
  unfold armFault; (repeat' split) <;> first | with_reducible rfl | simp
@[simp] theorem armFault_cfg (c : HeldCause) (s : State) : (armFault c s).cfg = s.cfg := by
  unfold armFault; (repeat' split) <;> first | with_reducible rfl | simp
@[simp] theorem armFault_sup_mode (c : HeldCause) (s : State) : (armFault c s).sup.mode = s.sup.mode := by
  unfold armFault; (repeat' split) <;> first | with_reducible rfl | simp
@[simp] theorem armFault_sup_watchdog (c : HeldCause) (s : State) : (armFault c s).sup.watchdog = s.sup.watchdog := by
  unfold armFault; (repeat' split) <;> first | with_reducible rfl | simp
@[simp] theorem armFault_sup_groupTripped (c : HeldCause) (s : State) : (armFault c s).sup.groupTripped = s.sup.groupTripped := by
  unfold armFault; (repeat' split) <;> first | with_reducible rfl | simp
@[simp] theorem armFault_sup_dark (c : HeldCause) (s : State) : (armFault c s).sup.dark = s.sup.dark := by
  unfold armFault; (repeat' split) <;> first | with_reducible rfl | simp
@[simp] theorem armFault_sup_pulseTimer (c : HeldCause) (s : State) : (armFault c s).sup.pulseTimer = s.sup.pulseTimer := by
  unfold armFault; (repeat' split) <;> first | with_reducible rfl | simp
@[simp] theorem latchArm_pending (k : ArmLatch) (a : ArmId) (s : State) : (latchArm k a s).pending = s.pending := by
  unfold latchArm; (repeat' split) <;> first | with_reducible rfl | simp
@[simp] theorem latchArm_freeCount (k : ArmLatch) (a : ArmId) (s : State) : (latchArm k a s).freeCount = s.freeCount := by
  unfold latchArm; (repeat' split) <;> first | with_reducible rfl | simp
@[simp] theorem latchArm_pins (k : ArmLatch) (a : ArmId) (s : State) : (latchArm k a s).pins = s.pins := by
  unfold latchArm; (repeat' split) <;> first | with_reducible rfl | simp
@[simp] theorem latchArm_reg (k : ArmLatch) (a : ArmId) (s : State) : (latchArm k a s).reg = s.reg := by
  unfold latchArm; (repeat' split) <;> first | with_reducible rfl | simp
@[simp] theorem latchArm_seq (k : ArmLatch) (a : ArmId) (s : State) : (latchArm k a s).seq = s.seq := by
  unfold latchArm; (repeat' split) <;> first | with_reducible rfl | simp
@[simp] theorem latchArm_leaf (k : ArmLatch) (a : ArmId) (s : State) : (latchArm k a s).leaf = s.leaf := by
  unfold latchArm; (repeat' split) <;> first | with_reducible rfl | simp
@[simp] theorem latchArm_closure (k : ArmLatch) (a : ArmId) (s : State) : (latchArm k a s).closure = s.closure := by
  unfold latchArm; (repeat' split) <;> first | with_reducible rfl | simp
@[simp] theorem latchArm_zones (k : ArmLatch) (a : ArmId) (s : State) : (latchArm k a s).zones = s.zones := by
  unfold latchArm; (repeat' split) <;> first | with_reducible rfl | simp
@[simp] theorem latchArm_loop (k : ArmLatch) (a : ArmId) (s : State) : (latchArm k a s).loop = s.loop := by
  unfold latchArm; (repeat' split) <;> first | with_reducible rfl | simp
@[simp] theorem latchArm_stations (k : ArmLatch) (a : ArmId) (s : State) : (latchArm k a s).stations = s.stations := by
  unfold latchArm; (repeat' split) <;> first | with_reducible rfl | simp
@[simp] theorem latchArm_lamp (k : ArmLatch) (a : ArmId) (s : State) : (latchArm k a s).lamp = s.lamp := by
  unfold latchArm; (repeat' split) <;> first | with_reducible rfl | simp
@[simp] theorem latchArm_display (k : ArmLatch) (a : ArmId) (s : State) : (latchArm k a s).display = s.display := by
  unfold latchArm; (repeat' split) <;> first | with_reducible rfl | simp
@[simp] theorem latchArm_sup (k : ArmLatch) (a : ArmId) (s : State) : (latchArm k a s).sup = s.sup := by
  unfold latchArm; (repeat' split) <;> first | with_reducible rfl | simp
@[simp] theorem latchArm_store (k : ArmLatch) (a : ArmId) (s : State) : (latchArm k a s).store = s.store := by
  unfold latchArm; (repeat' split) <;> first | with_reducible rfl | simp
@[simp] theorem latchArm_cfg (k : ArmLatch) (a : ArmId) (s : State) : (latchArm k a s).cfg = s.cfg := by
  unfold latchArm; (repeat' split) <;> first | with_reducible rfl | simp
@[simp] theorem commandArm_pending (p : ArmPosition) (a : ArmId) (s : State) : (commandArm p a s).pending = s.pending := by
  unfold commandArm; (repeat' split) <;> first | with_reducible rfl | simp
@[simp] theorem commandArm_freeCount (p : ArmPosition) (a : ArmId) (s : State) : (commandArm p a s).freeCount = s.freeCount := by
  unfold commandArm; (repeat' split) <;> first | with_reducible rfl | simp
@[simp] theorem commandArm_pins (p : ArmPosition) (a : ArmId) (s : State) : (commandArm p a s).pins = s.pins := by
  unfold commandArm; (repeat' split) <;> first | with_reducible rfl | simp
@[simp] theorem commandArm_links (p : ArmPosition) (a : ArmId) (s : State) : (commandArm p a s).links = s.links := by
  unfold commandArm; (repeat' split) <;> first | with_reducible rfl | simp
@[simp] theorem commandArm_reg (p : ArmPosition) (a : ArmId) (s : State) : (commandArm p a s).reg = s.reg := by
  unfold commandArm; (repeat' split) <;> first | with_reducible rfl | simp
@[simp] theorem commandArm_seq (p : ArmPosition) (a : ArmId) (s : State) : (commandArm p a s).seq = s.seq := by
  unfold commandArm; (repeat' split) <;> first | with_reducible rfl | simp
@[simp] theorem commandArm_leaf (p : ArmPosition) (a : ArmId) (s : State) : (commandArm p a s).leaf = s.leaf := by
  unfold commandArm; (repeat' split) <;> first | with_reducible rfl | simp
@[simp] theorem commandArm_closure (p : ArmPosition) (a : ArmId) (s : State) : (commandArm p a s).closure = s.closure := by
  unfold commandArm; (repeat' split) <;> first | with_reducible rfl | simp
@[simp] theorem commandArm_zones (p : ArmPosition) (a : ArmId) (s : State) : (commandArm p a s).zones = s.zones := by
  unfold commandArm; (repeat' split) <;> first | with_reducible rfl | simp
@[simp] theorem commandArm_loop (p : ArmPosition) (a : ArmId) (s : State) : (commandArm p a s).loop = s.loop := by
  unfold commandArm; (repeat' split) <;> first | with_reducible rfl | simp
@[simp] theorem commandArm_lamp (p : ArmPosition) (a : ArmId) (s : State) : (commandArm p a s).lamp = s.lamp := by
  unfold commandArm; (repeat' split) <;> first | with_reducible rfl | simp
@[simp] theorem commandArm_display (p : ArmPosition) (a : ArmId) (s : State) : (commandArm p a s).display = s.display := by
  unfold commandArm; (repeat' split) <;> first | with_reducible rfl | simp
@[simp] theorem commandArm_sup (p : ArmPosition) (a : ArmId) (s : State) : (commandArm p a s).sup = s.sup := by
  unfold commandArm; (repeat' split) <;> first | with_reducible rfl | simp
@[simp] theorem commandArm_store (p : ArmPosition) (a : ArmId) (s : State) : (commandArm p a s).store = s.store := by
  unfold commandArm; (repeat' split) <;> first | with_reducible rfl | simp
@[simp] theorem commandArm_cfg (p : ArmPosition) (a : ArmId) (s : State) : (commandArm p a s).cfg = s.cfg := by
  unfold commandArm; (repeat' split) <;> first | with_reducible rfl | simp
@[simp] theorem commandEach_pending (p : ArmPosition) (l : List ArmId) (s : State) : (commandEach p l s).pending = s.pending := by
  exact foldl_keeps (fun t : State => t.pending) _ (fun t a => by by_cases h : (t.arm a).inService = true <;> simp [h]) _ _
@[simp] theorem commandEach_freeCount (p : ArmPosition) (l : List ArmId) (s : State) : (commandEach p l s).freeCount = s.freeCount := by
  exact foldl_keeps (fun t : State => t.freeCount) _ (fun t a => by by_cases h : (t.arm a).inService = true <;> simp [h]) _ _
@[simp] theorem commandEach_pins (p : ArmPosition) (l : List ArmId) (s : State) : (commandEach p l s).pins = s.pins := by
  exact foldl_keeps (fun t : State => t.pins) _ (fun t a => by by_cases h : (t.arm a).inService = true <;> simp [h]) _ _
@[simp] theorem commandEach_links (p : ArmPosition) (l : List ArmId) (s : State) : (commandEach p l s).links = s.links := by
  exact foldl_keeps (fun t : State => t.links) _ (fun t a => by by_cases h : (t.arm a).inService = true <;> simp [h]) _ _
@[simp] theorem commandEach_reg (p : ArmPosition) (l : List ArmId) (s : State) : (commandEach p l s).reg = s.reg := by
  exact foldl_keeps (fun t : State => t.reg) _ (fun t a => by by_cases h : (t.arm a).inService = true <;> simp [h]) _ _
@[simp] theorem commandEach_seq (p : ArmPosition) (l : List ArmId) (s : State) : (commandEach p l s).seq = s.seq := by
  exact foldl_keeps (fun t : State => t.seq) _ (fun t a => by by_cases h : (t.arm a).inService = true <;> simp [h]) _ _
@[simp] theorem commandEach_leaf (p : ArmPosition) (l : List ArmId) (s : State) : (commandEach p l s).leaf = s.leaf := by
  exact foldl_keeps (fun t : State => t.leaf) _ (fun t a => by by_cases h : (t.arm a).inService = true <;> simp [h]) _ _
@[simp] theorem commandEach_closure (p : ArmPosition) (l : List ArmId) (s : State) : (commandEach p l s).closure = s.closure := by
  exact foldl_keeps (fun t : State => t.closure) _ (fun t a => by by_cases h : (t.arm a).inService = true <;> simp [h]) _ _
@[simp] theorem commandEach_zones (p : ArmPosition) (l : List ArmId) (s : State) : (commandEach p l s).zones = s.zones := by
  exact foldl_keeps (fun t : State => t.zones) _ (fun t a => by by_cases h : (t.arm a).inService = true <;> simp [h]) _ _
@[simp] theorem commandEach_loop (p : ArmPosition) (l : List ArmId) (s : State) : (commandEach p l s).loop = s.loop := by
  exact foldl_keeps (fun t : State => t.loop) _ (fun t a => by by_cases h : (t.arm a).inService = true <;> simp [h]) _ _
@[simp] theorem commandEach_lamp (p : ArmPosition) (l : List ArmId) (s : State) : (commandEach p l s).lamp = s.lamp := by
  exact foldl_keeps (fun t : State => t.lamp) _ (fun t a => by by_cases h : (t.arm a).inService = true <;> simp [h]) _ _
@[simp] theorem commandEach_display (p : ArmPosition) (l : List ArmId) (s : State) : (commandEach p l s).display = s.display := by
  exact foldl_keeps (fun t : State => t.display) _ (fun t a => by by_cases h : (t.arm a).inService = true <;> simp [h]) _ _
@[simp] theorem commandEach_sup (p : ArmPosition) (l : List ArmId) (s : State) : (commandEach p l s).sup = s.sup := by
  exact foldl_keeps (fun t : State => t.sup) _ (fun t a => by by_cases h : (t.arm a).inService = true <;> simp [h]) _ _
@[simp] theorem commandEach_store (p : ArmPosition) (l : List ArmId) (s : State) : (commandEach p l s).store = s.store := by
  exact foldl_keeps (fun t : State => t.store) _ (fun t a => by by_cases h : (t.arm a).inService = true <;> simp [h]) _ _
@[simp] theorem commandEach_cfg (p : ArmPosition) (l : List ArmId) (s : State) : (commandEach p l s).cfg = s.cfg := by
  exact foldl_keeps (fun t : State => t.cfg) _ (fun t a => by by_cases h : (t.arm a).inService = true <;> simp [h]) _ _
@[simp] theorem standingCheck_pending (s : State) : (standingCheck s).pending = s.pending := by
  have e : ∀ k (l : List ArmId) (t : State), (l.foldl (fun t a => latchArm k a t) t).pending = t.pending := fun k l t => foldl_keeps (fun t : State => t.pending) _ (fun t a => by simp) _ _
  unfold standingCheck; dsimp only; (repeat' split) <;> simp [e]
@[simp] theorem standingCheck_pins (s : State) : (standingCheck s).pins = s.pins := by
  have e : ∀ k (l : List ArmId) (t : State), (l.foldl (fun t a => latchArm k a t) t).pins = t.pins := fun k l t => foldl_keeps (fun t : State => t.pins) _ (fun t a => by simp) _ _
  unfold standingCheck; dsimp only; (repeat' split) <;> simp [e]
@[simp] theorem standingCheck_reg (s : State) : (standingCheck s).reg = s.reg := by
  have e : ∀ k (l : List ArmId) (t : State), (l.foldl (fun t a => latchArm k a t) t).reg = t.reg := fun k l t => foldl_keeps (fun t : State => t.reg) _ (fun t a => by simp) _ _
  unfold standingCheck; dsimp only; (repeat' split) <;> simp [e]
@[simp] theorem standingCheck_seq (s : State) : (standingCheck s).seq = s.seq := by
  have e : ∀ k (l : List ArmId) (t : State), (l.foldl (fun t a => latchArm k a t) t).seq = t.seq := fun k l t => foldl_keeps (fun t : State => t.seq) _ (fun t a => by simp) _ _
  unfold standingCheck; dsimp only; (repeat' split) <;> simp [e]
@[simp] theorem standingCheck_leaf (s : State) : (standingCheck s).leaf = s.leaf := by
  have e : ∀ k (l : List ArmId) (t : State), (l.foldl (fun t a => latchArm k a t) t).leaf = t.leaf := fun k l t => foldl_keeps (fun t : State => t.leaf) _ (fun t a => by simp) _ _
  unfold standingCheck; dsimp only; (repeat' split) <;> simp [e]
@[simp] theorem standingCheck_zones (s : State) : (standingCheck s).zones = s.zones := by
  have e : ∀ k (l : List ArmId) (t : State), (l.foldl (fun t a => latchArm k a t) t).zones = t.zones := fun k l t => foldl_keeps (fun t : State => t.zones) _ (fun t a => by simp) _ _
  unfold standingCheck; dsimp only; (repeat' split) <;> simp [e]
@[simp] theorem standingCheck_loop (s : State) : (standingCheck s).loop = s.loop := by
  have e : ∀ k (l : List ArmId) (t : State), (l.foldl (fun t a => latchArm k a t) t).loop = t.loop := fun k l t => foldl_keeps (fun t : State => t.loop) _ (fun t a => by simp) _ _
  unfold standingCheck; dsimp only; (repeat' split) <;> simp [e]
@[simp] theorem standingCheck_stations (s : State) : (standingCheck s).stations = s.stations := by
  have e : ∀ k (l : List ArmId) (t : State), (l.foldl (fun t a => latchArm k a t) t).stations = t.stations := fun k l t => foldl_keeps (fun t : State => t.stations) _ (fun t a => by simp) _ _
  unfold standingCheck; dsimp only; (repeat' split) <;> simp [e]
@[simp] theorem standingCheck_store (s : State) : (standingCheck s).store = s.store := by
  have e : ∀ k (l : List ArmId) (t : State), (l.foldl (fun t a => latchArm k a t) t).store = t.store := fun k l t => foldl_keeps (fun t : State => t.store) _ (fun t a => by simp) _ _
  unfold standingCheck; dsimp only; (repeat' split) <;> simp [e]
@[simp] theorem standingCheck_cfg (s : State) : (standingCheck s).cfg = s.cfg := by
  have e : ∀ k (l : List ArmId) (t : State), (l.foldl (fun t a => latchArm k a t) t).cfg = t.cfg := fun k l t => foldl_keeps (fun t : State => t.cfg) _ (fun t a => by simp) _ _
  unfold standingCheck; dsimp only; (repeat' split) <;> simp [e]
@[simp] theorem standingCheck_sup_mode (s : State) : (standingCheck s).sup.mode = s.sup.mode := by
  have e : ∀ k (l : List ArmId) (t : State), (l.foldl (fun t a => latchArm k a t) t).sup.mode = t.sup.mode := fun k l t => foldl_keeps (fun t : State => t.sup.mode) _ (fun t a => by simp) _ _
  unfold standingCheck; dsimp only; (repeat' split) <;> simp [e]
@[simp] theorem standingCheck_sup_watchdog (s : State) : (standingCheck s).sup.watchdog = s.sup.watchdog := by
  have e : ∀ k (l : List ArmId) (t : State), (l.foldl (fun t a => latchArm k a t) t).sup.watchdog = t.sup.watchdog := fun k l t => foldl_keeps (fun t : State => t.sup.watchdog) _ (fun t a => by simp) _ _
  unfold standingCheck; dsimp only; (repeat' split) <;> simp [e]
@[simp] theorem standingCheck_sup_groupTripped (s : State) : (standingCheck s).sup.groupTripped = s.sup.groupTripped := by
  have e : ∀ k (l : List ArmId) (t : State), (l.foldl (fun t a => latchArm k a t) t).sup.groupTripped = t.sup.groupTripped := fun k l t => foldl_keeps (fun t : State => t.sup.groupTripped) _ (fun t a => by simp) _ _
  unfold standingCheck; dsimp only; (repeat' split) <;> simp [e]
@[simp] theorem standingCheck_sup_dark (s : State) : (standingCheck s).sup.dark = s.sup.dark := by
  have e : ∀ k (l : List ArmId) (t : State), (l.foldl (fun t a => latchArm k a t) t).sup.dark = t.sup.dark := fun k l t => foldl_keeps (fun t : State => t.sup.dark) _ (fun t a => by simp) _ _
  unfold standingCheck; dsimp only; (repeat' split) <;> simp [e]
@[simp] theorem standingCheck_sup_pulseTimer (s : State) : (standingCheck s).sup.pulseTimer = s.sup.pulseTimer := by
  have e : ∀ k (l : List ArmId) (t : State), (l.foldl (fun t a => latchArm k a t) t).sup.pulseTimer = t.sup.pulseTimer := fun k l t => foldl_keeps (fun t : State => t.sup.pulseTimer) _ (fun t a => by simp) _ _
  unfold standingCheck; dsimp only; (repeat' split) <;> simp [e]
@[simp] theorem roadOpenReport_pending (s : State) : (roadOpenReport s).pending = s.pending := by
  unfold roadOpenReport; (repeat' split) <;> first | with_reducible rfl | simp
@[simp] theorem roadOpenReport_freeCount (s : State) : (roadOpenReport s).freeCount = s.freeCount := by
  unfold roadOpenReport; (repeat' split) <;> first | with_reducible rfl | simp
@[simp] theorem roadOpenReport_pins (s : State) : (roadOpenReport s).pins = s.pins := by
  unfold roadOpenReport; (repeat' split) <;> first | with_reducible rfl | simp
@[simp] theorem roadOpenReport_reg (s : State) : (roadOpenReport s).reg = s.reg := by
  unfold roadOpenReport; (repeat' split) <;> first | with_reducible rfl | simp
@[simp] theorem roadOpenReport_leaf (s : State) : (roadOpenReport s).leaf = s.leaf := by
  unfold roadOpenReport; (repeat' split) <;> first | with_reducible rfl | simp
@[simp] theorem roadOpenReport_closure (s : State) : (roadOpenReport s).closure = s.closure := by
  unfold roadOpenReport; (repeat' split) <;> first | with_reducible rfl | simp
@[simp] theorem roadOpenReport_arms (s : State) : (roadOpenReport s).arms = s.arms := by
  unfold roadOpenReport; (repeat' split) <;> first | with_reducible rfl | simp
@[simp] theorem roadOpenReport_zones (s : State) : (roadOpenReport s).zones = s.zones := by
  unfold roadOpenReport; (repeat' split) <;> first | with_reducible rfl | simp
@[simp] theorem roadOpenReport_loop (s : State) : (roadOpenReport s).loop = s.loop := by
  unfold roadOpenReport; (repeat' split) <;> first | with_reducible rfl | simp
@[simp] theorem roadOpenReport_stations (s : State) : (roadOpenReport s).stations = s.stations := by
  unfold roadOpenReport; (repeat' split) <;> first | with_reducible rfl | simp
@[simp] theorem roadOpenReport_store (s : State) : (roadOpenReport s).store = s.store := by
  unfold roadOpenReport; (repeat' split) <;> first | with_reducible rfl | simp
@[simp] theorem roadOpenReport_cfg (s : State) : (roadOpenReport s).cfg = s.cfg := by
  unfold roadOpenReport; (repeat' split) <;> first | with_reducible rfl | simp
@[simp] theorem roadOpenReport_seq_clearance (s : State) : (roadOpenReport s).seq.clearance = s.seq.clearance := by
  unfold roadOpenReport; (repeat' split) <;> first | with_reducible rfl | simp
@[simp] theorem roadOpenReport_sup_mode (s : State) : (roadOpenReport s).sup.mode = s.sup.mode := by
  unfold roadOpenReport; (repeat' split) <;> first | with_reducible rfl | simp
@[simp] theorem roadOpenReport_sup_watchdog (s : State) : (roadOpenReport s).sup.watchdog = s.sup.watchdog := by
  unfold roadOpenReport; (repeat' split) <;> first | with_reducible rfl | simp
@[simp] theorem roadOpenReport_sup_groupTripped (s : State) : (roadOpenReport s).sup.groupTripped = s.sup.groupTripped := by
  unfold roadOpenReport; (repeat' split) <;> first | with_reducible rfl | simp
@[simp] theorem roadOpenReport_sup_closureHeld (s : State) : (roadOpenReport s).sup.closureHeld = s.sup.closureHeld := by
  unfold roadOpenReport; (repeat' split) <;> first | with_reducible rfl | simp
@[simp] theorem roadOpenReport_sup_pulseTimer (s : State) : (roadOpenReport s).sup.pulseTimer = s.sup.pulseTimer := by
  unfold roadOpenReport; (repeat' split) <;> first | with_reducible rfl | simp
@[simp] theorem enterRoadOpen_pending (q : Bool) (s : State) : (enterRoadOpen q s).pending = s.pending := by
  unfold enterRoadOpen; simp
@[simp] theorem enterRoadOpen_freeCount (q : Bool) (s : State) : (enterRoadOpen q s).freeCount = s.freeCount := by
  unfold enterRoadOpen; simp
@[simp] theorem enterRoadOpen_pins (q : Bool) (s : State) : (enterRoadOpen q s).pins = s.pins := by
  unfold enterRoadOpen; simp
@[simp] theorem enterRoadOpen_reg (q : Bool) (s : State) : (enterRoadOpen q s).reg = s.reg := by
  unfold enterRoadOpen; simp
@[simp] theorem enterRoadOpen_leaf (q : Bool) (s : State) : (enterRoadOpen q s).leaf = s.leaf := by
  unfold enterRoadOpen; simp
@[simp] theorem enterRoadOpen_arms (q : Bool) (s : State) : (enterRoadOpen q s).arms = s.arms := by
  unfold enterRoadOpen; simp
@[simp] theorem enterRoadOpen_zones (q : Bool) (s : State) : (enterRoadOpen q s).zones = s.zones := by
  unfold enterRoadOpen; simp
@[simp] theorem enterRoadOpen_loop (q : Bool) (s : State) : (enterRoadOpen q s).loop = s.loop := by
  unfold enterRoadOpen; simp
@[simp] theorem enterRoadOpen_stations (q : Bool) (s : State) : (enterRoadOpen q s).stations = s.stations := by
  unfold enterRoadOpen; simp
@[simp] theorem enterRoadOpen_store (q : Bool) (s : State) : (enterRoadOpen q s).store = s.store := by
  unfold enterRoadOpen; simp
@[simp] theorem enterRoadOpen_cfg (q : Bool) (s : State) : (enterRoadOpen q s).cfg = s.cfg := by
  unfold enterRoadOpen; simp
@[simp] theorem enterRoadOpen_seq_clearance (q : Bool) (s : State) : (enterRoadOpen q s).seq.clearance = s.seq.clearance := by
  unfold enterRoadOpen; simp
@[simp] theorem enterRoadOpen_sup_mode (q : Bool) (s : State) : (enterRoadOpen q s).sup.mode = s.sup.mode := by
  unfold enterRoadOpen; simp
@[simp] theorem enterRoadOpen_sup_watchdog (q : Bool) (s : State) : (enterRoadOpen q s).sup.watchdog = s.sup.watchdog := by
  unfold enterRoadOpen; simp
@[simp] theorem enterRoadOpen_sup_groupTripped (q : Bool) (s : State) : (enterRoadOpen q s).sup.groupTripped = s.sup.groupTripped := by
  unfold enterRoadOpen; simp
@[simp] theorem enterRoadOpen_sup_pulseTimer (q : Bool) (s : State) : (enterRoadOpen q s).sup.pulseTimer = s.sup.pulseTimer := by
  unfold enterRoadOpen; simp
@[simp] theorem finishReopening_pending (q : Bool) (s : State) : (finishReopening q s).pending = s.pending := by
  unfold finishReopening; (repeat' split) <;> first | with_reducible rfl | simp
@[simp] theorem finishReopening_freeCount (q : Bool) (s : State) : (finishReopening q s).freeCount = s.freeCount := by
  unfold finishReopening; (repeat' split) <;> first | with_reducible rfl | simp
@[simp] theorem finishReopening_pins (q : Bool) (s : State) : (finishReopening q s).pins = s.pins := by
  unfold finishReopening; (repeat' split) <;> first | with_reducible rfl | simp
@[simp] theorem finishReopening_reg (q : Bool) (s : State) : (finishReopening q s).reg = s.reg := by
  unfold finishReopening; (repeat' split) <;> first | with_reducible rfl | simp
@[simp] theorem finishReopening_leaf (q : Bool) (s : State) : (finishReopening q s).leaf = s.leaf := by
  unfold finishReopening; (repeat' split) <;> first | with_reducible rfl | simp
@[simp] theorem finishReopening_arms (q : Bool) (s : State) : (finishReopening q s).arms = s.arms := by
  unfold finishReopening; (repeat' split) <;> first | with_reducible rfl | simp
@[simp] theorem finishReopening_zones (q : Bool) (s : State) : (finishReopening q s).zones = s.zones := by
  unfold finishReopening; (repeat' split) <;> first | with_reducible rfl | simp
@[simp] theorem finishReopening_loop (q : Bool) (s : State) : (finishReopening q s).loop = s.loop := by
  unfold finishReopening; (repeat' split) <;> first | with_reducible rfl | simp
@[simp] theorem finishReopening_stations (q : Bool) (s : State) : (finishReopening q s).stations = s.stations := by
  unfold finishReopening; (repeat' split) <;> first | with_reducible rfl | simp
@[simp] theorem finishReopening_store (q : Bool) (s : State) : (finishReopening q s).store = s.store := by
  unfold finishReopening; (repeat' split) <;> first | with_reducible rfl | simp
@[simp] theorem finishReopening_cfg (q : Bool) (s : State) : (finishReopening q s).cfg = s.cfg := by
  unfold finishReopening; (repeat' split) <;> first | with_reducible rfl | simp
@[simp] theorem finishReopening_seq_clearance (q : Bool) (s : State) : (finishReopening q s).seq.clearance = s.seq.clearance := by
  unfold finishReopening; (repeat' split) <;> first | with_reducible rfl | simp
@[simp] theorem finishReopening_sup_mode (q : Bool) (s : State) : (finishReopening q s).sup.mode = s.sup.mode := by
  unfold finishReopening; (repeat' split) <;> first | with_reducible rfl | simp
@[simp] theorem finishReopening_sup_watchdog (q : Bool) (s : State) : (finishReopening q s).sup.watchdog = s.sup.watchdog := by
  unfold finishReopening; (repeat' split) <;> first | with_reducible rfl | simp
@[simp] theorem finishReopening_sup_groupTripped (q : Bool) (s : State) : (finishReopening q s).sup.groupTripped = s.sup.groupTripped := by
  unfold finishReopening; (repeat' split) <;> first | with_reducible rfl | simp
@[simp] theorem finishReopening_sup_pulseTimer (q : Bool) (s : State) : (finishReopening q s).sup.pulseTimer = s.sup.pulseTimer := by
  unfold finishReopening; (repeat' split) <;> first | with_reducible rfl | simp
@[simp] theorem startReopen_pending (q : Bool) (s : State) : (startReopen q s).pending = s.pending := by
  unfold startReopen; simp
@[simp] theorem startReopen_pins (q : Bool) (s : State) : (startReopen q s).pins = s.pins := by
  unfold startReopen; simp
@[simp] theorem startReopen_reg (q : Bool) (s : State) : (startReopen q s).reg = s.reg := by
  unfold startReopen; simp
@[simp] theorem startReopen_leaf (q : Bool) (s : State) : (startReopen q s).leaf = s.leaf := by
  unfold startReopen; simp
@[simp] theorem startReopen_zones (q : Bool) (s : State) : (startReopen q s).zones = s.zones := by
  unfold startReopen; simp
@[simp] theorem startReopen_loop (q : Bool) (s : State) : (startReopen q s).loop = s.loop := by
  unfold startReopen; simp
@[simp] theorem startReopen_store (q : Bool) (s : State) : (startReopen q s).store = s.store := by
  unfold startReopen; simp
@[simp] theorem startReopen_cfg (q : Bool) (s : State) : (startReopen q s).cfg = s.cfg := by
  unfold startReopen; simp
@[simp] theorem startReopen_seq_clearance (q : Bool) (s : State) : (startReopen q s).seq.clearance = s.seq.clearance := by
  unfold startReopen; simp
@[simp] theorem startReopen_sup_mode (q : Bool) (s : State) : (startReopen q s).sup.mode = s.sup.mode := by
  unfold startReopen; simp
@[simp] theorem startReopen_sup_watchdog (q : Bool) (s : State) : (startReopen q s).sup.watchdog = s.sup.watchdog := by
  unfold startReopen; simp
@[simp] theorem startReopen_sup_groupTripped (q : Bool) (s : State) : (startReopen q s).sup.groupTripped = s.sup.groupTripped := by
  unfold startReopen; simp
@[simp] theorem startReopen_sup_pulseTimer (q : Bool) (s : State) : (startReopen q s).sup.pulseTimer = s.sup.pulseTimer := by
  unfold startReopen; simp
@[simp] theorem reopenRequest_pending (q : Bool) (s : State) : (reopenRequest q s).pending = s.pending := by
  unfold reopenRequest; dsimp only; (repeat' split) <;> first | with_reducible rfl | simp
@[simp] theorem reopenRequest_pins (q : Bool) (s : State) : (reopenRequest q s).pins = s.pins := by
  unfold reopenRequest; dsimp only; (repeat' split) <;> first | with_reducible rfl | simp
@[simp] theorem reopenRequest_reg (q : Bool) (s : State) : (reopenRequest q s).reg = s.reg := by
  unfold reopenRequest; dsimp only; (repeat' split) <;> first | with_reducible rfl | simp
@[simp] theorem reopenRequest_leaf (q : Bool) (s : State) : (reopenRequest q s).leaf = s.leaf := by
  unfold reopenRequest; dsimp only; (repeat' split) <;> first | with_reducible rfl | simp
@[simp] theorem reopenRequest_zones (q : Bool) (s : State) : (reopenRequest q s).zones = s.zones := by
  unfold reopenRequest; dsimp only; (repeat' split) <;> first | with_reducible rfl | simp
@[simp] theorem reopenRequest_loop (q : Bool) (s : State) : (reopenRequest q s).loop = s.loop := by
  unfold reopenRequest; dsimp only; (repeat' split) <;> first | with_reducible rfl | simp
@[simp] theorem reopenRequest_store (q : Bool) (s : State) : (reopenRequest q s).store = s.store := by
  unfold reopenRequest; dsimp only; (repeat' split) <;> first | with_reducible rfl | simp
@[simp] theorem reopenRequest_cfg (q : Bool) (s : State) : (reopenRequest q s).cfg = s.cfg := by
  unfold reopenRequest; dsimp only; (repeat' split) <;> first | with_reducible rfl | simp
@[simp] theorem reopenRequest_seq_clearance (q : Bool) (s : State) : (reopenRequest q s).seq.clearance = s.seq.clearance := by
  unfold reopenRequest; dsimp only; (repeat' split) <;> first | with_reducible rfl | simp
@[simp] theorem reopenRequest_sup_mode (q : Bool) (s : State) : (reopenRequest q s).sup.mode = s.sup.mode := by
  unfold reopenRequest; dsimp only; (repeat' split) <;> first | with_reducible rfl | simp
@[simp] theorem reopenRequest_sup_watchdog (q : Bool) (s : State) : (reopenRequest q s).sup.watchdog = s.sup.watchdog := by
  unfold reopenRequest; dsimp only; (repeat' split) <;> first | with_reducible rfl | simp
@[simp] theorem reopenRequest_sup_groupTripped (q : Bool) (s : State) : (reopenRequest q s).sup.groupTripped = s.sup.groupTripped := by
  unfold reopenRequest; dsimp only; (repeat' split) <;> first | with_reducible rfl | simp
@[simp] theorem reopenRequest_sup_pulseTimer (q : Bool) (s : State) : (reopenRequest q s).sup.pulseTimer = s.sup.pulseTimer := by
  unfold reopenRequest; dsimp only; (repeat' split) <;> first | with_reducible rfl | simp
@[simp] theorem resumeReopen_pending (s : State) : (resumeReopen s).pending = s.pending := by
  unfold resumeReopen; dsimp only; (repeat' split) <;> first | with_reducible rfl | simp
@[simp] theorem resumeReopen_pins (s : State) : (resumeReopen s).pins = s.pins := by
  unfold resumeReopen; dsimp only; (repeat' split) <;> first | with_reducible rfl | simp
@[simp] theorem resumeReopen_reg (s : State) : (resumeReopen s).reg = s.reg := by
  unfold resumeReopen; dsimp only; (repeat' split) <;> first | with_reducible rfl | simp
@[simp] theorem resumeReopen_leaf (s : State) : (resumeReopen s).leaf = s.leaf := by
  unfold resumeReopen; dsimp only; (repeat' split) <;> first | with_reducible rfl | simp
@[simp] theorem resumeReopen_zones (s : State) : (resumeReopen s).zones = s.zones := by
  unfold resumeReopen; dsimp only; (repeat' split) <;> first | with_reducible rfl | simp
@[simp] theorem resumeReopen_loop (s : State) : (resumeReopen s).loop = s.loop := by
  unfold resumeReopen; dsimp only; (repeat' split) <;> first | with_reducible rfl | simp
@[simp] theorem resumeReopen_store (s : State) : (resumeReopen s).store = s.store := by
  unfold resumeReopen; dsimp only; (repeat' split) <;> first | with_reducible rfl | simp
@[simp] theorem resumeReopen_cfg (s : State) : (resumeReopen s).cfg = s.cfg := by
  unfold resumeReopen; dsimp only; (repeat' split) <;> first | with_reducible rfl | simp
@[simp] theorem resumeReopen_seq_clearance (s : State) : (resumeReopen s).seq.clearance = s.seq.clearance := by
  unfold resumeReopen; dsimp only; (repeat' split) <;> first | with_reducible rfl | simp
@[simp] theorem resumeReopen_sup_mode (s : State) : (resumeReopen s).sup.mode = s.sup.mode := by
  unfold resumeReopen; dsimp only; (repeat' split) <;> first | with_reducible rfl | simp
@[simp] theorem resumeReopen_sup_watchdog (s : State) : (resumeReopen s).sup.watchdog = s.sup.watchdog := by
  unfold resumeReopen; dsimp only; (repeat' split) <;> first | with_reducible rfl | simp
@[simp] theorem resumeReopen_sup_groupTripped (s : State) : (resumeReopen s).sup.groupTripped = s.sup.groupTripped := by
  unfold resumeReopen; dsimp only; (repeat' split) <;> first | with_reducible rfl | simp
@[simp] theorem resumeReopen_sup_pulseTimer (s : State) : (resumeReopen s).sup.pulseTimer = s.sup.pulseTimer := by
  unfold resumeReopen; dsimp only; (repeat' split) <;> first | with_reducible rfl | simp
@[simp] theorem heldOpenReport_pending (s : State) : (heldOpenReport s).pending = s.pending := by
  unfold heldOpenReport; dsimp only; (repeat' split) <;> first | with_reducible rfl | simp
@[simp] theorem heldOpenReport_freeCount (s : State) : (heldOpenReport s).freeCount = s.freeCount := by
  unfold heldOpenReport; dsimp only; (repeat' split) <;> first | with_reducible rfl | simp
@[simp] theorem heldOpenReport_pins (s : State) : (heldOpenReport s).pins = s.pins := by
  unfold heldOpenReport; dsimp only; (repeat' split) <;> first | with_reducible rfl | simp
@[simp] theorem heldOpenReport_reg (s : State) : (heldOpenReport s).reg = s.reg := by
  unfold heldOpenReport; dsimp only; (repeat' split) <;> first | with_reducible rfl | simp
@[simp] theorem heldOpenReport_leaf (s : State) : (heldOpenReport s).leaf = s.leaf := by
  unfold heldOpenReport; dsimp only; (repeat' split) <;> first | with_reducible rfl | simp
@[simp] theorem heldOpenReport_closure (s : State) : (heldOpenReport s).closure = s.closure := by
  unfold heldOpenReport; dsimp only; (repeat' split) <;> first | with_reducible rfl | simp
@[simp] theorem heldOpenReport_arms (s : State) : (heldOpenReport s).arms = s.arms := by
  unfold heldOpenReport; dsimp only; (repeat' split) <;> first | with_reducible rfl | simp
@[simp] theorem heldOpenReport_zones (s : State) : (heldOpenReport s).zones = s.zones := by
  unfold heldOpenReport; dsimp only; (repeat' split) <;> first | with_reducible rfl | simp
@[simp] theorem heldOpenReport_loop (s : State) : (heldOpenReport s).loop = s.loop := by
  unfold heldOpenReport; dsimp only; (repeat' split) <;> first | with_reducible rfl | simp
@[simp] theorem heldOpenReport_stations (s : State) : (heldOpenReport s).stations = s.stations := by
  unfold heldOpenReport; dsimp only; (repeat' split) <;> first | with_reducible rfl | simp
@[simp] theorem heldOpenReport_lamp (s : State) : (heldOpenReport s).lamp = s.lamp := by
  unfold heldOpenReport; dsimp only; (repeat' split) <;> first | with_reducible rfl | simp
@[simp] theorem heldOpenReport_display (s : State) : (heldOpenReport s).display = s.display := by
  unfold heldOpenReport; dsimp only; (repeat' split) <;> first | with_reducible rfl | simp
@[simp] theorem heldOpenReport_sup (s : State) : (heldOpenReport s).sup = s.sup := by
  unfold heldOpenReport; dsimp only; (repeat' split) <;> first | with_reducible rfl | simp
@[simp] theorem heldOpenReport_store (s : State) : (heldOpenReport s).store = s.store := by
  unfold heldOpenReport; dsimp only; (repeat' split) <;> first | with_reducible rfl | simp
@[simp] theorem heldOpenReport_cfg (s : State) : (heldOpenReport s).cfg = s.cfg := by
  unfold heldOpenReport; dsimp only; (repeat' split) <;> first | with_reducible rfl | simp
@[simp] theorem heldOpenReport_seq_demand (s : State) : (heldOpenReport s).seq.demand = s.seq.demand := by
  unfold heldOpenReport; dsimp only; (repeat' split) <;> first | with_reducible rfl | simp
@[simp] theorem heldOpenReport_seq_shown (s : State) : (heldOpenReport s).seq.shown = s.seq.shown := by
  unfold heldOpenReport; dsimp only; (repeat' split) <;> first | with_reducible rfl | simp
@[simp] theorem heldOpenReport_seq_clearance (s : State) : (heldOpenReport s).seq.clearance = s.seq.clearance := by
  unfold heldOpenReport; dsimp only; (repeat' split) <;> first | with_reducible rfl | simp
@[simp] theorem stowedReport_pending (s : State) : (stowedReport s).pending = s.pending := by
  unfold stowedReport; (repeat' split) <;> first | with_reducible rfl | simp
@[simp] theorem stowedReport_pins (s : State) : (stowedReport s).pins = s.pins := by
  unfold stowedReport; (repeat' split) <;> first | with_reducible rfl | simp
@[simp] theorem stowedReport_reg (s : State) : (stowedReport s).reg = s.reg := by
  unfold stowedReport; (repeat' split) <;> first | with_reducible rfl | simp
@[simp] theorem stowedReport_leaf (s : State) : (stowedReport s).leaf = s.leaf := by
  unfold stowedReport; (repeat' split) <;> first | with_reducible rfl | simp
@[simp] theorem stowedReport_zones (s : State) : (stowedReport s).zones = s.zones := by
  unfold stowedReport; (repeat' split) <;> first | with_reducible rfl | simp
@[simp] theorem stowedReport_loop (s : State) : (stowedReport s).loop = s.loop := by
  unfold stowedReport; (repeat' split) <;> first | with_reducible rfl | simp
@[simp] theorem stowedReport_store (s : State) : (stowedReport s).store = s.store := by
  unfold stowedReport; (repeat' split) <;> first | with_reducible rfl | simp
@[simp] theorem stowedReport_cfg (s : State) : (stowedReport s).cfg = s.cfg := by
  unfold stowedReport; (repeat' split) <;> first | with_reducible rfl | simp
@[simp] theorem stowedReport_seq_clearance (s : State) : (stowedReport s).seq.clearance = s.seq.clearance := by
  unfold stowedReport; (repeat' split) <;> first | with_reducible rfl | simp
@[simp] theorem stowedReport_sup_mode (s : State) : (stowedReport s).sup.mode = s.sup.mode := by
  unfold stowedReport; (repeat' split) <;> first | with_reducible rfl | simp
@[simp] theorem stowedReport_sup_watchdog (s : State) : (stowedReport s).sup.watchdog = s.sup.watchdog := by
  unfold stowedReport; (repeat' split) <;> first | with_reducible rfl | simp
@[simp] theorem stowedReport_sup_groupTripped (s : State) : (stowedReport s).sup.groupTripped = s.sup.groupTripped := by
  unfold stowedReport; (repeat' split) <;> first | with_reducible rfl | simp
@[simp] theorem stowedReport_sup_pulseTimer (s : State) : (stowedReport s).sup.pulseTimer = s.sup.pulseTimer := by
  unfold stowedReport; (repeat' split) <;> first | with_reducible rfl | simp
@[simp] theorem stoppedReport_pending (s : State) : (stoppedReport s).pending = s.pending := by
  unfold stoppedReport; (repeat' split) <;> first | with_reducible rfl | simp
@[simp] theorem stoppedReport_freeCount (s : State) : (stoppedReport s).freeCount = s.freeCount := by
  unfold stoppedReport; (repeat' split) <;> first | with_reducible rfl | simp
@[simp] theorem stoppedReport_pins (s : State) : (stoppedReport s).pins = s.pins := by
  unfold stoppedReport; (repeat' split) <;> first | with_reducible rfl | simp
@[simp] theorem stoppedReport_links (s : State) : (stoppedReport s).links = s.links := by
  unfold stoppedReport; (repeat' split) <;> first | with_reducible rfl | simp
@[simp] theorem stoppedReport_reg (s : State) : (stoppedReport s).reg = s.reg := by
  unfold stoppedReport; (repeat' split) <;> first | with_reducible rfl | simp
@[simp] theorem stoppedReport_leaf (s : State) : (stoppedReport s).leaf = s.leaf := by
  unfold stoppedReport; (repeat' split) <;> first | with_reducible rfl | simp
@[simp] theorem stoppedReport_closure (s : State) : (stoppedReport s).closure = s.closure := by
  unfold stoppedReport; (repeat' split) <;> first | with_reducible rfl | simp
@[simp] theorem stoppedReport_arms (s : State) : (stoppedReport s).arms = s.arms := by
  unfold stoppedReport; (repeat' split) <;> first | with_reducible rfl | simp
@[simp] theorem stoppedReport_zones (s : State) : (stoppedReport s).zones = s.zones := by
  unfold stoppedReport; (repeat' split) <;> first | with_reducible rfl | simp
@[simp] theorem stoppedReport_loop (s : State) : (stoppedReport s).loop = s.loop := by
  unfold stoppedReport; (repeat' split) <;> first | with_reducible rfl | simp
@[simp] theorem stoppedReport_stations (s : State) : (stoppedReport s).stations = s.stations := by
  unfold stoppedReport; (repeat' split) <;> first | with_reducible rfl | simp
@[simp] theorem stoppedReport_lamp (s : State) : (stoppedReport s).lamp = s.lamp := by
  unfold stoppedReport; (repeat' split) <;> first | with_reducible rfl | simp
@[simp] theorem stoppedReport_display (s : State) : (stoppedReport s).display = s.display := by
  unfold stoppedReport; (repeat' split) <;> first | with_reducible rfl | simp
@[simp] theorem stoppedReport_sup (s : State) : (stoppedReport s).sup = s.sup := by
  unfold stoppedReport; (repeat' split) <;> first | with_reducible rfl | simp
@[simp] theorem stoppedReport_store (s : State) : (stoppedReport s).store = s.store := by
  unfold stoppedReport; (repeat' split) <;> first | with_reducible rfl | simp
@[simp] theorem stoppedReport_cfg (s : State) : (stoppedReport s).cfg = s.cfg := by
  unfold stoppedReport; (repeat' split) <;> first | with_reducible rfl | simp
@[simp] theorem stoppedReport_seq_demand (s : State) : (stoppedReport s).seq.demand = s.seq.demand := by
  unfold stoppedReport; (repeat' split) <;> first | with_reducible rfl | simp
@[simp] theorem stoppedReport_seq_shown (s : State) : (stoppedReport s).seq.shown = s.seq.shown := by
  unfold stoppedReport; (repeat' split) <;> first | with_reducible rfl | simp
@[simp] theorem stoppedReport_seq_clearance (s : State) : (stoppedReport s).seq.clearance = s.seq.clearance := by
  unfold stoppedReport; (repeat' split) <;> first | with_reducible rfl | simp
@[simp] theorem groupReport_pending (s : State) : (groupReport s).pending = s.pending := by
  unfold groupReport; dsimp only; (repeat' split) <;> first | with_reducible rfl | simp
@[simp] theorem groupReport_pins (s : State) : (groupReport s).pins = s.pins := by
  unfold groupReport; dsimp only; (repeat' split) <;> first | with_reducible rfl | simp
@[simp] theorem groupReport_reg (s : State) : (groupReport s).reg = s.reg := by
  unfold groupReport; dsimp only; (repeat' split) <;> first | with_reducible rfl | simp
@[simp] theorem groupReport_leaf (s : State) : (groupReport s).leaf = s.leaf := by
  unfold groupReport; dsimp only; (repeat' split) <;> first | with_reducible rfl | simp
@[simp] theorem groupReport_zones (s : State) : (groupReport s).zones = s.zones := by
  unfold groupReport; dsimp only; (repeat' split) <;> first | with_reducible rfl | simp
@[simp] theorem groupReport_loop (s : State) : (groupReport s).loop = s.loop := by
  unfold groupReport; dsimp only; (repeat' split) <;> first | with_reducible rfl | simp
@[simp] theorem groupReport_store (s : State) : (groupReport s).store = s.store := by
  unfold groupReport; dsimp only; (repeat' split) <;> first | with_reducible rfl | simp
@[simp] theorem groupReport_cfg (s : State) : (groupReport s).cfg = s.cfg := by
  unfold groupReport; dsimp only; (repeat' split) <;> first | with_reducible rfl | simp
@[simp] theorem groupReport_seq_clearance (s : State) : (groupReport s).seq.clearance = s.seq.clearance := by
  unfold groupReport; dsimp only; (repeat' split) <;> first | with_reducible rfl | simp
@[simp] theorem groupReport_sup_mode (s : State) : (groupReport s).sup.mode = s.sup.mode := by
  unfold groupReport; dsimp only; (repeat' split) <;> first | with_reducible rfl | simp
@[simp] theorem groupReport_sup_watchdog (s : State) : (groupReport s).sup.watchdog = s.sup.watchdog := by
  unfold groupReport; dsimp only; (repeat' split) <;> first | with_reducible rfl | simp
@[simp] theorem groupReport_sup_groupTripped (s : State) : (groupReport s).sup.groupTripped = s.sup.groupTripped := by
  unfold groupReport; dsimp only; (repeat' split) <;> first | with_reducible rfl | simp
@[simp] theorem groupReport_sup_pulseTimer (s : State) : (groupReport s).sup.pulseTimer = s.sup.pulseTimer := by
  unfold groupReport; dsimp only; (repeat' split) <;> first | with_reducible rfl | simp
@[simp] theorem afterLeaf_pending (g : GroupState) (s : State) : (afterLeaf g s).pending = s.pending := by
  unfold afterLeaf; (repeat' split) <;> first | with_reducible rfl | simp
@[simp] theorem afterLeaf_pins (g : GroupState) (s : State) : (afterLeaf g s).pins = s.pins := by
  unfold afterLeaf; (repeat' split) <;> first | with_reducible rfl | simp
@[simp] theorem afterLeaf_reg (g : GroupState) (s : State) : (afterLeaf g s).reg = s.reg := by
  unfold afterLeaf; (repeat' split) <;> first | with_reducible rfl | simp
@[simp] theorem afterLeaf_leaf (g : GroupState) (s : State) : (afterLeaf g s).leaf = s.leaf := by
  unfold afterLeaf; (repeat' split) <;> first | with_reducible rfl | simp
@[simp] theorem afterLeaf_zones (g : GroupState) (s : State) : (afterLeaf g s).zones = s.zones := by
  unfold afterLeaf; (repeat' split) <;> first | with_reducible rfl | simp
@[simp] theorem afterLeaf_loop (g : GroupState) (s : State) : (afterLeaf g s).loop = s.loop := by
  unfold afterLeaf; (repeat' split) <;> first | with_reducible rfl | simp
@[simp] theorem afterLeaf_store (g : GroupState) (s : State) : (afterLeaf g s).store = s.store := by
  unfold afterLeaf; (repeat' split) <;> first | with_reducible rfl | simp
@[simp] theorem afterLeaf_cfg (g : GroupState) (s : State) : (afterLeaf g s).cfg = s.cfg := by
  unfold afterLeaf; (repeat' split) <;> first | with_reducible rfl | simp
@[simp] theorem afterLeaf_seq_clearance (g : GroupState) (s : State) : (afterLeaf g s).seq.clearance = s.seq.clearance := by
  unfold afterLeaf; (repeat' split) <;> first | with_reducible rfl | simp
@[simp] theorem afterLeaf_sup_mode (g : GroupState) (s : State) : (afterLeaf g s).sup.mode = s.sup.mode := by
  unfold afterLeaf; (repeat' split) <;> first | with_reducible rfl | simp
@[simp] theorem afterLeaf_sup_watchdog (g : GroupState) (s : State) : (afterLeaf g s).sup.watchdog = s.sup.watchdog := by
  unfold afterLeaf; (repeat' split) <;> first | with_reducible rfl | simp
@[simp] theorem afterLeaf_sup_pulseTimer (g : GroupState) (s : State) : (afterLeaf g s).sup.pulseTimer = s.sup.pulseTimer := by
  unfold afterLeaf; (repeat' split) <;> first | with_reducible rfl | simp
@[simp] theorem applyLeaf_pending (f : LeafMotion → LeafMotion) (s : State) : (applyLeaf f s).pending = s.pending := by
  unfold applyLeaf; simp
@[simp] theorem applyLeaf_pins (f : LeafMotion → LeafMotion) (s : State) : (applyLeaf f s).pins = s.pins := by
  unfold applyLeaf; simp
@[simp] theorem applyLeaf_reg (f : LeafMotion → LeafMotion) (s : State) : (applyLeaf f s).reg = s.reg := by
  unfold applyLeaf; simp
@[simp] theorem applyLeaf_zones (f : LeafMotion → LeafMotion) (s : State) : (applyLeaf f s).zones = s.zones := by
  unfold applyLeaf; simp
@[simp] theorem applyLeaf_loop (f : LeafMotion → LeafMotion) (s : State) : (applyLeaf f s).loop = s.loop := by
  unfold applyLeaf; simp
@[simp] theorem applyLeaf_store (f : LeafMotion → LeafMotion) (s : State) : (applyLeaf f s).store = s.store := by
  unfold applyLeaf; simp
@[simp] theorem applyLeaf_cfg (f : LeafMotion → LeafMotion) (s : State) : (applyLeaf f s).cfg = s.cfg := by
  unfold applyLeaf; simp
@[simp] theorem applyLeaf_seq_clearance (f : LeafMotion → LeafMotion) (s : State) : (applyLeaf f s).seq.clearance = s.seq.clearance := by
  unfold applyLeaf; simp
@[simp] theorem applyLeaf_sup_mode (f : LeafMotion → LeafMotion) (s : State) : (applyLeaf f s).sup.mode = s.sup.mode := by
  unfold applyLeaf; simp
@[simp] theorem applyLeaf_sup_watchdog (f : LeafMotion → LeafMotion) (s : State) : (applyLeaf f s).sup.watchdog = s.sup.watchdog := by
  unfold applyLeaf; simp
@[simp] theorem applyLeaf_sup_pulseTimer (f : LeafMotion → LeafMotion) (s : State) : (applyLeaf f s).sup.pulseTimer = s.sup.pulseTimer := by
  unfold applyLeaf; simp
@[simp] theorem startLift_pending (s : State) : (startLift s).pending = s.pending := by
  unfold startLift; (repeat' split) <;> first | with_reducible rfl | simp
@[simp] theorem startLift_pins (s : State) : (startLift s).pins = s.pins := by
  unfold startLift; (repeat' split) <;> first | with_reducible rfl | simp
@[simp] theorem startLift_reg (s : State) : (startLift s).reg = s.reg := by
  unfold startLift; (repeat' split) <;> first | with_reducible rfl | simp
@[simp] theorem startLift_zones (s : State) : (startLift s).zones = s.zones := by
  unfold startLift; (repeat' split) <;> first | with_reducible rfl | simp
@[simp] theorem startLift_loop (s : State) : (startLift s).loop = s.loop := by
  unfold startLift; (repeat' split) <;> first | with_reducible rfl | simp
@[simp] theorem startLift_store (s : State) : (startLift s).store = s.store := by
  unfold startLift; (repeat' split) <;> first | with_reducible rfl | simp
@[simp] theorem startLift_cfg (s : State) : (startLift s).cfg = s.cfg := by
  unfold startLift; (repeat' split) <;> first | with_reducible rfl | simp
@[simp] theorem startLift_seq_clearance (s : State) : (startLift s).seq.clearance = s.seq.clearance := by
  unfold startLift; (repeat' split) <;> first | with_reducible rfl | simp
@[simp] theorem startLift_sup_mode (s : State) : (startLift s).sup.mode = s.sup.mode := by
  unfold startLift; (repeat' split) <;> first | with_reducible rfl | simp
@[simp] theorem startLift_sup_watchdog (s : State) : (startLift s).sup.watchdog = s.sup.watchdog := by
  unfold startLift; (repeat' split) <;> first | with_reducible rfl | simp
@[simp] theorem startLift_sup_pulseTimer (s : State) : (startLift s).sup.pulseTimer = s.sup.pulseTimer := by
  unfold startLift; (repeat' split) <;> first | with_reducible rfl | simp
@[simp] theorem roadClosedReport_pending (s : State) : (roadClosedReport s).pending = s.pending := by
  unfold roadClosedReport; (repeat' split) <;> first | with_reducible rfl | simp
@[simp] theorem roadClosedReport_pins (s : State) : (roadClosedReport s).pins = s.pins := by
  unfold roadClosedReport; (repeat' split) <;> first | with_reducible rfl | simp
@[simp] theorem roadClosedReport_reg (s : State) : (roadClosedReport s).reg = s.reg := by
  unfold roadClosedReport; (repeat' split) <;> first | with_reducible rfl | simp
@[simp] theorem roadClosedReport_zones (s : State) : (roadClosedReport s).zones = s.zones := by
  unfold roadClosedReport; (repeat' split) <;> first | with_reducible rfl | simp
@[simp] theorem roadClosedReport_loop (s : State) : (roadClosedReport s).loop = s.loop := by
  unfold roadClosedReport; (repeat' split) <;> first | with_reducible rfl | simp
@[simp] theorem roadClosedReport_store (s : State) : (roadClosedReport s).store = s.store := by
  unfold roadClosedReport; (repeat' split) <;> first | with_reducible rfl | simp
@[simp] theorem roadClosedReport_cfg (s : State) : (roadClosedReport s).cfg = s.cfg := by
  unfold roadClosedReport; (repeat' split) <;> first | with_reducible rfl | simp
@[simp] theorem roadClosedReport_seq_clearance (s : State) : (roadClosedReport s).seq.clearance = s.seq.clearance := by
  unfold roadClosedReport; (repeat' split) <;> first | with_reducible rfl | simp
@[simp] theorem roadClosedReport_sup_mode (s : State) : (roadClosedReport s).sup.mode = s.sup.mode := by
  unfold roadClosedReport; (repeat' split) <;> first | with_reducible rfl | simp
@[simp] theorem roadClosedReport_sup_watchdog (s : State) : (roadClosedReport s).sup.watchdog = s.sup.watchdog := by
  unfold roadClosedReport; (repeat' split) <;> first | with_reducible rfl | simp
@[simp] theorem roadClosedReport_sup_pulseTimer (s : State) : (roadClosedReport s).sup.pulseTimer = s.sup.pulseTimer := by
  unfold roadClosedReport; (repeat' split) <;> first | with_reducible rfl | simp
@[simp] theorem takeTargetRaise_pending (n : Nat) (s : State) : (takeTargetRaise n s).pending = s.pending := by
  unfold takeTargetRaise; (repeat' split) <;> first | with_reducible rfl | simp
@[simp] theorem takeTargetRaise_pins (n : Nat) (s : State) : (takeTargetRaise n s).pins = s.pins := by
  unfold takeTargetRaise; (repeat' split) <;> first | with_reducible rfl | simp
@[simp] theorem takeTargetRaise_reg (n : Nat) (s : State) : (takeTargetRaise n s).reg = s.reg := by
  unfold takeTargetRaise; (repeat' split) <;> first | with_reducible rfl | simp
@[simp] theorem takeTargetRaise_zones (n : Nat) (s : State) : (takeTargetRaise n s).zones = s.zones := by
  unfold takeTargetRaise; (repeat' split) <;> first | with_reducible rfl | simp
@[simp] theorem takeTargetRaise_loop (n : Nat) (s : State) : (takeTargetRaise n s).loop = s.loop := by
  unfold takeTargetRaise; (repeat' split) <;> first | with_reducible rfl | simp
@[simp] theorem takeTargetRaise_store (n : Nat) (s : State) : (takeTargetRaise n s).store = s.store := by
  unfold takeTargetRaise; (repeat' split) <;> first | with_reducible rfl | simp
@[simp] theorem takeTargetRaise_cfg (n : Nat) (s : State) : (takeTargetRaise n s).cfg = s.cfg := by
  unfold takeTargetRaise; (repeat' split) <;> first | with_reducible rfl | simp
@[simp] theorem takeTargetRaise_seq_clearance (n : Nat) (s : State) : (takeTargetRaise n s).seq.clearance = s.seq.clearance := by
  unfold takeTargetRaise; (repeat' split) <;> first | with_reducible rfl | simp
@[simp] theorem takeTargetRaise_sup_mode (n : Nat) (s : State) : (takeTargetRaise n s).sup.mode = s.sup.mode := by
  unfold takeTargetRaise; (repeat' split) <;> first | with_reducible rfl | simp
@[simp] theorem takeTargetRaise_sup_watchdog (n : Nat) (s : State) : (takeTargetRaise n s).sup.watchdog = s.sup.watchdog := by
  unfold takeTargetRaise; (repeat' split) <;> first | with_reducible rfl | simp
@[simp] theorem takeTargetRaise_sup_pulseTimer (n : Nat) (s : State) : (takeTargetRaise n s).sup.pulseTimer = s.sup.pulseTimer := by
  unfold takeTargetRaise; (repeat' split) <;> first | with_reducible rfl | simp
@[simp] theorem listShortened_pending (s : State) : (listShortened s).pending = s.pending := by
  unfold listShortened; (repeat' split) <;> first | with_reducible rfl | simp
@[simp] theorem listShortened_pins (s : State) : (listShortened s).pins = s.pins := by
  unfold listShortened; (repeat' split) <;> first | with_reducible rfl | simp
@[simp] theorem listShortened_reg (s : State) : (listShortened s).reg = s.reg := by
  unfold listShortened; (repeat' split) <;> first | with_reducible rfl | simp
@[simp] theorem listShortened_leaf (s : State) : (listShortened s).leaf = s.leaf := by
  unfold listShortened; (repeat' split) <;> first | with_reducible rfl | simp
@[simp] theorem listShortened_zones (s : State) : (listShortened s).zones = s.zones := by
  unfold listShortened; (repeat' split) <;> first | with_reducible rfl | simp
@[simp] theorem listShortened_loop (s : State) : (listShortened s).loop = s.loop := by
  unfold listShortened; (repeat' split) <;> first | with_reducible rfl | simp
@[simp] theorem listShortened_store (s : State) : (listShortened s).store = s.store := by
  unfold listShortened; (repeat' split) <;> first | with_reducible rfl | simp
@[simp] theorem listShortened_cfg (s : State) : (listShortened s).cfg = s.cfg := by
  unfold listShortened; (repeat' split) <;> first | with_reducible rfl | simp
@[simp] theorem listShortened_seq_clearance (s : State) : (listShortened s).seq.clearance = s.seq.clearance := by
  unfold listShortened; (repeat' split) <;> first | with_reducible rfl | simp
@[simp] theorem listShortened_sup_mode (s : State) : (listShortened s).sup.mode = s.sup.mode := by
  unfold listShortened; (repeat' split) <;> first | with_reducible rfl | simp
@[simp] theorem listShortened_sup_watchdog (s : State) : (listShortened s).sup.watchdog = s.sup.watchdog := by
  unfold listShortened; (repeat' split) <;> first | with_reducible rfl | simp
@[simp] theorem listShortened_sup_groupTripped (s : State) : (listShortened s).sup.groupTripped = s.sup.groupTripped := by
  unfold listShortened; (repeat' split) <;> first | with_reducible rfl | simp
@[simp] theorem listShortened_sup_pulseTimer (s : State) : (listShortened s).sup.pulseTimer = s.sup.pulseTimer := by
  unfold listShortened; (repeat' split) <;> first | with_reducible rfl | simp
@[simp] theorem leaveList_pending (n : Nat) (s : State) : (leaveList n s).pending = s.pending := by
  unfold leaveList; (repeat' split) <;> first | with_reducible rfl | simp
@[simp] theorem leaveList_pins (n : Nat) (s : State) : (leaveList n s).pins = s.pins := by
  unfold leaveList; (repeat' split) <;> first | with_reducible rfl | simp
@[simp] theorem leaveList_reg (n : Nat) (s : State) : (leaveList n s).reg = s.reg := by
  unfold leaveList; (repeat' split) <;> first | with_reducible rfl | simp
@[simp] theorem leaveList_leaf (n : Nat) (s : State) : (leaveList n s).leaf = s.leaf := by
  unfold leaveList; (repeat' split) <;> first | with_reducible rfl | simp
@[simp] theorem leaveList_zones (n : Nat) (s : State) : (leaveList n s).zones = s.zones := by
  unfold leaveList; (repeat' split) <;> first | with_reducible rfl | simp
@[simp] theorem leaveList_loop (n : Nat) (s : State) : (leaveList n s).loop = s.loop := by
  unfold leaveList; (repeat' split) <;> first | with_reducible rfl | simp
@[simp] theorem leaveList_store (n : Nat) (s : State) : (leaveList n s).store = s.store := by
  unfold leaveList; (repeat' split) <;> first | with_reducible rfl | simp
@[simp] theorem leaveList_cfg (n : Nat) (s : State) : (leaveList n s).cfg = s.cfg := by
  unfold leaveList; (repeat' split) <;> first | with_reducible rfl | simp
@[simp] theorem leaveList_seq_clearance (n : Nat) (s : State) : (leaveList n s).seq.clearance = s.seq.clearance := by
  unfold leaveList; (repeat' split) <;> first | with_reducible rfl | simp
@[simp] theorem leaveList_sup_mode (n : Nat) (s : State) : (leaveList n s).sup.mode = s.sup.mode := by
  unfold leaveList; (repeat' split) <;> first | with_reducible rfl | simp
@[simp] theorem leaveList_sup_watchdog (n : Nat) (s : State) : (leaveList n s).sup.watchdog = s.sup.watchdog := by
  unfold leaveList; (repeat' split) <;> first | with_reducible rfl | simp
@[simp] theorem leaveList_sup_groupTripped (n : Nat) (s : State) : (leaveList n s).sup.groupTripped = s.sup.groupTripped := by
  unfold leaveList; (repeat' split) <;> first | with_reducible rfl | simp
@[simp] theorem leaveList_sup_pulseTimer (n : Nat) (s : State) : (leaveList n s).sup.pulseTimer = s.sup.pulseTimer := by
  unfold leaveList; (repeat' split) <;> first | with_reducible rfl | simp
@[simp] theorem pendingLower_pending (s : State) : (pendingLower s).pending = s.pending := by
  unfold pendingLower; dsimp only; (repeat' split) <;> first | with_reducible rfl | simp
@[simp] theorem pendingLower_pins (s : State) : (pendingLower s).pins = s.pins := by
  unfold pendingLower; dsimp only; (repeat' split) <;> first | with_reducible rfl | simp
@[simp] theorem pendingLower_reg (s : State) : (pendingLower s).reg = s.reg := by
  unfold pendingLower; dsimp only; (repeat' split) <;> first | with_reducible rfl | simp
@[simp] theorem pendingLower_zones (s : State) : (pendingLower s).zones = s.zones := by
  unfold pendingLower; dsimp only; (repeat' split) <;> first | with_reducible rfl | simp
@[simp] theorem pendingLower_loop (s : State) : (pendingLower s).loop = s.loop := by
  unfold pendingLower; dsimp only; (repeat' split) <;> first | with_reducible rfl | simp
@[simp] theorem pendingLower_store (s : State) : (pendingLower s).store = s.store := by
  unfold pendingLower; dsimp only; (repeat' split) <;> first | with_reducible rfl | simp
@[simp] theorem pendingLower_cfg (s : State) : (pendingLower s).cfg = s.cfg := by
  unfold pendingLower; dsimp only; (repeat' split) <;> first | with_reducible rfl | simp
@[simp] theorem pendingLower_seq_clearance (s : State) : (pendingLower s).seq.clearance = s.seq.clearance := by
  unfold pendingLower; dsimp only; (repeat' split) <;> first | with_reducible rfl | simp
@[simp] theorem pendingLower_sup_mode (s : State) : (pendingLower s).sup.mode = s.sup.mode := by
  unfold pendingLower; dsimp only; (repeat' split) <;> first | with_reducible rfl | simp
@[simp] theorem pendingLower_sup_watchdog (s : State) : (pendingLower s).sup.watchdog = s.sup.watchdog := by
  unfold pendingLower; dsimp only; (repeat' split) <;> first | with_reducible rfl | simp
@[simp] theorem pendingLower_sup_pulseTimer (s : State) : (pendingLower s).sup.pulseTimer = s.sup.pulseTimer := by
  unfold pendingLower; dsimp only; (repeat' split) <;> first | with_reducible rfl | simp
@[simp] theorem runPeriod_pending (c : PerDrive (BitVec 24)) (s : State) : (runPeriod c s).pending = s.pending := by
  unfold runPeriod; dsimp only; (repeat' split) <;> first | with_reducible rfl | simp
@[simp] theorem runPeriod_pins (c : PerDrive (BitVec 24)) (s : State) : (runPeriod c s).pins = s.pins := by
  unfold runPeriod; dsimp only; (repeat' split) <;> first | with_reducible rfl | simp
@[simp] theorem runPeriod_zones (c : PerDrive (BitVec 24)) (s : State) : (runPeriod c s).zones = s.zones := by
  unfold runPeriod; dsimp only; (repeat' split) <;> first | with_reducible rfl | simp
@[simp] theorem runPeriod_loop (c : PerDrive (BitVec 24)) (s : State) : (runPeriod c s).loop = s.loop := by
  unfold runPeriod; dsimp only; (repeat' split) <;> first | with_reducible rfl | simp
@[simp] theorem runPeriod_store (c : PerDrive (BitVec 24)) (s : State) : (runPeriod c s).store = s.store := by
  unfold runPeriod; dsimp only; (repeat' split) <;> first | with_reducible rfl | simp
@[simp] theorem runPeriod_cfg (c : PerDrive (BitVec 24)) (s : State) : (runPeriod c s).cfg = s.cfg := by
  unfold runPeriod; dsimp only; (repeat' split) <;> first | with_reducible rfl | simp
@[simp] theorem runPeriod_sup_mode (c : PerDrive (BitVec 24)) (s : State) : (runPeriod c s).sup.mode = s.sup.mode := by
  unfold runPeriod; dsimp only; (repeat' split) <;> first | with_reducible rfl | simp
@[simp] theorem runPeriod_sup_watchdog (c : PerDrive (BitVec 24)) (s : State) : (runPeriod c s).sup.watchdog = s.sup.watchdog := by
  unfold runPeriod; dsimp only; (repeat' split) <;> first | with_reducible rfl | simp
@[simp] theorem lockSwitchEvent_pending (k : LockId) (w : LockSwitch) (b : Bool) (s : State) : (lockSwitchEvent k w b s).pending = s.pending := by
  unfold lockSwitchEvent; dsimp only; (repeat' split) <;> first | with_reducible rfl | simp
@[simp] theorem lockSwitchEvent_pins (k : LockId) (w : LockSwitch) (b : Bool) (s : State) : (lockSwitchEvent k w b s).pins = s.pins := by
  unfold lockSwitchEvent; dsimp only; (repeat' split) <;> first | with_reducible rfl | simp
@[simp] theorem lockSwitchEvent_reg (k : LockId) (w : LockSwitch) (b : Bool) (s : State) : (lockSwitchEvent k w b s).reg = s.reg := by
  unfold lockSwitchEvent; dsimp only; (repeat' split) <;> first | with_reducible rfl | simp
@[simp] theorem lockSwitchEvent_zones (k : LockId) (w : LockSwitch) (b : Bool) (s : State) : (lockSwitchEvent k w b s).zones = s.zones := by
  unfold lockSwitchEvent; dsimp only; (repeat' split) <;> first | with_reducible rfl | simp
@[simp] theorem lockSwitchEvent_loop (k : LockId) (w : LockSwitch) (b : Bool) (s : State) : (lockSwitchEvent k w b s).loop = s.loop := by
  unfold lockSwitchEvent; dsimp only; (repeat' split) <;> first | with_reducible rfl | simp
@[simp] theorem lockSwitchEvent_store (k : LockId) (w : LockSwitch) (b : Bool) (s : State) : (lockSwitchEvent k w b s).store = s.store := by
  unfold lockSwitchEvent; dsimp only; (repeat' split) <;> first | with_reducible rfl | simp
@[simp] theorem lockSwitchEvent_cfg (k : LockId) (w : LockSwitch) (b : Bool) (s : State) : (lockSwitchEvent k w b s).cfg = s.cfg := by
  unfold lockSwitchEvent; dsimp only; (repeat' split) <;> first | with_reducible rfl | simp
@[simp] theorem lockSwitchEvent_seq_clearance (k : LockId) (w : LockSwitch) (b : Bool) (s : State) : (lockSwitchEvent k w b s).seq.clearance = s.seq.clearance := by
  unfold lockSwitchEvent; dsimp only; (repeat' split) <;> first | with_reducible rfl | simp
@[simp] theorem lockSwitchEvent_sup_mode (k : LockId) (w : LockSwitch) (b : Bool) (s : State) : (lockSwitchEvent k w b s).sup.mode = s.sup.mode := by
  unfold lockSwitchEvent; dsimp only; (repeat' split) <;> first | with_reducible rfl | simp
@[simp] theorem lockSwitchEvent_sup_watchdog (k : LockId) (w : LockSwitch) (b : Bool) (s : State) : (lockSwitchEvent k w b s).sup.watchdog = s.sup.watchdog := by
  unfold lockSwitchEvent; dsimp only; (repeat' split) <;> first | with_reducible rfl | simp
@[simp] theorem enterRoadClosed_pending (q : Bool) (s : State) : (enterRoadClosed q s).pending = s.pending := by
  unfold enterRoadClosed; dsimp only; (repeat' split) <;> first | with_reducible rfl | simp
@[simp] theorem enterRoadClosed_pins (q : Bool) (s : State) : (enterRoadClosed q s).pins = s.pins := by
  unfold enterRoadClosed; dsimp only; (repeat' split) <;> first | with_reducible rfl | simp
@[simp] theorem enterRoadClosed_reg (q : Bool) (s : State) : (enterRoadClosed q s).reg = s.reg := by
  unfold enterRoadClosed; dsimp only; (repeat' split) <;> first | with_reducible rfl | simp
@[simp] theorem enterRoadClosed_zones (q : Bool) (s : State) : (enterRoadClosed q s).zones = s.zones := by
  unfold enterRoadClosed; dsimp only; (repeat' split) <;> first | with_reducible rfl | simp
@[simp] theorem enterRoadClosed_loop (q : Bool) (s : State) : (enterRoadClosed q s).loop = s.loop := by
  unfold enterRoadClosed; dsimp only; (repeat' split) <;> first | with_reducible rfl | simp
@[simp] theorem enterRoadClosed_store (q : Bool) (s : State) : (enterRoadClosed q s).store = s.store := by
  unfold enterRoadClosed; dsimp only; (repeat' split) <;> first | with_reducible rfl | simp
@[simp] theorem enterRoadClosed_cfg (q : Bool) (s : State) : (enterRoadClosed q s).cfg = s.cfg := by
  unfold enterRoadClosed; dsimp only; (repeat' split) <;> first | with_reducible rfl | simp
@[simp] theorem enterRoadClosed_seq_clearance (q : Bool) (s : State) : (enterRoadClosed q s).seq.clearance = s.seq.clearance := by
  unfold enterRoadClosed; dsimp only; (repeat' split) <;> first | with_reducible rfl | simp
@[simp] theorem enterRoadClosed_sup_mode (q : Bool) (s : State) : (enterRoadClosed q s).sup.mode = s.sup.mode := by
  unfold enterRoadClosed; dsimp only; (repeat' split) <;> first | with_reducible rfl | simp
@[simp] theorem enterRoadClosed_sup_watchdog (q : Bool) (s : State) : (enterRoadClosed q s).sup.watchdog = s.sup.watchdog := by
  unfold enterRoadClosed; dsimp only; (repeat' split) <;> first | with_reducible rfl | simp
@[simp] theorem enterRoadClosed_sup_pulseTimer (q : Bool) (s : State) : (enterRoadClosed q s).sup.pulseTimer = s.sup.pulseTimer := by
  unfold enterRoadClosed; dsimp only; (repeat' split) <;> first | with_reducible rfl | simp
@[simp] theorem restartClearDwell_pending (s : State) : (restartClearDwell s).pending = s.pending := by
  unfold restartClearDwell; simp
@[simp] theorem restartClearDwell_freeCount (s : State) : (restartClearDwell s).freeCount = s.freeCount := by
  unfold restartClearDwell; simp
@[simp] theorem restartClearDwell_pins (s : State) : (restartClearDwell s).pins = s.pins := by
  unfold restartClearDwell; simp
@[simp] theorem restartClearDwell_links (s : State) : (restartClearDwell s).links = s.links := by
  unfold restartClearDwell; simp
@[simp] theorem restartClearDwell_reg (s : State) : (restartClearDwell s).reg = s.reg := by
  unfold restartClearDwell; simp
@[simp] theorem restartClearDwell_seq (s : State) : (restartClearDwell s).seq = s.seq := by
  unfold restartClearDwell; simp
@[simp] theorem restartClearDwell_leaf (s : State) : (restartClearDwell s).leaf = s.leaf := by
  unfold restartClearDwell; simp
@[simp] theorem restartClearDwell_arms (s : State) : (restartClearDwell s).arms = s.arms := by
  unfold restartClearDwell; simp
@[simp] theorem restartClearDwell_zones (s : State) : (restartClearDwell s).zones = s.zones := by
  unfold restartClearDwell; simp
@[simp] theorem restartClearDwell_loop (s : State) : (restartClearDwell s).loop = s.loop := by
  unfold restartClearDwell; simp
@[simp] theorem restartClearDwell_stations (s : State) : (restartClearDwell s).stations = s.stations := by
  unfold restartClearDwell; simp
@[simp] theorem restartClearDwell_lamp (s : State) : (restartClearDwell s).lamp = s.lamp := by
  unfold restartClearDwell; simp
@[simp] theorem restartClearDwell_display (s : State) : (restartClearDwell s).display = s.display := by
  unfold restartClearDwell; simp
@[simp] theorem restartClearDwell_sup (s : State) : (restartClearDwell s).sup = s.sup := by
  unfold restartClearDwell; simp
@[simp] theorem restartClearDwell_store (s : State) : (restartClearDwell s).store = s.store := by
  unfold restartClearDwell; simp
@[simp] theorem restartClearDwell_cfg (s : State) : (restartClearDwell s).cfg = s.cfg := by
  unfold restartClearDwell; simp
@[simp] theorem restartClearDwell_closure_state (s : State) : (restartClearDwell s).closure.state = s.closure.state := by
  unfold restartClearDwell; simp
@[simp] theorem enterSpanClearing_pending (q : Bool) (s : State) : (enterSpanClearing q s).pending = s.pending := by
  unfold enterSpanClearing; simp
@[simp] theorem enterSpanClearing_freeCount (q : Bool) (s : State) : (enterSpanClearing q s).freeCount = s.freeCount := by
  unfold enterSpanClearing; simp
@[simp] theorem enterSpanClearing_pins (q : Bool) (s : State) : (enterSpanClearing q s).pins = s.pins := by
  unfold enterSpanClearing; simp
@[simp] theorem enterSpanClearing_reg (q : Bool) (s : State) : (enterSpanClearing q s).reg = s.reg := by
  unfold enterSpanClearing; simp
@[simp] theorem enterSpanClearing_seq (q : Bool) (s : State) : (enterSpanClearing q s).seq = s.seq := by
  unfold enterSpanClearing; simp
@[simp] theorem enterSpanClearing_leaf (q : Bool) (s : State) : (enterSpanClearing q s).leaf = s.leaf := by
  unfold enterSpanClearing; simp
@[simp] theorem enterSpanClearing_arms (q : Bool) (s : State) : (enterSpanClearing q s).arms = s.arms := by
  unfold enterSpanClearing; simp
@[simp] theorem enterSpanClearing_zones (q : Bool) (s : State) : (enterSpanClearing q s).zones = s.zones := by
  unfold enterSpanClearing; simp
@[simp] theorem enterSpanClearing_loop (q : Bool) (s : State) : (enterSpanClearing q s).loop = s.loop := by
  unfold enterSpanClearing; simp
@[simp] theorem enterSpanClearing_stations (q : Bool) (s : State) : (enterSpanClearing q s).stations = s.stations := by
  unfold enterSpanClearing; simp
@[simp] theorem enterSpanClearing_store (q : Bool) (s : State) : (enterSpanClearing q s).store = s.store := by
  unfold enterSpanClearing; simp
@[simp] theorem enterSpanClearing_cfg (q : Bool) (s : State) : (enterSpanClearing q s).cfg = s.cfg := by
  unfold enterSpanClearing; simp
@[simp] theorem enterSpanClearing_sup_mode (q : Bool) (s : State) : (enterSpanClearing q s).sup.mode = s.sup.mode := by
  unfold enterSpanClearing; simp
@[simp] theorem enterSpanClearing_sup_watchdog (q : Bool) (s : State) : (enterSpanClearing q s).sup.watchdog = s.sup.watchdog := by
  unfold enterSpanClearing; simp
@[simp] theorem enterSpanClearing_sup_groupTripped (q : Bool) (s : State) : (enterSpanClearing q s).sup.groupTripped = s.sup.groupTripped := by
  unfold enterSpanClearing; simp
@[simp] theorem enterSpanClearing_sup_dark (q : Bool) (s : State) : (enterSpanClearing q s).sup.dark = s.sup.dark := by
  unfold enterSpanClearing; simp
@[simp] theorem enterSpanClearing_sup_pulseTimer (q : Bool) (s : State) : (enterSpanClearing q s).sup.pulseTimer = s.sup.pulseTimer := by
  unfold enterSpanClearing; simp
@[simp] theorem enterExitLowering_pending (q : Bool) (s : State) : (enterExitLowering q s).pending = s.pending := by
  unfold enterExitLowering; (repeat' split) <;> first | with_reducible rfl | simp
@[simp] theorem enterExitLowering_freeCount (q : Bool) (s : State) : (enterExitLowering q s).freeCount = s.freeCount := by
  unfold enterExitLowering; (repeat' split) <;> first | with_reducible rfl | simp
@[simp] theorem enterExitLowering_pins (q : Bool) (s : State) : (enterExitLowering q s).pins = s.pins := by
  unfold enterExitLowering; (repeat' split) <;> first | with_reducible rfl | simp
@[simp] theorem enterExitLowering_reg (q : Bool) (s : State) : (enterExitLowering q s).reg = s.reg := by
  unfold enterExitLowering; (repeat' split) <;> first | with_reducible rfl | simp
@[simp] theorem enterExitLowering_seq (q : Bool) (s : State) : (enterExitLowering q s).seq = s.seq := by
  unfold enterExitLowering; (repeat' split) <;> first | with_reducible rfl | simp
@[simp] theorem enterExitLowering_leaf (q : Bool) (s : State) : (enterExitLowering q s).leaf = s.leaf := by
  unfold enterExitLowering; (repeat' split) <;> first | with_reducible rfl | simp
@[simp] theorem enterExitLowering_zones (q : Bool) (s : State) : (enterExitLowering q s).zones = s.zones := by
  unfold enterExitLowering; (repeat' split) <;> first | with_reducible rfl | simp
@[simp] theorem enterExitLowering_loop (q : Bool) (s : State) : (enterExitLowering q s).loop = s.loop := by
  unfold enterExitLowering; (repeat' split) <;> first | with_reducible rfl | simp
@[simp] theorem enterExitLowering_store (q : Bool) (s : State) : (enterExitLowering q s).store = s.store := by
  unfold enterExitLowering; (repeat' split) <;> first | with_reducible rfl | simp
@[simp] theorem enterExitLowering_cfg (q : Bool) (s : State) : (enterExitLowering q s).cfg = s.cfg := by
  unfold enterExitLowering; (repeat' split) <;> first | with_reducible rfl | simp
@[simp] theorem enterExitLowering_sup_mode (q : Bool) (s : State) : (enterExitLowering q s).sup.mode = s.sup.mode := by
  unfold enterExitLowering; (repeat' split) <;> first | with_reducible rfl | simp
@[simp] theorem enterExitLowering_sup_watchdog (q : Bool) (s : State) : (enterExitLowering q s).sup.watchdog = s.sup.watchdog := by
  unfold enterExitLowering; (repeat' split) <;> first | with_reducible rfl | simp
@[simp] theorem enterExitLowering_sup_groupTripped (q : Bool) (s : State) : (enterExitLowering q s).sup.groupTripped = s.sup.groupTripped := by
  unfold enterExitLowering; (repeat' split) <;> first | with_reducible rfl | simp
@[simp] theorem enterExitLowering_sup_dark (q : Bool) (s : State) : (enterExitLowering q s).sup.dark = s.sup.dark := by
  unfold enterExitLowering; (repeat' split) <;> first | with_reducible rfl | simp
@[simp] theorem enterExitLowering_sup_pulseTimer (q : Bool) (s : State) : (enterExitLowering q s).sup.pulseTimer = s.sup.pulseTimer := by
  unfold enterExitLowering; (repeat' split) <;> first | with_reducible rfl | simp
@[simp] theorem evaluateGroups_pending (q : Bool) (s : State) : (evaluateGroups q s).pending = s.pending := by
  unfold evaluateGroups; (repeat' split) <;> first | with_reducible rfl | simp
@[simp] theorem evaluateGroups_pins (q : Bool) (s : State) : (evaluateGroups q s).pins = s.pins := by
  unfold evaluateGroups; (repeat' split) <;> first | with_reducible rfl | simp
@[simp] theorem evaluateGroups_reg (q : Bool) (s : State) : (evaluateGroups q s).reg = s.reg := by
  unfold evaluateGroups; (repeat' split) <;> first | with_reducible rfl | simp
@[simp] theorem evaluateGroups_zones (q : Bool) (s : State) : (evaluateGroups q s).zones = s.zones := by
  unfold evaluateGroups; (repeat' split) <;> first | with_reducible rfl | simp
@[simp] theorem evaluateGroups_loop (q : Bool) (s : State) : (evaluateGroups q s).loop = s.loop := by
  unfold evaluateGroups; (repeat' split) <;> first | with_reducible rfl | simp
@[simp] theorem evaluateGroups_store (q : Bool) (s : State) : (evaluateGroups q s).store = s.store := by
  unfold evaluateGroups; (repeat' split) <;> first | with_reducible rfl | simp
@[simp] theorem evaluateGroups_cfg (q : Bool) (s : State) : (evaluateGroups q s).cfg = s.cfg := by
  unfold evaluateGroups; (repeat' split) <;> first | with_reducible rfl | simp
@[simp] theorem evaluateGroups_seq_clearance (q : Bool) (s : State) : (evaluateGroups q s).seq.clearance = s.seq.clearance := by
  unfold evaluateGroups; (repeat' split) <;> first | with_reducible rfl | simp
@[simp] theorem evaluateGroups_sup_mode (q : Bool) (s : State) : (evaluateGroups q s).sup.mode = s.sup.mode := by
  unfold evaluateGroups; (repeat' split) <;> first | with_reducible rfl | simp
@[simp] theorem evaluateGroups_sup_watchdog (q : Bool) (s : State) : (evaluateGroups q s).sup.watchdog = s.sup.watchdog := by
  unfold evaluateGroups; (repeat' split) <;> first | with_reducible rfl | simp
@[simp] theorem evaluateGroups_sup_pulseTimer (q : Bool) (s : State) : (evaluateGroups q s).sup.pulseTimer = s.sup.pulseTimer := by
  unfold evaluateGroups; (repeat' split) <;> first | with_reducible rfl | simp
@[simp] theorem testWarning_pending (q : Bool) (s : State) : (testWarning q s).pending = s.pending := by
  unfold testWarning; (repeat' split) <;> first | with_reducible rfl | simp
@[simp] theorem testWarning_freeCount (q : Bool) (s : State) : (testWarning q s).freeCount = s.freeCount := by
  unfold testWarning; (repeat' split) <;> first | with_reducible rfl | simp
@[simp] theorem testWarning_pins (q : Bool) (s : State) : (testWarning q s).pins = s.pins := by
  unfold testWarning; (repeat' split) <;> first | with_reducible rfl | simp
@[simp] theorem testWarning_reg (q : Bool) (s : State) : (testWarning q s).reg = s.reg := by
  unfold testWarning; (repeat' split) <;> first | with_reducible rfl | simp
@[simp] theorem testWarning_seq (q : Bool) (s : State) : (testWarning q s).seq = s.seq := by
  unfold testWarning; (repeat' split) <;> first | with_reducible rfl | simp
@[simp] theorem testWarning_leaf (q : Bool) (s : State) : (testWarning q s).leaf = s.leaf := by
  unfold testWarning; (repeat' split) <;> first | with_reducible rfl | simp
@[simp] theorem testWarning_zones (q : Bool) (s : State) : (testWarning q s).zones = s.zones := by
  unfold testWarning; (repeat' split) <;> first | with_reducible rfl | simp
@[simp] theorem testWarning_loop (q : Bool) (s : State) : (testWarning q s).loop = s.loop := by
  unfold testWarning; (repeat' split) <;> first | with_reducible rfl | simp
@[simp] theorem testWarning_store (q : Bool) (s : State) : (testWarning q s).store = s.store := by
  unfold testWarning; (repeat' split) <;> first | with_reducible rfl | simp
@[simp] theorem testWarning_cfg (q : Bool) (s : State) : (testWarning q s).cfg = s.cfg := by
  unfold testWarning; (repeat' split) <;> first | with_reducible rfl | simp
@[simp] theorem testWarning_sup_mode (q : Bool) (s : State) : (testWarning q s).sup.mode = s.sup.mode := by
  unfold testWarning; (repeat' split) <;> first | with_reducible rfl | simp
@[simp] theorem testWarning_sup_watchdog (q : Bool) (s : State) : (testWarning q s).sup.watchdog = s.sup.watchdog := by
  unfold testWarning; (repeat' split) <;> first | with_reducible rfl | simp
@[simp] theorem testWarning_sup_groupTripped (q : Bool) (s : State) : (testWarning q s).sup.groupTripped = s.sup.groupTripped := by
  unfold testWarning; (repeat' split) <;> first | with_reducible rfl | simp
@[simp] theorem testWarning_sup_dark (q : Bool) (s : State) : (testWarning q s).sup.dark = s.sup.dark := by
  unfold testWarning; (repeat' split) <;> first | with_reducible rfl | simp
@[simp] theorem testWarning_sup_pulseTimer (q : Bool) (s : State) : (testWarning q s).sup.pulseTimer = s.sup.pulseTimer := by
  unfold testWarning; (repeat' split) <;> first | with_reducible rfl | simp
@[simp] theorem closeRequest_pending (q : Bool) (s : State) : (closeRequest q s).pending = s.pending := by
  unfold closeRequest; dsimp only; (repeat' split) <;> first | with_reducible rfl | simp
@[simp] theorem closeRequest_pins (q : Bool) (s : State) : (closeRequest q s).pins = s.pins := by
  unfold closeRequest; dsimp only; (repeat' split) <;> first | with_reducible rfl | simp
@[simp] theorem closeRequest_reg (q : Bool) (s : State) : (closeRequest q s).reg = s.reg := by
  unfold closeRequest; dsimp only; (repeat' split) <;> first | with_reducible rfl | simp
@[simp] theorem closeRequest_seq (q : Bool) (s : State) : (closeRequest q s).seq = s.seq := by
  unfold closeRequest; dsimp only; (repeat' split) <;> first | with_reducible rfl | simp
@[simp] theorem closeRequest_leaf (q : Bool) (s : State) : (closeRequest q s).leaf = s.leaf := by
  unfold closeRequest; dsimp only; (repeat' split) <;> first | with_reducible rfl | simp
@[simp] theorem closeRequest_zones (q : Bool) (s : State) : (closeRequest q s).zones = s.zones := by
  unfold closeRequest; dsimp only; (repeat' split) <;> first | with_reducible rfl | simp
@[simp] theorem closeRequest_loop (q : Bool) (s : State) : (closeRequest q s).loop = s.loop := by
  unfold closeRequest; dsimp only; (repeat' split) <;> first | with_reducible rfl | simp
@[simp] theorem closeRequest_stations (q : Bool) (s : State) : (closeRequest q s).stations = s.stations := by
  unfold closeRequest; dsimp only; (repeat' split) <;> first | with_reducible rfl | simp
@[simp] theorem closeRequest_store (q : Bool) (s : State) : (closeRequest q s).store = s.store := by
  unfold closeRequest; dsimp only; (repeat' split) <;> first | with_reducible rfl | simp
@[simp] theorem closeRequest_cfg (q : Bool) (s : State) : (closeRequest q s).cfg = s.cfg := by
  unfold closeRequest; dsimp only; (repeat' split) <;> first | with_reducible rfl | simp
@[simp] theorem closeRequest_sup_mode (q : Bool) (s : State) : (closeRequest q s).sup.mode = s.sup.mode := by
  unfold closeRequest; dsimp only; (repeat' split) <;> first | with_reducible rfl | simp
@[simp] theorem closeRequest_sup_watchdog (q : Bool) (s : State) : (closeRequest q s).sup.watchdog = s.sup.watchdog := by
  unfold closeRequest; dsimp only; (repeat' split) <;> first | with_reducible rfl | simp
@[simp] theorem closeRequest_sup_groupTripped (q : Bool) (s : State) : (closeRequest q s).sup.groupTripped = s.sup.groupTripped := by
  unfold closeRequest; dsimp only; (repeat' split) <;> first | with_reducible rfl | simp
@[simp] theorem closeRequest_sup_dark (q : Bool) (s : State) : (closeRequest q s).sup.dark = s.sup.dark := by
  unfold closeRequest; dsimp only; (repeat' split) <;> first | with_reducible rfl | simp
@[simp] theorem closeRequest_sup_pulseTimer (q : Bool) (s : State) : (closeRequest q s).sup.pulseTimer = s.sup.pulseTimer := by
  unfold closeRequest; dsimp only; (repeat' split) <;> first | with_reducible rfl | simp
@[simp] theorem phaseExpired_pending (s : State) : (phaseExpired s).pending = s.pending := by
  unfold phaseExpired; dsimp only; (repeat' split) <;> first | with_reducible rfl | simp
@[simp] theorem phaseExpired_freeCount (s : State) : (phaseExpired s).freeCount = s.freeCount := by
  unfold phaseExpired; dsimp only; (repeat' split) <;> first | with_reducible rfl | simp
@[simp] theorem phaseExpired_pins (s : State) : (phaseExpired s).pins = s.pins := by
  unfold phaseExpired; dsimp only; (repeat' split) <;> first | with_reducible rfl | simp
@[simp] theorem phaseExpired_reg (s : State) : (phaseExpired s).reg = s.reg := by
  unfold phaseExpired; dsimp only; (repeat' split) <;> first | with_reducible rfl | simp
@[simp] theorem phaseExpired_seq (s : State) : (phaseExpired s).seq = s.seq := by
  unfold phaseExpired; dsimp only; (repeat' split) <;> first | with_reducible rfl | simp
@[simp] theorem phaseExpired_leaf (s : State) : (phaseExpired s).leaf = s.leaf := by
  unfold phaseExpired; dsimp only; (repeat' split) <;> first | with_reducible rfl | simp
@[simp] theorem phaseExpired_zones (s : State) : (phaseExpired s).zones = s.zones := by
  unfold phaseExpired; dsimp only; (repeat' split) <;> first | with_reducible rfl | simp
@[simp] theorem phaseExpired_loop (s : State) : (phaseExpired s).loop = s.loop := by
  unfold phaseExpired; dsimp only; (repeat' split) <;> first | with_reducible rfl | simp
@[simp] theorem phaseExpired_store (s : State) : (phaseExpired s).store = s.store := by
  unfold phaseExpired; dsimp only; (repeat' split) <;> first | with_reducible rfl | simp
@[simp] theorem phaseExpired_cfg (s : State) : (phaseExpired s).cfg = s.cfg := by
  unfold phaseExpired; dsimp only; (repeat' split) <;> first | with_reducible rfl | simp
@[simp] theorem phaseExpired_sup_mode (s : State) : (phaseExpired s).sup.mode = s.sup.mode := by
  unfold phaseExpired; dsimp only; (repeat' split) <;> first | with_reducible rfl | simp
@[simp] theorem phaseExpired_sup_watchdog (s : State) : (phaseExpired s).sup.watchdog = s.sup.watchdog := by
  unfold phaseExpired; dsimp only; (repeat' split) <;> first | with_reducible rfl | simp
@[simp] theorem phaseExpired_sup_groupTripped (s : State) : (phaseExpired s).sup.groupTripped = s.sup.groupTripped := by
  unfold phaseExpired; dsimp only; (repeat' split) <;> first | with_reducible rfl | simp
@[simp] theorem phaseExpired_sup_dark (s : State) : (phaseExpired s).sup.dark = s.sup.dark := by
  unfold phaseExpired; dsimp only; (repeat' split) <;> first | with_reducible rfl | simp
@[simp] theorem phaseExpired_sup_pulseTimer (s : State) : (phaseExpired s).sup.pulseTimer = s.sup.pulseTimer := by
  unfold phaseExpired; dsimp only; (repeat' split) <;> first | with_reducible rfl | simp
@[simp] theorem redsProven_pending (l : List FunctionId) (s : State) : (redsProven l s).pending = s.pending := by
  unfold redsProven; dsimp only; (repeat' split) <;> first | with_reducible rfl | simp
@[simp] theorem redsProven_freeCount (l : List FunctionId) (s : State) : (redsProven l s).freeCount = s.freeCount := by
  unfold redsProven; dsimp only; (repeat' split) <;> first | with_reducible rfl | simp
@[simp] theorem redsProven_pins (l : List FunctionId) (s : State) : (redsProven l s).pins = s.pins := by
  unfold redsProven; dsimp only; (repeat' split) <;> first | with_reducible rfl | simp
@[simp] theorem redsProven_reg (l : List FunctionId) (s : State) : (redsProven l s).reg = s.reg := by
  unfold redsProven; dsimp only; (repeat' split) <;> first | with_reducible rfl | simp
@[simp] theorem redsProven_seq (l : List FunctionId) (s : State) : (redsProven l s).seq = s.seq := by
  unfold redsProven; dsimp only; (repeat' split) <;> first | with_reducible rfl | simp
@[simp] theorem redsProven_leaf (l : List FunctionId) (s : State) : (redsProven l s).leaf = s.leaf := by
  unfold redsProven; dsimp only; (repeat' split) <;> first | with_reducible rfl | simp
@[simp] theorem redsProven_zones (l : List FunctionId) (s : State) : (redsProven l s).zones = s.zones := by
  unfold redsProven; dsimp only; (repeat' split) <;> first | with_reducible rfl | simp
@[simp] theorem redsProven_loop (l : List FunctionId) (s : State) : (redsProven l s).loop = s.loop := by
  unfold redsProven; dsimp only; (repeat' split) <;> first | with_reducible rfl | simp
@[simp] theorem redsProven_store (l : List FunctionId) (s : State) : (redsProven l s).store = s.store := by
  unfold redsProven; dsimp only; (repeat' split) <;> first | with_reducible rfl | simp
@[simp] theorem redsProven_cfg (l : List FunctionId) (s : State) : (redsProven l s).cfg = s.cfg := by
  unfold redsProven; dsimp only; (repeat' split) <;> first | with_reducible rfl | simp
@[simp] theorem redsProven_sup_mode (l : List FunctionId) (s : State) : (redsProven l s).sup.mode = s.sup.mode := by
  unfold redsProven; dsimp only; (repeat' split) <;> first | with_reducible rfl | simp
@[simp] theorem redsProven_sup_watchdog (l : List FunctionId) (s : State) : (redsProven l s).sup.watchdog = s.sup.watchdog := by
  unfold redsProven; dsimp only; (repeat' split) <;> first | with_reducible rfl | simp
@[simp] theorem redsProven_sup_groupTripped (l : List FunctionId) (s : State) : (redsProven l s).sup.groupTripped = s.sup.groupTripped := by
  unfold redsProven; dsimp only; (repeat' split) <;> first | with_reducible rfl | simp
@[simp] theorem redsProven_sup_dark (l : List FunctionId) (s : State) : (redsProven l s).sup.dark = s.sup.dark := by
  unfold redsProven; dsimp only; (repeat' split) <;> first | with_reducible rfl | simp
@[simp] theorem redsProven_sup_pulseTimer (l : List FunctionId) (s : State) : (redsProven l s).sup.pulseTimer = s.sup.pulseTimer := by
  unfold redsProven; dsimp only; (repeat' split) <;> first | with_reducible rfl | simp
@[simp] theorem keepAttention_pending (old s : State) : (keepAttention old s).pending = s.pending := by
  simp [keepAttention]
@[simp] theorem keepAttention_freeCount (old s : State) : (keepAttention old s).freeCount = s.freeCount := by
  simp [keepAttention]
@[simp] theorem keepAttention_pins (old s : State) : (keepAttention old s).pins = s.pins := by
  simp [keepAttention]
@[simp] theorem keepAttention_reg (old s : State) : (keepAttention old s).reg = s.reg := by
  simp [keepAttention]
@[simp] theorem keepAttention_seq (old s : State) : (keepAttention old s).seq = s.seq := by
  simp [keepAttention]
@[simp] theorem keepAttention_leaf (old s : State) : (keepAttention old s).leaf = s.leaf := by
  simp [keepAttention]
@[simp] theorem keepAttention_closure (old s : State) : (keepAttention old s).closure = s.closure := by
  simp [keepAttention]
@[simp] theorem keepAttention_arms (old s : State) : (keepAttention old s).arms = s.arms := by
  simp [keepAttention]
@[simp] theorem keepAttention_zones (old s : State) : (keepAttention old s).zones = s.zones := by
  simp [keepAttention]
@[simp] theorem keepAttention_loop (old s : State) : (keepAttention old s).loop = s.loop := by
  simp [keepAttention]
@[simp] theorem keepAttention_stations (old s : State) : (keepAttention old s).stations = s.stations := by
  simp [keepAttention]
@[simp] theorem keepAttention_lamp (old s : State) : (keepAttention old s).lamp = s.lamp := by
  simp [keepAttention]
@[simp] theorem keepAttention_display (old s : State) : (keepAttention old s).display = s.display := by
  simp [keepAttention]
@[simp] theorem keepAttention_sup (old s : State) : (keepAttention old s).sup = s.sup := by
  simp [keepAttention]
@[simp] theorem keepAttention_store (old s : State) : (keepAttention old s).store = s.store := by
  simp [keepAttention]
@[simp] theorem keepAttention_cfg (old s : State) : (keepAttention old s).cfg = s.cfg := by
  simp [keepAttention]
@[simp] theorem keepAttention_control (old s : State) : (keepAttention old s).links.control =
    { s.links.control with attention := old.links.control.attention } := rfl
@[simp] theorem keepAttention_harbour (old s : State) : (keepAttention old s).links.harbour =
    { s.links.harbour with attention := old.links.harbour.attention } := rfl
@[simp] theorem endFlashHalf_pending (s : State) : (endFlashHalf s).pending = s.pending := by
  unfold endFlashHalf; (repeat' split) <;> first | with_reducible rfl | simp
@[simp] theorem endFlashHalf_freeCount (s : State) : (endFlashHalf s).freeCount = s.freeCount := by
  unfold endFlashHalf; (repeat' split) <;> first | with_reducible rfl | simp
@[simp] theorem endFlashHalf_pins (s : State) : (endFlashHalf s).pins = s.pins := by
  unfold endFlashHalf; (repeat' split) <;> first | with_reducible rfl | simp
@[simp] theorem endFlashHalf_reg (s : State) : (endFlashHalf s).reg = s.reg := by
  unfold endFlashHalf; (repeat' split) <;> first | with_reducible rfl | simp
@[simp] theorem endFlashHalf_seq (s : State) : (endFlashHalf s).seq = s.seq := by
  unfold endFlashHalf; (repeat' split) <;> first | with_reducible rfl | simp
@[simp] theorem endFlashHalf_leaf (s : State) : (endFlashHalf s).leaf = s.leaf := by
  unfold endFlashHalf; (repeat' split) <;> first | with_reducible rfl | simp
@[simp] theorem endFlashHalf_zones (s : State) : (endFlashHalf s).zones = s.zones := by
  unfold endFlashHalf; (repeat' split) <;> first | with_reducible rfl | simp
@[simp] theorem endFlashHalf_loop (s : State) : (endFlashHalf s).loop = s.loop := by
  unfold endFlashHalf; (repeat' split) <;> first | with_reducible rfl | simp
@[simp] theorem endFlashHalf_store (s : State) : (endFlashHalf s).store = s.store := by
  unfold endFlashHalf; (repeat' split) <;> first | with_reducible rfl | simp
@[simp] theorem endFlashHalf_cfg (s : State) : (endFlashHalf s).cfg = s.cfg := by
  unfold endFlashHalf; (repeat' split) <;> first | with_reducible rfl | simp
@[simp] theorem endFlashHalf_sup_mode (s : State) : (endFlashHalf s).sup.mode = s.sup.mode := by
  unfold endFlashHalf; (repeat' split) <;> first | with_reducible rfl | simp
@[simp] theorem endFlashHalf_sup_watchdog (s : State) : (endFlashHalf s).sup.watchdog = s.sup.watchdog := by
  unfold endFlashHalf; (repeat' split) <;> first | with_reducible rfl | simp
@[simp] theorem endFlashHalf_sup_groupTripped (s : State) : (endFlashHalf s).sup.groupTripped = s.sup.groupTripped := by
  unfold endFlashHalf; (repeat' split) <;> first | with_reducible rfl | simp
@[simp] theorem endFlashHalf_sup_dark (s : State) : (endFlashHalf s).sup.dark = s.sup.dark := by
  unfold endFlashHalf; (repeat' split) <;> first | with_reducible rfl | simp
@[simp] theorem endFlashHalf_sup_pulseTimer (s : State) : (endFlashHalf s).sup.pulseTimer = s.sup.pulseTimer := by
  unfold endFlashHalf; (repeat' split) <;> first | with_reducible rfl | simp
@[simp] theorem armAcknowledged_pending (a : ArmId) (c : LoopCommand) (s : State) : (armAcknowledged a c s).pending = s.pending := by
  unfold armAcknowledged; (repeat' split) <;> first | with_reducible rfl | simp
@[simp] theorem armAcknowledged_freeCount (a : ArmId) (c : LoopCommand) (s : State) : (armAcknowledged a c s).freeCount = s.freeCount := by
  unfold armAcknowledged; (repeat' split) <;> first | with_reducible rfl | simp
@[simp] theorem armAcknowledged_pins (a : ArmId) (c : LoopCommand) (s : State) : (armAcknowledged a c s).pins = s.pins := by
  unfold armAcknowledged; (repeat' split) <;> first | with_reducible rfl | simp
@[simp] theorem armAcknowledged_links (a : ArmId) (c : LoopCommand) (s : State) : (armAcknowledged a c s).links = s.links := by
  unfold armAcknowledged; (repeat' split) <;> first | with_reducible rfl | simp
@[simp] theorem armAcknowledged_reg (a : ArmId) (c : LoopCommand) (s : State) : (armAcknowledged a c s).reg = s.reg := by
  unfold armAcknowledged; (repeat' split) <;> first | with_reducible rfl | simp
@[simp] theorem armAcknowledged_seq (a : ArmId) (c : LoopCommand) (s : State) : (armAcknowledged a c s).seq = s.seq := by
  unfold armAcknowledged; (repeat' split) <;> first | with_reducible rfl | simp
@[simp] theorem armAcknowledged_leaf (a : ArmId) (c : LoopCommand) (s : State) : (armAcknowledged a c s).leaf = s.leaf := by
  unfold armAcknowledged; (repeat' split) <;> first | with_reducible rfl | simp
@[simp] theorem armAcknowledged_closure (a : ArmId) (c : LoopCommand) (s : State) : (armAcknowledged a c s).closure = s.closure := by
  unfold armAcknowledged; (repeat' split) <;> first | with_reducible rfl | simp
@[simp] theorem armAcknowledged_zones (a : ArmId) (c : LoopCommand) (s : State) : (armAcknowledged a c s).zones = s.zones := by
  unfold armAcknowledged; (repeat' split) <;> first | with_reducible rfl | simp
@[simp] theorem armAcknowledged_loop (a : ArmId) (c : LoopCommand) (s : State) : (armAcknowledged a c s).loop = s.loop := by
  unfold armAcknowledged; (repeat' split) <;> first | with_reducible rfl | simp
@[simp] theorem armAcknowledged_stations (a : ArmId) (c : LoopCommand) (s : State) : (armAcknowledged a c s).stations = s.stations := by
  unfold armAcknowledged; (repeat' split) <;> first | with_reducible rfl | simp
@[simp] theorem armAcknowledged_lamp (a : ArmId) (c : LoopCommand) (s : State) : (armAcknowledged a c s).lamp = s.lamp := by
  unfold armAcknowledged; (repeat' split) <;> first | with_reducible rfl | simp
@[simp] theorem armAcknowledged_display (a : ArmId) (c : LoopCommand) (s : State) : (armAcknowledged a c s).display = s.display := by
  unfold armAcknowledged; (repeat' split) <;> first | with_reducible rfl | simp
@[simp] theorem armAcknowledged_sup (a : ArmId) (c : LoopCommand) (s : State) : (armAcknowledged a c s).sup = s.sup := by
  unfold armAcknowledged; (repeat' split) <;> first | with_reducible rfl | simp
@[simp] theorem armAcknowledged_store (a : ArmId) (c : LoopCommand) (s : State) : (armAcknowledged a c s).store = s.store := by
  unfold armAcknowledged; (repeat' split) <;> first | with_reducible rfl | simp
@[simp] theorem armAcknowledged_cfg (a : ArmId) (c : LoopCommand) (s : State) : (armAcknowledged a c s).cfg = s.cfg := by
  unfold armAcknowledged; (repeat' split) <;> first | with_reducible rfl | simp
@[simp] theorem obstruction_pending (a : ArmId) (s : State) : (obstruction a s).pending = s.pending := by
  unfold obstruction; (repeat' split) <;> first | with_reducible rfl | simp
@[simp] theorem obstruction_freeCount (a : ArmId) (s : State) : (obstruction a s).freeCount = s.freeCount := by
  unfold obstruction; (repeat' split) <;> first | with_reducible rfl | simp
@[simp] theorem obstruction_pins (a : ArmId) (s : State) : (obstruction a s).pins = s.pins := by
  unfold obstruction; (repeat' split) <;> first | with_reducible rfl | simp
@[simp] theorem obstruction_reg (a : ArmId) (s : State) : (obstruction a s).reg = s.reg := by
  unfold obstruction; (repeat' split) <;> first | with_reducible rfl | simp
@[simp] theorem obstruction_seq (a : ArmId) (s : State) : (obstruction a s).seq = s.seq := by
  unfold obstruction; (repeat' split) <;> first | with_reducible rfl | simp
@[simp] theorem obstruction_leaf (a : ArmId) (s : State) : (obstruction a s).leaf = s.leaf := by
  unfold obstruction; (repeat' split) <;> first | with_reducible rfl | simp
@[simp] theorem obstruction_zones (a : ArmId) (s : State) : (obstruction a s).zones = s.zones := by
  unfold obstruction; (repeat' split) <;> first | with_reducible rfl | simp
@[simp] theorem obstruction_loop (a : ArmId) (s : State) : (obstruction a s).loop = s.loop := by
  unfold obstruction; (repeat' split) <;> first | with_reducible rfl | simp
@[simp] theorem obstruction_stations (a : ArmId) (s : State) : (obstruction a s).stations = s.stations := by
  unfold obstruction; (repeat' split) <;> first | with_reducible rfl | simp
@[simp] theorem obstruction_store (a : ArmId) (s : State) : (obstruction a s).store = s.store := by
  unfold obstruction; (repeat' split) <;> first | with_reducible rfl | simp
@[simp] theorem obstruction_cfg (a : ArmId) (s : State) : (obstruction a s).cfg = s.cfg := by
  unfold obstruction; (repeat' split) <;> first | with_reducible rfl | simp
@[simp] theorem obstruction_sup_mode (a : ArmId) (s : State) : (obstruction a s).sup.mode = s.sup.mode := by
  unfold obstruction; (repeat' split) <;> first | with_reducible rfl | simp
@[simp] theorem obstruction_sup_watchdog (a : ArmId) (s : State) : (obstruction a s).sup.watchdog = s.sup.watchdog := by
  unfold obstruction; (repeat' split) <;> first | with_reducible rfl | simp
@[simp] theorem obstruction_sup_groupTripped (a : ArmId) (s : State) : (obstruction a s).sup.groupTripped = s.sup.groupTripped := by
  unfold obstruction; (repeat' split) <;> first | with_reducible rfl | simp
@[simp] theorem obstruction_sup_dark (a : ArmId) (s : State) : (obstruction a s).sup.dark = s.sup.dark := by
  unfold obstruction; (repeat' split) <;> first | with_reducible rfl | simp
@[simp] theorem localReport_pending (a : ArmId) (s : State) : (localReport a s).pending = s.pending := by
  unfold localReport; dsimp only; (repeat' split) <;> first | with_reducible rfl | simp
@[simp] theorem localReport_freeCount (a : ArmId) (s : State) : (localReport a s).freeCount = s.freeCount := by
  unfold localReport; dsimp only; (repeat' split) <;> first | with_reducible rfl | simp
@[simp] theorem localReport_pins (a : ArmId) (s : State) : (localReport a s).pins = s.pins := by
  unfold localReport; dsimp only; (repeat' split) <;> first | with_reducible rfl | simp
@[simp] theorem localReport_reg (a : ArmId) (s : State) : (localReport a s).reg = s.reg := by
  unfold localReport; dsimp only; (repeat' split) <;> first | with_reducible rfl | simp
@[simp] theorem localReport_seq (a : ArmId) (s : State) : (localReport a s).seq = s.seq := by
  unfold localReport; dsimp only; (repeat' split) <;> first | with_reducible rfl | simp
@[simp] theorem localReport_leaf (a : ArmId) (s : State) : (localReport a s).leaf = s.leaf := by
  unfold localReport; dsimp only; (repeat' split) <;> first | with_reducible rfl | simp
@[simp] theorem localReport_zones (a : ArmId) (s : State) : (localReport a s).zones = s.zones := by
  unfold localReport; dsimp only; (repeat' split) <;> first | with_reducible rfl | simp
@[simp] theorem localReport_loop (a : ArmId) (s : State) : (localReport a s).loop = s.loop := by
  unfold localReport; dsimp only; (repeat' split) <;> first | with_reducible rfl | simp
@[simp] theorem localReport_stations (a : ArmId) (s : State) : (localReport a s).stations = s.stations := by
  unfold localReport; dsimp only; (repeat' split) <;> first | with_reducible rfl | simp
@[simp] theorem localReport_store (a : ArmId) (s : State) : (localReport a s).store = s.store := by
  unfold localReport; dsimp only; (repeat' split) <;> first | with_reducible rfl | simp
@[simp] theorem localReport_cfg (a : ArmId) (s : State) : (localReport a s).cfg = s.cfg := by
  unfold localReport; dsimp only; (repeat' split) <;> first | with_reducible rfl | simp
@[simp] theorem localReport_sup_mode (a : ArmId) (s : State) : (localReport a s).sup.mode = s.sup.mode := by
  unfold localReport; dsimp only; (repeat' split) <;> first | with_reducible rfl | simp
@[simp] theorem localReport_sup_watchdog (a : ArmId) (s : State) : (localReport a s).sup.watchdog = s.sup.watchdog := by
  unfold localReport; dsimp only; (repeat' split) <;> first | with_reducible rfl | simp
@[simp] theorem localReport_sup_groupTripped (a : ArmId) (s : State) : (localReport a s).sup.groupTripped = s.sup.groupTripped := by
  unfold localReport; dsimp only; (repeat' split) <;> first | with_reducible rfl | simp
@[simp] theorem localReport_sup_dark (a : ArmId) (s : State) : (localReport a s).sup.dark = s.sup.dark := by
  unfold localReport; dsimp only; (repeat' split) <;> first | with_reducible rfl | simp
@[simp] theorem localReport_sup_pulseTimer (a : ArmId) (s : State) : (localReport a s).sup.pulseTimer = s.sup.pulseTimer := by
  unfold localReport; dsimp only; (repeat' split) <;> first | with_reducible rfl | simp
@[simp] theorem travelExpired_pending (a : ArmId) (s : State) : (travelExpired a s).pending = s.pending := by
  unfold travelExpired; (repeat' split) <;> first | with_reducible rfl | simp
@[simp] theorem travelExpired_freeCount (a : ArmId) (s : State) : (travelExpired a s).freeCount = s.freeCount := by
  unfold travelExpired; (repeat' split) <;> first | with_reducible rfl | simp
@[simp] theorem travelExpired_pins (a : ArmId) (s : State) : (travelExpired a s).pins = s.pins := by
  unfold travelExpired; (repeat' split) <;> first | with_reducible rfl | simp
@[simp] theorem travelExpired_reg (a : ArmId) (s : State) : (travelExpired a s).reg = s.reg := by
  unfold travelExpired; (repeat' split) <;> first | with_reducible rfl | simp
@[simp] theorem travelExpired_seq (a : ArmId) (s : State) : (travelExpired a s).seq = s.seq := by
  unfold travelExpired; (repeat' split) <;> first | with_reducible rfl | simp
@[simp] theorem travelExpired_leaf (a : ArmId) (s : State) : (travelExpired a s).leaf = s.leaf := by
  unfold travelExpired; (repeat' split) <;> first | with_reducible rfl | simp
@[simp] theorem travelExpired_zones (a : ArmId) (s : State) : (travelExpired a s).zones = s.zones := by
  unfold travelExpired; (repeat' split) <;> first | with_reducible rfl | simp
@[simp] theorem travelExpired_loop (a : ArmId) (s : State) : (travelExpired a s).loop = s.loop := by
  unfold travelExpired; (repeat' split) <;> first | with_reducible rfl | simp
@[simp] theorem travelExpired_stations (a : ArmId) (s : State) : (travelExpired a s).stations = s.stations := by
  unfold travelExpired; (repeat' split) <;> first | with_reducible rfl | simp
@[simp] theorem travelExpired_store (a : ArmId) (s : State) : (travelExpired a s).store = s.store := by
  unfold travelExpired; (repeat' split) <;> first | with_reducible rfl | simp
@[simp] theorem travelExpired_cfg (a : ArmId) (s : State) : (travelExpired a s).cfg = s.cfg := by
  unfold travelExpired; (repeat' split) <;> first | with_reducible rfl | simp
@[simp] theorem travelExpired_sup_mode (a : ArmId) (s : State) : (travelExpired a s).sup.mode = s.sup.mode := by
  unfold travelExpired; (repeat' split) <;> first | with_reducible rfl | simp
@[simp] theorem travelExpired_sup_watchdog (a : ArmId) (s : State) : (travelExpired a s).sup.watchdog = s.sup.watchdog := by
  unfold travelExpired; (repeat' split) <;> first | with_reducible rfl | simp
@[simp] theorem travelExpired_sup_groupTripped (a : ArmId) (s : State) : (travelExpired a s).sup.groupTripped = s.sup.groupTripped := by
  unfold travelExpired; (repeat' split) <;> first | with_reducible rfl | simp
@[simp] theorem travelExpired_sup_dark (a : ArmId) (s : State) : (travelExpired a s).sup.dark = s.sup.dark := by
  unfold travelExpired; (repeat' split) <;> first | with_reducible rfl | simp
@[simp] theorem travelExpired_sup_pulseTimer (a : ArmId) (s : State) : (travelExpired a s).sup.pulseTimer = s.sup.pulseTimer := by
  unfold travelExpired; (repeat' split) <;> first | with_reducible rfl | simp
@[simp] theorem retryExpired_pending (a : ArmId) (s : State) : (retryExpired a s).pending = s.pending := by
  unfold retryExpired; (repeat' split) <;> first | with_reducible rfl | simp
@[simp] theorem retryExpired_freeCount (a : ArmId) (s : State) : (retryExpired a s).freeCount = s.freeCount := by
  unfold retryExpired; (repeat' split) <;> first | with_reducible rfl | simp
@[simp] theorem retryExpired_pins (a : ArmId) (s : State) : (retryExpired a s).pins = s.pins := by
  unfold retryExpired; (repeat' split) <;> first | with_reducible rfl | simp
@[simp] theorem retryExpired_links (a : ArmId) (s : State) : (retryExpired a s).links = s.links := by
  unfold retryExpired; (repeat' split) <;> first | with_reducible rfl | simp
@[simp] theorem retryExpired_reg (a : ArmId) (s : State) : (retryExpired a s).reg = s.reg := by
  unfold retryExpired; (repeat' split) <;> first | with_reducible rfl | simp
@[simp] theorem retryExpired_seq (a : ArmId) (s : State) : (retryExpired a s).seq = s.seq := by
  unfold retryExpired; (repeat' split) <;> first | with_reducible rfl | simp
@[simp] theorem retryExpired_leaf (a : ArmId) (s : State) : (retryExpired a s).leaf = s.leaf := by
  unfold retryExpired; (repeat' split) <;> first | with_reducible rfl | simp
@[simp] theorem retryExpired_closure (a : ArmId) (s : State) : (retryExpired a s).closure = s.closure := by
  unfold retryExpired; (repeat' split) <;> first | with_reducible rfl | simp
@[simp] theorem retryExpired_zones (a : ArmId) (s : State) : (retryExpired a s).zones = s.zones := by
  unfold retryExpired; (repeat' split) <;> first | with_reducible rfl | simp
@[simp] theorem retryExpired_loop (a : ArmId) (s : State) : (retryExpired a s).loop = s.loop := by
  unfold retryExpired; (repeat' split) <;> first | with_reducible rfl | simp
@[simp] theorem retryExpired_lamp (a : ArmId) (s : State) : (retryExpired a s).lamp = s.lamp := by
  unfold retryExpired; (repeat' split) <;> first | with_reducible rfl | simp
@[simp] theorem retryExpired_display (a : ArmId) (s : State) : (retryExpired a s).display = s.display := by
  unfold retryExpired; (repeat' split) <;> first | with_reducible rfl | simp
@[simp] theorem retryExpired_sup (a : ArmId) (s : State) : (retryExpired a s).sup = s.sup := by
  unfold retryExpired; (repeat' split) <;> first | with_reducible rfl | simp
@[simp] theorem retryExpired_store (a : ArmId) (s : State) : (retryExpired a s).store = s.store := by
  unfold retryExpired; (repeat' split) <;> first | with_reducible rfl | simp
@[simp] theorem retryExpired_cfg (a : ArmId) (s : State) : (retryExpired a s).cfg = s.cfg := by
  unfold retryExpired; (repeat' split) <;> first | with_reducible rfl | simp
@[simp] theorem closureZone_pending (b : Bool) (s : State) : (closureZone b s).pending = s.pending := by
  unfold closureZone; dsimp only; (repeat' split) <;> first | with_reducible rfl | simp
@[simp] theorem closureZone_freeCount (b : Bool) (s : State) : (closureZone b s).freeCount = s.freeCount := by
  unfold closureZone; dsimp only; (repeat' split) <;> first | with_reducible rfl | simp
@[simp] theorem closureZone_pins (b : Bool) (s : State) : (closureZone b s).pins = s.pins := by
  unfold closureZone; dsimp only; (repeat' split) <;> first | with_reducible rfl | simp
@[simp] theorem closureZone_reg (b : Bool) (s : State) : (closureZone b s).reg = s.reg := by
  unfold closureZone; dsimp only; (repeat' split) <;> first | with_reducible rfl | simp
@[simp] theorem closureZone_seq (b : Bool) (s : State) : (closureZone b s).seq = s.seq := by
  unfold closureZone; dsimp only; (repeat' split) <;> first | with_reducible rfl | simp
@[simp] theorem closureZone_leaf (b : Bool) (s : State) : (closureZone b s).leaf = s.leaf := by
  unfold closureZone; dsimp only; (repeat' split) <;> first | with_reducible rfl | simp
@[simp] theorem closureZone_zones (b : Bool) (s : State) : (closureZone b s).zones = s.zones := by
  unfold closureZone; dsimp only; (repeat' split) <;> first | with_reducible rfl | simp
@[simp] theorem closureZone_loop (b : Bool) (s : State) : (closureZone b s).loop = s.loop := by
  unfold closureZone; dsimp only; (repeat' split) <;> first | with_reducible rfl | simp
@[simp] theorem closureZone_store (b : Bool) (s : State) : (closureZone b s).store = s.store := by
  unfold closureZone; dsimp only; (repeat' split) <;> first | with_reducible rfl | simp
@[simp] theorem closureZone_cfg (b : Bool) (s : State) : (closureZone b s).cfg = s.cfg := by
  unfold closureZone; dsimp only; (repeat' split) <;> first | with_reducible rfl | simp
@[simp] theorem closureZone_sup_mode (b : Bool) (s : State) : (closureZone b s).sup.mode = s.sup.mode := by
  unfold closureZone; dsimp only; (repeat' split) <;> first | with_reducible rfl | simp
@[simp] theorem closureZone_sup_watchdog (b : Bool) (s : State) : (closureZone b s).sup.watchdog = s.sup.watchdog := by
  unfold closureZone; dsimp only; (repeat' split) <;> first | with_reducible rfl | simp
@[simp] theorem closureZone_sup_groupTripped (b : Bool) (s : State) : (closureZone b s).sup.groupTripped = s.sup.groupTripped := by
  unfold closureZone; dsimp only; (repeat' split) <;> first | with_reducible rfl | simp
@[simp] theorem closureZone_sup_dark (b : Bool) (s : State) : (closureZone b s).sup.dark = s.sup.dark := by
  unfold closureZone; dsimp only; (repeat' split) <;> first | with_reducible rfl | simp
@[simp] theorem closureZone_sup_pulseTimer (b : Bool) (s : State) : (closureZone b s).sup.pulseTimer = s.sup.pulseTimer := by
  unfold closureZone; dsimp only; (repeat' split) <;> first | with_reducible rfl | simp
@[simp] theorem zoneInput_pending (z : ZoneId) (b : Bool) (s : State) : (zoneInput z b s).pending = s.pending := by
  unfold zoneInput; (repeat' split) <;> first | with_reducible rfl | simp
@[simp] theorem zoneInput_freeCount (z : ZoneId) (b : Bool) (s : State) : (zoneInput z b s).freeCount = s.freeCount := by
  unfold zoneInput; (repeat' split) <;> first | with_reducible rfl | simp
@[simp] theorem zoneInput_pins (z : ZoneId) (b : Bool) (s : State) : (zoneInput z b s).pins = s.pins := by
  unfold zoneInput; (repeat' split) <;> first | with_reducible rfl | simp
@[simp] theorem zoneInput_links (z : ZoneId) (b : Bool) (s : State) : (zoneInput z b s).links = s.links := by
  unfold zoneInput; (repeat' split) <;> first | with_reducible rfl | simp
@[simp] theorem zoneInput_reg (z : ZoneId) (b : Bool) (s : State) : (zoneInput z b s).reg = s.reg := by
  unfold zoneInput; (repeat' split) <;> first | with_reducible rfl | simp
@[simp] theorem zoneInput_seq (z : ZoneId) (b : Bool) (s : State) : (zoneInput z b s).seq = s.seq := by
  unfold zoneInput; (repeat' split) <;> first | with_reducible rfl | simp
@[simp] theorem zoneInput_leaf (z : ZoneId) (b : Bool) (s : State) : (zoneInput z b s).leaf = s.leaf := by
  unfold zoneInput; (repeat' split) <;> first | with_reducible rfl | simp
@[simp] theorem zoneInput_closure (z : ZoneId) (b : Bool) (s : State) : (zoneInput z b s).closure = s.closure := by
  unfold zoneInput; (repeat' split) <;> first | with_reducible rfl | simp
@[simp] theorem zoneInput_arms (z : ZoneId) (b : Bool) (s : State) : (zoneInput z b s).arms = s.arms := by
  unfold zoneInput; (repeat' split) <;> first | with_reducible rfl | simp
@[simp] theorem zoneInput_loop (z : ZoneId) (b : Bool) (s : State) : (zoneInput z b s).loop = s.loop := by
  unfold zoneInput; (repeat' split) <;> first | with_reducible rfl | simp
@[simp] theorem zoneInput_stations (z : ZoneId) (b : Bool) (s : State) : (zoneInput z b s).stations = s.stations := by
  unfold zoneInput; (repeat' split) <;> first | with_reducible rfl | simp
@[simp] theorem zoneInput_lamp (z : ZoneId) (b : Bool) (s : State) : (zoneInput z b s).lamp = s.lamp := by
  unfold zoneInput; (repeat' split) <;> first | with_reducible rfl | simp
@[simp] theorem zoneInput_display (z : ZoneId) (b : Bool) (s : State) : (zoneInput z b s).display = s.display := by
  unfold zoneInput; (repeat' split) <;> first | with_reducible rfl | simp
@[simp] theorem zoneInput_sup (z : ZoneId) (b : Bool) (s : State) : (zoneInput z b s).sup = s.sup := by
  unfold zoneInput; (repeat' split) <;> first | with_reducible rfl | simp
@[simp] theorem zoneInput_store (z : ZoneId) (b : Bool) (s : State) : (zoneInput z b s).store = s.store := by
  unfold zoneInput; (repeat' split) <;> first | with_reducible rfl | simp
@[simp] theorem zoneInput_cfg (z : ZoneId) (b : Bool) (s : State) : (zoneInput z b s).cfg = s.cfg := by
  unfold zoneInput; (repeat' split) <;> first | with_reducible rfl | simp
@[simp] theorem armIn_pending (a : ArmId) (s : State) : (armIn a s).pending = s.pending := by
  unfold armIn; dsimp only; (repeat' split) <;> first | with_reducible rfl | simp
@[simp] theorem armIn_freeCount (a : ArmId) (s : State) : (armIn a s).freeCount = s.freeCount := by
  unfold armIn; dsimp only; (repeat' split) <;> first | with_reducible rfl | simp
@[simp] theorem armIn_pins (a : ArmId) (s : State) : (armIn a s).pins = s.pins := by
  unfold armIn; dsimp only; (repeat' split) <;> first | with_reducible rfl | simp
@[simp] theorem armIn_links (a : ArmId) (s : State) : (armIn a s).links = s.links := by
  unfold armIn; dsimp only; (repeat' split) <;> first | with_reducible rfl | simp
@[simp] theorem armIn_reg (a : ArmId) (s : State) : (armIn a s).reg = s.reg := by
  unfold armIn; dsimp only; (repeat' split) <;> first | with_reducible rfl | simp
@[simp] theorem armIn_seq (a : ArmId) (s : State) : (armIn a s).seq = s.seq := by
  unfold armIn; dsimp only; (repeat' split) <;> first | with_reducible rfl | simp
@[simp] theorem armIn_leaf (a : ArmId) (s : State) : (armIn a s).leaf = s.leaf := by
  unfold armIn; dsimp only; (repeat' split) <;> first | with_reducible rfl | simp
@[simp] theorem armIn_closure (a : ArmId) (s : State) : (armIn a s).closure = s.closure := by
  unfold armIn; dsimp only; (repeat' split) <;> first | with_reducible rfl | simp
@[simp] theorem armIn_zones (a : ArmId) (s : State) : (armIn a s).zones = s.zones := by
  unfold armIn; dsimp only; (repeat' split) <;> first | with_reducible rfl | simp
@[simp] theorem armIn_loop (a : ArmId) (s : State) : (armIn a s).loop = s.loop := by
  unfold armIn; dsimp only; (repeat' split) <;> first | with_reducible rfl | simp
@[simp] theorem armIn_lamp (a : ArmId) (s : State) : (armIn a s).lamp = s.lamp := by
  unfold armIn; dsimp only; (repeat' split) <;> first | with_reducible rfl | simp
@[simp] theorem armIn_display (a : ArmId) (s : State) : (armIn a s).display = s.display := by
  unfold armIn; dsimp only; (repeat' split) <;> first | with_reducible rfl | simp
@[simp] theorem armIn_sup (a : ArmId) (s : State) : (armIn a s).sup = s.sup := by
  unfold armIn; dsimp only; (repeat' split) <;> first | with_reducible rfl | simp
@[simp] theorem armIn_store (a : ArmId) (s : State) : (armIn a s).store = s.store := by
  unfold armIn; dsimp only; (repeat' split) <;> first | with_reducible rfl | simp
@[simp] theorem armIn_cfg (a : ArmId) (s : State) : (armIn a s).cfg = s.cfg := by
  unfold armIn; dsimp only; (repeat' split) <;> first | with_reducible rfl | simp
@[simp] theorem putReply_pending (l : Link) (k : Byte) (o : OutcomeCode) (b : List Byte) (s : State) : (putReply l k o b s).pending = s.pending := by
  unfold putReply; simp
@[simp] theorem putReply_freeCount (l : Link) (k : Byte) (o : OutcomeCode) (b : List Byte) (s : State) : (putReply l k o b s).freeCount = s.freeCount := by
  unfold putReply; simp
@[simp] theorem putReply_pins (l : Link) (k : Byte) (o : OutcomeCode) (b : List Byte) (s : State) : (putReply l k o b s).pins = s.pins := by
  unfold putReply; simp
@[simp] theorem putReply_reg (l : Link) (k : Byte) (o : OutcomeCode) (b : List Byte) (s : State) : (putReply l k o b s).reg = s.reg := by
  unfold putReply; simp
@[simp] theorem putReply_seq (l : Link) (k : Byte) (o : OutcomeCode) (b : List Byte) (s : State) : (putReply l k o b s).seq = s.seq := by
  unfold putReply; simp
@[simp] theorem putReply_leaf (l : Link) (k : Byte) (o : OutcomeCode) (b : List Byte) (s : State) : (putReply l k o b s).leaf = s.leaf := by
  unfold putReply; simp
@[simp] theorem putReply_closure (l : Link) (k : Byte) (o : OutcomeCode) (b : List Byte) (s : State) : (putReply l k o b s).closure = s.closure := by
  unfold putReply; simp
@[simp] theorem putReply_arms (l : Link) (k : Byte) (o : OutcomeCode) (b : List Byte) (s : State) : (putReply l k o b s).arms = s.arms := by
  unfold putReply; simp
@[simp] theorem putReply_zones (l : Link) (k : Byte) (o : OutcomeCode) (b : List Byte) (s : State) : (putReply l k o b s).zones = s.zones := by
  unfold putReply; simp
@[simp] theorem putReply_loop (l : Link) (k : Byte) (o : OutcomeCode) (b : List Byte) (s : State) : (putReply l k o b s).loop = s.loop := by
  unfold putReply; simp
@[simp] theorem putReply_stations (l : Link) (k : Byte) (o : OutcomeCode) (b : List Byte) (s : State) : (putReply l k o b s).stations = s.stations := by
  unfold putReply; simp
@[simp] theorem putReply_lamp (l : Link) (k : Byte) (o : OutcomeCode) (b : List Byte) (s : State) : (putReply l k o b s).lamp = s.lamp := by
  unfold putReply; simp
@[simp] theorem putReply_display (l : Link) (k : Byte) (o : OutcomeCode) (b : List Byte) (s : State) : (putReply l k o b s).display = s.display := by
  unfold putReply; simp
@[simp] theorem putReply_sup (l : Link) (k : Byte) (o : OutcomeCode) (b : List Byte) (s : State) : (putReply l k o b s).sup = s.sup := by
  unfold putReply; simp
@[simp] theorem putReply_store (l : Link) (k : Byte) (o : OutcomeCode) (b : List Byte) (s : State) : (putReply l k o b s).store = s.store := by
  unfold putReply; simp
@[simp] theorem putReply_cfg (l : Link) (k : Byte) (o : OutcomeCode) (b : List Byte) (s : State) : (putReply l k o b s).cfg = s.cfg := by
  unfold putReply; simp
@[simp] theorem restartWatchdog_pending (l : Link) (s : State) : (restartWatchdog l s).pending = s.pending := by
  unfold restartWatchdog; dsimp only; (repeat' split) <;> first | with_reducible rfl | simp
@[simp] theorem restartWatchdog_freeCount (l : Link) (s : State) : (restartWatchdog l s).freeCount = s.freeCount := by
  unfold restartWatchdog; dsimp only; (repeat' split) <;> first | with_reducible rfl | simp
@[simp] theorem restartWatchdog_pins (l : Link) (s : State) : (restartWatchdog l s).pins = s.pins := by
  unfold restartWatchdog; dsimp only; (repeat' split) <;> first | with_reducible rfl | simp
@[simp] theorem restartWatchdog_links (l : Link) (s : State) : (restartWatchdog l s).links = s.links := by
  unfold restartWatchdog; dsimp only; (repeat' split) <;> first | with_reducible rfl | simp
@[simp] theorem restartWatchdog_reg (l : Link) (s : State) : (restartWatchdog l s).reg = s.reg := by
  unfold restartWatchdog; dsimp only; (repeat' split) <;> first | with_reducible rfl | simp
@[simp] theorem restartWatchdog_seq (l : Link) (s : State) : (restartWatchdog l s).seq = s.seq := by
  unfold restartWatchdog; dsimp only; (repeat' split) <;> first | with_reducible rfl | simp
@[simp] theorem restartWatchdog_leaf (l : Link) (s : State) : (restartWatchdog l s).leaf = s.leaf := by
  unfold restartWatchdog; dsimp only; (repeat' split) <;> first | with_reducible rfl | simp
@[simp] theorem restartWatchdog_closure (l : Link) (s : State) : (restartWatchdog l s).closure = s.closure := by
  unfold restartWatchdog; dsimp only; (repeat' split) <;> first | with_reducible rfl | simp
@[simp] theorem restartWatchdog_arms (l : Link) (s : State) : (restartWatchdog l s).arms = s.arms := by
  unfold restartWatchdog; dsimp only; (repeat' split) <;> first | with_reducible rfl | simp
@[simp] theorem restartWatchdog_zones (l : Link) (s : State) : (restartWatchdog l s).zones = s.zones := by
  unfold restartWatchdog; dsimp only; (repeat' split) <;> first | with_reducible rfl | simp
@[simp] theorem restartWatchdog_loop (l : Link) (s : State) : (restartWatchdog l s).loop = s.loop := by
  unfold restartWatchdog; dsimp only; (repeat' split) <;> first | with_reducible rfl | simp
@[simp] theorem restartWatchdog_stations (l : Link) (s : State) : (restartWatchdog l s).stations = s.stations := by
  unfold restartWatchdog; dsimp only; (repeat' split) <;> first | with_reducible rfl | simp
@[simp] theorem restartWatchdog_lamp (l : Link) (s : State) : (restartWatchdog l s).lamp = s.lamp := by
  unfold restartWatchdog; dsimp only; (repeat' split) <;> first | with_reducible rfl | simp
@[simp] theorem restartWatchdog_display (l : Link) (s : State) : (restartWatchdog l s).display = s.display := by
  unfold restartWatchdog; dsimp only; (repeat' split) <;> first | with_reducible rfl | simp
@[simp] theorem restartWatchdog_store (l : Link) (s : State) : (restartWatchdog l s).store = s.store := by
  unfold restartWatchdog; dsimp only; (repeat' split) <;> first | with_reducible rfl | simp
@[simp] theorem restartWatchdog_cfg (l : Link) (s : State) : (restartWatchdog l s).cfg = s.cfg := by
  unfold restartWatchdog; dsimp only; (repeat' split) <;> first | with_reducible rfl | simp
@[simp] theorem restartWatchdog_sup_mode (l : Link) (s : State) : (restartWatchdog l s).sup.mode = s.sup.mode := by
  unfold restartWatchdog; dsimp only; (repeat' split) <;> first | with_reducible rfl | simp
@[simp] theorem restartWatchdog_sup_groupTripped (l : Link) (s : State) : (restartWatchdog l s).sup.groupTripped = s.sup.groupTripped := by
  unfold restartWatchdog; dsimp only; (repeat' split) <;> first | with_reducible rfl | simp
@[simp] theorem restartWatchdog_sup_closureHeld (l : Link) (s : State) : (restartWatchdog l s).sup.closureHeld = s.sup.closureHeld := by
  unfold restartWatchdog; dsimp only; (repeat' split) <;> first | with_reducible rfl | simp
@[simp] theorem restartWatchdog_sup_dark (l : Link) (s : State) : (restartWatchdog l s).sup.dark = s.sup.dark := by
  unfold restartWatchdog; dsimp only; (repeat' split) <;> first | with_reducible rfl | simp
@[simp] theorem restartWatchdog_sup_pulseTimer (l : Link) (s : State) : (restartWatchdog l s).sup.pulseTimer = s.sup.pulseTimer := by
  unfold restartWatchdog; dsimp only; (repeat' split) <;> first | with_reducible rfl | simp
@[simp] theorem setInHand_pending (l : Link) (k : Option Byte) (s : State) : (setInHand l k s).pending = s.pending := by
  unfold setInHand; simp
@[simp] theorem setInHand_freeCount (l : Link) (k : Option Byte) (s : State) : (setInHand l k s).freeCount = s.freeCount := by
  unfold setInHand; simp
@[simp] theorem setInHand_pins (l : Link) (k : Option Byte) (s : State) : (setInHand l k s).pins = s.pins := by
  unfold setInHand; simp
@[simp] theorem setInHand_reg (l : Link) (k : Option Byte) (s : State) : (setInHand l k s).reg = s.reg := by
  unfold setInHand; simp
@[simp] theorem setInHand_seq (l : Link) (k : Option Byte) (s : State) : (setInHand l k s).seq = s.seq := by
  unfold setInHand; simp
@[simp] theorem setInHand_leaf (l : Link) (k : Option Byte) (s : State) : (setInHand l k s).leaf = s.leaf := by
  unfold setInHand; simp
@[simp] theorem setInHand_closure (l : Link) (k : Option Byte) (s : State) : (setInHand l k s).closure = s.closure := by
  unfold setInHand; simp
@[simp] theorem setInHand_arms (l : Link) (k : Option Byte) (s : State) : (setInHand l k s).arms = s.arms := by
  unfold setInHand; simp
@[simp] theorem setInHand_zones (l : Link) (k : Option Byte) (s : State) : (setInHand l k s).zones = s.zones := by
  unfold setInHand; simp
@[simp] theorem setInHand_loop (l : Link) (k : Option Byte) (s : State) : (setInHand l k s).loop = s.loop := by
  unfold setInHand; simp
@[simp] theorem setInHand_stations (l : Link) (k : Option Byte) (s : State) : (setInHand l k s).stations = s.stations := by
  unfold setInHand; simp
@[simp] theorem setInHand_lamp (l : Link) (k : Option Byte) (s : State) : (setInHand l k s).lamp = s.lamp := by
  unfold setInHand; simp
@[simp] theorem setInHand_display (l : Link) (k : Option Byte) (s : State) : (setInHand l k s).display = s.display := by
  unfold setInHand; simp
@[simp] theorem setInHand_sup (l : Link) (k : Option Byte) (s : State) : (setInHand l k s).sup = s.sup := by
  unfold setInHand; simp
@[simp] theorem setInHand_store (l : Link) (k : Option Byte) (s : State) : (setInHand l k s).store = s.store := by
  unfold setInHand; simp
@[simp] theorem setInHand_cfg (l : Link) (k : Option Byte) (s : State) : (setInHand l k s).cfg = s.cfg := by
  unfold setInHand; simp
@[simp] theorem setIntake_pending (l : Link) (i : Intake) (s : State) : (setIntake l i s).pending = s.pending := by
  unfold setIntake; simp
@[simp] theorem setIntake_freeCount (l : Link) (i : Intake) (s : State) : (setIntake l i s).freeCount = s.freeCount := by
  unfold setIntake; simp
@[simp] theorem setIntake_pins (l : Link) (i : Intake) (s : State) : (setIntake l i s).pins = s.pins := by
  unfold setIntake; simp
@[simp] theorem setIntake_reg (l : Link) (i : Intake) (s : State) : (setIntake l i s).reg = s.reg := by
  unfold setIntake; simp
@[simp] theorem setIntake_seq (l : Link) (i : Intake) (s : State) : (setIntake l i s).seq = s.seq := by
  unfold setIntake; simp
@[simp] theorem setIntake_leaf (l : Link) (i : Intake) (s : State) : (setIntake l i s).leaf = s.leaf := by
  unfold setIntake; simp
@[simp] theorem setIntake_closure (l : Link) (i : Intake) (s : State) : (setIntake l i s).closure = s.closure := by
  unfold setIntake; simp
@[simp] theorem setIntake_arms (l : Link) (i : Intake) (s : State) : (setIntake l i s).arms = s.arms := by
  unfold setIntake; simp
@[simp] theorem setIntake_zones (l : Link) (i : Intake) (s : State) : (setIntake l i s).zones = s.zones := by
  unfold setIntake; simp
@[simp] theorem setIntake_loop (l : Link) (i : Intake) (s : State) : (setIntake l i s).loop = s.loop := by
  unfold setIntake; simp
@[simp] theorem setIntake_stations (l : Link) (i : Intake) (s : State) : (setIntake l i s).stations = s.stations := by
  unfold setIntake; simp
@[simp] theorem setIntake_lamp (l : Link) (i : Intake) (s : State) : (setIntake l i s).lamp = s.lamp := by
  unfold setIntake; simp
@[simp] theorem setIntake_display (l : Link) (i : Intake) (s : State) : (setIntake l i s).display = s.display := by
  unfold setIntake; simp
@[simp] theorem setIntake_sup (l : Link) (i : Intake) (s : State) : (setIntake l i s).sup = s.sup := by
  unfold setIntake; simp
@[simp] theorem setIntake_store (l : Link) (i : Intake) (s : State) : (setIntake l i s).store = s.store := by
  unfold setIntake; simp
@[simp] theorem setIntake_cfg (l : Link) (i : Intake) (s : State) : (setIntake l i s).cfg = s.cfg := by
  unfold setIntake; simp
@[simp] theorem armReported_pending (a : ArmId) (r : ArmReport) (n : Nat) (s : State) : (armReported a r n s).pending = s.pending := by
  unfold armReported; lift_lets; intro s1 s2 s3
  have h2 : s2.pending = s.pending := by simp only [s2]; split <;> simp [s1]
  have h3 : s3.pending = s.pending := by simp only [s3]; (repeat' split) <;> simp [h2]
  simp [h3]
@[simp] theorem armReported_pins (a : ArmId) (r : ArmReport) (n : Nat) (s : State) : (armReported a r n s).pins = s.pins := by
  unfold armReported; lift_lets; intro s1 s2 s3
  have h2 : s2.pins = s.pins := by simp only [s2]; split <;> simp [s1]
  have h3 : s3.pins = s.pins := by simp only [s3]; (repeat' split) <;> simp [h2]
  simp [h3]
@[simp] theorem armReported_reg (a : ArmId) (r : ArmReport) (n : Nat) (s : State) : (armReported a r n s).reg = s.reg := by
  unfold armReported; lift_lets; intro s1 s2 s3
  have h2 : s2.reg = s.reg := by simp only [s2]; split <;> simp [s1]
  have h3 : s3.reg = s.reg := by simp only [s3]; (repeat' split) <;> simp [h2]
  simp [h3]
@[simp] theorem armReported_zones (a : ArmId) (r : ArmReport) (n : Nat) (s : State) : (armReported a r n s).zones = s.zones := by
  unfold armReported; lift_lets; intro s1 s2 s3
  have h2 : s2.zones = s.zones := by simp only [s2]; split <;> simp [s1]
  have h3 : s3.zones = s.zones := by simp only [s3]; (repeat' split) <;> simp [h2]
  simp [h3]
@[simp] theorem armReported_loop (a : ArmId) (r : ArmReport) (n : Nat) (s : State) : (armReported a r n s).loop = s.loop := by
  unfold armReported; lift_lets; intro s1 s2 s3
  have h2 : s2.loop = s.loop := by simp only [s2]; split <;> simp [s1]
  have h3 : s3.loop = s.loop := by simp only [s3]; (repeat' split) <;> simp [h2]
  simp [h3]
@[simp] theorem armReported_store (a : ArmId) (r : ArmReport) (n : Nat) (s : State) : (armReported a r n s).store = s.store := by
  unfold armReported; lift_lets; intro s1 s2 s3
  have h2 : s2.store = s.store := by simp only [s2]; split <;> simp [s1]
  have h3 : s3.store = s.store := by simp only [s3]; (repeat' split) <;> simp [h2]
  simp [h3]
@[simp] theorem armReported_cfg (a : ArmId) (r : ArmReport) (n : Nat) (s : State) : (armReported a r n s).cfg = s.cfg := by
  unfold armReported; lift_lets; intro s1 s2 s3
  have h2 : s2.cfg = s.cfg := by simp only [s2]; split <;> simp [s1]
  have h3 : s3.cfg = s.cfg := by simp only [s3]; (repeat' split) <;> simp [h2]
  simp [h3]
@[simp] theorem armReported_seq_clearance (a : ArmId) (r : ArmReport) (n : Nat) (s : State) : (armReported a r n s).seq.clearance = s.seq.clearance := by
  unfold armReported; lift_lets; intro s1 s2 s3
  have h2 : s2.seq.clearance = s.seq.clearance := by simp only [s2]; split <;> simp [s1]
  have h3 : s3.seq.clearance = s.seq.clearance := by simp only [s3]; (repeat' split) <;> simp [h2]
  simp [h3]
@[simp] theorem armReported_sup_mode (a : ArmId) (r : ArmReport) (n : Nat) (s : State) : (armReported a r n s).sup.mode = s.sup.mode := by
  unfold armReported; lift_lets; intro s1 s2 s3
  have h2 : s2.sup.mode = s.sup.mode := by simp only [s2]; split <;> simp [s1]
  have h3 : s3.sup.mode = s.sup.mode := by simp only [s3]; (repeat' split) <;> simp [h2]
  simp [h3]
@[simp] theorem armReported_sup_watchdog (a : ArmId) (r : ArmReport) (n : Nat) (s : State) : (armReported a r n s).sup.watchdog = s.sup.watchdog := by
  unfold armReported; lift_lets; intro s1 s2 s3
  have h2 : s2.sup.watchdog = s.sup.watchdog := by simp only [s2]; split <;> simp [s1]
  have h3 : s3.sup.watchdog = s.sup.watchdog := by simp only [s3]; (repeat' split) <;> simp [h2]
  simp [h3]
@[simp] theorem armLost_pending (a : ArmId) (s : State) : (armLost a s).pending = s.pending := by
  unfold armLost; dsimp only; rw [evaluateGroups_pending]; split <;> simp
@[simp] theorem armLost_pins (a : ArmId) (s : State) : (armLost a s).pins = s.pins := by
  unfold armLost; dsimp only; rw [evaluateGroups_pins]; split <;> simp
@[simp] theorem armLost_reg (a : ArmId) (s : State) : (armLost a s).reg = s.reg := by
  unfold armLost; dsimp only; rw [evaluateGroups_reg]; split <;> simp
@[simp] theorem armLost_zones (a : ArmId) (s : State) : (armLost a s).zones = s.zones := by
  unfold armLost; dsimp only; rw [evaluateGroups_zones]; split <;> simp
@[simp] theorem armLost_loop (a : ArmId) (s : State) : (armLost a s).loop = s.loop := by
  unfold armLost; dsimp only; rw [evaluateGroups_loop]; split <;> simp
@[simp] theorem armLost_store (a : ArmId) (s : State) : (armLost a s).store = s.store := by
  unfold armLost; dsimp only; rw [evaluateGroups_store]; split <;> simp
@[simp] theorem armLost_cfg (a : ArmId) (s : State) : (armLost a s).cfg = s.cfg := by
  unfold armLost; dsimp only; rw [evaluateGroups_cfg]; split <;> simp
@[simp] theorem armLost_seq_clearance (a : ArmId) (s : State) : (armLost a s).seq.clearance = s.seq.clearance := by
  unfold armLost; dsimp only; rw [evaluateGroups_seq_clearance]; split <;> simp
@[simp] theorem armLost_sup_mode (a : ArmId) (s : State) : (armLost a s).sup.mode = s.sup.mode := by
  unfold armLost; dsimp only; rw [evaluateGroups_sup_mode]; split <;> simp
@[simp] theorem armLost_sup_watchdog (a : ArmId) (s : State) : (armLost a s).sup.watchdog = s.sup.watchdog := by
  unfold armLost; dsimp only; rw [evaluateGroups_sup_watchdog]; split <;> simp
@[simp] theorem armLost_sup_pulseTimer (a : ArmId) (s : State) : (armLost a s).sup.pulseTimer = s.sup.pulseTimer := by
  unfold armLost; dsimp only; rw [evaluateGroups_sup_pulseTimer]; split <;> simp
@[simp] theorem zoneChanges_pending (z : ZoneId) (s : State) : (zoneChanges z s).pending = s.pending := by
  unfold zoneChanges; dsimp only; simp
@[simp] theorem zoneChanges_pins (z : ZoneId) (s : State) : (zoneChanges z s).pins = s.pins := by
  unfold zoneChanges; dsimp only; simp
@[simp] theorem zoneChanges_reg (z : ZoneId) (s : State) : (zoneChanges z s).reg = s.reg := by
  unfold zoneChanges; dsimp only; simp
@[simp] theorem zoneChanges_loop (z : ZoneId) (s : State) : (zoneChanges z s).loop = s.loop := by
  unfold zoneChanges; dsimp only; simp
@[simp] theorem zoneChanges_store (z : ZoneId) (s : State) : (zoneChanges z s).store = s.store := by
  unfold zoneChanges; dsimp only; simp
@[simp] theorem zoneChanges_cfg (z : ZoneId) (s : State) : (zoneChanges z s).cfg = s.cfg := by
  unfold zoneChanges; dsimp only; simp
@[simp] theorem zoneChanges_seq_clearance (z : ZoneId) (s : State) : (zoneChanges z s).seq.clearance = s.seq.clearance := by
  unfold zoneChanges; dsimp only; simp
@[simp] theorem zoneChanges_sup_mode (z : ZoneId) (s : State) : (zoneChanges z s).sup.mode = s.sup.mode := by
  unfold zoneChanges; dsimp only; simp
@[simp] theorem zoneChanges_sup_watchdog (z : ZoneId) (s : State) : (zoneChanges z s).sup.watchdog = s.sup.watchdog := by
  unfold zoneChanges; dsimp only; simp
@[simp] theorem zoneChanges_sup_pulseTimer (z : ZoneId) (s : State) : (zoneChanges z s).sup.pulseTimer = s.sup.pulseTimer := by
  unfold zoneChanges; dsimp only; simp
@[simp] theorem debounceExpired_pending (z : ZoneId) (s : State) : (debounceExpired z s).pending = s.pending := by
  unfold debounceExpired; dsimp only; (repeat' split) <;> simp
@[simp] theorem debounceExpired_pins (z : ZoneId) (s : State) : (debounceExpired z s).pins = s.pins := by
  unfold debounceExpired; dsimp only; (repeat' split) <;> simp
@[simp] theorem debounceExpired_reg (z : ZoneId) (s : State) : (debounceExpired z s).reg = s.reg := by
  unfold debounceExpired; dsimp only; (repeat' split) <;> simp
@[simp] theorem debounceExpired_loop (z : ZoneId) (s : State) : (debounceExpired z s).loop = s.loop := by
  unfold debounceExpired; dsimp only; (repeat' split) <;> simp
@[simp] theorem debounceExpired_store (z : ZoneId) (s : State) : (debounceExpired z s).store = s.store := by
  unfold debounceExpired; dsimp only; (repeat' split) <;> simp
@[simp] theorem debounceExpired_cfg (z : ZoneId) (s : State) : (debounceExpired z s).cfg = s.cfg := by
  unfold debounceExpired; dsimp only; (repeat' split) <;> simp
@[simp] theorem debounceExpired_seq_clearance (z : ZoneId) (s : State) : (debounceExpired z s).seq.clearance = s.seq.clearance := by
  unfold debounceExpired; dsimp only; (repeat' split) <;> simp
@[simp] theorem debounceExpired_sup_mode (z : ZoneId) (s : State) : (debounceExpired z s).sup.mode = s.sup.mode := by
  unfold debounceExpired; dsimp only; (repeat' split) <;> simp
@[simp] theorem debounceExpired_sup_watchdog (z : ZoneId) (s : State) : (debounceExpired z s).sup.watchdog = s.sup.watchdog := by
  unfold debounceExpired; dsimp only; (repeat' split) <;> simp
@[simp] theorem debounceExpired_sup_pulseTimer (z : ZoneId) (s : State) : (debounceExpired z s).sup.pulseTimer = s.sup.pulseTimer := by
  unfold debounceExpired; dsimp only; (repeat' split) <;> simp
@[simp] theorem clearDwellComplete_pending (s : State) : (clearDwellComplete s).pending = s.pending := by
  unfold clearDwellComplete; split <;> simp
@[simp] theorem clearDwellComplete_pins (s : State) : (clearDwellComplete s).pins = s.pins := by
  unfold clearDwellComplete; split <;> simp
@[simp] theorem clearDwellComplete_reg (s : State) : (clearDwellComplete s).reg = s.reg := by
  unfold clearDwellComplete; split <;> simp
@[simp] theorem clearDwellComplete_zones (s : State) : (clearDwellComplete s).zones = s.zones := by
  unfold clearDwellComplete; split <;> simp
@[simp] theorem clearDwellComplete_loop (s : State) : (clearDwellComplete s).loop = s.loop := by
  unfold clearDwellComplete; split <;> simp
@[simp] theorem clearDwellComplete_store (s : State) : (clearDwellComplete s).store = s.store := by
  unfold clearDwellComplete; split <;> simp
@[simp] theorem clearDwellComplete_cfg (s : State) : (clearDwellComplete s).cfg = s.cfg := by
  unfold clearDwellComplete; split <;> simp
@[simp] theorem clearDwellComplete_seq_clearance (s : State) : (clearDwellComplete s).seq.clearance = s.seq.clearance := by
  unfold clearDwellComplete; split <;> simp
@[simp] theorem clearDwellComplete_sup_mode (s : State) : (clearDwellComplete s).sup.mode = s.sup.mode := by
  unfold clearDwellComplete; split <;> simp
@[simp] theorem clearDwellComplete_sup_watchdog (s : State) : (clearDwellComplete s).sup.watchdog = s.sup.watchdog := by
  unfold clearDwellComplete; split <;> simp
@[simp] theorem clearDwellComplete_sup_pulseTimer (s : State) : (clearDwellComplete s).sup.pulseTimer = s.sup.pulseTimer := by
  unfold clearDwellComplete; split <;> simp
@[simp] theorem reenter_pending (st : ClosureState) (s : State) : (reenter st s).pending = s.pending := by
  unfold reenter; dsimp only; (repeat' split) <;> simp
@[simp] theorem reenter_pins (st : ClosureState) (s : State) : (reenter st s).pins = s.pins := by
  unfold reenter; dsimp only; (repeat' split) <;> simp
@[simp] theorem reenter_reg (st : ClosureState) (s : State) : (reenter st s).reg = s.reg := by
  unfold reenter; dsimp only; (repeat' split) <;> simp
@[simp] theorem reenter_zones (st : ClosureState) (s : State) : (reenter st s).zones = s.zones := by
  unfold reenter; dsimp only; (repeat' split) <;> simp
@[simp] theorem reenter_loop (st : ClosureState) (s : State) : (reenter st s).loop = s.loop := by
  unfold reenter; dsimp only; (repeat' split) <;> simp
@[simp] theorem reenter_store (st : ClosureState) (s : State) : (reenter st s).store = s.store := by
  unfold reenter; dsimp only; (repeat' split) <;> simp
@[simp] theorem reenter_cfg (st : ClosureState) (s : State) : (reenter st s).cfg = s.cfg := by
  unfold reenter; dsimp only; (repeat' split) <;> simp
@[simp] theorem reenter_seq_clearance (st : ClosureState) (s : State) : (reenter st s).seq.clearance = s.seq.clearance := by
  unfold reenter; dsimp only; (repeat' split) <;> simp
@[simp] theorem reenter_sup_mode (st : ClosureState) (s : State) : (reenter st s).sup.mode = s.sup.mode := by
  unfold reenter; dsimp only; (repeat' split) <;> simp
@[simp] theorem reenter_sup_watchdog (st : ClosureState) (s : State) : (reenter st s).sup.watchdog = s.sup.watchdog := by
  unfold reenter; dsimp only; (repeat' split) <;> simp
@[simp] theorem reenter_sup_pulseTimer (st : ClosureState) (s : State) : (reenter st s).sup.pulseTimer = s.sup.pulseTimer := by
  unfold reenter; dsimp only; (repeat' split) <;> simp
@[simp] theorem takeRetry_pending (st : ClosureState) (s : State) : (takeRetry st s).pending = s.pending := by
  unfold takeRetry; dsimp only; simp
@[simp] theorem takeRetry_pins (st : ClosureState) (s : State) : (takeRetry st s).pins = s.pins := by
  unfold takeRetry; dsimp only; simp
@[simp] theorem takeRetry_reg (st : ClosureState) (s : State) : (takeRetry st s).reg = s.reg := by
  unfold takeRetry; dsimp only; simp
@[simp] theorem takeRetry_zones (st : ClosureState) (s : State) : (takeRetry st s).zones = s.zones := by
  unfold takeRetry; dsimp only; simp
@[simp] theorem takeRetry_loop (st : ClosureState) (s : State) : (takeRetry st s).loop = s.loop := by
  unfold takeRetry; dsimp only; simp
@[simp] theorem takeRetry_store (st : ClosureState) (s : State) : (takeRetry st s).store = s.store := by
  unfold takeRetry; dsimp only; simp
@[simp] theorem takeRetry_cfg (st : ClosureState) (s : State) : (takeRetry st s).cfg = s.cfg := by
  unfold takeRetry; dsimp only; simp
@[simp] theorem takeRetry_seq_clearance (st : ClosureState) (s : State) : (takeRetry st s).seq.clearance = s.seq.clearance := by
  unfold takeRetry; dsimp only; simp
@[simp] theorem takeRetry_sup_mode (st : ClosureState) (s : State) : (takeRetry st s).sup.mode = s.sup.mode := by
  unfold takeRetry; dsimp only; simp
@[simp] theorem takeRetry_sup_watchdog (st : ClosureState) (s : State) : (takeRetry st s).sup.watchdog = s.sup.watchdog := by
  unfold takeRetry; dsimp only; simp
@[simp] theorem takeRetry_sup_pulseTimer (st : ClosureState) (s : State) : (takeRetry st s).sup.pulseTimer = s.sup.pulseTimer := by
  unfold takeRetry; dsimp only; simp
@[simp] theorem armOut_pending (a : ArmId) (s : State) : (armOut a s).pending = s.pending := by
  unfold armOut; split
  · lift_lets; intro o s1 s2
    have h2 : s2.pending = s.pending := by simp only [s2]; split <;> simp [s1]
    split <;> simp [h2]
  · rfl
@[simp] theorem armOut_pins (a : ArmId) (s : State) : (armOut a s).pins = s.pins := by
  unfold armOut; split
  · lift_lets; intro o s1 s2
    have h2 : s2.pins = s.pins := by simp only [s2]; split <;> simp [s1]
    split <;> simp [h2]
  · rfl
@[simp] theorem armOut_reg (a : ArmId) (s : State) : (armOut a s).reg = s.reg := by
  unfold armOut; split
  · lift_lets; intro o s1 s2
    have h2 : s2.reg = s.reg := by simp only [s2]; split <;> simp [s1]
    split <;> simp [h2]
  · rfl
@[simp] theorem armOut_zones (a : ArmId) (s : State) : (armOut a s).zones = s.zones := by
  unfold armOut; split
  · lift_lets; intro o s1 s2
    have h2 : s2.zones = s.zones := by simp only [s2]; split <;> simp [s1]
    split <;> simp [h2]
  · rfl
@[simp] theorem armOut_loop (a : ArmId) (s : State) : (armOut a s).loop = s.loop := by
  unfold armOut; split
  · lift_lets; intro o s1 s2
    have h2 : s2.loop = s.loop := by simp only [s2]; split <;> simp [s1]
    split <;> simp [h2]
  · rfl
@[simp] theorem armOut_store (a : ArmId) (s : State) : (armOut a s).store = s.store := by
  unfold armOut; split
  · lift_lets; intro o s1 s2
    have h2 : s2.store = s.store := by simp only [s2]; split <;> simp [s1]
    split <;> simp [h2]
  · rfl
@[simp] theorem armOut_cfg (a : ArmId) (s : State) : (armOut a s).cfg = s.cfg := by
  unfold armOut; split
  · lift_lets; intro o s1 s2
    have h2 : s2.cfg = s.cfg := by simp only [s2]; split <;> simp [s1]
    split <;> simp [h2]
  · rfl
@[simp] theorem armOut_seq_clearance (a : ArmId) (s : State) : (armOut a s).seq.clearance = s.seq.clearance := by
  unfold armOut; split
  · lift_lets; intro o s1 s2
    have h2 : s2.seq.clearance = s.seq.clearance := by simp only [s2]; split <;> simp [s1]
    split <;> simp [h2]
  · rfl
@[simp] theorem armOut_sup_mode (a : ArmId) (s : State) : (armOut a s).sup.mode = s.sup.mode := by
  unfold armOut; split
  · lift_lets; intro o s1 s2
    have h2 : s2.sup.mode = s.sup.mode := by simp only [s2]; split <;> simp [s1]
    split <;> simp [h2]
  · rfl
@[simp] theorem armOut_sup_watchdog (a : ArmId) (s : State) : (armOut a s).sup.watchdog = s.sup.watchdog := by
  unfold armOut; split
  · lift_lets; intro o s1 s2
    have h2 : s2.sup.watchdog = s.sup.watchdog := by simp only [s2]; split <;> simp [s1]
    split <;> simp [h2]
  · rfl
@[simp] theorem armOut_sup_pulseTimer (a : ArmId) (s : State) : (armOut a s).sup.pulseTimer = s.sup.pulseTimer := by
  unfold armOut; split
  · lift_lets; intro o s1 s2
    have h2 : s2.sup.pulseTimer = s.sup.pulseTimer := by simp only [s2]; split <;> simp [s1]
    split <;> simp [h2]
  · rfl
end Sys2Proof.Machine
end

