-- ==== Sys2Proof/Laws/PerInstr.lean ====
section
/-!
SUPPORT. The family `BodyFits`: a command is well formed exactly when the body it carries, if any, fits a request frame
(R184). One lemma for each command.
-/

namespace Sys2Proof.Laws

/-- A command is well formed exactly when the body it carries, if any, has at most 249 octets (R184). -/
def BodyFits.Statement (i : Instr) : Prop := i.wellFormed = true ↔ ∀ b, i.body? = some b → b.length ≤ 249

/-- A command that carries no body fits. -/
theorem bodyFits_of_none {i : Instr} (h : i.body? = none) : BodyFits.Statement i := by
  simp [BodyFits.Statement, Instr.wellFormed, h]

/-- A command that carries a body fits when the body does. -/
theorem bodyFits_of_some {i : Instr} {b : List Byte} (h : i.body? = some b) : BodyFits.Statement i := by
  simp only [BodyFits.Statement, Instr.wellFormed, h, maxBodyOctets, Option.some.injEq, forall_eq']
  exact decide_eq_true_iff

theorem BodyFits.powerOn : BodyFits.Statement (.powerOn) :=
  bodyFits_of_none rfl

theorem BodyFits.resetLineRelease : BodyFits.Statement (.resetLineRelease) :=
  bodyFits_of_none rfl

theorem BodyFits.octetReceived (link : Link) (octet : Byte) (stopBit : Bool) : BodyFits.Statement (.octetReceived link octet stopBit) :=
  bodyFits_of_none rfl

theorem BodyFits.interOctetGapTimeout (link : Link) : BodyFits.Statement (.interOctetGapTimeout link) :=
  bodyFits_of_none rfl

theorem BodyFits.outcomeOctetSent (link : Link) : BodyFits.Statement (.outcomeOctetSent link) :=
  bodyFits_of_none rfl

theorem BodyFits.replyComplete (link : Link) : BodyFits.Statement (.replyComplete link) :=
  bodyFits_of_none rfl

theorem BodyFits.status (link : Link) (body : List Byte) : BodyFits.Statement (.status link body) :=
  bodyFits_of_some rfl

theorem BodyFits.enterPassage (link : Link) (body : List Byte) : BodyFits.Statement (.enterPassage link body) :=
  bodyFits_of_some rfl

theorem BodyFits.amendPassage (link : Link) (body : List Byte) : BodyFits.Statement (.amendPassage link body) :=
  bodyFits_of_some rfl

theorem BodyFits.withdrawPassage (link : Link) (body : List Byte) : BodyFits.Statement (.withdrawPassage link body) :=
  bodyFits_of_some rfl

theorem BodyFits.releasePassage (link : Link) (body : List Byte) : BodyFits.Statement (.releasePassage link body) :=
  bodyFits_of_some rfl

theorem BodyFits.lookUpPassage (link : Link) (body : List Byte) : BodyFits.Statement (.lookUpPassage link body) :=
  bodyFits_of_some rfl

theorem BodyFits.listPassages (link : Link) (body : List Byte) : BodyFits.Statement (.listPassages link body) :=
  bodyFits_of_some rfl

theorem BodyFits.beginOpening (link : Link) (body : List Byte) : BodyFits.Statement (.beginOpening link body) :=
  bodyFits_of_some rfl

theorem BodyFits.admitToOpening (link : Link) (body : List Byte) : BodyFits.Statement (.admitToOpening link body) :=
  bodyFits_of_some rfl

theorem BodyFits.markPassed (link : Link) (body : List Byte) : BodyFits.Statement (.markPassed link body) :=
  bodyFits_of_some rfl

theorem BodyFits.lowerBridge (link : Link) (body : List Byte) : BodyFits.Statement (.lowerBridge link body) :=
  bodyFits_of_some rfl

theorem BodyFits.abortOpening (link : Link) (body : List Byte) : BodyFits.Statement (.abortOpening link body) :=
  bodyFits_of_some rfl

theorem BodyFits.continueMotion (link : Link) (body : List Byte) : BodyFits.Statement (.continueMotion link body) :=
  bodyFits_of_some rfl

theorem BodyFits.confirmSpanClear (link : Link) (body : List Byte) : BodyFits.Statement (.confirmSpanClear link body) :=
  bodyFits_of_some rfl

theorem BodyFits.warningOverride (link : Link) (body : List Byte) : BodyFits.Statement (.warningOverride link body) :=
  bodyFits_of_some rfl

theorem BodyFits.armService (link : Link) (body : List Byte) : BodyFits.Statement (.armService link body) :=
  bodyFits_of_some rfl

theorem BodyFits.closureRetry (link : Link) (body : List Byte) : BodyFits.Statement (.closureRetry link body) :=
  bodyFits_of_some rfl

theorem BodyFits.reopenRoad (link : Link) (body : List Byte) : BodyFits.Statement (.reopenRoad link body) :=
  bodyFits_of_some rfl

theorem BodyFits.resetTrip (link : Link) (body : List Byte) : BodyFits.Statement (.resetTrip link body) :=
  bodyFits_of_some rfl

theorem BodyFits.clearLampFaults (link : Link) (body : List Byte) : BodyFits.Statement (.clearLampFaults link body) :=
  bodyFits_of_some rfl

theorem BodyFits.setDimLevel (link : Link) (body : List Byte) : BodyFits.Statement (.setDimLevel link body) :=
  bodyFits_of_some rfl

theorem BodyFits.resume (link : Link) (body : List Byte) : BodyFits.Statement (.resume link body) :=
  bodyFits_of_some rfl

theorem BodyFits.writeConfigurationItem (link : Link) (body : List Byte) : BodyFits.Statement (.writeConfigurationItem link body) :=
  bodyFits_of_some rfl

theorem BodyFits.commitConfiguration (link : Link) (body : List Byte) : BodyFits.Statement (.commitConfiguration link body) :=
  bodyFits_of_some rfl

theorem BodyFits.revertToSetup (link : Link) (body : List Byte) : BodyFits.Statement (.revertToSetup link body) :=
  bodyFits_of_some rfl

theorem BodyFits.minuteTimerExpiry : BodyFits.Statement (.minuteTimerExpiry) :=
  bodyFits_of_none rfl

theorem BodyFits.controlPeriod (counts : PerDrive (BitVec 24)) : BodyFits.Statement (.controlPeriod counts) :=
  bodyFits_of_none rfl

theorem BodyFits.settleDwellComplete : BodyFits.Statement (.settleDwellComplete) :=
  bodyFits_of_none rfl

theorem BodyFits.seatDwellComplete : BodyFits.Statement (.seatDwellComplete) :=
  bodyFits_of_none rfl

theorem BodyFits.settleTimeout : BodyFits.Statement (.settleTimeout) :=
  bodyFits_of_none rfl

theorem BodyFits.emergencyStopChange (active : Bool) : BodyFits.Statement (.emergencyStopChange active) :=
  bodyFits_of_none rfl

theorem BodyFits.lockSwitchChange (lock : LockId) (switch : LockSwitch) (made : Bool) : BodyFits.Statement (.lockSwitchChange lock switch made) :=
  bodyFits_of_none rfl

theorem BodyFits.lockTimerExpiry (lock : LockId) : BodyFits.Statement (.lockTimerExpiry lock) :=
  bodyFits_of_none rfl

theorem BodyFits.zoneInputChange (zone : ZoneId) (active : Bool) : BodyFits.Statement (.zoneInputChange zone active) :=
  bodyFits_of_none rfl

theorem BodyFits.zoneDebounceExpiry (zone : ZoneId) : BodyFits.Statement (.zoneDebounceExpiry zone) :=
  bodyFits_of_none rfl

theorem BodyFits.changeoverDwellExpiry : BodyFits.Statement (.changeoverDwellExpiry) :=
  bodyFits_of_none rfl

theorem BodyFits.watchdogExpiry : BodyFits.Statement (.watchdogExpiry) :=
  bodyFits_of_none rfl

theorem BodyFits.faultPulseTimerExpiry : BodyFits.Statement (.faultPulseTimerExpiry) :=
  bodyFits_of_none rfl

theorem BodyFits.phaseTimerExpiry : BodyFits.Statement (.phaseTimerExpiry) :=
  bodyFits_of_none rfl

theorem BodyFits.clearDwellComplete : BodyFits.Statement (.clearDwellComplete) :=
  bodyFits_of_none rfl

theorem BodyFits.retryDwellExpiry (arm : ArmId) : BodyFits.Statement (.retryDwellExpiry arm) :=
  bodyFits_of_none rfl

theorem BodyFits.travelTimerExpiry (arm : ArmId) : BodyFits.Statement (.travelTimerExpiry arm) :=
  bodyFits_of_none rfl

theorem BodyFits.scanTimerExpiry : BodyFits.Statement (.scanTimerExpiry) :=
  bodyFits_of_none rfl

theorem BodyFits.turnStart : BodyFits.Statement (.turnStart) :=
  bodyFits_of_none rfl

theorem BodyFits.commandAnswer (accept : Bool) : BodyFits.Statement (.commandAnswer accept) :=
  bodyFits_of_none rfl

theorem BodyFits.answerWindowTimeout : BodyFits.Statement (.answerWindowTimeout) :=
  bodyFits_of_none rfl

theorem BodyFits.turnEnd : BodyFits.Statement (.turnEnd) :=
  bodyFits_of_none rfl

theorem BodyFits.pulsePeriodStart : BodyFits.Statement (.pulsePeriodStart) :=
  bodyFits_of_none rfl

theorem BodyFits.lampFaultLatch (channel : ChannelId) (kind : LampFault) (current voltage supply : Nat) : BodyFits.Statement (.lampFaultLatch channel kind current voltage supply) :=
  bodyFits_of_none rfl

theorem BodyFits.evaluationWindowEnd (channel : ChannelId) (lowestSupply clearFor : Nat) :
    BodyFits.Statement (.evaluationWindowEnd channel lowestSupply clearFor) :=
  bodyFits_of_none rfl

theorem BodyFits.flashHalfEnd : BodyFits.Statement (.flashHalfEnd) :=
  bodyFits_of_none rfl

theorem BodyFits.lowSupplyLatch (supply : Nat) : BodyFits.Statement (.lowSupplyLatch supply) :=
  bodyFits_of_none rfl

theorem BodyFits.undervoltageChange (supply : Nat) : BodyFits.Statement (.undervoltageChange supply) :=
  bodyFits_of_none rfl

theorem BodyFits.addressAnswer (accept : Bool) : BodyFits.Statement (.addressAnswer accept) :=
  bodyFits_of_none rfl

theorem BodyFits.reportOctetReceived (octet : Byte) : BodyFits.Statement (.reportOctetReceived octet) :=
  bodyFits_of_none rfl

end Sys2Proof.Laws
end

