-- ==== Sys2Proof/Laws/Port.lean ====
section
/-!
SUPPORT. What the Request Port does with a good frame, said once: the machinery of a link after a change, the watchdog, the
one shape of every request's meaning, and what a refusal leaves.
-/

namespace Sys2Proof.Machine

open Sys2Proof

/-- A link's machinery after `updatePort` on it. -/
theorem updatePort_get (l : Link) (f : LinkPort → LinkPort) (s : State) :
    (updatePort l f s).links.get l = f (s.links.get l) := by
  cases l <;> simp [updatePort, PerLink.get, PerLink.set]

/-- `updatePort` leaves everything but its link's machinery. -/
theorem updatePort_frame (l : Link) (f : LinkPort → LinkPort) (s : State) :
    unchangedBut [portPart l] s (updatePort l f s) := by
  intro p hp; cases l <;> cases p <;> simp_all [Part.same, portPart, updatePort, PerLink.set]

/-- The supervisor's record after a good frame. -/
theorem restartWatchdog_framed (l : Link) (s : State) : (restartWatchdog l s).sup = framedSup l s := by
  cases l <;> cases h : s.sup.watchdog <;> simp [restartWatchdog, framedSup, frameWatchdog, h] <;> rw [← h]

/-- A good frame's watchdog restart leaves everything but the supervisor. -/
theorem restartWatchdog_frame (l : Link) (s : State) : unchangedBut [.sup] s (restartWatchdog l s) := by
  intro p hp; cases p <;> simp_all [Part.same]

/-- Every request is `portRequest` of its row in the table of R189. -/
theorem exec_request (c : Instr) (l : Link) (kind : Byte) (body : List Byte) (s : State)
    (h : requestOf c = some (l, kind, body)) :
    ∃ r, kindRow l kind = some r ∧ exec c s = .next (portRequest l kind r.controlOnly (r.take body) s) := by
  cases c <;> simp [requestOf] at h <;> obtain ⟨rfl, rfl, rfl⟩ := h <;> exact ⟨_, rfl, rfl⟩

/-- The state in which an owning block takes a request: the watchdog restarted and the request in hand (R175, R187). -/
def takenIn (l : Link) (kind : Byte) (s : State) : State := setInHand l (some kind) (restartWatchdog l s)

/-- A request that its owning block answers at a ready link: its reply is handed to the transmitter (R187). -/
theorem portRequest_answers {l : Link} {kind : Byte} {controlOnly : Bool} {take : State → Taken} {s t : State}
    {a : Answer} (hr : readyFor l s) (hc : (controlOnly && l == .harbour) = false)
    (ht : take (takenIn l kind s) = (t, some a)) :
    portRequest l kind controlOnly take s = putReply l kind a.outcome a.body t := by
  have hi := hr.1
  simp only [takenIn] at ht
  simp [portRequest, hi, hc, ht]

/-- A request that its owning block answers without changing anything, at a ready link: `onlyAnswered` with no further part
(R187, R189). -/
theorem portRequest_unchanged {l : Link} {kind : Byte} {controlOnly : Bool} {take : State → Taken} {s : State}
    {o : OutcomeCode} {b : List Byte} (hr : readyFor l s) (hc : (controlOnly && l == .harbour) = false)
    (ht : take (takenIn l kind s) = (takenIn l kind s, some ⟨o, b⟩)) :
    onlyAnswered l kind o b [] s (portRequest l kind controlOnly take s) := by
  rw [portRequest_answers hr hc ht]
  have hi := hr.1
  have hs := hr.2
  cases l <;>
    simp_all [PerLink.get, onlyAnswered, answered, putReply, takenIn, setInHand, updatePort, PerLink.set,
      restartWatchdog_framed] <;>
    intro p hp <;> cases p <;> simp_all [Part.same, portPart]

/-- An arm commanded: the position, acknowledged no, the travel timer from zero, the slot, and nothing else; an arm that may not
be raised now is left (R109, R119). -/
theorem commandArm_cases (p : ArmPosition) (a : ArmId) (s : State) :
    (commandArm p a s = s ∧ p = .up ∧ raiseAllowed s = false)
      ∨ (commandedNow p a (commandArm p a s) ∧ unchangedBut [.arms, .stations] s (commandArm p a s)) := by
  unfold commandArm
  split
  · rename_i h
    left
    cases p <;> simp_all
  · right
    constructor
    · simp [commandedNow, State.arm, State.station, writeSlot, updateStation, updateArm, tabModify]
    · intro q hq
      cases q <;> simp_all [Part.same]

end Sys2Proof.Machine
end

