-- ==== Sys2Proof/Tests/Slice0.lean ====
section
/-!
SUPPORT. Own checks: the smoke tests of `WellFormed`, the manual's worked figures on single steps, and for each statement that
has hypotheses a concrete state and operands that meet them together.
-/

namespace Sys2Proof.Tests

set_option Elab.async false

open Sys2Proof Sys2Proof.Machine

/-! ## Quantifiers over the named parts -/

theorem forall_drive {p : DriveId → Prop} : (∀ d, p d) ↔ p .wn ∧ p .ws ∧ p .en ∧ p .es :=
  ⟨fun h => ⟨h _, h _, h _, h _⟩, fun ⟨a, b, c, d⟩ x => by cases x <;> assumption⟩

theorem forall_lock {p : LockId → Prop} : (∀ k, p k) ↔ p .westTail ∧ p .eastTail ∧ p .centre :=
  ⟨fun h => ⟨h _, h _, h _⟩, fun ⟨a, b, c⟩ x => by cases x <;> assumption⟩

theorem forall_link {p : Link → Prop} : (∀ l, p l) ↔ p .control ∧ p .harbour :=
  ⟨fun h => ⟨h _, h _⟩, fun ⟨a, b⟩ x => by cases x <;> assumption⟩

theorem forall_direction {p : Direction → Prop} : (∀ d, p d) ↔ p .seaward ∧ p .landward :=
  ⟨fun h => ⟨h _, h _⟩, fun ⟨a, b⟩ x => by cases x <;> assumption⟩

theorem forall_arm {p : ArmId → Prop} : (∀ a, p a) ↔
    p .wEntry1 ∧ p .wEntry2 ∧ p .wExit1 ∧ p .wExit2 ∧ p .eEntry1 ∧ p .eEntry2 ∧ p .eExit1 ∧ p .eExit2 :=
  ⟨fun h => ⟨h _, h _, h _, h _, h _, h _, h _, h _⟩, fun ⟨a, b, c, d, e, f, g, i⟩ x => by cases x <;> assumption⟩

/-! ## A device in service -/

/-- The items of an image: the defaults of R196, the calibrations of the manual's worked cases, and their clearance table. -/
def items : List Int :=
  [1000000, 1, 4194, 1000000, 1, 4194, 2000000, -1, 4194, 16700000, 1, 4194]
    ++ [32, 12, 3, 1, 4800, 800, 800, 1024, 480, 1280, 320, 80, 1600, 3200, 48, 20, 15, 160, 20, 12, 6000, 150]
    ++ [400, 1000, 1380, 1750, 2140, 2520, 2870, 3190, 3500, 3800, 4090, 4370, 4640, 5030, 5420, 5810, 6200]
    ++ [60, 3, 8, 8, 1, 5, 3, 15, 5, 5, 5, 5] ++ [8, 9, 10, 11, 12, 13, 14, 15] ++ [50, 5, 20, 30, 160, 120, 210, 180]
    ++ [1, 2, 3, 4, 5, 6, 7, 8, 9, 10, 11, 12, 13, 14] ++ List.replicate 18 0 ++ List.replicate 32 1
    ++ List.replicate 18 0 ++ [10, 0]

/-- The complete image of the items. -/
def image : Vector (Option Int) 163 := ⟨(items.map some).toArray, by decide +kernel⟩

/-- The counts of leaves just below their seats (section 3.9) or at them. -/
def seatedCounts : PerDrive (BitVec 24) := ⟨1000000#24, 1000000#24, 2000100#24, 16700000#24⟩

/-- A lock proven driven, or withdrawn. -/
def lockAt (driven : Bool) : Lock := .cleared driven (!driven) false

/-- Leaves in a group state with no lock commanded, up or on their seats. -/
def leaves (st : GroupState) (seated : Bool) : LeafMotion where
  group := { Group.reset false with state := st, target := some 16000 }
  drives := (⟨.reset, .reset, .reset, .reset⟩ : PerDrive Drive).map (fun d => { d with brakeReleased := st.profileRuns })
  west := { Leaf.reset with seated := seated, angle := if seated then 0 else 8000 }
  east := { Leaf.reset with seated := seated, angle := if seated then 0 else 8000 }
  locks := ⟨lockAt seated, lockAt seated, lockAt seated⟩
  periodTimer := some 20

/-- A channel of a function. -/
def lampOf (k : Nat) : Channel := .cleared (functionOfCode k) false

/-- The lamps with one channel for each function, and every function healthy. -/
def lamps : LampUnit :=
  { LampUnit.reset with
    channels := tabMap lampOf ⟨((List.range 32).map (fun k => if k < 14 then k + 1 else 0)).toArray, by decide⟩
    functions := Vector.replicate 14 ⟨false, true⟩
    pulseClock := some 10 }

/-- The device in ATTENDED with the road open and the leaves stowed. -/
def bridge : State :=
  { State.reset with
    cfg := some (configuredOf image)
    store := ⟨.committed, image⟩
    sup := { Supervisor.reset with mode := .attended, watchdog := some 10000 }
    reg := { Register.reset with minuteTimer := some 60000 }
    closure := { Closure.reset with state := .roadOpen }
    leaf := leaves .stowed true
    loop := ⟨false, some .wEntry1, none, some 50, false⟩
    lamp := lamps
    seq := ⟨none, ⟨.noPassage, .noPassage⟩, ⟨⟨.noPassage, none⟩, ⟨.noPassage, none⟩⟩, 400⟩
    display := ⟨.off, ⟨⟨.noPassage, .noPassage, none, false⟩, ⟨.noPassage, .noPassage, none, false⟩⟩⟩ }

/-- The device with the closure in a state. -/
def roadIn (st : ClosureState) (s : State) : State :=
  { s with closure := { s.closure with state := st }, display := { s.display with road := roadLightOf st } }

/-- The device with the road closed and the leaves in a group state, up and with every lock withdrawn. -/
def up (st : GroupState) : State := { roadIn .roadClosed bridge with leaf := leaves st false }

/-- A passage. -/
def ship (n : Nat) (st : PassageState) : Passage :=
  ⟨n, .harbour, [0x41#8, octet (48 + n)], .seaward, .routine, 1000, 500, none, n, st,
    if st = .withdrawn then some .control else none⟩

/-- The device with passages held. -/
def held (ps : List Passage) (s : State) : State := { s with reg := { s.reg with records := ps, nextNumber := 20 } }

/-- The device with an opening. -/
def opened (st : OpeningState) (list : List Nat) (s : State) : State :=
  { s with seq := { s.seq with opening := some ⟨st, false, list, 2000, some .seaward, none, false⟩ } }

/-- The device in another mode. -/
def inMode (m : Mode) (s : State) : State :=
  { s with sup := { s.sup with mode := m, watchdog := if m = .attended then some 10000 else none } }

/-- The device with an arm record changed. -/
def withArm (a : ArmId) (f : Arm → Arm) (s : State) : State := updateArm a f s

/-- The state after a command. -/
def after (c : Instr) (s : State) : Option State :=
  match exec c s with
  | .next t => some t
  | .fault f => nomatch f
  | .refused _ => none

/-- The reply at the control link after a command: its outcome and its body. -/
def reply (c : Instr) (s : State) : Option (OutcomeCode × List Byte) :=
  ((after c s).bind (fun t => t.links.control.sending)).map (fun x => (x.reply.outcome, x.reply.body))

/-- The octets of a text's characters, as numbers. -/
def octets (ns : List Nat) : List Byte := ns.map octet

/-! ## Well-formed commands -/

theorem test_long_body_is_ill_formed : (Instr.status .control (List.replicate 250 0#8)).wellFormed = false := by decide +kernel

theorem test_longest_body_is_well_formed : (Instr.status .control (List.replicate 249 0#8)).wellFormed = true := by decide +kernel

theorem test_no_word_spells_a_command : decodeTableWord 8 0 = none := by decide

/-! ## The manual's figures -/

/-- Section 3.8: the fine angles of WN and WS. -/
theorem test_fine_angle_worked :
    fineAngle ⟨1000000, 1, 4194⟩ 1500000 = 31997 ∧ fineAngle ⟨1000000, 1, 4194⟩ 1499800 = 31984 := by decide

/-- Section 3.9: an encoder past its wrap, a leaf below its seat, and the limit. -/
theorem test_fine_angle_corners :
    fineAngle ⟨16700000, 1, 4194⟩ 150000 = 14540 ∧ fineAngle ⟨2000000, -1, 4194⟩ 2000100 = -7
      ∧ fineAngle ⟨0, 1, 65535⟩ 200000 = 144000 ∧ rangeFlag ⟨0, 1, 65535⟩ 200000 = true := by decide

/-- Section 3.8: the west leaf, its twist and the two reported angles. -/
theorem test_leaf_worked :
    leafAngle 31997 31984 = 31990 ∧ leafTwist 31997 31984 = 13 ∧ reportedAngle 31990 = 1999 ∧ reportedAngle 31950 = 1996
      ∧ leafAngle (-7) (-8) = -8 ∧ reportedAngle (-8) = 0 := by decide

/-- Sections 3.8 and 3.10: the available clearance. -/
theorem test_clearance_worked :
    availableClearance (clearanceTable image) 31990 31950 = 2136 ∧ availableClearance (clearanceTable image) (-8) 0 = 400
      ∧ clearanceAt (clearanceTable image) 1949 = 2100 ∧ clearanceAt (clearanceTable image) 1948 = 2099 := by
  decide +kernel

/-- Section 3.10: the table of required angles. -/
theorem test_required_angle_worked :
    [350, 400, 401, 1380, 2100, 4700, 6200, 6201].map (requiredAngle (clearanceTable image)) =
      [some 0, some 0, some 1, some 1000, some 1949, some 6077, some 8000, none] := by
  decide +kernel

/-- Section 3.8: stages 4 and 5. -/
theorem test_profile_worked :
    advanceProfile (configuredOf image) false 63824 ⟨32000, 30, true⟩ = ⟨32031, 31, true⟩
      ∧ rawDemand (configuredOf image) true 31 34 = 24936 ∧ rawDemand (configuredOf image) true 31 47 = 24988 := by
  decide +kernel

/-- Section 3.12: the first period of a stop from r = 50 000 and v = 32. -/
theorem test_stop_worked : advanceStop (configuredOf image) ⟨50000, 32, true⟩ = ⟨50031, 31, true⟩ := by decide +kernel

/-- R186: the check of the nine octets "123456789". -/
theorem test_check_worked : checkWord (octets [0x31, 0x32, 0x33, 0x34, 0x35, 0x36, 0x37, 0x38, 0x39]) = 0x29B1#16 := by
  decide +kernel

/-- Section 1.4: tags that normalise, and tags that are refused. -/
theorem test_tags_worked :
    normaliseTag (octets [32, 107, 101, 115, 116, 114, 101, 108, 45, 52, 46, 32]) =
        some (octets [75, 69, 83, 84, 82, 69, 76, 45, 52, 46])
      ∧ normaliseTag (octets [32, 32, 0, 0, 0, 0, 0, 0, 0, 0, 0, 0]) = none
      ∧ normaliseTag (octets [78, 79, 82, 68, 95, 83, 69, 69, 0, 0, 0, 0]) = none := by decide

/-- R5: the renumbering of the manual's example, and the counter after it. -/
theorem test_renumbering_worked :
    let p (n : Nat) (c : PassageClass) (stamp : Nat) : Passage := { ship n .waiting with cls := c, stamp := stamp }
    let r := enterRecord (p 13 .routine 4294967295)
      ⟨[p 12 .priority 4294967290, p 5 .routine 4294967100, p 9 .routine 4294967201], 13, 4294967295, none⟩
    r.records.map (fun q => (q.number, q.stamp)) = [(12, 0), (5, 1), (9, 2), (13, 3)] ∧ r.nextStamp = 4 := by
  decide +kernel

/-- Section 11.5: an absent item, a wrong check word, and the lowest of two failing items. -/
theorem test_commit_failures_worked :
    commitFailure (image.set 91 none) 0 = some 92 ∧ commitFailure image (imageCheck image + 1) = some 0
      ∧ (let bad := (image.set 43 (some 3450)).set 23 (some 320)
        commitFailure bad (imageCheck bad) = some 24) ∧ commitFailure image (imageCheck image) = none := by
  decide +kernel

/-- Section 7.10: the on-time in use of dim levels 10 and 15 under a blanking time of 1.2 ms. -/
theorem test_on_times_worked : onTimeInUse 10 12 = 1700 ∧ onTimeInUse 15 12 = 1700 := by decide

/-! ## Single steps -/

/-- R183, R196: power-on leaves SETUP with an empty image. -/
theorem test_power_on : (after .powerOn bridge).map (fun t => (t.sup.mode, t.store.image[0], t.leaf.group.state)) =
    some (.setup, none, .inactive) := by decide +kernel

/-- R185: the start octet while HUNTING, and a length of 0 after it. -/
theorem test_start_and_length :
    (after (.octetReceived .harbour 0xC3#8 true) bridge).map (fun t => t.links.harbour.intake) = some .awaitingLength
      ∧ ((after (.octetReceived .harbour 0xC3#8 true) bridge).bind (after (.octetReceived .harbour 0#8 true))).map
          (fun t => t.links.harbour.intake) = some .hunting := by decide +kernel

/-- R17, R69: a clearance of 1 234 cm needs 500 + ceil(234 × 500 / 380) = 808 cdeg. -/
theorem test_enter :
    let c : Instr := .enterPassage .control (octets [65, 0, 0, 0, 0, 0, 0, 0, 0, 0, 0, 0, 1, 0, 4, 210, 0, 0, 0])
    reply c (held [] bridge) = some (.ok, [20#8])
      ∧ (after c (held [] bridge)).map (fun t => t.reg.records.map (fun p => (p.number, p.clearance, p.angle))) =
          some [(20, 1234, 808)] := by decide +kernel

/-- Section 1.6: the harbour link asks for a COMPLETED record of CONTROL origin, and for one that is not held. -/
theorem test_withdraw_refusals :
    let s := held [{ ship 3 .completed with origin := .control }] bridge
    let code (n : Byte) := ((after (.withdrawPassage .harbour [n]) s).bind (fun t => t.links.harbour.sending)).map
      (fun x => x.reply.outcome)
    code 3#8 = some .notPermitted ∧ code 4#8 = some .noSuchPassage := by decide +kernel

/-- R34: records 11, 12 and 14 wait and n is 2, or 5. -/
theorem test_begin :
    let s := held [ship 14 .waiting, ship 11 .waiting, ship 12 .waiting] bridge
    reply (.beginOpening .control [2#8]) s = some (.ok, octets [2, 11, 12])
      ∧ reply (.beginOpening .control [5#8]) s = some (.ok, octets [3, 11, 12, 14]) := by decide +kernel

/-- R37: MARK PASSED of a vessel that is not CLEARED. -/
theorem test_mark_passed :
    reply (.markPassed .control [1#8]) (opened .open [1] (held [ship 1 .admitted] (up .heldOpen))) =
      some (.wrongState, []) := by decide +kernel

/-- R63 to R68 in one period: a leaf below its seat keeps the clearance at C0. -/
theorem test_control_period :
    (after (.controlPeriod seatedCounts) bridge).map (fun t =>
        ((t.leaf.drives.get .en).fine, t.leaf.east.angle, t.leaf.east.twist, t.leaf.group.clearance)) =
      some (-7, -4, -7, 400) := by decide +kernel

/-- R97: the emergency stop in RAISING. -/
theorem test_emergency_stop :
    (after (.emergencyStopChange true) (up .raising)).map (fun t =>
        (t.leaf.group.state, t.leaf.group.cause, (t.leaf.drives.get .wn).brakeReleased, faultLine t.sup)) =
      some (.tripped, some .estop, false, true) := by decide +kernel

/-- R91: a lock leaves DRIVEN in STOWED. -/
theorem test_lock_in_stowed :
    (after (.lockSwitchChange .centre .driven false) bridge).map (fun t =>
        (t.leaf.group.state, (t.leaf.locks.get .centre).unproven, t.sup.pulseTimer)) =
      some (.stowed, true, some 200) := by decide +kernel

/-- R112: a zone input starts the debounce, which then makes the zone OCCUPIED. -/
theorem test_zone :
    ((after (.zoneInputChange 2 true) bridge).bind (after (.zoneDebounceExpiry 2))).map (fun t =>
        ((t.zones[2]).occupied, (t.zones[2]).debounce, t.leaf.group.spanOccupied)) = some (true, none, true) := by
  decide +kernel

/-- R114: the amber time runs out. -/
theorem test_phase_timer :
    let s := roadIn .prewarnAmber bridge
    (after .phaseTimerExpiry { s with closure := { s.closure with phaseTimer := some 1 } }).map (fun t =>
        (t.closure.state, t.closure.phaseTimer, t.display.road)) = some (.prewarnRed, some 8000, .red) := by
  decide +kernel

/-- R139, R134: a turn with a command begins with the command's address octet. -/
theorem test_turn_start :
    (after .turnStart (updateStation .wEntry1 (fun x => { x with slot := some .lower }) bridge)).map (fun t =>
        t.loop.turn.map (fun x => (x.station, x.command, x.step))) =
      some (some (.wEntry1, some .lower, .commandAddress)) := by decide +kernel

/-- R134, R194: with address 10H the octets of a turn are 20H, the command RAISE, and 21H; the state is answered ACCEPT and the
angle REFUSE. -/
theorem test_loop_octets :
    let s := updateStation .wEntry1 (fun x => { x with address := some 0x10 }) bridge
    let turn (step : TurnStep) : Turn := ⟨.wEntry1, some .raise, step, none, none⟩
    let sent (step : TurnStep) := loopOctet { s with loop := { s.loop with turn := some (turn step) } }
    [sent .commandAddress, sent .commandOctet, sent .reportAddress, sent .stateOctet] =
        [some 0x20#8, some 0x02#8, some 0x21#8, none]
      ∧ (answerGiven (turn .stateOctet), answerGiven (turn .angleOctet)) = (some true, some false) := by decide +kernel

/-- R138: the third miss in a row makes a station LOST. -/
theorem test_third_miss :
    let s := updateStation .wExit2 (fun x => { x with misses := 2 }) bridge
    (after .turnEnd { s with loop := { s.loop with turn := some ⟨.wExit2, none, .stop, none, none⟩ } }).map (fun t =>
        ((t.station .wExit2).lost, (t.arm .wExit2).reported, t.loop.next)) = some (true, .unknown, some .eEntry1) := by
  decide +kernel

/-- R148, R146: a STEADY channel is driven at the next period start, for the full on-time of dim level 100. -/
theorem test_pulse :
    let s := { bridge with lamp := { bridge.lamp with channels := tabMap (fun c => { c with demand := .steady }) bridge.lamp.channels } }
    (after .pulsePeriodStart s).map (fun t => ((t.lamp.channels[0]).output, (t.lamp.channels[0]).onTime)) =
      some (true, 10000)
  := by decide +kernel

/-- R151, R157, R182: a shorted string, at 2.9 V under a threshold of 3.0 V. -/
theorem test_short_latch :
    let s := { bridge with lamp := { bridge.lamp with channels := tabMap (fun c => { c with demand := .steady }) bridge.lamp.channels } }
    ((after .pulsePeriodStart s).bind (after (.lampFaultLatch 0 .shortString 400 29 240))).map (fun t =>
        ((t.lamp.channels[0]).shortFlag, functionHealthy .wAmber t.lamp, t.sup.pulseTimer)) =
      some (true, false, some 200)
  := by decide +kernel

/-- R147: FLASH_HALF_END ends a half that has held 50 periods and no other, and the period start after the fiftieth begins the
other half whether or not the command has come. -/
theorem test_half_holds_fifty_periods :
    let s (n : Nat) : State := { bridge with lamp := { bridge.lamp with
      flash := .running false n, channels := tabMap (fun c => { c with demand := .phaseA }) bridge.lamp.channels } }
    (after .flashHalfEnd (s 49)).map (·.lamp.flash) = some (.running false 49)
      ∧ (after .flashHalfEnd (s 50)).map (·.lamp.flash) = some (.running true 0)
      ∧ (after .pulsePeriodStart (s 49)).map (·.lamp.flash) = some (.running false 50)
      ∧ (after .pulsePeriodStart (s 50)).map (·.lamp.flash) = some (.running true 1)
      ∧ ((after .flashHalfEnd (s 50)).bind (after .pulsePeriodStart)).map (·.lamp.flash) = some (.running true 1) := by
  decide +kernel

/-- R150: with a blanking time of 500 µs and an on-time of 10 000 µs, undervoltage that clears at the window's opening leaves
the pulse fully diagnosed, one that clears later, though it stands clear at the window's end, does not, and in a period without
it the pulse is fully diagnosed. -/
theorem test_undervoltage_within_the_window :
    let s := { bridge with lamp := { bridge.lamp with
      channels := tabMap (fun c => { c with demand := .steady }) bridge.lamp.channels } }
    let quiet := after .pulsePeriodStart s
    let dipped := (quiet.bind (after (.undervoltageChange 170))).bind (after (.undervoltageChange 240))
    let decided (p : Option State) (clearFor : Nat) :=
      (p.bind (after (.evaluationWindowEnd 0 240 clearFor))).map (fun t => (t.lamp.channels[0]).evaluated)
    decided dipped 9500 = some true ∧ decided dipped 9499 = some false ∧ decided quiet 0 = some true := by decide +kernel

/-- R159, last row, B first: the half is judged and its function reported, and the latch of the same instant then takes the
red-seen flag away. -/
theorem test_latch_after_the_half_end :
    let s := { roadIn .prewarnRed bridge with lamp := { bridge.lamp with
      flash := .running false 50
      channels := tabMap (fun c => { c with
        demand := .phaseA, inEffect := true, diagnosing := true, drivenInHalf := 50, diagnosedInHalf := 50 })
        bridge.lamp.channels } }
    let t := after .flashHalfEnd s
    t.map (·.closure.redSeen.wRedA) = some true
      ∧ (t.bind (after (.lampFaultLatch 1 .openString 0 200 240))).map (fun u =>
          ((u.lamp.channels[1]).openFlag, u.closure.redSeen.wRedA, u.closure.redSeen.eRedA)) =
        some (true, false, true) := by
  decide +kernel

/-- R176, R181: the watchdog runs out. -/
theorem test_watchdog :
    (after .watchdogExpiry bridge).map (fun t => (t.sup.mode, t.sup.watchdog, faultLine t.sup)) =
      some (.unattended, none, true) := by decide +kernel

/-- R197: item 2, a sign, admits +1 and no 0. -/
theorem test_write_item :
    reply (.writeConfigurationItem .control (octets [0, 2, 0, 0, 0, 1])) State.reset = some (.ok, [])
      ∧ reply (.writeConfigurationItem .control (octets [0, 2, 0, 0, 0, 0])) State.reset = some (.badField, []) := by
  decide +kernel

/-- R193: STATUS carries the causes that stood before, in 156 octets, and lowers the line. -/
theorem test_status :
    (reply (.status .control []) (raiseAttention .control .opening bridge)).map (fun r => (r.1, r.2.length)) =
        some (.ok, 156)
      ∧ (after (.status .control []) (raiseAttention .control .opening bridge)).map
          (fun t => t.links.control.attention.raised) = some false := by decide +kernel

/-- R195: the end of the first scan that commits a bridge HALTED under its recovery opening (R55) leaves a low line low. -/
theorem test_commit_leaves_attention :
    let start := { bridge with leaf := leaves .inactive false, closure := Closure.reset, store := { bridge.store with state := .evaluating } }
    let s := { start with sup := { start.sup with mode := .setup }, loop :=
      ⟨false, none, some ⟨.eExit2, none, .stop, some 1#8, some 90#8⟩, some 50, true⟩ }
    (after .turnEnd s).map (fun t => (t.leaf.group.state, t.closure.state, t.links.control.attention.raised)) =
      some (.halted, .prewarnAmber, false) := by decide +kernel

/-! ## States that meet the hypotheses of the statements -/

/-- A request in hand at the control link. -/
def busy : State := { bridge with links := bridge.links.set .control { LinkPort.reset with inHand := some 0x01#8 } }

/-- A reply being sent at the control link. -/
def sendingNow (outcomeSent : Bool) : State :=
  { bridge with links := bridge.links.set .control (
      { LinkPort.reset with sending := some ⟨⟨0x01#8, .ok, false, []⟩, outcomeSent⟩ }) }

/-- The control link's intake at a point. -/
def intakeAt (i : Intake) : State :=
  { bridge with links := bridge.links.set .control { LinkPort.reset with intake := i } }

theorem witness_IdleStepCountsTheTimers : bridge.pending = [] := rfl

theorem witness_IntakeTakesAnOctet :
    (bridge.links.get .control).intake = .hunting
      ∧ ((intakeAt .awaitingLength).links.get .control).intake = .awaitingLength
      ∧ (((intakeAt (.collecting 250#8 [])).links.get .control).intake = .collecting 250#8 []
        ∧ ([] : List Byte).length + 1 < (250#8 : Byte).toNat + 2)
      ∧ (((intakeAt (.collecting 1#8 [1#8, 0#8])).links.get .control).intake = .collecting 1#8 [1#8, 0#8]
        ∧ [1#8, 0#8].length + 1 = (1#8 : Byte).toNat + 2
        ∧ ([1#8, 0#8] ++ [0#8]).drop (1#8 : Byte).toNat ≠
            checkOctets (1#8 :: ([1#8, 0#8] ++ [0#8]).take (1#8 : Byte).toNat)) := by decide +kernel

/-- A good frame of kind 0x02, which R189 does not define, with no body. -/
theorem witness_IntakeTakesAnOctet_unknown :
    let check := checkOctets [1#8, 0x02#8]
    let s := intakeAt (.collecting 1#8 ([0x02#8] ++ check.take 1))
    (s.links.get .control).intake = .collecting 1#8 ([0x02#8] ++ check.take 1)
      ∧ ([0x02#8] ++ check.take 1).length + 1 = (1#8 : Byte).toNat + 2
      ∧ (([0x02#8] ++ check.take 1) ++ check.drop 1).drop (1#8 : Byte).toNat =
          checkOctets (1#8 :: (([0x02#8] ++ check.take 1) ++ check.drop 1).take (1#8 : Byte).toNat)
      ∧ (([0x02#8] ++ check.take 1) ++ check.drop 1).take (1#8 : Byte).toNat = [0x02#8] ∧ (check.drop 1).length = 1
      ∧ readyFor .control s := by simp only [readyFor]; decide +kernel

theorem witness_FrameOctetsAreTheRequest :
    requestOf (.status .control (List.replicate 249 0#8)) = some (.control, 0x01#8, List.replicate 249 0#8)
      ∧ (Instr.status .control (List.replicate 249 0#8)).wellFormed = true
      ∧ (bridge.links.get .control).intake = .hunting := by decide +kernel

theorem witness_RepliesLeaveOneAfterAnother :
    ((sendingNow false).links.get .control).sending = some ⟨⟨0x01#8, .ok, false, []⟩, false⟩
      ∧ ((sendingNow true).links.get .control).sending = some ⟨⟨0x01#8, .ok, false, []⟩, true⟩
      ∧ requestOf (.resume .control []) = some (.control, 0x50#8, [])
      ∧ ((sendingNow true).links.get .control).inHand = none := by decide +kernel

theorem witness_FrameBehindARequestIsDiscarded :
    requestOf (.resume .control []) = some (.control, 0x50#8, []) ∧ (busy.links.get .control).inHand.isSome = true := by
  decide +kernel

theorem witness_RefusedWhateverTheBody :
    readyFor .harbour bridge ∧ readyFor .control bridge ∧ readyFor .control State.reset
      ∧ requestOf (.resetTrip .harbour []) = some (.harbour, 0x40#8, []) ∧ 0x20 ≤ (0x40#8 : Byte).toNat
      ∧ requestOf (.beginOpening .control []) = some (.control, 0x20#8, [])
      ∧ modeRefusal 0x20#8 State.reset.sup.mode = some .wrongMode
      ∧ requestOf (.resume .control []) = some (.control, 0x50#8, [])
      ∧ modeRefusal 0x50#8 bridge.sup.mode = some .wrongState
      ∧ requestOf (.listPassages .harbour []) = some (.harbour, 0x15#8, []) ∧ (0x15#8 : Byte).toNat < 0x20
      ∧ modeRefusal 0x15#8 State.reset.sup.mode = some .wrongMode := by
  simp only [readyFor]; decide +kernel

theorem witness_RefusalChangesNothing :
    readyFor .control bridge ∧ requestOf (.beginOpening .control []) = some (.control, 0x20#8, [])
      ∧ (after (.beginOpening .control []) bridge).bind (fun t => (t.links.get .control).sending) =
          some ⟨⟨0x20#8, .badField, false, []⟩, false⟩
      ∧ readyFor .control State.reset
      ∧ (after (.commitConfiguration .control [0, 0]) State.reset).bind (fun t => (t.links.get .control).sending) =
          some ⟨⟨0x52#8, .configInvalid, false, [0, 1]⟩, false⟩ := by
  simp only [readyFor]; decide +kernel

theorem witness_StatusReadsTheDevice :
    let s := opened .open [1] (held [ship 1 .admitted] (up .heldOpen))
    readyFor .control s ∧ s.reg.records.length ≤ 32 ∧ (∀ o, s.seq.opening = some o → o.list.length ≤ 8) := by
  refine ⟨⟨rfl, rfl⟩, by decide +kernel, fun o h => ?_⟩
  cases h
  decide

theorem witness_NumbersAndQueueOrder :
    let r : Register := ⟨[ship 1 .waiting, ship 255 .waiting], 255, 0, none⟩
    1 ≤ r.nextNumber ∧ r.nextNumber ≤ 255 ∧ r.records.length ≤ 32 := by decide

/-- A SEAWARD PRIORITY entry without a lifetime, and a LANDWARD ROUTINE one with the longest. -/
theorem witness_EnterCreatesARecord :
    let s := held [ship 1 .waiting] bridge
    let last := { s with reg := { s.reg with nextStamp := 4294967295 } }
    let tag := octets [66, 0, 0, 0, 0, 0, 0, 0, 0, 0, 0, 0]
    (readyFor .harbour s ∧ readyFor .harbour last) ∧ (s.sup.mode ≠ .setup ∧ last.sup.mode ≠ .setup)
      ∧ tag.length = 12 ∧ normaliseTag tag = some [66] ∧ 100 ≤ word16 0 100 ∧ 100 ≤ word16 4 210
      ∧ (1 ≤ word16 2 208 ∧ word16 2 208 ≤ 720)
      ∧ requiredAngle s.conf.clearances (word16 0 100) = some 0 ∧ 0 ≤ s.conf.openLimit
      ∧ requiredAngle last.conf.clearances (word16 4 210) = some 808 ∧ 808 ≤ last.conf.openLimit
      ∧ (∀ p ∈ s.reg.records, p.state.terminal = true ∨ p.tag ≠ [66] ∨ p.direction ≠ .seaward)
      ∧ s.reg.records.length < 32 ∧ s.reg.nextStamp ≠ 4294967295 ∧ last.reg.nextStamp = 4294967295 := by
  simp only [readyFor]; decide +kernel

theorem witness_EnterRefusals :
    let s := held [ship 1 .waiting] bridge
    let full := held (List.replicate 32 (ship 1 .completed)) bridge
    let tag := octets [65, 49, 0, 0, 0, 0, 0, 0, 0, 0, 0, 0]
    let body (ch cl : Byte) := tag ++ [0, 0, ch, cl, 0, 0, 0]
    readyFor .control s ∧ readyFor .control full ∧ readyFor .control State.reset ∧ State.reset.sup.mode = .setup
      ∧ s.sup.mode ≠ .setup ∧ entryOf [] = none ∧ risingTable s.conf.clearances
      ∧ (entryOf (body 24 57)).map (·.clearance) = some 6201 ∧ tablePoint s.conf.clearances 16 < 6201
      ∧ (entryOf (body 4 210)).map (fun e => (e.clearance, e.tag, e.direction)) = some (1234, [65, 49], .seaward)
      ∧ requiredAngle s.conf.clearances 1234 = some 808 ∧ 808 ≤ s.conf.openLimit
      ∧ 1234 ≤ tablePoint s.conf.clearances 16
      ∧ (∃ p ∈ s.reg.records, p.state.terminal = false ∧ p.tag = [65, 49] ∧ p.direction = .seaward)
      ∧ full.sup.mode ≠ .setup ∧ risingTable full.conf.clearances
      ∧ (¬∃ p ∈ full.reg.records, p.state.terminal = false ∧ p.tag = [65, 49] ∧ p.direction = .seaward)
      ∧ 32 ≤ full.reg.records.length := by
  simp only [readyFor, risingTable]; decide +kernel

theorem witness_NormalisedTagsAreNormal :
    normaliseTag (octets [32, 107, 45, 52, 46, 32, 0, 95]) = some (octets [75, 45, 52, 46])
      ∧ normaliseTag (octets [65, 95]) = none ∧ normaliseTag (octets [32, 0, 65]) = none := by decide

theorem witness_RequiredAngleIsTheLeast :
    let t := clearanceTable image
    risingTable t ∧ 400 ≤ tablePoint t 0 ∧ (tablePoint t 3 < 2100 ∧ 2100 ≤ tablePoint t (3 + 1))
      ∧ (tablePoint t 15 < 6200 ∧ 6200 ≤ tablePoint t (15 + 1)) ∧ requiredAngle t 2100 = some 1949
      ∧ tablePoint t 16 < 6201 := by
  simp only [risingTable]; decide +kernel

theorem witness_AmendReplacesThePresentItems :
    let s := held [ship 1 .waiting] bridge
    readyFor .harbour s ∧ s.sup.mode ≠ .setup ∧ (1 : Byte) ≠ 0 ∧ 1 ≤ (7 : Byte).toNat ∧ (7 : Byte).toNat ≤ 7
      ∧ 100 ≤ word16 4 210 ∧ (1 : Byte).toNat ≤ 1 ∧ word16 2 208 ≤ 720
      ∧ findPassage (1 : Byte).toNat s.reg = some (ship 1 .waiting) ∧ (ship 1 .waiting).state = .waiting
      ∧ (ship 1 .waiting).origin = .harbour ∧ passageAngle s.conf (word16 4 210) = some 808 := by
  simp only [readyFor]; decide +kernel

theorem witness_AmendOfAnAdmittedRecord :
    let s (st : OpeningState) := opened st [1] (held [ship 1 .admitted] (up .heldOpen))
    (∀ st, readyFor .control (s st) ∧ (s st).sup.mode ≠ .setup
      ∧ findPassage 1 (s st).reg = some (ship 1 .admitted) ∧ (ship 1 .admitted).state = .admitted)
      ∧ (amendmentOf [1, 2, 0, 0, 0, 0, 0]).map (·.cls) = some (some .priority)
      ∧ (amendmentOf [1, 1, 4, 210, 0, 0, 0]).map (fun a => (a.number, a.clearance, a.cls, a.lifetime)) =
          some (1, some 1234, none, none)
      ∧ passageAngle (s .open).conf 1234 = some 808 ∧ withMargin (s .open).conf 808 ≤ 2000
      ∧ (s .open).seq.opening = some ⟨.open, false, [1], 2000, some .seaward, none, false⟩
      ∧ (s .lowering).seq.opening = some ⟨.lowering, false, [1], 2000, some .seaward, none, false⟩ := by
  refine ⟨fun st => ⟨⟨rfl, rfl⟩, by simp [opened, held, up, roadIn, bridge], rfl, rfl⟩, ?_⟩
  decide +kernel

/-- An amendment to 2 100 cm, of angle 1949, which with the margin calls for a raise of a target of 2000. -/
theorem witness_AmendOfAnAdmittedRecord_target :
    let s (st : OpeningState) (g : GroupState) := opened st [1] (held [ship 1 .admitted] (up g))
    let closing := opened .closingRoad [1] (held [ship 1 .admitted] (roadIn .entryLowering bridge))
    let x := s .open .heldOpen
    let occupied := { x with leaf := x.leaf.updateGroup (fun g => { g with spanOccupied := true }) }
    (amendmentOf [1, 1, 8, 52, 0, 0, 0]).map (fun a => (a.number, a.clearance, a.cls, a.lifetime)) =
        some (1, some 2100, none, none)
      ∧ passageAngle x.conf 2100 = some 1949 ∧ 2000 < withMargin x.conf 1949
      ∧ (readyFor .control closing ∧ (1 : Nat) ∈ [1] ∧ (closing.reg.records.map (·.number)).Nodup
        ∧ findPassage 1 closing.reg = some (ship 1 .admitted) ∧ closing.sup.mode = .attended
        ∧ closing.seq.opening = some ⟨.closingRoad, false, [1], 2000, some .seaward, none, false⟩)
      ∧ (∀ st g, readyFor .harbour (s st g) ∧ (s st g).sup.mode = .attended ∧ (s st g).closure.degraded = false
        ∧ findPassage 1 (s st g).reg = some (ship 1 .admitted) ∧ (s st g).leaf.group.state = g
        ∧ (s st g).leaf.group.emergencyStop = false ∧ (s st g).leaf.group.spanOccupied = false
        ∧ (s st g).closure.state = .roadClosed ∧ allLocks .withdrawn (s st g).leaf = true)
      ∧ (readyFor .control occupied ∧ occupied.leaf.group.state = .heldOpen
        ∧ occupied.leaf.group.spanOccupied = true) := by
  refine ⟨by decide +kernel, by decide +kernel, by decide +kernel, ?_, fun st g => ⟨⟨rfl, rfl⟩, ?_⟩, ?_⟩
  · simp only [readyFor]; decide +kernel
  · exact ⟨rfl, rfl, rfl, rfl, rfl, rfl, rfl, rfl⟩
  · simp only [readyFor]; decide +kernel

/-- The last vessel of a closing, and one of two, in ATTENDED and in UNATTENDED. -/
theorem witness_WithdrawByState_opening :
    let s (m : Mode) (list : List Nat) := inMode m (opened .closingRoad list
      (held [ship 1 .admitted, ship 2 .admitted] (roadIn .entryLowering bridge)))
    let lifting := opened .lifting [1] (held [ship 1 .admitted] (up .raising))
    (∀ m list, readyFor .harbour (s m list) ∧ findPassage (1 : Byte).toNat (s m list).reg = some (ship 1 .admitted)
      ∧ (s m list).sup.mode = m
      ∧ (s m list).seq.opening = some ⟨.closingRoad, false, list, 2000, some .seaward, none, false⟩
      ∧ (s m list).leaf.group.state = .stowed ∧ (s m list).closure.state.closing = true ∧ noStandingFault (s m list)
      ∧ ((s m list).arm .wEntry1).inService = true)
      ∧ [1].filter (fun m => m != (1 : Byte).toNat) = [] ∧ [1, 2].filter (fun m => m != (1 : Byte).toNat) ≠ []
      ∧ readyFor .harbour lifting ∧ findPassage (1 : Byte).toNat lifting.reg = some (ship 1 .admitted)
      ∧ lifting.seq.opening = some ⟨.lifting, false, [1], 2000, some .seaward, none, false⟩ := by
  refine ⟨fun m list => ⟨⟨rfl, rfl⟩, rfl, rfl, rfl, rfl, rfl, fun a => ?_, rfl⟩, ?_⟩
  · cases a <;> exact fun _ => ⟨rfl, (fun h => nomatch h)⟩
  · simp only [readyFor]; decide +kernel

theorem witness_WithdrawByState :
    let s (st : PassageState) := opened .open [2] (held [ship 1 .waiting, ship 2 st] (up .heldOpen))
    (∀ l st, readyFor l (s st) ∧ (s st).sup.mode ≠ .setup) ∧ (1 : Byte) ≠ 0
      ∧ findPassage (1 : Byte).toNat (s .cleared).reg = some (ship 1 .waiting)
      ∧ (1 : Byte).toNat ∉ admittedList (s .cleared)
      ∧ findPassage (2 : Byte).toNat (s .admitted).reg = some (ship 2 .admitted)
      ∧ findPassage (2 : Byte).toNat (s .cleared).reg = some (ship 2 .cleared)
      ∧ findPassage (2 : Byte).toNat (s .expired).reg = some (ship 2 .expired) ∧ (ship 2 .cleared).origin = .harbour
      ∧ (ship 2 .expired).state.terminal = true := by
  refine ⟨fun l st => ⟨by cases l <;> exact ⟨rfl, rfl⟩, by simp [opened, held, up, roadIn, bridge]⟩, ?_⟩
  decide +kernel

theorem witness_ReleaseRemovesATerminalRecord :
    let s := opened .open [2] (held [ship 1 .expired, ship 2 .completed, ship 3 .waiting] (up .heldOpen))
    readyFor .control s ∧ s.sup.mode ≠ .setup ∧ findPassage (1 : Byte).toNat s.reg = some (ship 1 .expired)
      ∧ (1 : Byte).toNat ∉ admittedList s ∧ findPassage (2 : Byte).toNat s.reg = some (ship 2 .completed)
      ∧ findPassage (3 : Byte).toNat s.reg = some (ship 3 .waiting) ∧ (ship 1 .expired).state.terminal = true
      ∧ (ship 3 .waiting).state.terminal = false := by
  simp only [readyFor]; decide +kernel

theorem witness_LookUpReadsTheRegister_and_ListPassagesInQueueOrder :
    readyFor .harbour (held [ship 1 .waiting] bridge) ∧ (held [ship 1 .waiting] bridge).sup.mode ≠ .setup
      ∧ (octets [65, 49, 0, 0, 0, 0, 0, 0, 0, 0, 0, 0]).length = 12 := by
  simp only [readyFor]; decide +kernel

theorem witness_MinuteExpiryAgesWaitingRecords :
    let s := held [{ ship 1 .waiting with lifetime := some 1 }, { ship 2 .waiting with origin := .control }] bridge
    s.reg.minuteTimer = some 60000 ∧ (∃ p ∈ s.reg.records, p.origin = .harbour ∧ p.state = .waiting ∧ p.lifetime = some 1)
      ∧ (∀ p ∈ s.reg.records, p.origin = .control → p.lifetime = none) := by decide +kernel

theorem witness_BeginOpensAndClosesTheRoad :
    let s := held [ship 2 .waiting, ship 1 .waiting] bridge
    let local1 := withArm .eExit2 (fun a => { a with reported := .localControl }) s
    (readyFor .control s ∧ readyFor .control local1) ∧ s.sup.mode = .attended ∧ 1 ≤ (8 : Byte).toNat
      ∧ (8 : Byte).toNat ≤ 8 ∧ s.seq.opening = none ∧ s.leaf.group.state = .stowed ∧ s.closure.state = .roadOpen
      ∧ anyOccupied s = false ∧ (∃ p ∈ s.reg.records, p.state = .waiting) ∧ (s.reg.records.map (·.number)).Nodup
      ∧ noStandingFault s ∧ local1.sup.mode = .attended ∧ local1.seq.opening = none
      ∧ local1.leaf.group.state = .stowed ∧ local1.closure.state = .roadOpen ∧ anyOccupied local1 = false
      ∧ local1.reg = s.reg ∧ ¬noStandingFault local1 := by
  refine ⟨?_, ?_, ?_, ?_, ?_, ?_, ?_, ?_, ?_, ?_, ?_, ?_, ?_, ?_, ?_, ?_, ?_, fun h => absurd (h .eExit2 (by decide +kernel)).2 (by decide +kernel)⟩
  all_goals repeat' apply And.intro
  all_goals first | decide +kernel | (intro x; cases x <;> decide +kernel)

theorem witness_BeginRefusals :
    let s := held [] bridge
    readyFor .control s ∧ s.sup.mode = .attended ∧ 1 ≤ (1 : Byte).toNat ∧ (1 : Byte).toNat ≤ 8
      ∧ (opened .open [] s).seq.opening ≠ none ∧ readyFor .control (opened .open [] s)
      ∧ s.seq.opening = none ∧ (roadIn .roadUncertain s).closure.state = .roadUncertain
      ∧ readyFor .control (roadIn .roadUncertain s) ∧ (roadIn .roadUncertain s).sup.mode = .attended
      ∧ s.leaf.group.state = .stowed ∧ s.closure.state = .roadOpen ∧ (∀ z : ZoneId, (s.zones[z]).occupied = false)
      ∧ (∀ p ∈ s.reg.records, p.state ≠ .waiting) := by
  simp only [readyFor]; decide +kernel

/-- The states of ADMIT TO OPENING: a vessel the target covers, or, with a target of 500, one that calls for a raise. -/
theorem witness_AdmitJoinsTheOpening :
    let s (st : OpeningState) (g : GroupState) := opened st [2] (held [ship 1 .waiting, ship 2 .cleared] (up g))
    let low := { s .lifting .raising with seq := { (s .lifting .raising).seq with
      opening := some ⟨.lifting, false, [2], 500, none, none, false⟩ } }
    let degraded := { low with closure := { low.closure with degraded := true } }
    (∀ st g, readyFor .control (s st g) ∧ (s st g).sup.mode = .attended
      ∧ findPassage (1 : Byte).toNat (s st g).reg = some (ship 1 .waiting)
      ∧ ((s st g).reg.records.map (·.number)).Nodup
      ∧ (s st g).seq.opening = some ⟨st, false, [2], 2000, some .seaward, none, false⟩)
      ∧ [2].length < 8 ∧ (1 : Byte).toNat ∉ [2] ∧ withMargin (s .open .heldOpen).conf 500 ≤ 2000
      ∧ readyFor .control low ∧ low.sup.mode = .attended
      ∧ findPassage (1 : Byte).toNat low.reg = some (ship 1 .waiting) ∧ low.leaf.group.state = .raising
      ∧ low.closure.degraded = false ∧ 500 < withMargin low.conf (ship 1 .waiting).angle
      ∧ readyFor .control degraded ∧ degraded.sup.mode = .attended ∧ degraded.closure.degraded = true
      ∧ findPassage (1 : Byte).toNat degraded.reg = some (ship 1 .waiting) := by
  refine ⟨fun st g => ⟨⟨rfl, rfl⟩, rfl, rfl, ?_, rfl⟩, ?_⟩
  · simp [opened, held, ship]
  · simp only [readyFor]; decide +kernel

/-- A raise from HELD_OPEN, taken, and refused under an occupied span. -/
theorem witness_AdmitJoinsTheOpening_raise :
    let s := { opened .open [2] (held [ship 1 .waiting, ship 2 .cleared] (up .heldOpen)) with seq := { bridge.seq with
      opening := some ⟨.open, false, [2], 500, some .seaward, none, false⟩ } }
    let occupied := { s with leaf := s.leaf.updateGroup (fun g => { g with spanOccupied := true }) }
    (∀ x ∈ [s, occupied], (x.links.get .control).inHand = none ∧ (x.links.get .control).sending = none
      ∧ x.sup.mode = .attended ∧ findPassage (1 : Byte).toNat x.reg = some (ship 1 .waiting)
      ∧ (x.reg.records.map (·.number)).Nodup ∧ x.leaf.group.state = .heldOpen
      ∧ x.seq.opening = some ⟨.open, false, [2], 500, some .seaward, none, false⟩
      ∧ 500 < withMargin x.conf (ship 1 .waiting).angle)
      ∧ s.leaf.group.emergencyStop = false ∧ s.leaf.group.spanOccupied = false ∧ s.closure.state = .roadClosed
      ∧ s.closure.degraded = false ∧ allLocks .withdrawn s.leaf = true ∧ occupied.leaf.group.spanOccupied = true := by
  decide +kernel

theorem witness_MarkPassedAndChangeover :
    let s := opened .open [1] (held [ship 1 .cleared, ship 2 .waiting] (up .heldOpen))
    let turning := { s with seq := { s.seq with
      opening := some ⟨.open, false, [1], 2000, some .landward, some 1, false⟩ } }
    readyFor .control s ∧ s.sup.mode = .attended ∧ findPassage (1 : Byte).toNat s.reg = some (ship 1 .cleared)
      ∧ findPassage (2 : Byte).toNat s.reg = some (ship 2 .waiting)
      ∧ s.seq.opening = some ⟨.open, false, [1], 2000, some .seaward, none, false⟩
      ∧ turning.seq.opening = some ⟨.open, false, [1], 2000, some .landward, some 1, false⟩ := by
  simp only [readyFor]; decide +kernel

/-- LOWER BRIDGE from OPEN and from HALTED leaves, and ABORT OPENING of a closing road and of a lift. -/
theorem witness_LowerAndAbortReturnTheRecords :
    let s (st : OpeningState) (g : GroupState) := opened st [1] (held [ship 1 .admitted] (up g))
    let closing := opened .closingRoad [1] (held [ship 1 .admitted] (roadIn .entryLowering bridge))
    (∀ st g, readyFor .control (s st g) ∧ (s st g).sup.mode = .attended
      ∧ (s st g).seq.opening = some ⟨st, false, [1], 2000, some .seaward, none, false⟩
      ∧ ((s st g).reg.records.map (·.number)).Nodup ∧ (∀ p ∈ listedRecords (s st g), p.state ≠ .cleared)
      ∧ bothSeated (s st g).leaf = false ∧ (s st g).leaf.group.emergencyStop = false
      ∧ (s st g).leaf.group.spanOccupied = false ∧ (s st g).closure.state = .roadClosed
      ∧ (s st g).leaf.group.state = g ∧ allLocks .withdrawn (s st g).leaf = true)
      ∧ readyFor .control closing ∧ closing.sup.mode = .attended ∧ closing.leaf.group.state = .stowed
      ∧ closing.closure.state.closing = true ∧ noStandingFault closing
      ∧ (closing.arm .wEntry1).inService = true ∧ (∀ p ∈ listedRecords closing, p.state ≠ .cleared) := by
  refine ⟨fun st g => ⟨⟨rfl, rfl⟩, rfl, rfl, by simp [opened, held], ?_, rfl, rfl, rfl, rfl, rfl, rfl⟩, ?_⟩
  · simp [opened, held, listedRecords, ship, findPassage]
  · repeat' apply And.intro
    all_goals first | decide +kernel | (intro x; cases x <;> decide +kernel)

/-- Leaves without a lock command meet the table of R81 in every state that commands none. -/
theorem leafTable_leaves (st : GroupState) (seated : Bool) (h : st ≠ .unlocking ∧ st ≠ .locking) :
    leafTable (leaves st seated) := by
  refine ⟨fun d => by cases d <;> rfl, fun _ d => by cases d <;> exact ⟨rfl, rfl⟩, fun k => ?_⟩
  cases k <;> cases st <;> first | rfl | simp_all

theorem witness_ContinueMotionByTarget :
    let s := opened .lifting [] (up .halted)
    let down := { s with leaf := s.leaf.updateGroup (fun g => { g with target := some 0 }) }
    let seated := { s with leaf := leaves .halted true }
    let stuck := { s with leaf := { s.leaf with locks := s.leaf.locks.set .centre (lockAt true) } }
    let stopped := { s with leaf := s.leaf.updateGroup (fun g => { g with emergencyStop := true }) }
    let waiting := opened .closingRoad [] (roadIn .roadClosed bridge)
    (∀ x ∈ [s, down, seated, stuck, stopped, waiting],
      (x.links.get .control).inHand = none ∧ (x.links.get .control).sending = none ∧ x.sup.mode = .attended
      ∧ x.leaf.group.spanOccupied = false ∧ x.closure.state = .roadClosed)
      ∧ (∀ x ∈ [s, down, seated, stuck, waiting], x.leaf.group.emergencyStop = false)
      ∧ (∀ x ∈ [s, down, seated, stuck, stopped], x.leaf.group.state = .halted)
      ∧ 0 < s.leaf.group.target.getD 0 ∧ allLocks .withdrawn s.leaf = true
      ∧ down.leaf.group.target.getD 0 = 0 ∧ bothSeated down.leaf = false ∧ allLocks .withdrawn down.leaf = true
      ∧ 0 < seated.leaf.group.target.getD 0 ∧ leafTable seated.leaf ∧ allLocks .withdrawn seated.leaf = false
      ∧ bothSeated seated.leaf = true ∧ 0 < stuck.leaf.group.target.getD 0 ∧ allLocks .withdrawn stuck.leaf = false
      ∧ bothSeated stuck.leaf = false ∧ stopped.leaf.group.emergencyStop = true
      ∧ waiting.leaf.group.state = .stowed ∧ leafTable waiting.leaf ∧ allLocks .withdrawn waiting.leaf = false := by
  have h (b : GroupState) := leafTable_leaves b true
  repeat' apply And.intro
  all_goals
    first
    | decide +kernel
    | exact (h .halted (by decide)).1
    | exact (h .halted (by decide)).2.1
    | exact (h .halted (by decide)).2.2

/-- PASS is demanded for a CLEARED vessel under the available clearance. -/
theorem witness_PassOnlyForACoveredVessel :
    let s := opened .open [1] (held [ship 1 .cleared] (up .heldOpen))
    demandFor .seaward { s with seq := { s.seq with clearance := 1000 } } = .pass := by decide +kernel

theorem witness_FineAngleOfADrive :
    let c : Calibration := ⟨16777215, -1, 65535⟩
    (c.sign = 1 ∨ c.sign = -1) ∧ c.scale ≤ 65535 ∧ c.zero ≤ 16777215 ∧ (16777215 : Nat) ≤ 16777215 := by decide

theorem witness_ControlPeriodFormsTheAngles :
    State.reset.leaf.periodTimer = none ∧ bridge.leaf.periodTimer = some 20
      ∧ (let s := { up .raising with leaf := (up .raising).leaf.updateGroup (fun g => { g with profile := some ⟨8000, 0, true⟩ }) }
        s.leaf.group.profile = some ⟨8000, 0, true⟩ ∧ s.leaf.group.target = some 16000 ∧ s.leaf.group.state = .raising
        ∧ (after (.controlPeriod ⟨1125014#24, 1125014#24, 1874986#24, 47799#24⟩) s).map (fun t => t.leaf.group.state) =
            some .raising) := by decide +kernel

/-- The counts of four drives at 8 000 fine units. -/
def at8000 : PerDrive (BitVec 24) := ⟨1125014#24, 1125014#24, 1874986#24, 47799#24⟩

/-- Whether a control period answers a state that meets a test. -/
def shows (counts : PerDrive (BitVec 24)) (s : State) (p : State → Bool) : Bool := ((after (.controlPeriod counts) s).map p).getD false

/-- The moving device with its reference at the leaves' 8 000 fine units, and the group record changed. -/
def moving (st : GroupState) (f : Group → Group) : State :=
  { up st with leaf := (up st).leaf.updateGroup (fun g => f { g with target := some 8000, profile := some ⟨8000, 0, true⟩ }) }

/-- Nothing trips or stops the group: the test that `nothingFound` states. -/
def quiet (t : State) : Bool :=
  decide (¬twistFound t.conf t.leaf) && decide (¬skewFound t.conf t.leaf)
    && t.leaf.drives.all (fun d => !d.rangeFlag && decide (d.followingError.natAbs < t.conf.followingTrip))

/-- A twist that warns, one that has warned before, and an update that clears a vessel at 1 000 cm. -/
theorem witness_ControlPeriodFormsTheAngles_latches :
    let twisted : PerDrive (BitVec 24) := { at8000 with wn := 1134014#24 }
    let s := opened .open [1] (held [ship 1 .admitted] (up .heldOpen))
    shows twisted (up .heldOpen) (fun t => decide (t.conf.twistWarn ≤ t.leaf.west.twist.natAbs) && t.leaf.west.twistWarning) = true
      ∧ (up .heldOpen).leaf.west.twistWarning = false ∧ (s.reg.records.map (·.number)).Nodup
      ∧ shows at8000 s (fun t => clearedByUpdate t (ship 1 .admitted)) = true := by decide +kernel

theorem witness_ProfileAndDemandOfAPeriod :
    let m (st : GroupState) := (leaves st false).updateGroup (fun g => { g with profile := some ⟨8000, 0, true⟩ })
    (∀ st, (m st).group.profile = some ⟨8000, 0, true⟩ ∧ (m st).group.target = some 16000 ∧ (m st).group.state = st)
      ∧ GroupState.profileRuns .stopping = true ∧ GroupState.profileRuns .halted = false := by
  exact ⟨fun st => ⟨rfl, rfl, rfl⟩, rfl, rfl⟩

/-! ### The conditions kept by every step -/

/-- A step whose front command is `c`. -/
def queued (c : Instr) (s : State) : State := { s with pending := [c] }

theorem witness_LeafTableIsKept_and_RoadShutWhileLeavesMove :
    let s := queued (.emergencyStopChange true) (up .raising)
    leafTable s.leaf ∧ causeTable s.leaf.group ∧ roadShutWhileMoving s ∧ s.leaf.group.state.profileRuns = true
      ∧ ∃ t, step s = .next t := by
  refine ⟨leafTable_leaves .raising false (by decide), ?_, fun _ => rfl, rfl, _, rfl⟩
  repeat' apply And.intro
  all_goals decide +kernel

theorem witness_RegisterAndListAreKept :
    let s := queued .minuteTimerExpiry (opened .open [1] (held [ship 1 .admitted, ship 2 .waiting] (up .heldOpen)))
    registerTable s.reg ∧ listTable s ∧ s.reg.records ≠ [] ∧ ∃ t, step s = .next t := by
  refine ⟨?_, ⟨?_, ?_, ?_, ?_, fun o h => ?_, fun o h => ?_, ?_, ?_⟩, ?_, _, rfl⟩
  · repeat' apply And.intro
    all_goals decide +kernel
  all_goals first
    | decide +kernel
    | (cases h; decide +kernel)

theorem witness_DisplayTableIsKept_SupervisorTableIsKept_and_AttentionAndPortsAreKept :
    let s := queued .watchdogExpiry bridge
    registerTable s.reg ∧ displayTable s ∧ supervisorTable s ∧ attentionTable s ∧ portsSound s ∧ ∃ t, step s = .next t := by
  refine ⟨by repeat' apply And.intro
             all_goals decide +kernel, ⟨fun d => by cases d <;> decide +kernel, by decide +kernel, fun d => by cases d <;> decide +kernel⟩,
    ⟨by decide +kernel, by decide +kernel, fun d => by cases d <;> decide +kernel,
      fun d => by cases d <;> decide +kernel, by decide +kernel⟩,
    ⟨fun l => by cases l <;> decide +kernel, by decide +kernel⟩, ⟨?_, ?_, ?_⟩, _, rfl⟩
  · exact ⟨(fun h => nomatch h), (fun ⟨_, h⟩ => nomatch h), (fun h => nomatch h)⟩
  · exact ⟨(fun h => nomatch h), (fun ⟨_, h⟩ => nomatch h), (fun h => nomatch h)⟩
  · intro h
    cases h

/-! ### The leaves -/

/-- A lock with its command. -/
def commandedLock (c : LockCommand) (driven withdrawn : Bool) : Lock := ⟨some c, driven, withdrawn, some 5, false⟩

/-- The device with every lock commanded, in UNLOCKING or LOCKING, and the centre lock the last to move. -/
def working (st : GroupState) (c : LockCommand) (driven withdrawn : Bool) : State :=
  { roadIn .roadClosed bridge with
    leaf := { leaves st true with
      locks := ⟨commandedLock c (!driven) (!withdrawn), commandedLock c (!driven) (!withdrawn),
        commandedLock c driven withdrawn⟩ } }

theorem witness_LockSwitchesAndTimers :
    let unlocking := working .unlocking .withdraw false false
    let unlocking := { unlocking with leaf := { unlocking.leaf with locks :=
      ⟨commandedLock .withdraw false true, commandedLock .withdraw false true, commandedLock .withdraw false false⟩ } }
    let locking := working .locking .drive false false
    let locking := { locking with leaf := { locking.leaf with locks :=
      ⟨commandedLock .drive true false, commandedLock .drive true false, commandedLock .drive false false⟩ } }
    (leafTable bridge.leaf ∧ bridge.leaf.group.state = .stowed
        ∧ lockState (bridge.leaf.locks.get .centre) = .driven
        ∧ { bridge.leaf.locks.get .centre with drivenSwitch := false } ≠ bridge.leaf.locks.get .centre)
      ∧ (leafTable (up .halted).leaf ∧ (up .halted).leaf.group.state = .halted)
      ∧ (leafTable (up .raising).leaf ∧ lockState ((up .raising).leaf.locks.get .centre) = .withdrawn
        ∧ { (up .raising).leaf.locks.get .centre with withdrawnSwitch := false } ≠ (up .raising).leaf.locks.get .centre)
      ∧ (unlocking.leaf.group.state = .unlocking ∧ unlocking.leaf.group.spanOccupied = false
        ∧ lockState (unlocking.leaf.locks.get .centre) ≠ .conflict
        ∧ allLocks .withdrawn { unlocking.leaf with locks := unlocking.leaf.locks.set .centre (
            { unlocking.leaf.locks.get .centre with withdrawnSwitch := true }) } = true
        ∧ (unlocking.leaf.locks.get .centre).timer.isSome = true)
      ∧ (locking.leaf.group.state = .locking
        ∧ (∃ o, (opened .lowering [] locking).seq.opening = some o ∧ o.state = .lowering)
        ∧ (opened .lowering [] locking).sup.mode = .attended ∧ locking.closure.state = .roadClosed
        ∧ noStandingFault locking ∧ (locking.arm .wEntry1).inService = true
        ∧ allLocks .driven { locking.leaf with locks := locking.leaf.locks.set .centre (
            { locking.leaf.locks.get .centre with drivenSwitch := true }) } = true
        ∧ lockState { locking.leaf.locks.get .westTail with withdrawnSwitch := true } = .conflict) := by
  refine ⟨⟨leafTable_leaves .stowed true (by decide), ?_⟩, ⟨leafTable_leaves .halted false (by decide), ?_⟩,
    ⟨leafTable_leaves .raising false (by decide), ?_⟩, ?_⟩
  all_goals
    repeat' apply And.intro
    all_goals first
      | decide +kernel
      | exact ⟨_, rfl, rfl⟩
      | (intro x; cases x <;> decide +kernel)

/-- A stop with the locks WITHDRAWN, an unlocking under an occupied span, a switch that moves no lock to its end, and timers
that are stopped. -/
theorem witness_LockSwitchesAndTimers_others :
    let unlocking := working .unlocking .withdraw false false
    (leafTable (up .stopping).leaf ∧ (up .stopping).leaf.group.state = .stopping
        ∧ lockState ((up .stopping).leaf.locks.get .centre) = .withdrawn)
      ∧ ({ unlocking with leaf := unlocking.leaf.updateGroup (fun g => { g with spanOccupied := true }) } : State).leaf.group.spanOccupied
          = true
      ∧ (lockState { unlocking.leaf.locks.get .westTail with drivenSwitch := false } ≠ .conflict
        ∧ allLocks .withdrawn { unlocking.leaf with locks := unlocking.leaf.locks.set .westTail (
            { unlocking.leaf.locks.get .westTail with drivenSwitch := false }) } = false
        ∧ { unlocking.leaf.locks.get .westTail with drivenSwitch := false } ≠ unlocking.leaf.locks.get .westTail)
      ∧ bridge.leaf.group.state = .stowed ∧ (bridge.leaf.locks.get .centre).timer = none := by
  refine ⟨⟨leafTable_leaves .stopping false (by decide), ?_⟩, ?_⟩
  all_goals
    repeat' apply And.intro
    all_goals decide +kernel

/-- The locks being withdrawn, and driven, meet the table of R81. -/
theorem witness_LockSwitchesAndTimers_working :
    leafTable (working .unlocking .withdraw false false).leaf ∧ leafTable (working .locking .drive false false).leaf := by
  constructor <;>
    exact ⟨fun d => by cases d <;> rfl, fun _ d => by cases d <;> exact ⟨rfl, rfl⟩, fun k => by cases k <;> rfl⟩

theorem witness_GroupEvents :
    (up .raising).leaf.group.emergencyStop ≠ true ∧ (up .raising).leaf.group.state.working = true
      ∧ causeTable (up .raising).leaf.group ∧ (up .halted).leaf.group.state.working = false
      ∧ (up .settling).leaf.group.state = .settling
      ∧ (opened .lifting [] (up .settling)).seq.opening = some ⟨.lifting, false, [], 2000, some .seaward, none, false⟩
      ∧ (opened .open [] (up .settling)).seq.opening = some ⟨.open, false, [], 2000, some .seaward, none, false⟩
      ∧ (up .settling).seq.opening = none
      ∧ ((up .seating).leaf.group.state = .seating ∧ ∃ k, ((up .seating).leaf.locks.get k).drivenSwitch = false) := by
  refine ⟨?_, ?_, ⟨?_, ?_, ?_⟩, ?_, ?_, ?_, ?_, ?_, ?_, .centre, ?_⟩
  all_goals decide +kernel

/-- What a control period finds, clause by clause: each trip level reached alone, and then the quiet periods that settle, seat
and stop. -/
theorem witness_GroupEvents_found :
    let skewed : PerDrive (BitVec 24) := { at8000 with en := 1906243#24, es := 16541#24 }
    let at147 : PerDrive (BitVec 24) := { at8000 with wn := 3300000#24, ws := 3300000#24 }
    let behind := moving .raising (fun g => { g with profile := some ⟨12000, 0, true⟩ })
    (∀ x ∈ [moving .raising id, moving .stopping id, up .heldOpen, behind], x.leaf.periodTimer = some 20)
      ∧ (causeTable (moving .raising id).leaf.group ∧ causeTable behind.leaf.group
        ∧ causeTable (moving .stopping (fun g => { g with cause := some .spanIntrusion })).leaf.group)
      ∧ shows { at8000 with wn := 1000000#24 } (moving .raising id) (fun t => decide (twistFound t.conf t.leaf)) = true
      ∧ shows at147 (moving .raising id) (fun t => (t.leaf.drives.get .wn).rangeFlag) = true
      ∧ shows skewed (moving .raising id) (fun t => decide (¬twistFound t.conf t.leaf) && decide (skewFound t.conf t.leaf)
          && t.leaf.drives.all (fun d => !d.rangeFlag)) = true
      ∧ shows skewed (up .heldOpen) (fun t => decide (¬twistFound t.conf t.leaf) && decide (skewFound t.conf t.leaf)
          && t.leaf.drives.all (fun d => !d.rangeFlag)) = true
      ∧ shows skewed (moving .stopping id) (fun t => decide (¬twistFound t.conf t.leaf) && decide (skewFound t.conf t.leaf)
          && t.leaf.drives.all (fun d => !d.rangeFlag && decide (d.followingError.natAbs < t.conf.followingTrip))) = true
      ∧ shows skewed behind (fun t => decide (¬twistFound t.conf t.leaf) && decide (skewFound t.conf t.leaf)
          && t.leaf.drives.all (fun d => !d.rangeFlag && decide (t.conf.followingTrip ≤ d.followingError.natAbs))) = true
      ∧ shows at8000 behind (fun t => decide (¬twistFound t.conf t.leaf) && t.leaf.drives.all (fun d => !d.rangeFlag)
          && decide (t.conf.followingTrip ≤ (t.leaf.drives.get .wn).followingError.natAbs)) = true := by
  repeat' apply And.intro
  all_goals decide +kernel

theorem witness_GroupEvents_quiet :
    let settling (n k : Nat) := moving .settling (fun g => { g with settleCount := n, restCount := k })
    let seating (n k : Nat) := moving .seating (fun g =>
      { g with target := some 0, profile := some ⟨0, 0, false⟩, seatCount := n, restCount := k })
    let stopping (cause : Option TripCause) (lower : Bool) (v : Nat) := moving .stopping (fun g =>
      { g with cause := cause, pendingLower := lower, profile := some ⟨8000, v, true⟩ })
    let seats : PerDrive (BitVec 24) := ⟨1000000#24, 1000000#24, 2000000#24, 16700000#24⟩
    (shows at8000 (moving .raising id) (fun t => quiet t && t.leaf.group.profile == some ⟨8000, 0, true⟩) = true
        ∧ shows at8000 (moving .raising (fun g => { g with target := some 16000 })) quiet = true)
      ∧ (∀ x ∈ [settling 99 0, settling 98 749, settling 98 748],
        shows at8000 x (fun t => quiet t && t.leaf.drives.all (fun d => d.followingError.natAbs ≤ t.conf.settleWindow)) = true)
      ∧ (99 + 1 = bridge.conf.settleDwell * 5 ∧ 749 + 1 = bridge.conf.settleTimeout * 50)
      ∧ shows seats (moving .lowering (fun g => { g with target := some 0, profile := some ⟨0, 0, false⟩ }))
          (fun t => quiet t && t.leaf.group.profile == some ⟨0, 0, false⟩) = true
      ∧ (∀ x ∈ [seating 99 0, seating 98 749, seating 98 748], shows seats x (fun t => quiet t && bothSeated t.leaf) = true)
      ∧ (99 + 1 = bridge.conf.seatDwell * 5 ∧ ((seating 99 0).leaf.locks.get .centre).drivenSwitch = false)
      ∧ (∀ x ∈ [stopping (some .skew) false 1, stopping none false 1, stopping none true 1, stopping none true 2],
        shows at8000 x (fun t => quiet t && !bothSeated t.leaf) = true ∧ allLocks .withdrawn x.leaf = true
        ∧ x.leaf.group.emergencyStop = false ∧ x.leaf.group.spanOccupied = false ∧ x.closure.state = .roadClosed)
      ∧ (1 ≤ bridge.conf.accel ∧ bridge.conf.accel < 2) ∧ causeTable (stopping none true 1).leaf.group := by
  repeat' apply And.intro
  all_goals decide +kernel

theorem witness_ResetTripHaltsTheGroup :
    let s := { up .tripped with leaf := (up .tripped).leaf.updateGroup (fun g => { g with cause := some .skew }) }
    let intruded := { s with leaf := s.leaf.updateGroup (fun g =>
      { g with cause := some .spanIntrusion, spanOccupied := true }) }
    (readyFor .harbour s ∧ readyFor .control s) ∧ s.sup.mode = .attended ∧ s.leaf.group.state = .tripped
      ∧ ¬(s.leaf.group.emergencyStop = true
        ∨ (s.leaf.group.cause = some .spanIntrusion ∧ s.leaf.group.spanOccupied = true))
      ∧ (readyFor .control intruded ∧ intruded.sup.mode = .attended ∧ intruded.leaf.group.state = .tripped
        ∧ intruded.leaf.group.cause = some .spanIntrusion ∧ intruded.leaf.group.spanOccupied = true)
      ∧ (readyFor .control State.reset ∧ State.reset.sup.mode ≠ .attended)
      ∧ (readyFor .control bridge ∧ bridge.leaf.group.state ≠ .tripped) := by
  repeat' apply And.intro
  all_goals decide +kernel

/-! ### The road, the arms and the loop -/

/-- The device with zone 2's input active and its debounce running. -/
def entering (s : State) : State :=
  { s with zones := s.zones.set 1 ⟨false, true, some 499⟩ }

theorem witness_ZonesStopAndHoldTheSpan :
    ((entering (up .raising)).zones[1]).debounce = some 499
      ∧ ((entering (up .raising)).zones[1]).input ≠ ((entering (up .raising)).zones[1]).occupied
      ∧ (entering (up .raising)).leaf.group.state = .raising
      ∧ (entering (up .stopping)).leaf.group.state = .stopping
      ∧ (entering (roadIn .spanClearing bridge)).closure.state = .spanClearing
      ∧ (entering (roadIn .exitLowering bridge)).closure.state = .exitLowering
      ∧ (entering (roadIn .exitLowering bridge)).leaf.group.state = .stowed
      ∧ (entering (roadIn .exitLowering (up .halted))).closure.state = .exitLowering
      ∧ (entering (roadIn .exitLowering (up .halted))).leaf.group.state = .halted
      ∧ (({ bridge with zones := bridge.zones.set 1 ⟨true, false, some 499⟩ } : State).zones[1]).occupied = true
      ∧ (({ bridge with zones := bridge.zones.set 1 ⟨false, false, some 1⟩ } : State).zones[1]).debounce = some 1 := by
  decide +kernel

/-- The device in a state of the closing, with the closure record changed. -/
def closing (st : ClosureState) (f : Closure → Closure) : State :=
  { roadIn st bridge with closure := f (roadIn st bridge).closure }

theorem witness_WarningBeforeTheArms :
    let amber := closing .prewarnAmber (fun c => { c with phaseTimer := some 1 })
    let red := closing .prewarnRed (fun c => { c with phaseTimer := some 1 })
    let proven := closing .prewarnRed (fun c => { c with phaseTimer := some 1, redSeen := ⟨true, true, true, true⟩ })
    let noArms := { proven with arms := tabMap (fun a => { a with inService := false }) proven.arms }
    let late := closing .prewarnRed (fun c => { c with redTimeExpired := true })
    let held := closing .closureHeld (fun c => { c with heldIn := some .prewarnRed })
    (amber.closure.phaseTimer = some 1 ∧ amber.closure.state = .prewarnAmber)
      ∧ (red.closure.phaseTimer = some 1 ∧ red.closure.state = .prewarnRed ∧ westProven red.closure = false
        ∧ red.closure.override = false ∧ red.closure.redTimeExpired = false)
      ∧ (westProven proven.closure = true ∧ eastProven proven.closure = true ∧ hasEntryArms proven = true
        ∧ hasEntryArms noArms = false)
      ∧ (readyFor .control amber ∧ readyFor .control late ∧ late.sup.mode = .attended
        ∧ late.closure.redTimeExpired = true ∧ hasEntryArms late = true)
      ∧ (readyFor .control held ∧ held.closure.state = .closureHeld ∧ held.closure.heldIn = some .prewarnRed) := by
  repeat' apply And.intro
  all_goals decide +kernel

/-- Every arm in position DOWN. -/
def allDown (s : State) : State :=
  { s with arms := tabMap (fun a => { a with
      commanded := some .down, acknowledged := true, reportedSince := true, reported := .down }) s.arms }

theorem witness_SpanProvedClearLowersTheExitArms :
    let running := closing .spanClearing (fun c => { c with clearDwell := .running 1 })
    let complete := closing .spanClearing (fun c => { c with clearDwell := .complete })
    let free := { running with cfg := some { running.conf with confirmationRequired := false } }
    (running.closure.state = .spanClearing ∧ running.closure.clearDwell = .running 1
        ∧ running.conf.confirmationRequired = true ∧ running.closure.confirmation = false ∧ hasEntryArms running = true)
      ∧ (free.conf.confirmationRequired = false ∧ hasEntryArms (allDown free) = true ∧ hasExitArms (allDown free) = true
        ∧ armsAt .down entryArms (allDown free) = true)
      ∧ (readyFor .control complete ∧ complete.sup.mode = .attended ∧ complete.closure.clearDwell = .complete
        ∧ armsAt .down entryArms complete = false ∧ armsAt .down entryArms (allDown complete) = true
        ∧ hasExitArms complete = true)
      ∧ readyFor .control running ∧ running.closure.clearDwell ≠ .complete := by
  repeat' apply And.intro
  all_goals decide +kernel

theorem witness_ArmTimersRunOut :
    let s (st : ClosureState) := withArm .wExit1 (fun a => { a with retryDwell := some 1, travelTimer := some 14999 })
      (roadIn st bridge)
    ((s .exitLowering).arm .wExit1).retryDwell = some 1 ∧ ((s .exitLowering).arm .wExit1).travelTimer = some 14999
      ∧ ((s .exitLowering).arm .wExit1).latches.travelTimeout = false ∧ (s .exitLowering).closure.state.closing = true
      ∧ (s .roadClosed).closure.state = .roadClosed ∧ (s .closureHeld).closure.state = .closureHeld := by
  decide +kernel

/-- The device in a turn. -/
def inTurn (x : Turn) (s : State) : State := { s with loop := { s.loop with turn := some x } }

/-- The device at the STOP of a turn in which an arm has reported the state of a code. -/
def reporting (a : ArmId) (code : Byte) (s : State) : State := inTurn ⟨a, none, .stop, some code, some 0#8⟩ s

theorem reportArrives_reporting (a : ArmId) (code : Byte) (s : State) (h : s.loop.firstScan = false) :
    reportArrives a (reportOf code) (reporting a code s) := ⟨h, _, _, _, rfl, rfl, rfl, rfl, rfl, rfl⟩

theorem witness_ArmTimersRunOut_reports :
    let s (n : Nat) (dwell : Option Nat) := reporting .wEntry1 5#8 (withArm .wEntry1
      (fun a => { a with retryCount := n, retryDwell := dwell }) (allDown (roadIn .entryLowering bridge)))
    let local1 (st : ClosureState) := reporting .wEntry1 6#8 (roadIn st bridge)
    (∀ n dwell, reportArrives .wEntry1 .obstructed (s n dwell) ∧ ((s n dwell).arm .wEntry1).inService = true
      ∧ ((s n dwell).arm .wEntry1).commanded = some .down ∧ hasEntryArms (s n dwell) = true
      ∧ hasExitArms (s n dwell) = true ∧ (s n dwell).closure.state = .entryLowering ∧ isEntryArm .wEntry1 = true
      ∧ ((s n dwell).arm .wEntry1).retryDwell = dwell ∧ ((s n dwell).arm .wEntry1).retryCount = n)
      ∧ bridge.conf.retryLimit = 3
      ∧ (∀ st, reportArrives .wEntry1 .localControl (local1 st) ∧ ((local1 st).arm .wEntry1).inService = true
        ∧ (local1 st).closure.state = st) := by
  refine ⟨fun n d => ⟨reportArrives_reporting _ _ _ rfl, rfl, rfl, rfl, rfl, rfl, rfl, rfl, rfl⟩, by decide +kernel,
    fun st => ⟨reportArrives_reporting _ _ _ rfl, rfl, rfl⟩⟩

theorem witness_ArmServiceRetryAndReopen :
    let out := withArm .eEntry2 (fun a => { a with inService := false }) (roadIn .exitLowering bridge)
    let held := closing .closureHeld (fun c => { c with heldIn := some .prewarnAmber })
    let uncertain := roadIn .roadUncertain bridge
    (readyFor .control out ∧ out.sup.mode = .attended ∧ armOf 5#8 = some .eEntry2
        ∧ (out.arm .eEntry2).inService = false ∧ out.closure.state = .exitLowering)
      ∧ (readyFor .control bridge ∧ (bridge.arm .eEntry2).inService = true ∧ bridge.closure.state = .roadOpen)
      ∧ (readyFor .control held ∧ held.closure.state = .closureHeld ∧ noStandingFault held
        ∧ held.closure.heldIn = some .prewarnAmber)
      ∧ (readyFor .control uncertain ∧ uncertain.closure.state = .roadUncertain ∧ uncertain.leaf.group.state = .stowed
        ∧ uncertain.seq.opening = none ∧ noStandingFault uncertain ∧ (uncertain.arm .wEntry1).inService = true) := by
  repeat' apply And.intro
  all_goals first | decide +kernel | (intro x; cases x <;> decide +kernel)

/-- Every arm in position, but for one that is acknowledged and has still to report. -/
def awaited (p : ArmPosition) (r : ArmReport) (a : ArmId) (s : State) : State :=
  withArm a (fun x => { x with reported := .unknown }) { s with arms := tabMap (fun x => { x with
    commanded := some p, acknowledged := true, reportedSince := true, reported := r }) s.arms }

/-- What ARM SERVICE OUT leaves of the groups in each state of the closing and the reopening. -/
theorem witness_ArmServiceRetryAndReopen_groups :
    let gone (x : Arm) : Arm :=
      { x with inService := false, retryCount := 0, retryDwell := none, travelTimer := none, commanded := none }
    let w (a : ArmId) (s : State) : State := { s with arms := s.arms.set (armIndex a) (gone (s.arm a)) }
    let only (arms : List ArmId) (s : State) : State :=
      arms.foldl (fun s a => withArm a (fun x => { x with inService := false }) s) s
    let ready (st : ClosureState) : State := allDown (roadIn st bridge)
    let proved := { ready .spanClearing with closure := { (ready .spanClearing).closure with
      clearDwell := .complete, confirmation := true } }
    let rising (r : ArmReport) := awaited .up r .eExit2 (roadIn .roadReopening bridge)
    (∀ st, readyFor .control (ready st) ∧ (ready st).sup.mode = .attended ∧ (ready st).closure.state = st)
      ∧ (readyFor .control proved ∧ readyFor .control (rising .up))
      ∧ (armOf 2#8 = some .wExit1 ∧ armOf 0#8 = some .wEntry1 ∧ armOf 7#8 = some .eExit2)
      ∧ (hasEntryArms (w .wEntry1 (only [.wEntry2] bridge)) = false ∧ hasEntryArms (w .wEntry1 bridge) = true
        ∧ hasExitArms (w .wEntry1 (only [.wEntry2] bridge)) = true)
      ∧ (armsAt .down entryArms (w .wEntry1 bridge) = false
        ∧ armsAt .down entryArms (w .wEntry1 (ready .entryLowering)) = true)
      ∧ (proved.closure.clearDwell = .complete ∧ proved.closure.confirmation = true
        ∧ armsAt .down entryArms (w .wEntry1 proved) = true ∧ hasExitArms (w .wEntry1 proved) = true
        ∧ hasExitArms (w .wExit1 (only [.wExit2] proved)) = false ∧ (ready .spanClearing).closure.clearDwell ≠ .complete)
      ∧ (armsAt .down ringOrder (w .wExit1 (ready .exitLowering)) = true
        ∧ (ready .exitLowering).closure.closeReported = false ∧ armsAt .down ringOrder (w .wExit1 bridge) = false
        ∧ hasExitArms (w .wExit1 (only [.wExit2] (ready .exitLowering))) = false)
      ∧ (armsAt .up ringOrder (w .eExit2 (rising .up)) = true ∧ armsAt .up ringOrder (w .eExit2 (rising .down)) = false
        ∧ (rising .up).closure.state = .roadReopening) := by
  repeat' apply And.intro
  all_goals first | decide +kernel | exact fun _ => ⟨⟨rfl, rfl⟩, rfl, rfl⟩

/-- A closure held in a state, with every arm changed alike. -/
def heldWith (st : ClosureState) (f : Arm → Arm) : State :=
  { closing .closureHeld (fun c => { c with heldIn := some st }) with arms := tabMap f bridge.arms }

/-- A closure held in each state, with and without its arms, and with an arm LOST or LOCAL. -/
theorem witness_ArmServiceRetryAndReopen_held :
    let out (st : ClosureState) := heldWith st (fun a => { a with inService := false })
    let lost (st : ClosureState) := heldWith st (fun a => { a with lost := true })
    let inLocal (st : ClosureState) := heldWith st (fun a => { a with reported := .localControl })
    (∀ st ∈ [ClosureState.entryLowering, .spanClearing, .exitLowering, .roadReopening], st.holdable = true)
      ∧ (∀ st, readyFor .control (heldWith st id) ∧ (heldWith st id).sup.mode = .attended
        ∧ (heldWith st id).closure.heldIn = some st ∧ (heldWith st id).closure.state = .closureHeld
        ∧ (heldWith st id).leaf.group.state = .stowed)
      ∧ (∀ st, noStandingFault (heldWith st id) ∧ hasEntryArms (heldWith st id) = true
        ∧ hasExitArms (heldWith st id) = true ∧ ((heldWith st id).arm .wEntry1).inService = true)
      ∧ (∀ st, noStandingFault (out st) ∧ hasEntryArms (out st) = false ∧ hasExitArms (out st) = false
        ∧ ∀ x, ((out st).arm x).inService = false)
      ∧ (∀ st, ((lost st).arm .wEntry1).inService = true ∧ ((lost st).arm .wEntry1).lost = true
        ∧ ∀ x, ((lost st).arm x).reported ≠ .localControl)
      ∧ (∀ st, ((inLocal st).arm .wEntry1).inService = true ∧ ((inLocal st).arm .wEntry1).reported = .localControl
        ∧ ∀ x, ((inLocal st).arm x).lost = false) := by
  refine ⟨by decide, fun st => ⟨⟨rfl, rfl⟩, rfl, rfl, rfl, rfl⟩, fun st => ⟨?_, ?_, ?_, rfl⟩, fun st => ⟨?_, ?_, ?_, ?_⟩,
    fun st => ⟨rfl, rfl, ?_⟩, fun st => ⟨rfl, rfl, ?_⟩⟩
  all_goals first
    | rfl
    | (intro x; cases x <;> cases st <;> decide +kernel)

theorem witness_TurnStepByStep :
    (bridge.loop.held = false ∧ bridge.loop.turn = none ∧ bridge.loop.next = some .wEntry1)
      ∧ (∀ x, (inTurn x bridge).loop.turn = some x)
      ∧ (((withArm .wEntry1 (fun a => { a with commanded := some .down }) bridge).arm .wEntry1).commanded = some .down
        ∧ commandFor .down = .lower) ∧ bridge.closure.state ≠ .closureHeld := by
  refine ⟨by decide +kernel, fun x => rfl, by decide +kernel, by decide +kernel⟩

theorem witness_TurnEndsAndScansFollow :
    let missed (n : Nat) (lost : Bool) := updateStation .eExit2 (fun x => { x with misses := n, lost := lost })
      (inTurn ⟨.eExit2, none, .stop, none, none⟩ (roadIn .entryLowering bridge))
    (∀ b c, (inTurn ⟨.eExit2, none, .stop, some b, some c⟩ bridge).loop.turn =
        some ⟨.eExit2, none, .stop, some b, some c⟩)
      ∧ bridge.loop.firstScan = false
      ∧ ((missed 3 true).station .eExit2).lost = true ∧ ((missed 1 false).station .eExit2).misses < 2
      ∧ ((missed 2 false).station .eExit2).lost = false ∧ 2 ≤ ((missed 2 false).station .eExit2).misses
      ∧ ((missed 2 false).arm .eExit2).inService = true ∧ (missed 2 false).closure.state.closing = true
      ∧ (roadIn .roadReopening (missed 2 false)).closure.state = .roadReopening
      ∧ bridge.loop.scanTimer = some 50 := by
  refine ⟨fun b c => rfl, ?_⟩
  decide +kernel

theorem witness_TurnEndsAndScansFollow_road :
    let s (st : ClosureState) (a : ArmId) := reporting a 2#8 (awaited .down .down a (roadIn st bridge))
    let waiting := opened .closingRoad [] (s .exitLowering .wExit1)
    let recovery := { waiting with seq := { waiting.seq with opening := some recoveryOpening } }
    let occupied := { waiting with leaf := waiting.leaf.updateGroup (fun g => { g with spanOccupied := true }) }
    let rising := reporting .eExit2 1#8 (awaited .up .up .eExit2 (roadIn .roadReopening (opened .reopeningRoad [] bridge)))
    (∀ st a, reportArrives a .down (s st a) ∧ (s st a).closure.state = st)
      ∧ (awaits .down .eEntry2 (s .entryLowering .eEntry2) ∧ isEntryArm .eEntry2 = true
        ∧ hasEntryArms (s .entryLowering .eEntry2) = true
        ∧ othersAt .down .eEntry2 entryArms (s .entryLowering .eEntry2))
      ∧ (awaits .down .wExit1 (s .exitLowering .wExit1) ∧ hasEntryArms (s .exitLowering .wExit1) = true
        ∧ hasExitArms (s .exitLowering .wExit1) = true ∧ (s .exitLowering .wExit1).closure.closeReported = false
        ∧ othersAt .down .wExit1 ringOrder (s .exitLowering .wExit1) ∧ (s .exitLowering .wExit1).seq.opening = none)
      ∧ (liftReady waiting ∧ waiting.sup.mode = .attended
        ∧ waiting.seq.opening = some ⟨.closingRoad, false, [], 2000, some .seaward, none, false⟩
        ∧ recovery.seq.opening = some recoveryOpening ∧ occupied.leaf.group.spanOccupied = true)
      ∧ ((s .roadClosed .wExit1).arm .wExit1).inService = true
      ∧ (reportArrives .eExit2 .up rising ∧ awaits .up .eExit2 rising ∧ rising.closure.state = .roadReopening
        ∧ othersAt .up .eExit2 ringOrder rising) := by
  have h := leafTable_leaves .stowed true (by decide)
  refine ⟨fun st a => ⟨reportArrives_reporting _ _ _ (by cases a <;> rfl), rfl⟩, ?_, ?_, ?_, ?_,
    reportArrives_reporting _ _ _ rfl, ?_⟩
  all_goals
    repeat' apply And.intro
    all_goals first
      | decide +kernel
      | exact h.1
      | exact h.2.1
      | exact h.2.2
      | (intro x; cases x <;> decide +kernel)

/-! ### The lamps -/

/-- The lamps with every channel's demand set, its output on or off, and the flash timer as given. -/
def lit (d : ChannelDemand) (output : Bool) (f : Flash) : State :=
  { bridge with lamp := { bridge.lamp with
      flash := f
      channels := tabMap (fun c => { c with demand := d, output := output, diagnosing := output, inEffect := true }) bridge.lamp.channels } }

theorem witness_PulsesAreDrivenAndEvaluated :
    bridge.lamp.pulseClock = some 10
      ∧ ((lit .steady true .stopped).lamp.channels[(0 : Fin 32)]).output = true
      ∧ ((lit .steady true .stopped).lamp.channels[(0 : Fin 32)]).demand = .steady
      ∧ ((lit .phaseA true .stopped).lamp.channels[(0 : Fin 32)]).demand.phased = true
      ∧ (lit .phaseA false (.running false 50)).lamp.flash = .running false 50
      ∧ (∃ u, exec .flashHalfEnd (lit .phaseA false (.running false 50)) = .next u)
      ∧ (lit .phaseA false (.running true 49)).lamp.flash = .running true 49 ∧ 49 < 50
      ∧ (lit .phaseA false (.running false 50)).display.road =
          roadLightOf (lit .phaseA false (.running false 50)).closure.state := by
  refine ⟨by decide +kernel, by decide +kernel, by decide +kernel, by decide +kernel, by decide +kernel, ⟨_, rfl⟩, ?_⟩
  decide +kernel

/-- A half of 50 periods in PREWARN_RED, with the warning proven and the red time running or over, with and without entry
arms. -/
theorem witness_PulsesAreDrivenAndEvaluated_red :
    let s (expired : Bool) : State := { roadIn .prewarnRed (lit .phaseA false (.running false 50)) with
      closure := { (roadIn .prewarnRed bridge).closure with
        redTimeExpired := expired, redSeen := ⟨true, true, true, true⟩ } }
    let noArms := { s true with arms := tabMap (fun a => { a with inService := false }) (s true).arms }
    (∀ b, (s b).closure.redTimeExpired = b ∧ (s b).closure.state = .prewarnRed
        ∧ (s b).lamp.flash = .running false 50 ∧ (s b).display.road = roadLightOf (s b).closure.state)
      ∧ (westProven (s true).closure = true ∧ eastProven (s true).closure = true)
      ∧ hasEntryArms (s true) = true ∧ hasEntryArms noArms = false := by
  decide +kernel

theorem witness_LampFaultsLatchAndClear :
    let s := lit .steady true .stopped
    let dim := { s with lamp := { s.lamp with undervoltage := true } }
    (s.lamp.channels[(31 : Fin 32)]).diagnosing = true ∧ hasFault (s.lamp.channels[(31 : Fin 32)]) .partialString = false
      ∧ (19 < s.conf.openThreshold ∧ s.conf.lowSupplyThreshold ≤ 210) ∧ 29 < s.conf.shortThreshold
      ∧ (s.conf.shortThreshold ≤ 30 ∧ 30 < s.conf.partialOne) ∧ s.lamp.pulseClock = some 10
      ∧ (209 < s.conf.lowSupplyThreshold ∧ s.lamp.lowSupply = false)
      ∧ (179 < s.conf.undervoltageThreshold ∧ s.lamp.undervoltage = false)
      ∧ (dim.conf.undervoltageThreshold ≤ 180 ∧ dim.lamp.undervoltage = true) ∧ readyFor .control s
      ∧ s.sup.mode = .attended := by
  repeat' apply And.intro
  all_goals decide +kernel

theorem witness_SetDimLevelTakesTheNextPeriod :
    readyFor .control bridge ∧ bridge.sup.mode = .attended ∧ (1#8 : Byte).toNat ≤ 1 ∧ 10 ≤ (10#8 : Byte).toNat
      ∧ (100#8 : Byte).toNat ≤ 100 ∧ 1 < (2#8 : Byte).toNat ∧ (9#8 : Byte).toNat < 10 ∧ 100 < (101#8 : Byte).toNat
      ∧ bridge.lamp.pulseClock ≠ none := by
  repeat' apply And.intro
  all_goals decide +kernel

/-! ### The supervisor, the store and the start-up -/

theorem witness_UnattendedAndResumed :
    let s := inMode .unattended bridge
    let waiting := opened .closingRoad [] (inMode .unattended (roadIn .roadClosed bridge))
    let pending := opened .reopeningRoad [] { s with closure := { s.closure with state := .roadClosed, reopenPending := true } }
    let stopped := { waiting with leaf := waiting.leaf.updateGroup (fun g => { g with emergencyStop := true }) }
    let lowered := opened .lowering [] (inMode .unattended (roadIn .roadClosed bridge))
    (bridge.sup.mode = .attended ∧ bridge.sup.watchdog = some 10000)
      ∧ (readyFor .control s ∧ s.sup.mode = .unattended ∧ s.closure.reopenPending = false ∧ s.seq.opening = none)
      ∧ (readyFor .control waiting ∧ waiting.sup.mode = .unattended ∧ waiting.closure.reopenPending = false
        ∧ waiting.seq.opening = some ⟨.closingRoad, false, [], 2000, some .seaward, none, false⟩
        ∧ waiting.closure.state = .roadClosed ∧ liftReady waiting ∧ stopped.leaf.group.emergencyStop = true)
      ∧ (readyFor .control pending ∧ pending.sup.mode = .unattended ∧ pending.closure.reopenPending = true
        ∧ pending.seq.opening = some ⟨.reopeningRoad, false, [], 2000, some .seaward, none, false⟩
        ∧ pending.leaf.group.state = .stowed ∧ noStandingFault pending ∧ (pending.arm .wEntry1).inService = true)
      ∧ (readyFor .control lowered ∧ lowered.sup.mode = .unattended ∧ lowered.closure.reopenPending = false
        ∧ lowered.closure.state = .roadClosed ∧ lowered.leaf.group.state = .stowed ∧ noStandingFault lowered
        ∧ lowered.seq.opening = some ⟨.lowering, false, [], 2000, some .seaward, none, false⟩)
      ∧ s.sup.mode ≠ .attended := by
  have h := leafTable_leaves .stowed true (by decide)
  repeat' apply And.intro
  all_goals
    first
    | decide +kernel
    | exact h.1
    | exact h.2.1
    | exact h.2.2
    | (intro x; cases x <;> decide +kernel)

theorem witness_RevertToSetupKeepsTheImage :
    readyFor .control bridge ∧ bridge.sup.mode = .attended ∧ bridge.seq.opening = none
      ∧ bridge.closure.state = .roadOpen ∧ bridge.leaf.group.state = .stowed
      ∧ readyFor .control (up .halted) ∧ (up .halted).sup.mode = .attended ∧ (up .halted).leaf.group.state ≠ .stowed := by
  repeat' apply And.intro
  all_goals decide +kernel

theorem witness_WriteItemSetsOneItem :
    readyFor .harbour State.reset ∧ readyFor .control State.reset ∧ State.reset.sup.mode = .setup
      ∧ readyFor .control bridge ∧ bridge.sup.mode ≠ .setup ∧ word16 0 0 = 0 ∧ 163 < word16 0 164
      ∧ (itemAdmits (word16 0 1) (signed32 0 255 255 255) = true ∧ itemAdmits (word16 0 1) (signed32 1 0 0 0) = false)
      ∧ (word16 0 163 ≤ 163 ∧ itemAdmits (word16 0 163) (signed32 0 0 0 1) = true) := by
  repeat' apply And.intro
  all_goals decide +kernel

/-- A device in SETUP with an image. -/
def imaged (x : Vector (Option Int) 163) : State := { State.reset with store := ⟨.editing, x⟩ }

/-- The complete image's check word. -/
def imageWord : CheckWord := imageCheck image

theorem witness_CommitNamesTheFailingItem :
    let absent := imaged (image.set 91 none)
    readyFor .harbour bridge ∧ readyFor .control bridge ∧ bridge.sup.mode ≠ .setup
      ∧ readyFor .control absent ∧ absent.sup.mode = .setup ∧ absent.store.image[(91 : Fin 163)] = none
      ∧ (∀ j : Fin 163, j < 91 → absent.store.image[j] ≠ none)
      ∧ readyFor .control (imaged image) ∧ (∀ i : Fin 163, (imaged image).store.image[i] ≠ none)
      ∧ imageCheck (imaged image).store.image ≠ (0#8 : Byte) ++ (0#8 : Byte)
      ∧ imageWord = (imageWord.extractLsb' 8 8 : Byte) ++ (imageWord.extractLsb' 0 8 : Byte) ∧ commitFailure image imageWord = none
      ∧ (let bad := image.set 23 (some 320)
        (∀ i : Fin 163, bad[i] ≠ none) ∧ itemOf bad 23 - itemOf bad 24 < 16 ∧ imageCheck bad = ((imageCheck bad).extractLsb' 8 8 : Byte) ++ ((imageCheck bad).extractLsb' 0 8 : Byte)
          ∧ commitFailure bad (imageCheck bad) = some 24) := by
  repeat' apply And.intro
  all_goals decide +kernel

theorem witness_CommitStartsTheEvaluation :
    readyFor .control (imaged image) ∧ (imaged image).sup.mode = .setup
      ∧ (let h : Byte := imageWord.extractLsb' 8 8
        let l : Byte := imageWord.extractLsb' 0 8
        commitFailure (imaged image).store.image (h ++ l) = none) := by
  repeat' apply And.intro
  all_goals decide +kernel

theorem witness_FirstScanEndsTheStartUp :
    let start := { bridge with leaf := leaves .inactive true, closure := Closure.reset, store := ⟨.evaluating, image⟩ }
    let s := { inMode .setup start with loop :=
      ⟨false, none, some ⟨.eExit2, none, .stop, some 1#8, some 90#8⟩, some 50, true⟩ }
    s.loop.turn = some ⟨.eExit2, none, .stop, some 1#8, some 90#8⟩ ∧ s.loop.firstScan = true
      ∧ s.seq.opening = none ∧ s.leaf.group.state = .inactive ∧ s.closure.state = .inactive
      ∧ s.links.control.sending = none := by decide +kernel

end Sys2Proof.Tests
end

/-!
The refusals of ENTER PASSAGE (R16): when its body's fields are BAD_FIELD, when a clearance is unreachable (R9, R69), when a
vessel is held twice (R3), and the one refusal that `takeEnter` gives for each.
-/

namespace Sys2Proof.Machine

open Sys2Proof

/-! ## The fields of the body -/

/-- The code octets 0 and 1 are the only ones with a value up to 1. -/
theorem byte_undefined_iff (b : Byte) : ¬b = 0 ∧ ¬b = 1 ↔ 1 < b.toNat := by
  bv_omega

theorem directionOf_eq_none_iff (b : Byte) : directionOf b = none ↔ 1 < b.toNat := by
  rw [← byte_undefined_iff, directionOf]
  split_ifs <;> simp_all

theorem classOf_eq_none_iff (b : Byte) : classOf b = none ↔ 1 < b.toNat := by
  rw [← byte_undefined_iff, classOf]
  split_ifs <;> simp_all

theorem entryLifetime_eq_none_iff (present : Byte) (minutes : Nat) :
    entryLifetime present minutes = none ↔
      1 < present.toNat ∨ (present = 1 ∧ (minutes = 0 ∨ 720 < minutes)) := by
  rw [← byte_undefined_iff, entryLifetime]
  split_ifs with h0 h1 hm
  · simp [h0]
  · simp [h1]; omega
  · simp [h1]; omega
  · exact iff_of_true rfl (.inl ⟨h0, h1⟩)

/-- Seven octets behind a tag of twelve are BAD_FIELD exactly when one of the fields is (R16). -/
theorem entryOf_eq_none_iff {tagOctets : List Byte} (dir cls ch cl present lh ll : Byte) (hlen : tagOctets.length = 12) :
    entryOf (tagOctets ++ [dir, cls, ch, cl, present, lh, ll]) = none ↔
      normaliseTag tagOctets = none ∨ directionOf dir = none ∨ classOf cls = none ∨ word16 ch cl < 100
        ∨ entryLifetime present (word16 lh ll) = none := by
  simp only [entryOf, List.drop_left' hlen, List.take_left' hlen]
  cases normaliseTag tagOctets <;> cases directionOf dir <;> cases classOf cls <;>
    cases entryLifetime present (word16 lh ll) <;> simp

/-- A body that is taken has the twelve octets of a tag and seven more (R189). -/
theorem length_of_entryOf_eq_some {body : List Byte} {e : Entry} (h : entryOf body = some e) : body.length = 19 := by
  unfold entryOf at h
  split at h
  next hdrop =>
    have hlen := congrArg List.length hdrop
    simp only [List.length_drop, List.length_cons, List.length_nil] at hlen
    omega
  next => simp at h

/-! ## Reachable clearances -/

theorem segmentFrom_eq_none_iff (t : Vector Nat 17) (h k n : Nat) :
    segmentFrom t h k n = none ↔ ∀ j, k ≤ j → j < k + n → tablePoint t j < h → tablePoint t (j + 1) < h := by
  induction n generalizing k with
  | zero => simp [segmentFrom]; omega
  | succ n ih =>
    rw [segmentFrom]
    split_ifs with hseg
    · simp only [false_iff, not_forall]
      exact ⟨k, le_rfl, by omega, hseg.1, by omega⟩
    · rw [ih]
      constructor
      · intro hall j hkj hjn hj
        obtain rfl | hlt := hkj.eq_or_lt
        · omega
        · exact hall j hlt (by omega) hj
      · exact fun hall j hkj hjn => hall j (by omega) (by omega)

/-- No point of a rising table lies above the last (R67). -/
theorem tablePoint_le_last {t : Vector Nat 17} (ht : risingTable t) {k : Nat} (hk : k ≤ 16) :
    tablePoint t k ≤ tablePoint t 16 := by
  induction hk using Nat.decreasingInduction with
  | self => exact le_rfl
  | of_succ k hk ih => exact (ht k hk).trans ih

/-- In a rising table the clearances without a required angle are those above C16 (R9, R69). -/
theorem requiredAngle_eq_none_iff {t : Vector Nat 17} (ht : risingTable t) (h : Nat) :
    requiredAngle t h = none ↔ tablePoint t 16 < h := by
  have hsegments : requiredAngle t h = none ↔ tablePoint t 0 < h ∧ segmentFrom t h 0 16 = none := by
    unfold requiredAngle
    split_ifs with hfirst
    · simp [hfirst]
    · cases segmentFrom t h 0 16 <;> simp [not_le.mp hfirst]
  rw [hsegments, segmentFrom_eq_none_iff]
  constructor
  · rintro ⟨hfirst, hnext⟩
    have hbelow : ∀ k, k ≤ 16 → tablePoint t k < h := by
      intro k
      induction k with
      | zero => exact fun _ => hfirst
      | succ k ih => exact fun hk => hnext k (by omega) (by omega) (ih (by omega))
    exact hbelow 16 le_rfl
  · intro hlast
    exact ⟨(tablePoint_le_last ht (by omega)).trans_lt hlast,
      fun j _ hj _ => (tablePoint_le_last ht (by omega)).trans_lt hlast⟩

/-- The clearance is at most C16 and its required angle within the open limit: it is not UNREACHABLE (R9). -/
theorem passageAngle_isSome_iff {c : Configured} (ht : risingTable c.clearances) (h : Nat) :
    (passageAngle c h).isSome ↔
      h ≤ tablePoint c.clearances 16 ∧ ∀ a, requiredAngle c.clearances h = some a → a ≤ c.openLimit := by
  rw [← not_lt, ← requiredAngle_eq_none_iff ht, passageAngle]
  cases requiredAngle c.clearances h <;> simp [Option.isSome_filter]

/-! ## What ENTER PASSAGE answers -/

theorem heldTwice_iff (e : Entry) (r : Register) :
    heldTwice e r = true ↔ ∃ p ∈ r.records, p.state.terminal = false ∧ p.tag = e.tag ∧ p.direction = e.direction := by
  simp [heldTwice, and_assoc]

section

variable {l : Link} {body : List Byte} {e : Entry} {s : State}

theorem takeEnter_wrongMode (hm : s.sup.mode = .setup) : takeEnter l body s = refuse .wrongMode s := by
  simp [takeEnter, inSetup, hm]

theorem takeEnter_badField (hm : s.sup.mode ≠ .setup) (he : entryOf body = none) :
    takeEnter l body s = refuse .badField s := by
  simp [takeEnter, inSetup, hm, he]

theorem takeEnter_unreachable (hm : s.sup.mode ≠ .setup) (he : entryOf body = some e)
    (ha : passageAngle s.conf e.clearance = none) : takeEnter l body s = refuse .unreachable s := by
  simp [takeEnter, inSetup, hm, he, ha]

theorem takeEnter_duplicateVessel (hm : s.sup.mode ≠ .setup) (he : entryOf body = some e)
    (ha : (passageAngle s.conf e.clearance).isSome) (hd : heldTwice e s.reg = true) :
    takeEnter l body s = refuse .duplicateVessel s := by
  obtain ⟨angle, hangle⟩ := Option.isSome_iff_exists.mp ha
  simp [takeEnter, inSetup, hm, he, hangle, hd]

theorem takeEnter_registerFull (hm : s.sup.mode ≠ .setup) (he : entryOf body = some e)
    (ha : (passageAngle s.conf e.clearance).isSome) (hd : heldTwice e s.reg = false)
    (hfull : 32 ≤ s.reg.records.length) : takeEnter l body s = refuse .registerFull s := by
  obtain ⟨angle, hangle⟩ := Option.isSome_iff_exists.mp ha
  simp [takeEnter, inSetup, hm, he, hangle, hd, Config.registerSize, hfull]

end

/-! ## The state in which an owning block takes a request -/

@[simp] theorem takenIn_sup_mode (l : Link) (kind : Byte) (s : State) : (takenIn l kind s).sup.mode = s.sup.mode := by
  simp [takenIn]

@[simp] theorem takenIn_reg (l : Link) (kind : Byte) (s : State) : (takenIn l kind s).reg = s.reg := by
  simp [takenIn]

@[simp] theorem takenIn_conf (l : Link) (kind : Byte) (s : State) : (takenIn l kind s).conf = s.conf := by
  simp [takenIn, State.conf]

/-- A refusal by the register is the whole of what ENTER PASSAGE at a ready link does (R189). -/
theorem exec_enterPassage_refused {l : Link} {body : List Byte} {s : State} {o : OutcomeCode} (hr : readyFor l s)
    (ht : takeEnter l body (takenIn l 0x10#8 s) = refuse o (takenIn l 0x10#8 s)) :
    ∃ t, exec (.enterPassage l body) s = .next t ∧ onlyAnswered l 0x10#8 o [] [] s t :=
  ⟨_, rfl, portRequest_unchanged hr rfl ht⟩

/-- Settles O15, from what `takeEnter` answers in the state that `takenIn` gives it. -/
theorem enterRefusals : Obligations.EnterRefusals := by
  refine ⟨?badField, ?length, ?refused⟩
  case badField =>
    intro tagOctets dir cls ch cl present lh ll hlen
    rw [entryOf_eq_none_iff _ _ _ _ _ _ _ hlen, directionOf_eq_none_iff, classOf_eq_none_iff, entryLifetime_eq_none_iff]
  case length =>
    intro body hlen
    exact Option.eq_none_iff_forall_ne_some.mpr fun e he => hlen (length_of_entryOf_eq_some he)
  case refused =>
    intro l body s hr
    refine ⟨fun hm => ?_, fun hm he => ?_, fun e hm he ht => ?_⟩
    · exact exec_enterPassage_refused hr (takeEnter_wrongMode (by simpa using hm))
    · exact exec_enterPassage_refused hr (takeEnter_badField (by simpa using hm) he)
    · simp only [← passageAngle_isSome_iff ht, ← heldTwice_iff]
      refine ⟨fun ha => ?_, fun ha hd => ?_, fun ha hd hfull => ?_⟩
      · exact exec_enterPassage_refused hr (takeEnter_unreachable (by simpa using hm) he (by simpa using ha))
      · exact exec_enterPassage_refused hr
          (takeEnter_duplicateVessel (by simpa using hm) he (by simpa using ha) (by simpa using hd))
      · exact exec_enterPassage_refused hr
          (takeEnter_registerFull (by simpa using hm) he (by simpa using ha) (by simpa using hd) (by simpa using hfull))

end Sys2Proof.Machine

/-!
The refusals of BEGIN OPENING (R33): the one refusal that `takeBegin` gives for each, once its body has passed the checks of
R32.
-/

namespace Sys2Proof.Machine

open Sys2Proof

/-! ## The blocks BEGIN OPENING reads, in the state in which it is taken -/

@[simp] theorem takenIn_seq (l : Link) (kind : Byte) (s : State) : (takenIn l kind s).seq = s.seq := by
  simp [takenIn]

@[simp] theorem takenIn_leaf (l : Link) (kind : Byte) (s : State) : (takenIn l kind s).leaf = s.leaf := by
  simp [takenIn]

@[simp] theorem takenIn_closure (l : Link) (kind : Byte) (s : State) : (takenIn l kind s).closure = s.closure := by
  simp [takenIn]

@[simp] theorem takenIn_zones (l : Link) (kind : Byte) (s : State) : (takenIn l kind s).zones = s.zones := by
  simp [takenIn]

theorem anyOccupied_iff (s : State) : anyOccupied s = true ↔ ∃ z : ZoneId, (s.zones[z]).occupied = true := by
  simp only [anyOccupied, List.any_eq_true, Vector.mem_toList_iff, Vector.mem_iff_getElem]
  constructor
  · rintro ⟨_, ⟨i, hi, rfl⟩, hz⟩
    exact ⟨⟨i, hi⟩, hz⟩
  · rintro ⟨z, hz⟩
    exact ⟨_, ⟨z, z.isLt, rfl⟩, hz⟩

/-- What stands against an opening before its records are looked for: the group not STOWED, the road not ROAD_OPEN, or a
zone OCCUPIED (R33). -/
def beginInterlocked (s : State) : Prop :=
  s.leaf.group.state ≠ .stowed ∨ s.closure.state ≠ .roadOpen ∨ ∃ z : ZoneId, (s.zones[z]).occupied = true

theorem beginInterlocked_iff (s : State) :
    beginInterlocked s ↔
      (s.leaf.group.state != .stowed || s.closure.state != .roadOpen || anyOccupied s) = true := by
  simp [beginInterlocked, anyOccupied_iff, or_assoc]

@[simp] theorem beginInterlocked_takenIn (l : Link) (kind : Byte) (s : State) :
    beginInterlocked (takenIn l kind s) ↔ beginInterlocked s := by
  simp [beginInterlocked]

/-! ## What BEGIN OPENING answers -/

section

variable {l : Link} {n : Byte} {s : State}

/-- A count of 1 to 8 is not BAD_FIELD (R32). -/
theorem beginCount_fits (h1 : 1 ≤ n.toNat) (h8 : n.toNat ≤ 8) : (n = 0 || 8 < n.toNat) = false := by
  simp only [Bool.or_eq_false_iff, decide_eq_false_iff_not]
  bv_omega

theorem takeBegin_openingActive (hm : s.sup.mode = .attended) (h1 : 1 ≤ n.toNat) (h8 : n.toNat ≤ 8)
    (ho : s.seq.opening ≠ none) : takeBegin l [n] s = refuse .openingActive s := by
  simp only [takeBegin, beginCount_fits h1 h8]
  simp [attended, hm, Option.isSome_iff_ne_none.mpr ho]

theorem takeBegin_interlock (hm : s.sup.mode = .attended) (h1 : 1 ≤ n.toNat) (h8 : n.toNat ≤ 8)
    (ho : s.seq.opening = none) (hi : beginInterlocked s) : takeBegin l [n] s = refuse .interlock s := by
  rw [beginInterlocked_iff] at hi
  simp only [takeBegin, beginCount_fits h1 h8, hi]
  simp [attended, hm, ho]

theorem takeBegin_noSuchPassage (hm : s.sup.mode = .attended) (h1 : 1 ≤ n.toNat) (h8 : n.toNat ≤ 8)
    (ho : s.seq.opening = none) (hi : ¬beginInterlocked s) (hw : ∀ p ∈ s.reg.records, p.state ≠ .waiting) :
    takeBegin l [n] s = refuse .noSuchPassage s := by
  have hall : s.reg.records.all (fun p => p.state != .waiting) = true := by simpa using hw
  rw [beginInterlocked_iff] at hi
  simp only [takeBegin, beginCount_fits h1 h8, hi, hall]
  simp [attended, hm, ho]

end

/-- A refusal of `takeBegin` is the whole of what BEGIN OPENING does at a ready control link (R189). -/
theorem exec_beginOpening_refused {body : List Byte} {s : State} {o : OutcomeCode} (hr : readyFor .control s)
    (ht : takeBegin .control body (takenIn .control 0x20#8 s) = refuse o (takenIn .control 0x20#8 s)) :
    ∃ t, exec (.beginOpening .control body) s = .next t ∧ onlyAnswered .control 0x20#8 o [] [] s t :=
  ⟨_, rfl, portRequest_unchanged hr rfl ht⟩

/-- Settles O27, from what `takeBegin` answers in the state that `takenIn` gives it. A road in ROAD_UNCERTAIN is not
ROAD_OPEN, so its clause is the interlock's. -/
theorem beginRefusals : Obligations.BeginRefusals := by
  intro n s hr hm h1 h8
  have hinterlock (ho : s.seq.opening = none) (hi : beginInterlocked s) :=
    exec_beginOpening_refused hr (takeBegin_interlock (by simpa using hm) h1 h8 (by simpa using ho) (by simpa using hi))
  refine ⟨fun ho => ?openingActive, hinterlock, fun ho huncertain => ?roadUncertain, fun ho hi hw => ?noSuchPassage⟩
  case openingActive =>
    exact exec_beginOpening_refused hr (takeBegin_openingActive (by simpa using hm) h1 h8 (by simpa using ho))
  case roadUncertain => exact hinterlock ho (.inr (.inl (by simp [huncertain])))
  case noSuchPassage =>
    exact exec_beginOpening_refused hr (takeBegin_noSuchPassage (by simpa using hm) h1 h8 (by simpa using ho)
      (by rwa [beginInterlocked_takenIn]) (by simpa using hw))

end Sys2Proof.Machine

/-!
The available clearance and the required angle of a clearance (R68, R69): the clearance on each segment of the table and its
growth with the angle, and the required angle as the least one that covers the clearance.
-/

namespace Sys2Proof.Machine

open Sys2Proof

/-! ## The available clearance of a rising table (R67, R68) -/

section

variable {t : Vector Nat 17}

theorem tablePoint_mono (ht : risingTable t) {j k : Nat} (hjk : j ≤ k) (hk : k ≤ 16) :
    tablePoint t j ≤ tablePoint t k := by
  induction k, hjk using Nat.le_induction with
  | base => exact le_rfl
  | succ k _ ih => exact (ih (by omega)).trans (ht k (by omega))

/-- An angle below 8000 is an angle of one of the sixteen segments, and 8000 is the end of the last. -/
theorem exists_segment_angle {a : Nat} (ha : a < 8000) : ∃ k w, k < 16 ∧ w < 500 ∧ a = 500 * k + w :=
  ⟨a / 500, a % 500, by omega, by omega, by omega⟩

/-- The interpolation of R68 holds on a whole segment, its end too. -/
theorem clearanceAt_segment (ht : risingTable t) {k w : Nat} (hk : k < 16) (hw : w ≤ 500) :
    clearanceAt t (500 * k + w) =
      tablePoint t k + (tablePoint t (k + 1) - tablePoint t k) * w / 500 := by
  obtain hlt | rfl := hw.lt_or_eq
  · have hdiv : (500 * k + w) / 500 = k := by omega
    simp only [clearanceAt, hdiv, ge_iff_le]
    rw [if_neg (by omega), Nat.add_sub_cancel_left]
  · have hnext : clearanceAt t (500 * (k + 1)) = tablePoint t (k + 1) := by
      obtain hlast | rfl : k + 1 < 16 ∨ k = 15 := by omega
      · have hdiv : 500 * (k + 1) / 500 = k + 1 := by omega
        simp only [clearanceAt, hdiv, ge_iff_le]
        rw [if_neg (by omega)]
        simp
      · rfl
    rw [Nat.mul_div_cancel _ (by omega), Nat.add_sub_cancel' (ht k hk)]
    exact hnext

/-- The available clearance at the start of a segment is the table's point. -/
theorem clearanceAt_segment_start (ht : risingTable t) {k : Nat} (hk : k < 16) :
    clearanceAt t (500 * k) = tablePoint t k := by
  simpa using clearanceAt_segment ht hk (Nat.zero_le 500)

/-- The available clearance never falls as the leaves rise. -/
theorem clearanceAt_mono (ht : risingTable t) : Monotone (clearanceAt t) := by
  refine monotone_nat_of_le_succ fun a => ?_
  obtain ha | ha := lt_or_ge a 8000
  · obtain ⟨k, w, hk, hw, rfl⟩ := exists_segment_angle ha
    rw [Nat.add_assoc, clearanceAt_segment ht hk hw.le, clearanceAt_segment ht hk hw]
    gcongr
    omega
  · simp [clearanceAt, ha, Nat.le_succ_of_le ha]

/-- The angles of a segment that cover a clearance, with the division of R68 cleared. -/
theorem le_clearanceAt_iff (ht : risingTable t) (h : Nat) {k w : Nat} (hk : k < 16) (hw : w ≤ 500) :
    h ≤ clearanceAt t (500 * k + w) ↔
      (h - tablePoint t k) * 500 ≤ w * (tablePoint t (k + 1) - tablePoint t k) := by
  rw [clearanceAt_segment ht hk hw, ← Nat.sub_le_iff_le_add', Nat.le_div_iff_mul_le (by omega), Nat.mul_comm w]

end

/-! ## The required angle (R69) -/

/-- The clearance lies above the start of segment `k` and not above its end. -/
def inSegment (t : Vector Nat 17) (h k : Nat) : Prop := k < 16 ∧ tablePoint t k < h ∧ h ≤ tablePoint t (k + 1)

/-- The angle within segment `k` that R69 gives: the rise to the clearance over the segment's rise, rounded up. -/
def angleWithin (t : Vector Nat 17) (h k : Nat) : Nat :=
  ((h - tablePoint t k) * 500) ⌈/⌉ (tablePoint t (k + 1) - tablePoint t k)

section

variable {t : Vector Nat 17} {h k : Nat}

theorem requiredAngle_of_le_first (hfirst : h ≤ tablePoint t 0) : requiredAngle t h = some 0 := by
  simp [requiredAngle, hfirst]

theorem segmentFrom_eq_some {j n : Nat} (hs : segmentFrom t h j n = some k) :
    k < j + n ∧ tablePoint t k < h ∧ h ≤ tablePoint t (k + 1) := by
  induction n generalizing j with
  | zero => simp [segmentFrom] at hs
  | succ n ih =>
    rw [segmentFrom] at hs
    split_ifs at hs with hseg
    · cases hs
      exact ⟨by omega, hseg⟩
    · have := ih hs
      omega

theorem inSegment_unique (ht : risingTable t) {j : Nat} (hj : inSegment t h j) (hk : inSegment t h k) : j = k := by
  obtain ⟨hj16, hjlow, hjhigh⟩ := hj
  obtain ⟨hk16, hklow, hkhigh⟩ := hk
  obtain hlt | heq | hgt := lt_trichotomy j k
  · have := tablePoint_mono ht (show j + 1 ≤ k from hlt) (by omega)
    omega
  · exact heq
  · have := tablePoint_mono ht (show k + 1 ≤ j from hgt) (by omega)
    omega

/-- A clearance between C0 and C16 lies in a segment, the one its required angle is in. -/
theorem requiredAngle_cases {a : Nat} (ha : requiredAngle t h = some a) :
    (h ≤ tablePoint t 0 ∧ a = 0) ∨ ∃ k, inSegment t h k ∧ a = 500 * k + angleWithin t h k := by
  unfold requiredAngle at ha
  split_ifs at ha with hfirst
  · exact .inl ⟨hfirst, by simpa using ha.symm⟩
  · split at ha
    next k hs =>
      obtain ⟨hk, hseg⟩ := segmentFrom_eq_some hs
      exact .inr ⟨k, ⟨by omega, hseg⟩, by simpa [angleWithin, Nat.ceilDiv_eq_add_pred_div] using ha.symm⟩
    next => cases ha

theorem requiredAngle_of_inSegment (ht : risingTable t) (hk : inSegment t h k) :
    requiredAngle t h = some (500 * k + angleWithin t h k) := by
  have ⟨hk16, hlow, hhigh⟩ := hk
  have hfirst := tablePoint_mono ht k.zero_le hk16.le
  have hlast := tablePoint_mono ht (show k + 1 ≤ 16 from hk16) le_rfl
  obtain ⟨a, ha⟩ := Option.ne_none_iff_exists'.mp (mt (requiredAngle_eq_none_iff ht h).mp (by omega))
  obtain ⟨hbelow, -⟩ | ⟨j, hj, rfl⟩ := requiredAngle_cases ha
  · omega
  · rw [ha, inSegment_unique ht hj hk]

/-- The rounding up of R69: the least whole angle whose product with the segment's rise reaches the clearance's. -/
theorem angleWithin_le_iff (hk : inSegment t h k) (w : Nat) :
    angleWithin t h k ≤ w ↔ (h - tablePoint t k) * 500 ≤ w * (tablePoint t (k + 1) - tablePoint t k) := by
  obtain ⟨-, hlow, hhigh⟩ := hk
  rw [angleWithin, ceilDiv_le_iff_le_mul (by omega), Nat.mul_comm w]

theorem angleWithin_le_500 (hk : inSegment t h k) : angleWithin t h k ≤ 500 := by
  rw [angleWithin_le_iff hk, Nat.mul_comm]
  obtain ⟨-, -, hhigh⟩ := hk
  gcongr

/-- The angles that cover a clearance in segment `k` are those from the angle of R69 on. -/
theorem le_clearanceAt_iff_of_inSegment (ht : risingTable t) (hk : inSegment t h k) (b : Nat) :
    h ≤ clearanceAt t b ↔ 500 * k + angleWithin t h k ≤ b := by
  have ⟨hk16, hlow, _⟩ := hk
  have h500 := angleWithin_le_500 hk
  have hcovers {w : Nat} (hw : w ≤ 500) : h ≤ clearanceAt t (500 * k + w) ↔ angleWithin t h k ≤ w := by
    rw [le_clearanceAt_iff ht h hk16 hw, angleWithin_le_iff hk]
  constructor
  · intro hb
    by_contra! hlt
    obtain hbefore | ⟨w, rfl⟩ := (lt_or_ge b (500 * k)).imp_right Nat.exists_eq_add_of_le
    · have := (clearanceAt_mono ht hbefore.le).trans_eq (clearanceAt_segment_start ht hk16)
      omega
    · have := (hcovers (by omega)).mp hb
      omega
  · exact fun hb => ((hcovers h500).mpr le_rfl).trans (clearanceAt_mono ht hb)

/-- The required angle is the least angle that covers the clearance. -/
theorem le_clearanceAt_iff_requiredAngle_le (ht : risingTable t) {a : Nat} (ha : requiredAngle t h = some a) (b : Nat) :
    h ≤ clearanceAt t b ↔ a ≤ b := by
  obtain ⟨hfirst, rfl⟩ | ⟨k, hk, rfl⟩ := requiredAngle_cases ha
  · have hstart : clearanceAt t 0 = tablePoint t 0 := clearanceAt_segment_start ht (k := 0) (by omega)
    exact iff_of_true (hfirst.trans (hstart.symm.trans_le (clearanceAt_mono ht b.zero_le))) b.zero_le
  · exact le_clearanceAt_iff_of_inSegment ht hk b

theorem requiredAngle_le_8000 {a : Nat} (ha : requiredAngle t h = some a) : a ≤ 8000 := by
  obtain ⟨-, rfl⟩ | ⟨k, hk, rfl⟩ := requiredAngle_cases ha
  · omega
  · have := angleWithin_le_500 hk
    have := hk.1
    omega

end

/-- Settles O17: the angle within a segment is a quotient rounded up, so it is the least one that covers the clearance there,
and the available clearance does not fall as the angle grows. -/
theorem requiredAngleIsTheLeast : Obligations.RequiredAngleIsTheLeast := by
  intro t h ht
  refine ⟨requiredAngle_of_le_first, requiredAngle_eq_none_iff ht h, fun k hk hlow hhigh => ?segment, fun a ha => ?least⟩
  case segment =>
    have hseg : inSegment t h k := ⟨hk, hlow, hhigh⟩
    refine ⟨_, requiredAngle_of_inSegment ht hseg, (angleWithin_le_iff hseg _).mp le_rfl, fun q' hq' => ?_⟩
    exact not_le.mp (mt (angleWithin_le_iff hseg q').mpr hq'.not_ge)
  case least =>
    have hcovers := le_clearanceAt_iff_requiredAngle_le ht ha
    exact ⟨requiredAngle_le_8000 ha, fun b => (hcovers b).mpr, fun b hb => not_le.mp (mt (hcovers b).mp hb.not_ge)⟩

end Sys2Proof.Machine

/-!
Stage 1 of the computation (R63, R64): the reduced difference of a count, the size of its product, and what the limit makes of
the angle before it.
-/

namespace Sys2Proof.Machine

open Sys2Proof

/-! ## The difference of count and zero count (R63) -/

section

variable {count zeroCount : Nat}

theorem countDifference_of_fits (hlow : -8388608 ≤ (count : Int) - zeroCount) (hhigh : (count : Int) - zeroCount ≤ 8388607) :
    countDifference count zeroCount = (count : Int) - zeroCount := by
  unfold countDifference
  rw [if_neg (by omega), if_neg (by omega)]

theorem countDifference_of_above (h : 8388607 < (count : Int) - zeroCount) :
    countDifference count zeroCount = (count : Int) - zeroCount - 16777216 := by
  unfold countDifference
  rw [if_pos (by omega)]

theorem countDifference_of_below (h : (count : Int) - zeroCount < -8388608) :
    countDifference count zeroCount = (count : Int) - zeroCount + 16777216 := by
  unfold countDifference
  rw [if_neg (by omega), if_pos (by omega)]

/-- Of two 24-bit counts the reduced difference is a signed 24-bit number. -/
theorem countDifference_range (hcount : count ≤ 16777215) (hzero : zeroCount ≤ 16777215) :
    -8388608 ≤ countDifference count zeroCount ∧ countDifference count zeroCount ≤ 8388607 := by
  obtain habove | hbelow | hfits : 8388607 < (count : Int) - zeroCount ∨ (count : Int) - zeroCount < -8388608
      ∨ -8388608 ≤ (count : Int) - zeroCount ∧ (count : Int) - zeroCount ≤ 8388607 := by omega
  · rw [countDifference_of_above habove]
    omega
  · rw [countDifference_of_below hbelow]
    omega
  · rwa [countDifference_of_fits hfits.1 hfits.2]

end

/-! ## The product and the limit (R63, R64) -/

/-- A reduced difference times a 16-bit scale, of either sign, has at most 41 bits with its sign. -/
theorem natAbs_product_le {sign difference : Int} {scale : Nat} (hsign : sign = 1 ∨ sign = -1)
    (hlow : -8388608 ≤ difference) (hhigh : difference ≤ 8388607) (hscale : scale ≤ 65535) :
    (sign * difference * scale).natAbs ≤ 549747425280 := by
  have hone : sign.natAbs = 1 := by omega
  calc (sign * difference * scale).natAbs
      = difference.natAbs * scale := by rw [Int.natAbs_mul, Int.natAbs_mul, hone, Nat.one_mul, Int.natAbs_natCast]
    _ ≤ 8388608 * 65535 := Nat.mul_le_mul (by omega) hscale

section

variable {c : Calibration} {count : Nat}

theorem fineAngle_of_below (h : rawFineAngle c count < -8000) : fineAngle c count = -8000 := by
  unfold fineAngle
  omega

theorem fineAngle_of_above (h : 144000 < rawFineAngle c count) : fineAngle c count = 144000 := by
  unfold fineAngle
  omega

theorem fineAngle_of_within (hlow : -8000 ≤ rawFineAngle c count) (hhigh : rawFineAngle c count ≤ 144000) :
    fineAngle c count = rawFineAngle c count := by
  unfold fineAngle
  omega

theorem rangeFlag_iff : rangeFlag c count = true ↔ rawFineAngle c count < -8000 ∨ 144000 < rawFineAngle c count := by
  simp [rangeFlag]

end

/-- Settles O34: the quotient rounded down is the fine angle before its limit. -/
theorem fineAngleOfADrive : Obligations.FineAngleOfADrive := by
  intro c count hsign hscale hzero hcount x p
  have ⟨hlow, hhigh⟩ := countDifference_range hcount hzero
  have hfloor : rawFineAngle c count * 65536 ≤ p := Int.ediv_mul_le p (by decide)
  have hnext : p < (rawFineAngle c count + 1) * 65536 := Int.lt_ediv_add_one_mul_self p (by decide)
  exact ⟨fun h => countDifference_of_fits h.1 h.2, countDifference_of_above, countDifference_of_below, hlow, hhigh,
    natAbs_product_le hsign hlow hhigh hscale, rawFineAngle c count, hfloor, hnext, fineAngle_of_below, fineAngle_of_above,
    fineAngle_of_within, rangeFlag_iff⟩

end Sys2Proof.Machine

/-!
Steps 6 and 7 of a control period: the speed and the step toward the target (R73), the controlled stop (R74), and the demand of
each drive (R75, R76).
-/

namespace Sys2Proof.Machine

open Sys2Proof

/-! ## One period of the profile toward the target (R73) -/

theorem distanceTo_eq_abs (target reference : Nat) : (distanceTo target reference : Int) = |(target : Int) - reference| := by
  rw [abs_eq_max_neg, distanceTo]
  omega

section

variable {accel v cap : Nat}

theorem newSpeed_of_le_cap (h : v ≤ cap) : newSpeed accel v cap = min (v + accel) cap := if_pos h

theorem newSpeed_of_cap_lt (h : cap < v) : newSpeed accel v cap = max (v - accel) cap := if_neg h.not_ge

theorem newSpeed_le_add (accel v cap : Nat) : newSpeed accel v cap ≤ v + accel := by
  obtain h | h := le_or_gt v cap
  · rw [newSpeed_of_le_cap h]
    omega
  · rw [newSpeed_of_cap_lt h]
    omega

theorem le_newSpeed_add (accel v cap : Nat) : v ≤ newSpeed accel v cap + accel := by
  obtain h | h := le_or_gt v cap
  · rw [newSpeed_of_le_cap h]
    omega
  · rw [newSpeed_of_cap_lt h]
    omega

end

/-- The speed of a period before the target bounds it (R73). -/
def periodSpeed (c : Configured) (hold : Bool) (target : Nat) (p : Profile) : Nat :=
  newSpeed c.accel p.speed (speedCap c hold (distanceTo target p.reference))

/-- The way of a period: its speed, or what is left to go (R73). -/
def periodStep (c : Configured) (hold : Bool) (target : Nat) (p : Profile) : Nat :=
  min (periodSpeed c hold target p) (distanceTo target p.reference)

section

variable (c : Configured) (hold : Bool) {target : Nat} {p : Profile}

theorem advanceProfile_reference_of_le (h : p.reference ≤ target) :
    (advanceProfile c hold target p).reference = p.reference + periodStep c hold target p := by
  obtain hlt | heq := h.lt_or_eq
  · simp [advanceProfile, periodStep, periodSpeed, hlt]
  · simp [advanceProfile, periodStep, distanceTo, heq]

theorem advanceProfile_reference_of_lt (h : target < p.reference) :
    (advanceProfile c hold target p).reference + periodStep c hold target p = p.reference := by
  have hstep : periodStep c hold target p ≤ p.reference :=
    (min_le_right _ _).trans (by unfold distanceTo; omega)
  have href : (advanceProfile c hold target p).reference = p.reference - periodStep c hold target p := by
    simp [advanceProfile, periodStep, periodSpeed, h.not_gt]
  omega

theorem advanceProfile_speed_of_reached (h : (advanceProfile c hold target p).reference = target) :
    (advanceProfile c hold target p).speed = 0 := if_pos h

theorem advanceProfile_speed_of_under_way (h : (advanceProfile c hold target p).reference ≠ target) :
    (advanceProfile c hold target p).speed = periodStep c hold target p := if_neg h

theorem advanceProfile_up_of_step (h : periodStep c hold target p ≠ 0) :
    (advanceProfile c hold target p).up = true ↔ p.reference < target := by
  have hup : (advanceProfile c hold target p).up = decide (target > p.reference) := if_neg h
  simp [hup]

theorem advanceProfile_up_of_no_step (h : periodStep c hold target p = 0) :
    (advanceProfile c hold target p).up = p.up := if_pos h

theorem advanceProfile_stays_at_target (h : p.reference = target) :
    (advanceProfile c hold target p).reference = target := by
  have hstep : periodStep c hold target p = 0 := by simp [periodStep, distanceTo, h]
  rw [advanceProfile_reference_of_le c hold h.le, hstep, h, Nat.add_zero]

/-- Short of the target the step is the whole speed of the period. -/
theorem periodStep_of_under_way (h : (advanceProfile c hold target p).reference ≠ target) :
    periodStep c hold target p = periodSpeed c hold target p := by
  by_contra hstep
  have hall : periodStep c hold target p = distanceTo target p.reference :=
    (min_choice _ _).resolve_left hstep
  unfold distanceTo at hall
  obtain hup | hdown := le_or_gt p.reference target
  · have := advanceProfile_reference_of_le c hold hup
    omega
  · have := advanceProfile_reference_of_lt c hold hdown
    omega

theorem advanceProfile_speed_le : (advanceProfile c hold target p).speed ≤ p.speed + c.accel := by
  obtain h | h := eq_or_ne (advanceProfile c hold target p).reference target
  · simp [advanceProfile_speed_of_reached c hold h]
  · rw [advanceProfile_speed_of_under_way c hold h]
    exact (min_le_left _ _).trans (newSpeed_le_add _ _ _)

/-- The speed falls by more than the acceleration only where the target is reached. -/
theorem le_advanceProfile_speed :
    p.speed ≤ (advanceProfile c hold target p).speed + c.accel ∨ (advanceProfile c hold target p).reference = target := by
  refine or_iff_not_imp_right.mpr fun h => ?_
  rw [advanceProfile_speed_of_under_way c hold h, periodStep_of_under_way c hold h]
  exact le_newSpeed_add _ _ _

end

/-! ## One period of a controlled stop (R74) -/

theorem advanceStop_reference_of_up (c : Configured) {p : Profile} (h : p.up = true) :
    (advanceStop c p).reference = min (p.reference + (advanceStop c p).speed) 144000 := if_pos h

theorem advanceStop_reference_of_down (c : Configured) {p : Profile} (h : p.up = false) :
    (advanceStop c p).reference = p.reference - (advanceStop c p).speed := by
  simp [advanceStop, h]

/-! ## Steps 6 and 7 on the leaf records -/

@[simp] theorem perDrive_get_map {α β : Type} (f : α → β) (t : PerDrive α) (d : DriveId) : (t.map f).get d = f (t.get d) := by
  cases d <;> rfl

/-- The states in which the profile runs are the four that move toward the target, and STOPPING (R72). -/
theorem profileRuns_of_toward_target {st : GroupState}
    (h : st = .raising ∨ st = .settling ∨ st = .lowering ∨ st = .seating) :
    st.profileRuns = true ∧ st ≠ .stopping := by
  obtain rfl | rfl | rfl | rfl := h <;> exact ⟨rfl, nofun⟩

section

variable {m : LeafMotion} {p : Profile} (c : Configured)

theorem advance_group_toward_target (hp : m.group.profile = some p) {target : Nat} (ht : m.group.target = some target)
    (hruns : m.group.state.profileRuns = true) (hstop : m.group.state ≠ .stopping) :
    (m.advance c).group = { m.group with profile := some (advanceProfile c m.group.hold target p) } := by
  simp [LeafMotion.advance, LeafMotion.updateGroup, Group.profileInUse, Group.targetInUse, hp, ht, hruns, hstop]

theorem advance_group_stopping (hp : m.group.profile = some p) (hstop : m.group.state = .stopping) :
    (m.advance c).group = { m.group with profile := some (advanceStop c p) } := by
  simp [LeafMotion.advance, LeafMotion.updateGroup, Group.profileInUse, hp, hstop, GroupState.profileRuns]

theorem advance_idle (h : m.group.state.profileRuns = false) : m.advance c = m := by
  simp [LeafMotion.advance, h]

theorem drive_get_idle (h : m.group.state.profileRuns = false) (positive : Bool) (d : DriveId) :
    (m.drive c positive).drives.get d = driveIdle (m.drives.get d) := by
  simp [LeafMotion.drive, h]

theorem drive_get_running (hp : m.group.profile = some p) (h : m.group.state.profileRuns = true) (positive : Bool)
    (d : DriveId) : (m.drive c positive).drives.get d = driveWith c positive p (m.drives.get d) := by
  simp [LeafMotion.drive, Group.profileInUse, h, hp]

end

/-- The feed-forward term takes its sign from the direction (R75). -/
theorem rawDemand_eq (c : Configured) (positive : Bool) (speed : Nat) (error : Int) :
    rawDemand c positive speed error =
      (if positive then (speed : Int) else -(speed : Int)) * c.kff + (error * c.kp).tdiv 256 := by
  cases positive <;> simp [rawDemand]

theorem demandSaturated_eq (u : Int) : demandSaturated u = decide (u < -32767 ∨ 32767 < u) := by
  simp [demandSaturated]

/-- Settles O36: what step 6 makes of the profile in each kind of state, and what step 7 makes of each drive. -/
theorem profileAndDemandOfAPeriod : Obligations.ProfileAndDemandOfAPeriod := by
  intro c m p hp
  refine ⟨fun hst target ht => ?toward, fun hstop => ?stopping, fun hidle => ⟨advance_idle c hidle, fun positive d => ?idle⟩,
    fun hruns positive d => ?running⟩
  case toward =>
    obtain ⟨hruns, hstop⟩ := profileRuns_of_toward_target hst
    refine ⟨_, advance_group_toward_target c hp ht hruns hstop, distanceTo target p.reference,
      speedCap c m.group.hold (distanceTo target p.reference), periodSpeed c m.group.hold target p,
      periodStep c m.group.hold target p, distanceTo_eq_abs _ _, rfl, newSpeed_of_le_cap, newSpeed_of_cap_lt, rfl,
      advanceProfile_reference_of_le c _, advanceProfile_reference_of_lt c _, advanceProfile_speed_of_reached c _,
      advanceProfile_speed_of_under_way c _, advanceProfile_up_of_step c _, advanceProfile_up_of_no_step c _,
      advanceProfile_speed_le c _, le_advanceProfile_speed c _, fun h => ?_⟩
    have hreached := advanceProfile_stays_at_target c m.group.hold h
    exact ⟨hreached, advanceProfile_speed_of_reached c _ hreached⟩
  case stopping =>
    exact ⟨_, advance_group_stopping c hp hstop, rfl, rfl, advanceStop_reference_of_up c, advanceStop_reference_of_down c⟩
  case idle =>
    rw [drive_get_idle c hidle]
    exact ⟨rfl, rfl, rfl⟩
  case running =>
    rw [drive_get_running c hp hruns]
    simp only [driveWith, limitDemand, demandSaturated_eq, rawDemand_eq]

end Sys2Proof.Machine

/-!
RESET TRIP (R101): what the derived demands depend on and leave alone (R58, R59), what the report of a stopped group does
(R45, R103), the answer of a control request that stops the group, and what `takeResetTrip` gives in each of its cases.
-/

namespace Sys2Proof.Machine

open Sys2Proof

/-! ## The demands derived again (R58, R59) -/

/-- The fields that R58 reads. -/
structure SameForDemands (s t : State) : Prop where
  mode : t.sup.mode = s.sup.mode
  cfg : t.cfg = s.cfg
  opening : t.seq.opening = s.seq.opening
  clearance : t.seq.clearance = s.seq.clearance
  reg : t.reg = s.reg
  leaf : t.leaf = s.leaf

theorem listedRecords_congr {s t : State} (h : SameForDemands s t) : listedRecords t = listedRecords s := by
  simp only [listedRecords, h.opening, h.reg]

theorem demandFor_congr {s t : State} (h : SameForDemands s t) (d : Direction) : demandFor d t = demandFor d s := by
  have hlisted := listedRecords_congr h
  have hpass (o : Opening) : passRow d o t = passRow d o s := by
    simp only [passRow, groupAdmitsPassage, hlisted, h.clearance, h.leaf]
  have hstandBy (o : Opening) : standByRow d o t = standByRow d o s := by
    simp only [standByRow, activeIn, hlisted]
  unfold demandFor State.conf
  rw [h.mode, h.cfg, h.opening]
  cases s.seq.opening with
  | none => rfl
  | some o => simp only [hpass, hstandBy]

theorem deriveDemand_sameForDemands (d : Direction) (s : State) : SameForDemands s (deriveDemand d s) := by
  constructor <;> simp

theorem deriveDemand_demand (d : Direction) (s : State) :
    (deriveDemand d s).seq.demand = s.seq.demand.set d (demandFor d s) := by
  simp only [deriveDemand]
  split
  next h => rw [← h, PerHead.set_get]
  next => simp

/-- The heads' demands are derived one after the other, and R58 reads neither of them. -/
theorem demandsStand_deriveDemands (s : State) : demandsStand (deriveDemands s) := by
  intro d
  have hfirst := demandFor_congr (deriveDemand_sameForDemands .seaward s)
  have hboth := demandFor_congr (deriveDemand_sameForDemands .landward (deriveDemand .seaward s))
  cases d <;> simp [deriveDemands, deriveDemand_demand, hfirst, hboth, PerHead.set, PerHead.get]

/-- Of the supervisor's record, derived demands reach the dark conditions alone. -/
theorem deriveDemands_sup (s : State) : (deriveDemands s).sup = { s.sup with dark := (deriveDemands s).sup.dark } := by
  let u := (deriveDemands s).sup
  calc u = ⟨u.mode, u.watchdog, u.groupTripped, u.closureHeld, u.dark, u.pulseTimer⟩ := rfl
    _ = { s.sup with dark := u.dark } := by simp [u]

/-! ## A change of the leaf records that stops the group -/

/-- The group stands TRIPPED or HALTED. -/
def groupStopped (m : LeafMotion) : Prop := m.group.state = .tripped ∨ m.group.state = .halted

theorem stoppedReport_opening (s : State) : (stoppedReport s).seq.opening = stoppedOpening s := by
  cases ho : s.seq.opening with
  | none => simp [stoppedReport, stoppedOpening, openingState, ho]
  | some o =>
    have hstate : openingState s = some o.state := by simp [openingState, ho]
    by_cases hopen : o.state = .open <;>
      simp [stoppedReport, stoppedOpening, hstate, ho, hopen, updateOpening, setOpening]

theorem groupReport_of_stopped {s : State} (h : groupStopped s.leaf) :
    groupReport s = deriveDemands (stoppedReport (raiseAttention .control .leafGroup s)) := by
  rcases h with h | h <;> simp [groupReport, h]

theorem applyLeaf_of_changed {f : LeafMotion → LeafMotion} {s : State} (h : (f s.leaf).group.state ≠ s.leaf.group.state) :
    applyLeaf f s = groupReport (handGroupTripped ((f s.leaf).group.state == .tripped) (s.withLeaf (f s.leaf))) := by
  simp [applyLeaf, afterLeaf, h]

/-- A change of the leaf records that leaves the group stopped, with its report: extending clears, and nothing follows at
the other blocks (R45, R103, R181). -/
theorem applyLeaf_stopped {f : LeafMotion → LeafMotion} {s : State} (hstop : groupStopped (f s.leaf))
    (hchanged : (f s.leaf).group.state ≠ s.leaf.group.state) :
    (applyLeaf f s).leaf = f s.leaf ∧ (applyLeaf f s).seq.opening = stoppedOpening s
      ∧ groupReported [.leafGroup] s (applyLeaf f s) := by
  rw [applyLeaf_of_changed hchanged, groupReport_of_stopped (by simpa using hstop)]
  refine ⟨by simp, ?opening, ?sup, ?port, by simp, demandsStand_deriveDemands _, ?frame⟩
  case opening => simp [stoppedReport_opening, stoppedOpening, raiseAttention]
  case sup =>
    rw [deriveDemands_sup]
    simp [handGroupTripped]
  case port => simp [raiseAttention, updatePort, PerLink.set, PerLink.get]
  case frame =>
    intro p hp
    cases p <;> simp_all [Part.same, raiseAttention, updatePort, PerLink.set]

/-! ## The answer of a control request -/

theorem takenIn_sup (l : Link) (kind : Byte) (s : State) : (takenIn l kind s).sup = framedSup l s := by
  simp [takenIn, restartWatchdog_framed]

theorem takenIn_get (l : Link) (kind : Byte) (s : State) :
    (takenIn l kind s).links.get l = { s.links.get l with inHand := some kind } := by
  simp [takenIn, setInHand, updatePort_get]

theorem takenIn_frame (l : Link) (kind : Byte) (s : State) : unchangedBut [portPart l, .sup] s (takenIn l kind s) := by
  intro p hp
  cases l <;> cases p <;> simp_all [Part.same, portPart, takenIn, setInHand, updatePort, PerLink.set]

theorem putReply_get_of_idle {l : Link} {s : State} (h : (s.links.get l).sending = none) (kind : Byte) (o : OutcomeCode)
    (body : List Byte) :
    (putReply l kind o body s).links.get l
      = { s.links.get l with sending := some ⟨⟨kind, o, false, body⟩, false⟩ } := by
  simp [putReply, updatePort_get, h]

theorem putReply_sameForDemands (l : Link) (kind : Byte) (o : OutcomeCode) (body : List Byte) (s : State) :
    SameForDemands s (putReply l kind o body s) := by
  constructor <;> simp

theorem unchangedBut_trans {changed : List Part} {s t u : State} (hst : unchangedBut changed s t)
    (htu : unchangedBut changed t u) : unchangedBut changed s u := by
  intro p hp
  have hs := hst p hp
  have ht := htu p hp
  cases p <;> exact Eq.trans ht hs

theorem unchangedBut_mono {small large : List Part} {s t : State} (hsub : small ⊆ large) (h : unchangedBut small s t) :
    unchangedBut large s t :=
  fun p hp => h p fun hmem => hp (hsub hmem)

/-- A control request at a ready link whose owning block changes the group state: the reply of R187 around the report of
R103. -/
theorem answeredMoving_putReply {kind : Byte} {s t : State} (hr : readyFor .control s) (body : List Byte)
    (hreport : groupReported [.leafGroup] (takenIn .control kind s) t) :
    answeredMoving kind body [] s (putReply .control kind .ok body t) := by
  obtain ⟨hsup, hport, hclearance, hdemands, hframe⟩ := hreport
  have hget : t.links.get .control = { s.links.get .control with
      inHand := some kind, attention := ⟨true, (s.links.get .control).attention.causes.add .leafGroup⟩ } := by
    have htaken := takenIn_get .control kind s
    simp only [PerLink.get] at htaken ⊢
    simp [hport, htaken]
  have hreply := putReply_get_of_idle (l := .control) (s := t) (by simp [hget, hr.2]) kind .ok body
  refine ⟨?answered, by simp [hreply, hget], ?sup, by simpa using hclearance, fun d => ?demand, ?frame⟩
  case answered => simp [answered, hreply, hget]
  case sup => rw [putReply_sup, putReply_leaf, hsup, takenIn_sup]
  case demand => rw [putReply_seq, hdemands d, demandFor_congr (putReply_sameForDemands _ _ _ _ _)]
  case frame =>
    have hreplied : unchangedBut [.controlPort] t (putReply .control kind .ok body t) := updatePort_frame .control _ t
    exact unchangedBut_trans (unchangedBut_mono (by simp [portPart]) (takenIn_frame .control kind s))
      (unchangedBut_trans hframe (unchangedBut_mono (by simp) hreplied))

/-- A control-only kind from the harbour link is answered as a refusal by its owning block would be (R188). -/
theorem portRequest_notPermitted {kind : Byte} {take : State → Taken} {s : State} (hr : readyFor .harbour s) :
    onlyAnswered .harbour kind .notPermitted [] [] s (portRequest .harbour kind true take s) := by
  have hsame : portRequest .harbour kind true take s = portRequest .harbour kind false (refuse .notPermitted) s := by
    simp [portRequest, refuse]
  rw [hsame]
  exact portRequest_unchanged hr rfl rfl

/-! ## What RESET TRIP answers -/

/-- What holds RESET TRIP back from a TRIPPED group: the emergency stop ACTIVE, or the intrusion that tripped it still
there (R101). -/
def resetHeld (g : Group) : Prop := g.emergencyStop = true ∨ (g.cause = some .spanIntrusion ∧ g.spanOccupied = true)

/-- The cause and the group state are all that RESET TRIP changes in the leaf records: the brakes, the demands and the
locks stand (R101). -/
theorem resetTripped_eq (m : LeafMotion) :
    resetTripped m = { m with group := { m.group with state := .halted, cause := none } } := rfl

section

variable {s : State}

theorem takeResetTrip_wrongMode (hm : s.sup.mode ≠ .attended) : takeResetTrip [] s = refuse .wrongMode s := by
  simp [takeResetTrip, attended, hm]

theorem takeResetTrip_wrongState (hm : s.sup.mode = .attended) (hg : s.leaf.group.state ≠ .tripped) :
    takeResetTrip [] s = refuse .wrongState s := by
  simp [takeResetTrip, attended, hm, hg]

theorem takeResetTrip_interlock (hm : s.sup.mode = .attended) (hg : s.leaf.group.state = .tripped)
    (hh : resetHeld s.leaf.group) : takeResetTrip [] s = refuse .interlock s := by
  simp only [resetHeld] at hh
  simp [takeResetTrip, attended, hm, hg, hh]

theorem takeResetTrip_taken (hm : s.sup.mode = .attended) (hg : s.leaf.group.state = .tripped)
    (hh : ¬resetHeld s.leaf.group) : takeResetTrip [] s = accept [11#8] (applyLeaf resetTripped s) := by
  simp only [resetHeld] at hh
  simp [takeResetTrip, attended, hm, hg, hh, octet, GroupState.code]

end

/-- A refusal of `takeResetTrip` is the whole of what RESET TRIP does at a ready control link (R189). -/
theorem exec_resetTrip_refused {s : State} {o : OutcomeCode} (hr : readyFor .control s)
    (ht : takeResetTrip [] (takenIn .control 0x40#8 s) = refuse o (takenIn .control 0x40#8 s)) :
    ∃ t, exec (.resetTrip .control []) s = .next t ∧ onlyAnswered .control 0x40#8 o [] [] s t :=
  ⟨_, rfl, portRequest_unchanged hr rfl ht⟩

/-- Settles O39, from what `takeResetTrip` answers in the state that `takenIn` gives it, and from the report of a group
that comes to HALTED. -/
theorem resetTripHaltsTheGroup : Obligations.ResetTripHaltsTheGroup := by
  intro s
  refine ⟨fun hr => ⟨_, rfl, portRequest_notPermitted hr⟩, fun hr hm => ?wrongMode, fun hr hm hg => ?wrongState,
    fun hr hm hg hh => ?interlock, fun hr hm hg hh => ?taken⟩
  case wrongMode => exact exec_resetTrip_refused hr (takeResetTrip_wrongMode (by simpa using hm))
  case wrongState => exact exec_resetTrip_refused hr (takeResetTrip_wrongState (by simpa using hm) (by simpa using hg))
  case interlock =>
    exact exec_resetTrip_refused hr
      (takeResetTrip_interlock (by simpa using hm) (by simpa using hg) (by simpa [resetHeld] using hh))
  case taken =>
    have htake := takeResetTrip_taken (s := takenIn .control 0x40#8 s) (by simpa using hm) (by simpa using hg)
      (by simpa [resetHeld] using hh)
    obtain ⟨hleaf, hopening, hreport⟩ :=
      applyLeaf_stopped (f := resetTripped) (s := takenIn .control 0x40#8 s) (.inr rfl) (by simp [resetTripped_eq, hg])
    refine ⟨_, rfl, ?_⟩
    rw [portRequest_answers hr rfl htake]
    refine ⟨?leaf, ?opening, answeredMoving_putReply hr _ hreport⟩
    case leaf => rw [putReply_leaf, hleaf, takenIn_leaf, resetTripped_eq]
    case opening => rw [putReply_seq, hopening, stoppedOpening, takenIn_seq, stoppedOpening]

end Sys2Proof.Machine

/-!
The outcome octet of a reply (R190): every code fits the low seven bits, so the overrun
flag added in the highest bit never carries into or out of them.
-/

namespace Sys2Proof.Machine

open Sys2Proof

theorem octet_toNat_of_lt {n : Nat} (h : n < 256) : (octet n).toNat = n :=
  Nat.mod_eq_of_lt h

theorem OutcomeCode.code_lt (o : OutcomeCode) : o.code < 128 := by
  cases o <;> decide

theorem outcomeOctet_toNat (r : Reply) :
    (outcomeOctet r).toNat = (if r.overrun then 128 else 0) + r.outcome.code := by
  have hcode := r.outcome.code_lt
  have hfits : (r.outcome.code + if r.overrun then 128 else 0) < 256 := by split <;> omega
  rw [outcomeOctet, octet_toNat_of_lt hfits, Nat.add_comm]

/-- Settles O7: the octet is the sum of flag and code, and the codes are those R190 lists. -/
theorem outcomeOctetLayout : Obligations.OutcomeOctetLayout := by
  intro r
  rw [outcomeOctet_toNat]
  cases r.outcome <;> rfl

end Sys2Proof.Machine

/-!
WRITE CONFIGURATION ITEM (R197): what the store answers to it, and the reply of R187 around a change of parts that a reply
does not touch.
-/

namespace Sys2Proof.Machine

open Sys2Proof

@[simp] theorem takenIn_store (l : Link) (kind : Byte) (s : State) : (takenIn l kind s).store = s.store := by
  simp [takenIn]

/-- A request taken at a ready link, with a change of parts outside the link's machinery and the supervisor, and answered
(R187). -/
theorem onlyAnswered_putReply {l : Link} {kind : Byte} {o : OutcomeCode} {body : List Byte} {changed : List Part}
    {s t : State} (hr : readyFor l s) (hlinks : t.links = (takenIn l kind s).links) (hsup : t.sup = (takenIn l kind s).sup)
    (hframe : unchangedBut changed (takenIn l kind s) t) :
    onlyAnswered l kind o body changed s (putReply l kind o body t) := by
  have hget : t.links.get l = { s.links.get l with inHand := some kind } := by rw [hlinks, takenIn_get]
  have hreply := putReply_get_of_idle (l := l) (s := t) (by rw [hget]; exact hr.2) kind o body
  have hreplied : unchangedBut [portPart l] t (putReply l kind o body t) := updatePort_frame l _ t
  refine ⟨?answered, by rw [hreply, hget], by rw [putReply_sup, hsup, takenIn_sup], ?frame⟩
  case answered => simp [answered, hreply, hget]
  case frame =>
    exact unchangedBut_trans (unchangedBut_mono (by simp) (takenIn_frame l kind s))
      (unchangedBut_trans (unchangedBut_mono (fun p hp => by simp [hp]) hframe) (unchangedBut_mono (by simp) hreplied))

/-! ## What WRITE CONFIGURATION ITEM answers -/

/-- The image with item `n` present with a value (R197). -/
def writtenImage (image : Vector (Option Int) 163) (n : Nat) (v : Int) (h : 1 ≤ n ∧ n ≤ 163) : Vector (Option Int) 163 :=
  image.set (n - 1) (some v) (by omega)

theorem writtenImage_get (image : Vector (Option Int) 163) {n : Nat} (v : Int) (h : 1 ≤ n ∧ n ≤ 163) (i : Fin 163) :
    (writtenImage image n v h)[i] = if i.val + 1 = n then some v else image[i] := by
  have hindex : n - 1 = i.val ↔ i.val + 1 = n := by omega
  simp [writtenImage, Vector.getElem_set, hindex]

section

variable {nh nl a b c d : Byte} {s : State}

theorem takeWriteItem_wrongMode (hm : s.sup.mode ≠ .setup) :
    takeWriteItem [nh, nl, a, b, c, d] s = refuse .wrongMode s := by
  simp [takeWriteItem, inSetup, hm]

/-- An item number outside R196's and a value outside its item's range are refused alike (R197). -/
theorem takeWriteItem_badField (hm : s.sup.mode = .setup)
    (hbad : word16 nh nl = 0 ∨ 163 < word16 nh nl ∨ itemAdmits (word16 nh nl) (signed32 a b c d) = false) :
    takeWriteItem [nh, nl, a, b, c, d] s = refuse .badField s := by
  by_cases hn : 1 ≤ word16 nh nl ∧ word16 nh nl ≤ 163
  · have hvalue : itemAdmits (word16 nh nl) (signed32 a b c d) = false := by
      obtain hzero | habove | hvalue := hbad
      · omega
      · omega
      · exact hvalue
    simp [takeWriteItem, inSetup, hm, hvalue]
  · simp [takeWriteItem, inSetup, hm, hn]

theorem takeWriteItem_taken (hm : s.sup.mode = .setup) (hn : 1 ≤ word16 nh nl ∧ word16 nh nl ≤ 163)
    (hv : itemAdmits (word16 nh nl) (signed32 a b c d) = true) :
    takeWriteItem [nh, nl, a, b, c, d] s =
      accept [] (s.withStore { s.store with image := writtenImage s.store.image (word16 nh nl) (signed32 a b c d) hn }) := by
  simp [takeWriteItem, inSetup, hm, hn, hv, writtenImage]

end

/-- A refusal of `takeWriteItem` is the whole of what WRITE CONFIGURATION ITEM does at a ready control link (R189). -/
theorem exec_writeConfigurationItem_refused {body : List Byte} {s : State} {o : OutcomeCode} (hr : readyFor .control s)
    (ht : takeWriteItem body (takenIn .control 0x51#8 s) = refuse o (takenIn .control 0x51#8 s)) :
    ∃ t, exec (.writeConfigurationItem .control body) s = .next t ∧ onlyAnswered .control 0x51#8 o [] [] s t :=
  ⟨_, rfl, portRequest_unchanged hr rfl ht⟩

/-- Settles O54, from what `takeWriteItem` answers in the state that `takenIn` gives it. -/
theorem writeItemSetsOneItem : Obligations.WriteItemSetsOneItem := by
  intro nh nl a b c d s
  refine ⟨fun hr => ⟨_, rfl, portRequest_notPermitted hr⟩, fun hr hm => ?wrongMode, fun hr hm hbad => ?badField,
    fun hr hm hlow hhigh hv => ?taken⟩
  case wrongMode => exact exec_writeConfigurationItem_refused hr (takeWriteItem_wrongMode (by simpa using hm))
  case badField => exact exec_writeConfigurationItem_refused hr (takeWriteItem_badField (by simpa using hm) hbad)
  case taken =>
    have htake := takeWriteItem_taken (s := takenIn .control 0x51#8 s) (by simpa using hm) ⟨hlow, hhigh⟩ hv
    refine ⟨_, rfl, ?_⟩
    rw [portRequest_answers hr rfl htake]
    refine ⟨by simp, fun i => ?image, onlyAnswered_putReply hr rfl rfl ?frame⟩
    case image =>
      rw [putReply_store, State.withStore_store, takenIn_store]
      exact writtenImage_get _ _ ⟨hlow, hhigh⟩ i
    case frame =>
      intro p hp
      cases p <;> simp_all [Part.same]

end Sys2Proof.Machine

/-!
COMMIT CONFIGURATION (R199): the three stages of tests (the lowest absent item, the check word, the lowest item that a
condition names), and what the store answers.
-/

namespace Sys2Proof.Machine

open Sys2Proof

/-! ## The first stage: the lowest absent item -/

theorem absentFrom_eq_none {vs : List (Option Int)} (h : ∀ v ∈ vs, v ≠ none) (n : Nat) : absentFrom vs n = none := by
  induction vs generalizing n with
  | nil => rfl
  | cons v vs ih =>
    cases v with
    | none => simp at h
    | some x => exact ih (fun w hw => h w (List.mem_cons_of_mem _ hw)) (n + 1)

/-- The first absent value of a list, counted from `n`. -/
theorem absentFrom_eq_some {vs : List (Option Int)} {i : Nat} (hi : vs[i]? = some none)
    (hbelow : ∀ j < i, vs[j]? ≠ some none) (n : Nat) : absentFrom vs n = some (n + i) := by
  induction vs generalizing i n with
  | nil => simp at hi
  | cons v vs ih =>
    cases i with
    | zero =>
      obtain rfl : v = none := by simpa using hi
      rfl
    | succ i =>
      cases v with
      | none => exact absurd rfl (hbelow 0 i.succ_pos)
      | some x =>
        have htail := ih (i := i) (by simpa using hi) (fun j hj => by simpa using hbelow (j + 1) (by omega)) (n + 1)
        rw [absentFrom, htail, Nat.add_right_comm, Nat.add_assoc]

section

variable {image : Vector (Option Int) 163}

theorem absentFrom_complete (hcomplete : ∀ i : Fin 163, image[i] ≠ none) : absentFrom image.toList 1 = none := by
  refine absentFrom_eq_none (fun v hv => ?_) 1
  obtain ⟨i, hi, rfl⟩ := List.getElem_of_mem hv
  simpa using hcomplete ⟨i, by simpa using hi⟩

theorem absentFrom_lowest {i : Fin 163} (hi : image[i] = none) (hbelow : ∀ j : Fin 163, j < i → image[j] ≠ none) :
    absentFrom image.toList 1 = some (i.val + 1) := by
  rw [Nat.add_comm]
  refine absentFrom_eq_some (by simpa using hi) (fun j hj => ?_) 1
  have hlt : j < 163 := by omega
  simpa [hlt] using hbelow ⟨j, hlt⟩ hj

end

/-! ## The third stage: the items that the conditions name -/

theorem occurrences_eq_count (v : Int) (l : List Int) : occurrences v l = l.count v :=
  List.countP_eq_length_filter.symm

theorem one_le_occurrences_map_range_iff (v : Int) (f : Nat → Int) (m : Nat) :
    1 ≤ occurrences v ((List.range m).map f) ↔ ∃ k < m, f k = v := by
  rw [occurrences_eq_count, List.one_le_count_iff]
  simp

theorem two_le_occurrences_map_range_iff (v : Int) (f : Nat → Int) (m : Nat) :
    2 ≤ occurrences v ((List.range m).map f) ↔ ∃ j k, j < k ∧ k < m ∧ f j = v ∧ f k = v := by
  rw [occurrences_eq_count, ← List.duplicate_iff_two_le_count, List.duplicate_iff_exists_distinct_get]
  constructor
  · rintro ⟨j, k, hjk, hj, hk⟩
    exact ⟨j, k, hjk, by simpa using k.isLt, by simpa using hj.symm, by simpa using hk.symm⟩
  · rintro ⟨j, k, hjk, hkm, hj, hk⟩
    exact ⟨⟨j, by simp; omega⟩, ⟨k, by simpa using hkm⟩, hjk, by simpa using hj.symm, by simpa using hk.symm⟩

/-- A run of item numbers, as the store lists them. -/
theorem mem_map_add_range_iff (a m n : Nat) : n ∈ (List.range m).map (fun k => a + k) ↔ a ≤ n ∧ n < a + m := by
  simp only [List.mem_map, List.mem_range]
  constructor
  · rintro ⟨k, hk, rfl⟩
    omega
  · rintro ⟨hlow, hhigh⟩
    exact ⟨n - a, by omega, by omega⟩

section

variable (image : Vector (Option Int) 163)

theorem mem_fallingPoints_iff (n : Nat) :
    n ∈ fallingPoints image ↔ 36 ≤ n ∧ n ≤ 51 ∧ itemOf image n < itemOf image (n - 1) := by
  rw [fallingPoints, List.mem_filter, mem_map_add_range_iff, decide_eq_true_iff, and_assoc, Nat.lt_succ_iff]

/-- An item of a run that repeats the value of an item before it. -/
theorem exists_earlier_iff {a n : Nat} (v : Int) (hn : a ≤ n) :
    (∃ k < n - a, itemOf image (a + k) = v) ↔ ∃ k, a ≤ k ∧ k < n ∧ itemOf image k = v := by
  constructor
  · rintro ⟨k, hk, hv⟩
    exact ⟨a + k, by omega, by omega, hv⟩
  · rintro ⟨k, hak, hkn, hv⟩
    exact ⟨k - a, by omega, by rwa [Nat.add_sub_cancel' hak]⟩

/-- An item of a run that has the value of two items before it. -/
theorem exists_two_earlier_iff {a n : Nat} (v : Int) :
    (∃ j k, j < k ∧ k < n - a ∧ itemOf image (a + j) = v ∧ itemOf image (a + k) = v) ↔
      ∃ j k, a ≤ j ∧ j < k ∧ k < n ∧ itemOf image j = v ∧ itemOf image k = v := by
  constructor
  · rintro ⟨j, k, hjk, hk, hvj, hvk⟩
    exact ⟨a + j, a + k, by omega, by omega, by omega, hvj, hvk⟩
  · rintro ⟨j, k, haj, hjk, hkn, hvj, hvk⟩
    exact ⟨j - a, k - a, by omega, by omega, by rwa [Nat.add_sub_cancel' haj],
      by rwa [Nat.add_sub_cancel' (haj.trans hjk.le)]⟩

theorem mem_crowdedItems_iff (n : Nat) :
    n ∈ crowdedItems image ↔ 80 ≤ n ∧ n ≤ 111 ∧ itemOf image n ≠ 0 ∧
      ∃ j k, 80 ≤ j ∧ j < k ∧ k < n ∧ itemOf image j = itemOf image n ∧ itemOf image k = itemOf image n := by
  rw [crowdedItems, List.mem_filter, mem_map_add_range_iff, Bool.and_eq_true, bne_iff_ne, decide_eq_true_iff,
    two_le_occurrences_map_range_iff, exists_two_earlier_iff, and_assoc, Nat.lt_succ_iff]

theorem mem_repeatedAddresses_iff (n : Nat) :
    n ∈ repeatedAddresses image ↔ 64 ≤ n ∧ n ≤ 71 ∧ ∃ k, 64 ≤ k ∧ k < n ∧ itemOf image k = itemOf image n := by
  rw [repeatedAddresses, List.mem_filter, mem_map_add_range_iff, decide_eq_true_iff, one_le_occurrences_map_range_iff,
    and_assoc, Nat.lt_succ_iff]
  exact and_congr_right fun hn => and_congr_right fun _ => exists_earlier_iff image _ hn

/-- A channel names the function with the code `f` (items 80 to 111). -/
def functionNamed (f k : Nat) : Prop := 80 ≤ k ∧ k ≤ 111 ∧ itemOf image k = f

theorem occurrences_functions_eq_zero_iff (f : Nat) :
    occurrences f ((List.range 32).map (fun k => itemOf image (80 + k))) = 0 ↔ ¬∃ k, functionNamed image f k := by
  have hnamed := one_le_occurrences_map_range_iff f (fun k => itemOf image (80 + k)) 32
  rw [exists_earlier_iff image (a := 80) (n := 112) f (by omega)] at hnamed
  simp only [functionNamed, ← Nat.lt_succ_iff (n := 111)]
  rw [← hnamed]
  omega

theorem mem_missingReds_iff (n : Nat) :
    n ∈ missingReds image ↔
      (n = 150 ∧ ¬∃ k, functionNamed image 7 k) ∨ (n = 151 ∧ ¬∃ k, functionNamed image 8 k)
        ∨ (n = 154 ∧ ¬∃ k, functionNamed image 11 k) ∨ (n = 155 ∧ ¬∃ k, functionNamed image 12 k) := by
  simp only [← occurrences_functions_eq_zero_iff]
  simp [missingReds, and_comm, eq_comm]

/-- The items that the conditions of R199 name. -/
def itemFails (n : Nat) : Prop :=
  (36 ≤ n ∧ n ≤ 51 ∧ itemOf image n < itemOf image (n - 1))
  ∨ (n = 14 ∧ itemOf image 13 < itemOf image 14) ∨ (n = 15 ∧ itemOf image 14 < itemOf image 15)
  ∨ (n = 16 ∧ itemOf image 13 < itemOf image 16) ∨ (n = 18 ∧ itemOf image 17 ≤ itemOf image 18)
  ∨ (n = 24 ∧ itemOf image 23 - itemOf image 24 < 16)
  ∨ (80 ≤ n ∧ n ≤ 111 ∧ itemOf image n ≠ 0 ∧
      ∃ j k, 80 ≤ j ∧ j < k ∧ k < n ∧ itemOf image j = itemOf image n ∧ itemOf image k = itemOf image n)
  ∨ (n = 150 ∧ ¬∃ k, functionNamed image 7 k) ∨ (n = 151 ∧ ¬∃ k, functionNamed image 8 k)
  ∨ (n = 154 ∧ ¬∃ k, functionNamed image 11 k) ∨ (n = 155 ∧ ¬∃ k, functionNamed image 12 k)
  ∨ (64 ≤ n ∧ n ≤ 71 ∧ ∃ k, 64 ≤ k ∧ k < n ∧ itemOf image k = itemOf image n)

/-- The item of a condition on single items is listed exactly where the condition fails. -/
theorem mem_unless_iff {p : Prop} [Decidable p] (k n : Nat) : n ∈ (if p then [] else [k]) ↔ n = k ∧ ¬p := by
  by_cases h : p <;> simp [h]

theorem mem_inconsistentItems_iff (n : Nat) : n ∈ inconsistentItems image ↔ itemFails image n := by
  simp only [inconsistentItems, List.mem_append, mem_fallingPoints_iff, mem_unless_iff, mem_crowdedItems_iff,
    mem_missingReds_iff, mem_repeatedAddresses_iff, not_le, not_lt, ge_iff_le, or_assoc, itemFails]

end

/-! ## The item that the tests name -/

theorem least_eq_min? (l : List Nat) : least l = l.min? := by
  induction l with
  | nil => rfl
  | cons n ns ih =>
    rw [least, ih, List.min?_cons]
    cases ns.min? <;> rfl

section

variable {image : Vector (Option Int) 163} {check : CheckWord}

theorem commitFailure_absent {i : Fin 163} (hi : image[i] = none) (hbelow : ∀ j : Fin 163, j < i → image[j] ≠ none) :
    commitFailure image check = some (i.val + 1) := by
  simp only [commitFailure, absentFrom_lowest hi hbelow]

theorem commitFailure_checkWord (hcomplete : ∀ i : Fin 163, image[i] ≠ none) (hcheck : imageCheck image ≠ check) :
    commitFailure image check = some 0 := by
  simp only [commitFailure, absentFrom_complete hcomplete, if_neg hcheck]

/-- An image that passes the first two stages is judged by the conditions of the third. -/
theorem commitFailure_of_check (hcomplete : ∀ i : Fin 163, image[i] ≠ none) (hcheck : imageCheck image = check) :
    commitFailure image check = (inconsistentItems image).min? := by
  simp only [commitFailure, absentFrom_complete hcomplete, if_pos hcheck, least_eq_min?]

theorem commitFailure_condition (hcomplete : ∀ i : Fin 163, image[i] ≠ none) (hcheck : imageCheck image = check)
    {n : Nat} (hn : itemFails image n) (hleast : ∀ m < n, ¬itemFails image m) : commitFailure image check = some n := by
  rw [commitFailure_of_check hcomplete hcheck, List.min?_eq_some_iff]
  refine ⟨(mem_inconsistentItems_iff image n).mpr hn, fun m hm => ?_⟩
  by_contra hlt
  exact hleast m (not_le.mp hlt) ((mem_inconsistentItems_iff image m).mp hm)

theorem commitFailure_passed (hcomplete : ∀ i : Fin 163, image[i] ≠ none) (hcheck : imageCheck image = check)
    (hnone : ∀ n, ¬itemFails image n) : commitFailure image check = none := by
  rw [commitFailure_of_check hcomplete hcheck, List.min?_eq_none_iff, List.eq_nil_iff_forall_not_mem]
  exact fun n hn => hnone n ((mem_inconsistentItems_iff image n).mp hn)

end

/-! ## What COMMIT CONFIGURATION answers -/

section

variable {h l : Byte} {s : State}

theorem takeCommit_wrongMode (hm : s.sup.mode ≠ .setup) : takeCommit [h, l] s = refuse .wrongMode s := by
  simp [takeCommit, inSetup, hm]

theorem takeCommit_invalid (hm : s.sup.mode = .setup) {n : Nat} (hn : commitFailure s.store.image (h ++ l) = some n) :
    takeCommit [h, l] s = (s, some ⟨.configInvalid, octets16 n⟩) := by
  simp [takeCommit, inSetup, hm, hn]

theorem takeCommit_taken (hm : s.sup.mode = .setup) (hn : commitFailure s.store.image (h ++ l) = none) :
    takeCommit [h, l] s = (acceptCommit s, none) := by
  simp [takeCommit, inSetup, hm, hn]

/-- The item that the tests name is the whole answer of COMMIT CONFIGURATION to a ready control link in SETUP (R199). -/
theorem exec_commitConfiguration_invalid (hr : readyFor .control s) (hm : s.sup.mode = .setup) {n : Nat}
    (hn : commitFailure s.store.image (h ++ l) = some n) :
    ∃ t, exec (.commitConfiguration .control [h, l]) s = .next t
      ∧ onlyAnswered .control 0x52#8 .configInvalid (octets16 n) [] s t :=
  ⟨_, rfl, portRequest_unchanged hr rfl (takeCommit_invalid (by simpa using hm) (by simpa using hn))⟩

/-- An accepted commit stays in hand, with no reply (R200). -/
theorem exec_commitConfiguration_taken (hr : readyFor .control s) (hm : s.sup.mode = .setup)
    (hn : commitFailure s.store.image (h ++ l) = none) :
    exec (.commitConfiguration .control [h, l]) s = .next (acceptCommit (takenIn .control 0x52#8 s)) := by
  have htake := takeCommit_taken (s := takenIn .control 0x52#8 s) (h := h) (l := l) (by simpa using hm) (by simpa using hn)
  have hidle := hr.1
  have hexec : exec (.commitConfiguration .control [h, l]) s =
      .next (portRequest .control 0x52#8 true (takeCommit [h, l]) s) := rfl
  simp only [takenIn] at htake
  simp [hexec, portRequest, hidle, htake, takenIn]

end

@[simp] theorem acceptCommit_links (s : State) : (acceptCommit s).links = s.links := rfl

@[simp] theorem acceptCommit_sup (s : State) : (acceptCommit s).sup = s.sup := rfl

@[simp] theorem acceptCommit_store (s : State) : (acceptCommit s).store = { s.store with state := .evaluating } := rfl

/-- Settles O55: each clause is one way for the tests of `commitFailure` to end, and the answer follows from what they
name. -/
theorem commitNamesTheFailingItem : Obligations.CommitNamesTheFailingItem := by
  intro h l s
  refine ⟨fun hr => ⟨_, rfl, portRequest_notPermitted hr⟩, fun hr hm => ?wrongMode, fun hr hm =>
    ⟨fun i hi hbelow => ?absent, fun hcomplete hcheck => ?checkWord,
      fun n hcomplete hcheck hn hleast => ?condition, fun hcomplete hcheck hnone => ?passed⟩⟩
  case wrongMode => exact ⟨_, rfl, portRequest_unchanged hr rfl (takeCommit_wrongMode (by simpa using hm))⟩
  case absent => exact exec_commitConfiguration_invalid hr hm (commitFailure_absent hi hbelow)
  case checkWord => exact exec_commitConfiguration_invalid hr hm (commitFailure_checkWord hcomplete hcheck)
  case condition => exact exec_commitConfiguration_invalid hr hm (commitFailure_condition hcomplete hcheck hn hleast)
  case passed =>
    have hpassed := commitFailure_passed hcomplete hcheck hnone
    refine ⟨hpassed, _, exec_commitConfiguration_taken hr hm hpassed, ?inHand, ?sending, ?mode, ?state, ?image⟩
    case inHand => rw [acceptCommit_links, takenIn_get]
    case sending => rw [acceptCommit_links, takenIn_get, hr.2]
    case mode => simpa using hm
    case state => simp
    case image => simp

end Sys2Proof.Machine

/-!
The leaf records through every operation on them (R71 to R101): the conditions that the statements on the leaves and on the
closed road need, said once for each operation of the Leaf Motion Controller.
-/

namespace Sys2Proof.Machine

open Sys2Proof

/-! ## Tables under a map -/

@[simp] theorem PerDrive.get_map {α β : Type} (f : α → β) (t : PerDrive α) (d : DriveId) :
    (t.map f).get d = f (t.get d) := by
  cases d <;> rfl

@[simp] theorem PerLock.get_map {α β : Type} (f : α → β) (t : PerLock α) (k : LockId) :
    (t.map f).get k = f (t.get k) := by
  cases k <;> rfl

/-! ## Sound leaf records -/

/-- The leaves are released or their locks are being withdrawn (R82, R83). -/
def LeafMotion.moving (m : LeafMotion) : Prop := m.group.state.profileRuns = true ∨ m.group.state = .unlocking

/-- Brakes, demands, saturated flags, lock commands and cause are those of the group state (R76, R79, R81, R82). -/
def leafSound (m : LeafMotion) : Prop := leafTable m ∧ causeTable m.group

/-- No lock is commanded (R80). -/
def locksIdle (m : LeafMotion) : Prop := ∀ k, (m.locks.get k).command = none

/-- The four brakes are released (R82). -/
def brakesReleased (m : LeafMotion) : Prop := ∀ d, (m.drives.get d).brakeReleased = true

/-- The states in which nothing moves and no lock is commanded (R81). -/
def GroupState.resting : GroupState → Bool
  | .inactive | .stowed | .heldOpen | .tripped | .halted => true
  | .unlocking | .raising | .settling | .lowering | .seating | .locking | .stopping => false

theorem leafTable_of_resting {m : LeafMotion} (hs : m.group.state.resting = true) (hb : brakesSet m) (hk : locksIdle m) :
    leafTable m := by
  unfold leafTable
  cases hst : m.group.state <;> simp [hst, GroupState.resting] at hs <;>
    exact ⟨fun d => (hb d).1, fun _ d => (hb d).2, hk⟩

theorem leafTable_of_profileRuns {m : LeafMotion} (hs : m.group.state.profileRuns = true) (hb : brakesReleased m)
    (hk : locksIdle m) : leafTable m := by
  unfold leafTable
  cases hst : m.group.state <;> simp [hst, GroupState.profileRuns] at hs <;>
    exact ⟨hb, fun h => by simp [GroupState.profileRuns] at h, hk⟩

theorem leafTable.brakesSet {m : LeafMotion} (h : leafTable m) (hs : m.group.state.profileRuns = false) : brakesSet m :=
  fun d => ⟨(h.1 d).trans hs, h.2.1 hs d⟩

theorem leafTable.brakesReleased {m : LeafMotion} (h : leafTable m) (hs : m.group.state.profileRuns = true) :
    brakesReleased m :=
  fun d => (h.1 d).trans hs

theorem leafTable.locksIdle {m : LeafMotion} (h : leafTable m)
    (hs : m.group.state ≠ .unlocking ∧ m.group.state ≠ .locking) : locksIdle m := by
  intro k
  have hk := h.2.2 k
  cases hst : m.group.state <;> simp_all

theorem leafTable.unlocking_command {m : LeafMotion} (h : leafTable m) (hs : m.group.state = .unlocking) (k : LockId) :
    (m.locks.get k).command = some .withdraw := by
  have hk := h.2.2 k
  simpa [hs] using hk

theorem leafTable.locking_command {m : LeafMotion} (h : leafTable m) (hs : m.group.state = .locking) (k : LockId) :
    (m.locks.get k).command = if k = .centre ∧ bothSeated m = false then none else some .drive := by
  have hk := h.2.2 k
  simpa [hs] using hk

/-- The table reads of the leaf records the group state, the drives' outputs, the lock commands and the seated flags. -/
theorem leafTable_congr {m n : LeafMotion} (hs : n.group.state = m.group.state)
    (hd : ∀ d, (n.drives.get d).brakeReleased = (m.drives.get d).brakeReleased
      ∧ (n.drives.get d).demand = (m.drives.get d).demand ∧ (n.drives.get d).saturated = (m.drives.get d).saturated)
    (hk : ∀ k, (n.locks.get k).command = (m.locks.get k).command) (hb : bothSeated n = bothSeated m) :
    leafTable n ↔ leafTable m := by
  simp only [leafTable, hs, hk, hb, fun d => (hd d).1, fun d => (hd d).2.1, fun d => (hd d).2.2]

theorem leafSound.cause_none {m : LeafMotion} (h : leafSound m)
    (hs : m.group.state ≠ .tripped ∧ m.group.state ≠ .stopping) : m.group.cause = none := by
  have hcause := h.2.2.1
  cases hc : m.group.cause <;> simp_all

theorem leafSound.pendingLower_clear {m : LeafMotion} (h : leafSound m) (hs : m.group.state ≠ .stopping) :
    m.group.pendingLower = false := by
  have hpending := h.2.2.2
  cases hp : m.group.pendingLower <;> simp_all

/-- Leaf records at rest with the brakes set, no lock commanded, and neither a cause nor a lower pending. -/
theorem leafSound_of_resting {m : LeafMotion} (hs : m.group.state.resting = true) (hne : m.group.state ≠ .tripped)
    (hb : brakesSet m) (hk : locksIdle m) (hc : m.group.cause = none) (hp : m.group.pendingLower = false) :
    leafSound m :=
  ⟨leafTable_of_resting hs hb hk, by simp [causeTable, hne, hc, hp]⟩

theorem not_moving_of_resting {m : LeafMotion} (hs : m.group.state.resting = true) : ¬m.moving := by
  simp only [LeafMotion.moving]
  cases hst : m.group.state <;> simp_all [GroupState.resting, GroupState.profileRuns]

/-! ## What a change of the leaf records keeps -/

/-- A change of the leaf records keeps them sound, and sets leaves in motion behind a closed road alone; `shut` says that the
road is closed. -/
structure LeafKeeps (shut : Prop) (m n : LeafMotion) : Prop where
  sound : leafSound m → leafSound n
  moving : n.moving → m.moving ∨ shut

variable {shut : Prop} {m n o : LeafMotion}

theorem LeafKeeps.refl (m : LeafMotion) : LeafKeeps shut m m := ⟨id, .inl⟩

theorem LeafKeeps.trans (h : LeafKeeps shut m n) (h' : LeafKeeps shut n o) : LeafKeeps shut m o where
  sound := h'.sound ∘ h.sound
  moving := fun ho => (h'.moving ho).elim h.moving .inr

/-- A change that touches neither the group state, cause and pending lower, nor the outputs, the lock commands and the
seated flags. -/
theorem LeafKeeps.of_outputs (hs : n.group.state = m.group.state) (hc : n.group.cause = m.group.cause)
    (hp : n.group.pendingLower = m.group.pendingLower)
    (hd : ∀ d, (n.drives.get d).brakeReleased = (m.drives.get d).brakeReleased
      ∧ (n.drives.get d).demand = (m.drives.get d).demand ∧ (n.drives.get d).saturated = (m.drives.get d).saturated)
    (hk : ∀ k, (n.locks.get k).command = (m.locks.get k).command) (hb : bothSeated n = bothSeated m) :
    LeafKeeps shut m n where
  sound := by simp only [leafSound, leafTable_congr hs hd hk hb, causeTable, hs, hc, hp, imp_self]
  moving := by simpa only [LeafMotion.moving, hs] using .inl

/-- A change that leaves the group at rest. -/
theorem LeafKeeps.of_resting (hr : n.group.state.resting = true) (hs : leafSound m → leafSound n) :
    LeafKeeps shut m n :=
  ⟨hs, fun h => absurd h (not_moving_of_resting hr)⟩

/-! ## Brakes, stops and motion starts -/

theorem setBrakes_brakesSet (m : LeafMotion) : brakesSet m.setBrakes := by
  intro d; simp [LeafMotion.setBrakes]

theorem removeCommands_locksIdle (m : LeafMotion) : locksIdle m.removeCommands := by
  intro k; simp [LeafMotion.removeCommands, Lock.uncommanded]

theorem trip_state (cause : TripCause) (m : LeafMotion) : (m.trip cause).group.state = .tripped := by
  unfold LeafMotion.trip
  split
  next h => exact h
  next => rfl

theorem leafSound_trip {cause : TripCause} (h : m.group.state ≠ .tripped) : leafSound (m.trip cause) := by
  refine ⟨leafTable_of_resting (by rw [trip_state]; rfl) ?_ ?_, ?_⟩ <;> simp only [LeafMotion.trip, h, if_false]
  · exact setBrakes_brakesSet m
  · exact removeCommands_locksIdle m
  · simp only [causeTable, LeafMotion.updateGroup]
    split
    next => cases m.group.cause <;> simp
    next => simp

/-- A trip from records that another change has led to; from TRIPPED it changes nothing (R100). -/
theorem trip_keeps_of {cause : TripCause} (h : n.group.state ≠ .tripped) : LeafKeeps shut m (n.trip cause) :=
  .of_resting (by rw [trip_state]; rfl) fun _ => leafSound_trip h

theorem trip_keeps (cause : TripCause) (m : LeafMotion) : LeafKeeps shut m (m.trip cause) := by
  by_cases h : m.group.state = .tripped
  · rw [LeafMotion.trip, if_pos h]
    exact .refl m
  · exact trip_keeps_of h

/-- A controlled stop begins from a state in which the profile runs (R99). -/
theorem beginStop_keeps {cause : Option TripCause} {lower : Bool} (hs : m.group.state.profileRuns = true)
    (hl : lower = true → cause = none) : LeafKeeps shut m (m.beginStop cause lower) where
  sound := by
    rintro ⟨ht, _⟩
    have hidle := ht.locksIdle (by constructor <;> intro h <;> simp [h, GroupState.profileRuns] at hs)
    refine ⟨leafTable_of_profileRuns rfl (ht.brakesReleased hs) hidle, ?_⟩
    simpa [LeafMotion.beginStop, LeafMotion.updateGroup, causeTable] using hl
  moving := fun _ => .inl (.inl hs)

/-- A change of a stop in progress that touches its cause and pending lower alone. -/
theorem stopping_keeps (hs : m.group.state = .stopping) (hn : n.group.state = .stopping) (hd : n.drives = m.drives)
    (hk : n.locks = m.locks) (hw : n.west = m.west) (he : n.east = m.east)
    (hp : (m.group.pendingLower = true → m.group.cause = none) → n.group.pendingLower = true → n.group.cause = none) :
    LeafKeeps shut m n where
  sound := by
    rintro ⟨ht, hc⟩
    refine ⟨(leafTable_congr (hn.trans hs.symm) (by simp [hd]) (by simp [hk]) (by simp [bothSeated, hw, he])).mpr ht, ?_⟩
    simp_all [causeTable]
  moving := fun _ => .inl (.inl (by rw [hs]; rfl))

theorem stopTakes_keeps {cause : TripCause} (hs : m.group.state = .stopping) : LeafKeeps shut m (m.stopTakes cause) := by
  refine stopping_keeps hs ?_ rfl rfl rfl rfl ?_ <;> simp only [LeafMotion.stopTakes, LeafMotion.updateGroup] <;>
    cases m.group.cause <;> simp_all

/-- A motion start from records `n` that a change of `m` has led to: behind a closed road, unless `m` moves already (R83). -/
theorem motionStart_keeps_of {st : GroupState} (hst : st = .raising ∨ st = .lowering) (hn : n.group.state ≠ .tripped)
    (hk : leafSound m → locksIdle n) (hc : leafSound m → n.group.cause = none) (hm : m.moving ∨ shut) :
    LeafKeeps shut m (n.motionStart st) := by
  unfold LeafMotion.motionStart
  split
  next =>
    refine ⟨fun h => ⟨leafTable_of_profileRuns ?_ (fun d => ?_) (hk h), ?_⟩, fun _ => hm⟩
    · rcases hst with rfl | rfl <;> rfl
    · simp [LeafMotion.updateGroup, LeafMotion.clearCounts, LeafMotion.releaseBrakes]
    · rcases hst with rfl | rfl <;>
        simp [causeTable, LeafMotion.updateGroup, LeafMotion.clearCounts, LeafMotion.releaseBrakes, hc h]
  next => exact trip_keeps_of hn

/-- The group comes to HALTED or HELD_OPEN from records `n` that a change of `m` has led to. -/
theorem enter_resting_keeps_of {st : GroupState} (hr : st.resting = true) (hst : st ≠ .tripped)
    (hk : leafSound m → locksIdle n) (hc : leafSound m → n.group.cause = none ∧ n.group.pendingLower = false) :
    LeafKeeps shut m ((n.setBrakes.clearCounts).enter st) :=
  .of_resting hr fun h => leafSound_of_resting hr hst (setBrakes_brakesSet n) (hk h) (hc h).1 (hc h).2

/-! ## Locks -/

@[simp] theorem commanded_command (c : LockCommand) (l : Lock) : (Lock.commanded c l).command = some c := by
  unfold Lock.commanded; rfl

theorem unlocked_keeps_of (hn : n.group.state = .unlocking) (hm : m.moving ∨ shut)
    (hc : leafSound m → n.group.cause = none ∧ n.group.pendingLower = false) : LeafKeeps shut m n.unlocked := by
  simp only [LeafMotion.unlocked, LeafMotion.halt]
  split
  next => exact enter_resting_keeps_of rfl (by decide) (fun _ => removeCommands_locksIdle n) hc
  next =>
    exact motionStart_keeps_of (.inl rfl) (by simp [LeafMotion.removeCommands, hn]) (fun _ => removeCommands_locksIdle n)
      (fun h => (hc h).1) hm

theorem finishUnlocking_keeps (hm : m.group.state = .unlocking) : LeafKeeps shut m m.finishUnlocking := by
  unfold LeafMotion.finishUnlocking
  split
  next =>
    exact unlocked_keeps_of hm (.inl (.inr hm))
      fun h => ⟨h.cause_none (by simp [hm]), h.pendingLower_clear (by simp [hm])⟩
  next => exact .refl m

/-- Unlocking begins behind a closed road, from a group at rest (R83, R88). -/
theorem enterUnlocking_keeps (hr : m.group.state.resting = true) (hne : m.group.state ≠ .tripped) (hshut : shut) :
    LeafKeeps shut m m.enterUnlocking := by
  have hstop : m.group.state ≠ .stopping := by intro h; simp [h, GroupState.resting] at hr
  have hbrakes : m.group.state.profileRuns = false := by cases h : m.group.state <;> simp_all [GroupState.resting, GroupState.profileRuns]
  refine .trans (n := LeafMotion.enter .unlocking { m with locks := m.locks.map (Lock.commanded .withdraw) })
    ⟨fun h => ⟨?table, ?cause⟩, fun _ => .inr hshut⟩ (finishUnlocking_keeps rfl)
  case table =>
    have hb := h.1.brakesSet hbrakes
    refine ⟨fun d => (hb d).1, fun _ d => (hb d).2, fun k => ?_⟩
    simp [LeafMotion.enter, LeafMotion.updateGroup]
  case cause =>
    simp [causeTable, LeafMotion.enter, LeafMotion.updateGroup, h.cause_none ⟨hne, hstop⟩, h.pendingLower_clear hstop]

theorem locked_keeps_of (hc : leafSound m → brakesSet n ∧ n.group.cause = none ∧ n.group.pendingLower = false) :
    LeafKeeps shut m n.locked :=
  .of_resting rfl fun h => leafSound_of_resting rfl (by simp [LeafMotion.locked, LeafMotion.enter, LeafMotion.updateGroup])
    (hc h).1 (fun k => by simp [LeafMotion.locked, LeafMotion.removeCommands, Lock.uncommanded, LeafMotion.enter, LeafMotion.updateGroup])
    (hc h).2.1 (hc h).2.2

theorem finishLocking_keeps_of (hn : LeafKeeps shut m n)
    (hc : leafSound m → brakesSet n ∧ n.group.cause = none ∧ n.group.pendingLower = false) :
    LeafKeeps shut m n.finishLocking := by
  unfold LeafMotion.finishLocking
  split
  next => exact locked_keeps_of hc
  next => exact hn

theorem finishLocking_keeps (hm : m.group.state = .locking) : LeafKeeps shut m m.finishLocking :=
  finishLocking_keeps_of (.refl m) fun h =>
    ⟨h.1.brakesSet (by simp [hm, GroupState.profileRuns]), h.cause_none (by simp [hm]), h.pendingLower_clear (by simp [hm])⟩

/-- The group in LOCKING with its brakes set and its locks commanded as the seated flags say (R89). -/
theorem leafSound_of_locking (hs : m.group.state = .locking) (hb : brakesSet m)
    (hk : ∀ k, (m.locks.get k).command = if k = .centre ∧ bothSeated m = false then none else some .drive)
    (hc : m.group.cause = none) (hp : m.group.pendingLower = false) : leafSound m := by
  refine ⟨⟨fun d => ?_, fun _ d => (hb d).2, ?_⟩, by simp [causeTable, hs, hc, hp]⟩
  · rw [hs]; exact (hb d).1
  · simpa [hs] using hk

theorem not_moving_locking (hs : m.group.state = .locking) : ¬m.moving := by
  simp [LeafMotion.moving, hs, GroupState.profileRuns]

theorem enterLocking_keeps_of (hc : leafSound m → n.group.cause = none ∧ n.group.pendingLower = false) :
    LeafKeeps shut m n.enterLocking := by
  refine finishLocking_keeps_of ⟨fun h => leafSound_of_locking rfl (setBrakes_brakesSet n) (fun k => ?_) (hc h).1 (hc h).2,
    fun h => absurd h (not_moving_locking rfl)⟩ fun h => ⟨setBrakes_brakesSet n, hc h⟩
  have hseated : bothSeated n.setBrakes.clearCounts.removeCommands = bothSeated n := rfl
  cases k <;> cases hb : bothSeated n <;>
    simp [PerLock.get, LeafMotion.enter, LeafMotion.updateGroup, hseated, hb, Lock.heldBack] <;>
    simpa [bothSeated, LeafMotion.removeCommands, LeafMotion.clearCounts, LeafMotion.updateGroup, LeafMotion.setBrakes] using hb

end Sys2Proof.Machine

/-!
The requests to the leaf group, its inputs, timers and control period: each keeps the leaf records sound and sets the leaves in
motion behind a closed road alone (R62 to R105).
-/

namespace Sys2Proof.Machine

open Sys2Proof

variable {shut : Prop} {m n : LeafMotion}

/-! ## Requests of the sequencer (R83 to R87) -/

theorem setTarget_keeps (target : Nat) (m : LeafMotion) : LeafKeeps shut m (m.setTarget target) :=
  .of_outputs rfl rfl rfl (fun _ => ⟨rfl, rfl, rfl⟩) (fun _ => rfl) rfl

/-- A start that is not refused finds the road closed (R83). -/
theorem closed_of_not_startRefused {closed : Bool} (h : startRefused closed m = false) : closed = true := by
  simp_all [startRefused]

/-- A motion start of a group at rest behind a closed road. -/
theorem motionStart_keeps {st : GroupState} (hst : st = .raising ∨ st = .lowering) (hr : m.group.state.resting = true)
    (hne : m.group.state ≠ .tripped) (hshut : shut) : LeafKeeps shut m (m.motionStart st) := by
  have hstop : m.group.state ≠ .stopping := by intro h; simp [h, GroupState.resting] at hr
  exact motionStart_keeps_of hst hne (fun h => h.1.locksIdle (by constructor <;> intro h <;> simp [h, GroupState.resting] at hr))
    (fun h => h.cause_none ⟨hne, hstop⟩) (.inr hshut)

theorem raise_keeps {closed : Bool} (target : Nat) (h : raiseRefused closed m = false) :
    LeafKeeps (closed = true) m (m.raise target) := by
  unfold raiseRefused at h
  unfold LeafMotion.raise
  cases hst : m.group.state <;> simp only [hst, Bool.true_eq_false] at h ⊢
  case stowed =>
    have hs : (m.setTarget target).group.state = .stowed := hst
    exact (setTarget_keeps target m).trans
      (enterUnlocking_keeps (by rw [hs]; rfl) (by simp [hs]) (closed_of_not_startRefused h))
  case heldOpen =>
    have hs : (m.setTarget target).group.state = .heldOpen := hst
    exact (setTarget_keeps target m).trans
      (motionStart_keeps (.inl rfl) (by rw [hs]; rfl) (by simp [hs]) (closed_of_not_startRefused h))

/-- Leaves that keep moving as the group goes from one moving state to another. -/
theorem enter_moving_keeps (hs : m.group.state.profileRuns = true) (hstop : m.group.state ≠ .stopping)
    (hn : n.group.state.profileRuns = true) (hd : n.drives = m.drives)
    (hk : n.locks = m.locks) (hc : n.group.cause = m.group.cause) (hp : n.group.pendingLower = m.group.pendingLower) :
    LeafKeeps shut m n where
  sound := fun h => by
    have htrip : m.group.state ≠ .tripped := by intro h; simp [h, GroupState.profileRuns] at hs
    have hntrip : n.group.state ≠ .tripped := by intro h; simp [h, GroupState.profileRuns] at hn
    have hidle := h.1.locksIdle (by constructor <;> intro h <;> simp [h, GroupState.profileRuns] at hs)
    refine ⟨leafTable_of_profileRuns hn ?_ (by simpa [locksIdle, hk] using hidle), ?_⟩
    · simpa [brakesReleased, hd] using h.1.brakesReleased hs
    · simp [causeTable, hntrip, hc, hp, h.cause_none ⟨htrip, hstop⟩, h.pendingLower_clear hstop]
  moving := fun _ => .inl (.inl hs)

theorem handOver_keeps {closed : Bool} (target : Nat) (m : LeafMotion) :
    LeafKeeps (closed = true) m (m.handOver closed target) := by
  refine (setTarget_keeps target m).trans ?_
  simp only [LeafMotion.handOver]
  generalize m.setTarget target = n
  cases hst : n.group.state <;> simp only
  case settling =>
    exact enter_moving_keeps (by rw [hst]; rfl) (by simp [hst]) rfl rfl rfl rfl rfl
  case heldOpen =>
    split
    next =>
      exact enter_resting_keeps_of rfl (by decide) (fun h => h.1.locksIdle (by simp [hst]))
        fun h => ⟨h.cause_none (by simp [hst]), h.pendingLower_clear (by simp [hst])⟩
    next h =>
      exact motionStart_keeps (.inl rfl) (by rw [hst]; rfl) (by simp [hst]) (closed_of_not_startRefused (by simpa using h))
  all_goals exact .refl n

/-- A lower request's leaves at rest: locked where they are seated, or set in motion behind a closed road (R86). -/
theorem lower_resting_keeps {closed : Bool} (hst : m.group.state = .heldOpen ∨ m.group.state = .halted)
    (h : lowerRefused closed m = false) : LeafKeeps (closed = true) m m.lower := by
  have hcause (hm : leafSound m) : m.group.cause = none ∧ m.group.pendingLower = false :=
    ⟨hm.cause_none (by rcases hst with h | h <;> simp [h]), hm.pendingLower_clear (by rcases hst with h | h <;> simp [h])⟩
  have hlower : m.lower =
      if bothSeated m then (m.setTarget 0).enterLocking else (m.setTarget 0).motionStart .lowering := by
    rcases hst with h | h <;> simp only [LeafMotion.lower, h]
  have hrefused : (if bothSeated m then m.group.emergencyStop else startRefused closed m) = false := by
    rcases hst with hs | hs <;> simpa only [lowerRefused, hs] using h
  rw [hlower]
  split
  next => exact enterLocking_keeps_of hcause
  next hseated =>
    rw [if_neg hseated] at hrefused
    have hs : (m.setTarget 0).group.state = m.group.state := rfl
    exact (setTarget_keeps 0 m).trans (motionStart_keeps (.inr rfl) (by rcases hst with h | h <;> rw [hs, h] <;> rfl)
      (by rcases hst with h | h <;> simp [hs, h]) (closed_of_not_startRefused hrefused))

theorem lower_keeps {closed : Bool} (h : lowerRefused closed m = false) : LeafKeeps (closed = true) m m.lower := by
  cases hst : m.group.state
  case heldOpen => exact lower_resting_keeps (.inl hst) h
  case halted => exact lower_resting_keeps (.inr hst) h
  all_goals simp only [LeafMotion.lower, hst]
  case unlocking =>
    exact enterLocking_keeps_of fun hm => ⟨hm.cause_none (by simp [hst]), hm.pendingLower_clear (by simp [hst])⟩
  case stopping =>
    refine (setTarget_keeps 0 m).trans (stopping_keeps hst hst rfl rfl rfl rfl ?_)
    cases hc : (m.setTarget 0).group.cause <;> simp [LeafMotion.updateGroup, hc]
  case raising | settling | seating =>
    have hs : (m.setTarget 0).group.state = m.group.state := rfl
    exact (setTarget_keeps 0 m).trans (beginStop_keeps (by rw [hs, hst]; rfl) fun _ => rfl)
  all_goals exact .refl m

theorem continueMotion_keeps {closed : Bool} (h : continueRefused closed m = false) :
    LeafKeeps (closed = true) m m.continueMotion := by
  unfold continueRefused at h
  split at h
  next hst =>
    unfold LeafMotion.continueMotion
    split at h
    next ht =>
      rw [if_pos ht]
      exact lower_keeps h
    next ht =>
      rw [if_neg ht]
      have hshut := closed_of_not_startRefused h
      split
      next => exact enterUnlocking_keeps (by rw [hst]; rfl) (by simp [hst]) hshut
      next => exact motionStart_keeps (.inl rfl) (by rw [hst]; rfl) (by simp [hst]) hshut
  next => simp at h

/-! ## Inputs and timers -/

theorem updateGroup_keeps (f : Group → Group) (hs : (f m.group).state = m.group.state)
    (hc : (f m.group).cause = m.group.cause) (hp : (f m.group).pendingLower = m.group.pendingLower) :
    LeafKeeps shut m (m.updateGroup f) :=
  .of_outputs hs hc hp (fun _ => ⟨rfl, rfl, rfl⟩) (fun _ => rfl) rfl

theorem emergencyStop_keeps (active : Bool) (m : LeafMotion) : LeafKeeps shut m (m.emergencyStop active) := by
  simp only [LeafMotion.emergencyStop]
  refine (updateGroup_keeps (fun g => { g with emergencyStop := active }) rfl rfl rfl).trans ?_
  split
  next => exact trip_keeps _ _
  next => exact .refl _

theorem zoneChange_keeps (became any : Bool) (m : LeafMotion) : LeafKeeps shut m (m.zoneChange became any) := by
  simp only [LeafMotion.zoneChange]
  refine (updateGroup_keeps (fun g => { g with spanOccupied := any }) rfl rfl rfl).trans ?_
  generalize m.updateGroup (fun g => { g with spanOccupied := any }) = n
  split
  next =>
    cases hst : n.group.state <;> simp only
    case raising | settling | lowering | seating => exact beginStop_keeps (by rw [hst]; rfl) (by simp)
    case stopping => exact stopTakes_keeps hst
    all_goals exact .refl n
  next => exact .refl n

theorem switched_command (switch : LockSwitch) (made : Bool) (l : Lock) : (l.switched switch made).command = l.command := by
  unfold Lock.switched
  cases switch <;> simp only <;> split_ifs <;> rfl

theorem lockMoved_keeps (lock : LockId) (was now : LockState) (m : LeafMotion) :
    LeafKeeps shut m (m.lockMoved lock was now) := by
  unfold LeafMotion.lockMoved
  cases hst : m.group.state <;> simp only
  case unlocking =>
    split
    next => exact trip_keeps _ _
    next => exact finishUnlocking_keeps hst
  case locking =>
    split
    next => exact trip_keeps _ _
    next => exact finishLocking_keeps hst
  case stowed =>
    split
    next =>
      refine .of_outputs rfl rfl rfl (fun _ => ⟨rfl, rfl, rfl⟩) (fun k => ?_) rfl
      cases lock <;> cases k <;> rfl
    next => exact .refl m
  case inactive | tripped | halted => exact .refl m
  all_goals
    split
    next => exact trip_keeps _ _
    next => exact .refl m

theorem setSwitched_keeps (lock : LockId) (switch : LockSwitch) (made : Bool) (m : LeafMotion) :
    LeafKeeps shut m { m with locks := m.locks.set lock ((m.locks.get lock).switched switch made) } := by
  refine .of_outputs rfl rfl rfl (fun _ => ⟨rfl, rfl, rfl⟩) (fun k => ?_) rfl
  by_cases hk : k = lock
  · subst hk; simp [switched_command]
  · simp [PerLock.get_set_ne _ _ _ _ hk]

theorem lockSwitch_keeps (lock : LockId) (switch : LockSwitch) (made : Bool) (m : LeafMotion) :
    LeafKeeps shut m (m.lockSwitch lock switch made) :=
  (setSwitched_keeps lock switch made m).trans (lockMoved_keeps lock _ _ _)

theorem settleComplete_keeps (m : LeafMotion) : LeafKeeps shut m (settleComplete m) := by
  unfold settleComplete
  split
  next hst =>
    exact enter_resting_keeps_of rfl (by decide) (fun h => h.1.locksIdle (by simp [hst]))
      fun h => ⟨h.cause_none (by simp [hst]), h.pendingLower_clear (by simp [hst])⟩
  next => exact .refl m

theorem seatComplete_keeps (m : LeafMotion) : LeafKeeps shut m (seatComplete m) := by
  unfold seatComplete
  split
  next hst =>
    exact enterLocking_keeps_of fun h => ⟨h.cause_none (by simp [hst]), h.pendingLower_clear (by simp [hst])⟩
  next => exact .refl m

theorem restTimeout_keeps (m : LeafMotion) : LeafKeeps shut m (restTimeout m) := by
  unfold restTimeout
  split
  next => exact trip_keeps _ m
  next => exact .refl m

theorem lockTimeout_keeps (lock : LockId) (m : LeafMotion) : LeafKeeps shut m (lockTimeout lock m) := by
  unfold lockTimeout
  split
  next => exact trip_keeps _ m
  next => exact .refl m

theorem resetTripped_keeps (hst : m.group.state = .tripped) : LeafKeeps shut m (resetTripped m) := by
  rw [resetTripped_eq]
  refine .of_resting rfl fun h => leafSound_of_resting rfl (by simp) ?_ ?_ rfl (h.pendingLower_clear (by simp [hst]))
  · exact h.1.brakesSet (by simp [hst, GroupState.profileRuns])
  · exact h.1.locksIdle (by simp [hst])

theorem evaluate_state (c : Configured) (counts : PerDrive (BitVec 24)) (m : LeafMotion) :
    (m.evaluate c counts).group.state = .stowed ∨ (m.evaluate c counts).group.state = .halted := by
  simp only [LeafMotion.evaluate, LeafMotion.enter, LeafMotion.updateGroup]
  split <;> simp

theorem evaluate_resting (c : Configured) (counts : PerDrive (BitVec 24)) (m : LeafMotion) :
    (m.evaluate c counts).group.state.resting = true := by
  rcases evaluate_state c counts m with h | h <;> rw [h] <;> rfl

theorem evaluate_keeps (c : Configured) (counts : PerDrive (BitVec 24)) (m : LeafMotion) :
    LeafKeeps shut m (m.evaluate c counts) := by
  refine .of_resting (evaluate_resting c counts m) fun _ =>
    leafSound_of_resting (evaluate_resting c counts m) ?_ (setBrakes_brakesSet _) (fun k => ?_) rfl rfl
  · rcases evaluate_state c counts m with h | h <;> rw [h] <;> decide
  · simp [LeafMotion.evaluate, LeafMotion.enter, LeafMotion.updateGroup, Lock.uncommanded]

theorem tickLocks_keeps (limit : Nat) (m : LeafMotion) : LeafKeeps shut m (tickLocks limit m) :=
  .of_outputs rfl rfl rfl (fun _ => ⟨rfl, rfl, rfl⟩) (fun k => by simp [tickLocks]) rfl

/-! ## The control period (R62) -/

/-- The leaf records without the lower that a stop has left pending in HALTED (R99). -/
def dropWaitingLower (m : LeafMotion) : LeafMotion :=
  if m.group.state = .halted ∧ m.group.pendingLower = true then
    m.updateGroup (fun g => { g with pendingLower := false })
  else m

section

variable (m : LeafMotion)

@[simp] theorem dropWaitingLower_state : (dropWaitingLower m).group.state = m.group.state := by
  unfold dropWaitingLower; split <;> rfl

@[simp] theorem dropWaitingLower_cause : (dropWaitingLower m).group.cause = m.group.cause := by
  unfold dropWaitingLower; split <;> rfl

@[simp] theorem dropWaitingLower_drives : (dropWaitingLower m).drives = m.drives := by
  unfold dropWaitingLower; split <;> rfl

@[simp] theorem dropWaitingLower_locks : (dropWaitingLower m).locks = m.locks := by
  unfold dropWaitingLower; split <;> rfl

theorem dropWaitingLower_pendingLower (h : m.group.state = .halted) : (dropWaitingLower m).group.pendingLower = false := by
  unfold dropWaitingLower
  split
  next => rfl
  next hp => simpa [h] using hp

end

theorem dropWaitingLower_keeps (m : LeafMotion) : LeafKeeps shut m (dropWaitingLower m) where
  sound := fun h => by
    rw [dropWaitingLower, if_neg]
    · exact h
    · rintro ⟨hs, hp⟩
      simp [h.pendingLower_clear (by simp [hs])] at hp
  moving := by
    simp only [LeafMotion.moving, dropWaitingLower_state]
    exact .inl

theorem formAngles_keeps (c : Configured) (counts : PerDrive (BitVec 24)) (m : LeafMotion) :
    LeafKeeps shut m (m.formAngles c counts) :=
  .of_outputs rfl rfl rfl (fun d => by cases d <;> exact ⟨rfl, rfl, rfl⟩) (fun _ => rfl) rfl

theorem formWarnings_keeps (c : Configured) (m : LeafMotion) : LeafKeeps shut m (m.formWarnings c) :=
  .of_outputs rfl rfl rfl (fun _ => ⟨rfl, rfl, rfl⟩) (fun _ => rfl) rfl

theorem superviseAngles_keeps (c : Configured) (pick : Nat) (m : LeafMotion) :
    LeafKeeps shut m (m.superviseAngles c pick) := by
  simp only [LeafMotion.superviseAngles]
  split
  next => exact .refl m
  split
  next => exact trip_keeps _ m
  cases hst : m.group.state <;> simp only
  case raising | settling | lowering | seating => exact beginStop_keeps (by rw [hst]; rfl) (by simp)
  case stopping => exact stopTakes_keeps hst
  case unlocking | heldOpen | locking => exact trip_keeps _ m
  all_goals exact .refl m

theorem advance_keeps (c : Configured) (m : LeafMotion) : LeafKeeps shut m (m.advance c) := by
  unfold LeafMotion.advance
  split
  next => exact updateGroup_keeps _ rfl rfl rfl
  next => exact .refl m

/-- The drives' outputs of a period in which the profile runs are free, and in any other they are 0 (R76). -/
theorem drive_keeps (c : Configured) (positive : Bool) (m : LeafMotion) : LeafKeeps shut m (m.drive c positive) := by
  unfold LeafMotion.drive
  split
  next hrun =>
    refine ⟨fun h => ⟨⟨fun d => ?_, fun hn => ?_, h.1.2.2⟩, h.2⟩, .inl⟩
    · simpa [driveWith] using h.1.1 d
    · simp [hrun] at hn
  next =>
    refine ⟨fun h => ⟨⟨fun d => ?_, fun _ d => ?_, h.1.2.2⟩, h.2⟩, .inl⟩
    · simpa [driveIdle] using h.1.1 d
    · simp [driveIdle]

/-- The seated flags bear on the lock commands in LOCKING alone (R89). -/
theorem formSeated_keeps (c : Configured) (hst : m.group.state ≠ .locking) : LeafKeeps shut m (m.formSeated c) where
  sound := fun h => by
    refine ⟨⟨h.1.1, h.1.2.1, fun k => ?_⟩, h.2⟩
    have hk := h.1.2.2 k
    cases hs : m.group.state <;> simp_all [LeafMotion.formSeated]
  moving := .inl

theorem endStop_keeps (hst : m.group.state = .stopping) : LeafKeeps shut m (dropWaitingLower m.endStop) := by
  unfold LeafMotion.endStop
  cases hc : m.group.cause with
  | none =>
    refine .of_resting (by rw [dropWaitingLower_state]; rfl) fun h => ?_
    have hidle := h.1.locksIdle (by simp [hst])
    refine leafSound_of_resting (by rw [dropWaitingLower_state]; rfl) (by rw [dropWaitingLower_state]; simp [LeafMotion.enter, LeafMotion.updateGroup])
      (by rw [brakesSet, dropWaitingLower_drives]; exact setBrakes_brakesSet m)
      (by rw [locksIdle, dropWaitingLower_locks]; exact hidle) (by rw [dropWaitingLower_cause]; exact hc)
      (dropWaitingLower_pendingLower _ rfl)
  | some cause =>
    refine .of_resting (by rw [dropWaitingLower_state]; rfl) fun h => ?_
    have hp : m.group.pendingLower = false := by
      have hpending := h.2.2.2
      cases hp : m.group.pendingLower <;> simp_all
    have hdrop : dropWaitingLower ((m.setBrakes.clearCounts).enter .tripped) = (m.setBrakes.clearCounts).enter .tripped := by
      simp [dropWaitingLower, LeafMotion.enter, LeafMotion.updateGroup]
    simp only [Option.isSome_some, if_true, hdrop]
    refine ⟨leafTable_of_resting rfl (setBrakes_brakesSet m) (h.1.locksIdle (by simp [hst])), ?_⟩
    simp [causeTable, LeafMotion.enter, LeafMotion.updateGroup, LeafMotion.clearCounts, LeafMotion.setBrakes, hc, hp]

/-- Leaf records `n` in LOCKING in which the tail locks are driven, and the centre lock as the seated flags say. -/
theorem locking_keeps_of (hn : n.group.state = .locking)
    (hfacts : leafSound m → brakesSet n ∧ n.group.cause = none ∧ n.group.pendingLower = false)
    (htail : leafSound m → ∀ k, k ≠ .centre → (n.locks.get k).command = some .drive)
    (hcentre : leafSound m → n.locks.centre.command = if bothSeated n then some .drive else none) : LeafKeeps shut m n := by
  refine ⟨fun h => leafSound_of_locking hn (hfacts h).1 (fun k => ?_) (hfacts h).2.1 (hfacts h).2.2,
    fun h => absurd h (not_moving_locking hn)⟩
  by_cases hk : k = .centre
  · subst hk
    have hc := hcentre h
    cases hb : bothSeated n <;> simp_all [PerLock.get]
  · simpa [hk] using htail h k hk

/-- In LOCKING the centre lock's command comes to stand as the seated flags of the period say (R89). -/
theorem trackCentre_keeps_of (hn : n.group.state = .locking)
    (hfacts : leafSound m → brakesSet n ∧ n.group.cause = none ∧ n.group.pendingLower = false)
    (htail : leafSound m → ∀ k, k ≠ .centre → (n.locks.get k).command = some .drive)
    (hcentre : leafSound m → n.locks.centre.command = none ∨ n.locks.centre.command = some .drive) :
    LeafKeeps shut m n.trackCentre := by
  have htail' (c : Lock) (h : leafSound m) (k : LockId) (hk : k ≠ .centre) :
      (({ n.locks with centre := c } : PerLock Lock).get k).command = some .drive := by
    have := htail h k hk
    cases k <;> simp_all [PerLock.get]
  simp only [LeafMotion.trackCentre]
  by_cases hb : bothSeated n = true <;> by_cases hc : n.locks.centre.command = none <;>
    simp only [hb, hc, if_true, if_false, Bool.false_eq_true]
  · refine finishLocking_keeps_of (locking_keeps_of hn hfacts (htail' _) fun _ => ?_) fun h => hfacts h
    simpa [bothSeated] using hb
  · exact locking_keeps_of hn hfacts htail fun h => by simpa [hb] using (hcentre h).resolve_left hc
  · exact locking_keeps_of hn hfacts htail fun h => by simpa [hb] using hc
  · refine locking_keeps_of hn hfacts (htail' _) fun _ => ?_
    simpa [bothSeated, Lock.heldBack] using hb

theorem trackCentre_keeps (c : Configured) (hst : m.group.state = .locking) :
    LeafKeeps shut m (m.formSeated c).trackCentre := by
  refine trackCentre_keeps_of (n := m.formSeated c) hst (fun h => ?facts) (fun h k hk => ?tail) (fun h => ?centre)
  case facts =>
    exact ⟨h.1.brakesSet (by rw [hst]; rfl), h.cause_none (by simp [hst]), h.pendingLower_clear (by simp [hst])⟩
  case tail =>
    exact (h.1.locking_command hst k).trans (by simp [hk])
  case centre =>
    have hcommand := h.1.locking_command hst .centre
    cases hb : bothSeated m
    · exact .inl (hcommand.trans (by simp [hb]))
    · exact .inr (hcommand.trans (by simp [hb]))

theorem superviseMotion_keeps (c : Configured) (hst : m.group.state ≠ .locking) :
    LeafKeeps shut m (dropWaitingLower (m.superviseMotion c)) := by
  unfold LeafMotion.superviseMotion
  cases hs : m.group.state <;> simp only
  case stopping =>
    split
    next => exact endStop_keeps hs
    next => exact dropWaitingLower_keeps m
  all_goals refine .trans ?_ (dropWaitingLower_keeps _)
  case raising | lowering =>
    split
    next => exact enter_moving_keeps (by rw [hs]; rfl) (by simp [hs]) rfl rfl rfl rfl rfl
    next => exact .refl m
  case settling =>
    generalize (if withinSettle c m = true then m.group.settleCount + 1 else 0) = settle
    split
    next =>
      exact enter_resting_keeps_of rfl (by decide) (fun h => h.1.locksIdle (by simp [hs]))
        fun h => ⟨h.cause_none (by simp [hs]), h.pendingLower_clear (by simp [hs])⟩
    next =>
      split
      next => exact trip_keeps _ m
      next => exact updateGroup_keeps _ rfl rfl rfl
  case seating =>
    generalize (if bothSeated m = true then m.group.seatCount + 1 else 0) = seat
    split
    next => exact enterLocking_keeps_of fun h => ⟨h.cause_none (by simp [hs]), h.pendingLower_clear (by simp [hs])⟩
    next =>
      split
      next => exact trip_keeps _ m
      next => exact updateGroup_keeps _ rfl rfl rfl
  case locking => exact absurd hs hst
  all_goals exact .refl m

theorem superviseStep_keeps (c : Configured) (m : LeafMotion) :
    LeafKeeps shut m (dropWaitingLower (m.superviseStep c)) := by
  simp only [LeafMotion.superviseStep]
  by_cases hst : m.group.state = .locking
  · have hs : (m.formSeated c).group.state = .locking := hst
    rw [if_neg (by simp [followingTrips, hs, GroupState.profileRuns])]
    simp only [LeafMotion.superviseMotion, hs]
    exact (trackCentre_keeps c hst).trans (dropWaitingLower_keeps _)
  · refine (formSeated_keeps c hst).trans ?_
    split
    next => exact (trip_keeps _ _).trans (dropWaitingLower_keeps _)
    next => exact superviseMotion_keeps c hst

/-- A control period keeps the leaf records sound but for the lower that the end of a stop leaves pending (R62, R99). -/
theorem period_keeps (c : Configured) (counts : PerDrive (BitVec 24)) (pick : Nat) (m : LeafMotion) :
    LeafKeeps shut m (dropWaitingLower (m.period c counts pick)) :=
  (formAngles_keeps c counts m).trans <| (formWarnings_keeps c _).trans <| (superviseAngles_keeps c pick _).trans <|
    (advance_keeps c _).trans <| (drive_keeps c _ _).trans <| superviseStep_keeps c _

end Sys2Proof.Machine

/-!
What the heads show after a walk, a derived demand and a change of health (R59, R165 to R171), head by head.
-/

namespace Sys2Proof.Machine

open Sys2Proof

/-! ## One walk -/

@[simp] theorem giveDemands_functions (g : FunctionId → Option ChannelDemand) (u : LampUnit) :
    (giveDemands g u).functions = u.functions := rfl

/-- A head's health is read from the function records alone. -/
theorem headHealth_congr {u v : LampUnit} (h : v.functions = u.functions) (d : Direction) : headHealth v d = headHealth u d := by
  cases d <;> simp [headHealth, functionHealthy, h]

@[simp] theorem headHealth_giveDemands (g : FunctionId → Option ChannelDemand) (u : LampUnit) (d : Direction) :
    headHealth (giveDemands g u) d = headHealth u d :=
  headHealth_congr rfl d

/-- What a walk of the head comes to show (R166). -/
def walked (d : Direction) (s : State) : Shown := walk (s.display.heads.get d).demanded (headHealth s.lamp d)

/-- The head record after its walk (R166, R170). -/
def walkedHead (d : Direction) (s : State) : Head where
  demanded := (s.display.heads.get d).demanded
  displayed := (walked d s).aspect
  singleRed := (walked d s).singleRed
  darkCondition := (walked d s).aspect == .dark && (s.display.heads.get d).demanded != .dark

theorem walkHead_display (d : Direction) (s : State) :
    (walkHead d s).display = { s.display with heads := s.display.heads.set d (walkedHead d s) } := by
  simp only [walkHead]
  split_ifs <;> simp [handDark, walkedHead, walked]

@[simp] theorem walkHead_head (d : Direction) (s : State) : (walkHead d s).display.heads.get d = walkedHead d s := by
  simp [walkHead_display]

theorem walkHead_head_ne {d e : Direction} (h : e ≠ d) (s : State) :
    (walkHead d s).display.heads.get e = s.display.heads.get e := by
  simp [walkHead_display, PerHead.get_set_ne _ _ _ _ h]

@[simp] theorem walkHead_road (d : Direction) (s : State) : (walkHead d s).display.road = s.display.road := by
  simp [walkHead_display]

theorem walkHead_shown (d : Direction) (s : State) :
    (walkHead d s).seq.shown =
      if (s.display.heads.get d).displayed = (walked d s).aspect ∧ (s.display.heads.get d).singleRed = (walked d s).singleRed
      then s.seq.shown else s.seq.shown.set d (walked d s) := by
  simp only [walkHead, walked]
  split_ifs <;> simp [handDark, *]

theorem walkHead_sup_dark (d : Direction) (s : State) :
    (walkHead d s).sup.dark =
      if (s.display.heads.get d).darkCondition = (walkedHead d s).darkCondition then s.sup.dark
      else s.sup.dark.set d (walkedHead d s).darkCondition := by
  simp only [walkHead, walkedHead, walked]
  split_ifs <;> simp [handDark, *]

@[simp] theorem walkHead_functions (d : Direction) (s : State) : (walkHead d s).lamp.functions = s.lamp.functions := by
  simp only [walkHead]
  split_ifs <;> simp [handDark]

@[simp] theorem headHealth_walkHead (d e : Direction) (s : State) :
    headHealth (walkHead d s).lamp e = headHealth s.lamp e :=
  headHealth_congr (walkHead_functions d s) e

/-! ## Heads that agree with the sequencer and the supervisor -/

/-- The head record, its displayed aspect and the sequencer's copy are those of its demand and its health (R166, R171). -/
def headShows (d : Direction) (s : State) : Prop :=
  (s.display.heads.get d).demanded = s.seq.demand.get d
    ∧ s.seq.shown.get d = walk (s.seq.demand.get d) (headHealth s.lamp d)
    ∧ (s.display.heads.get d).displayed = (s.seq.shown.get d).aspect
    ∧ (s.display.heads.get d).singleRed = (s.seq.shown.get d).singleRed

/-- The head's dark condition stands exactly while it should show an aspect and shows none, and the supervisor knows it
(R170, R181). -/
def darkKnown (d : Direction) (s : State) : Prop :=
  s.sup.dark.get d = (s.display.heads.get d).darkCondition
    ∧ ((s.display.heads.get d).darkCondition = true ↔
        (s.display.heads.get d).displayed = .dark ∧ (s.display.heads.get d).demanded ≠ .dark)

/-- The sequencer's copy is that of the head's displayed aspect (R171). -/
def shownKnown (d : Direction) (s : State) : Prop :=
  (s.display.heads.get d).displayed = (s.seq.shown.get d).aspect
    ∧ (s.display.heads.get d).singleRed = (s.seq.shown.get d).singleRed

/-- What `headShows` reads. -/
theorem headShows_congr {s t : State} {d : Direction} (hh : t.display.heads.get d = s.display.heads.get d)
    (hd : t.seq.demand.get d = s.seq.demand.get d) (hs : t.seq.shown.get d = s.seq.shown.get d)
    (hl : headHealth t.lamp d = headHealth s.lamp d) : headShows d t ↔ headShows d s := by
  simp only [headShows, hh, hd, hs, hl]

theorem darkKnown_congr {s t : State} {d : Direction} (hh : t.display.heads.get d = s.display.heads.get d)
    (hd : t.sup.dark.get d = s.sup.dark.get d) : darkKnown d t ↔ darkKnown d s := by
  simp only [darkKnown, hh, hd]

/-- After its walk a head whose copy was right shows what its demand and its health call for. -/
theorem headShows_walkHead {d : Direction} {s : State} (hk : shownKnown d s)
    (hd : (s.display.heads.get d).demanded = s.seq.demand.get d) : headShows d (walkHead d s) := by
  have hshown : (walkHead d s).seq.shown.get d = walked d s := by
    rw [walkHead_shown]
    split_ifs with hsame
    · rw [hk.1, hk.2] at hsame
      calc s.seq.shown.get d = ⟨(s.seq.shown.get d).aspect, (s.seq.shown.get d).singleRed⟩ := rfl
        _ = walked d s := by rw [hsame.1, hsame.2]
    · simp
  refine ⟨by simp [walkedHead, hd], ?_, by simp [walkedHead, hshown], by simp [walkedHead, hshown]⟩
  simp [hshown, walked, hd]

theorem headShows_walkHead_ne {d e : Direction} {s : State} (h : e ≠ d) : headShows e (walkHead d s) ↔ headShows e s := by
  refine headShows_congr (walkHead_head_ne h s) (by simp) ?_ (by simp)
  rw [walkHead_shown]
  split_ifs <;> simp [PerHead.get_set_ne _ _ _ _ h]

theorem darkKnown_walkHead {d : Direction} {s : State} (hk : s.sup.dark.get d = (s.display.heads.get d).darkCondition) :
    darkKnown d (walkHead d s) := by
  refine ⟨?_, by simp [walkedHead]⟩
  rw [walkHead_sup_dark, walkHead_head]
  split_ifs with hsame
  · exact hk.trans hsame
  · simp

theorem darkKnown_walkHead_ne {d e : Direction} {s : State} (h : e ≠ d) : darkKnown e (walkHead d s) ↔ darkKnown e s := by
  refine darkKnown_congr (walkHead_head_ne h s) ?_
  rw [walkHead_sup_dark]
  split_ifs <;> simp [PerHead.get_set_ne _ _ _ _ h]

/-! ## A derived demand (R59) -/

/-- The state in which a changed demand is walked. -/
def demandHanded (d : Direction) (s : State) : State :=
  (s.withSeq { s.seq with demand := s.seq.demand.set d (demandFor d s) }).withDisplay
    { s.display with heads := s.display.heads.set d { s.display.heads.get d with demanded := demandFor d s } }

theorem deriveDemand_eq (d : Direction) (s : State) :
    deriveDemand d s = if s.seq.demand.get d = demandFor d s then s else walkHead d (demandHanded d s) := by
  unfold deriveDemand handAspect demandHanded
  rfl

theorem headShows_deriveDemand {d : Direction} {s : State} (h : ∀ e, headShows e s) (e : Direction) :
    headShows e (deriveDemand d s) := by
  rw [deriveDemand_eq]
  split_ifs with hsame
  · exact h e
  · by_cases he : e = d
    · subst he
      obtain ⟨_, _, haspect, hred⟩ := h e
      exact headShows_walkHead (by simpa [shownKnown, demandHanded] using ⟨haspect, hred⟩) (by simp [demandHanded])
    · rw [headShows_walkHead_ne he]
      refine (headShows_congr (s := s) (t := demandHanded d s) ?_ ?_ rfl rfl).mpr (h e) <;> simp [demandHanded, PerHead.get_set_ne _ _ _ _ he]

theorem darkKnown_deriveDemand {d : Direction} {s : State} (h : ∀ e, darkKnown e s) (e : Direction) :
    darkKnown e (deriveDemand d s) := by
  rw [deriveDemand_eq]
  split_ifs with hsame
  · exact h e
  · by_cases he : e = d
    · subst he
      exact darkKnown_walkHead (by simpa [demandHanded] using (h e).1)
    · rw [darkKnown_walkHead_ne he]
      refine (darkKnown_congr (s := s) (t := demandHanded d s) ?_ rfl).mpr (h e)
      simp [demandHanded, PerHead.get_set_ne _ _ _ _ he]

@[simp] theorem deriveDemand_road (d : Direction) (s : State) : (deriveDemand d s).display.road = s.display.road := by
  rw [deriveDemand_eq]
  split_ifs
  · rfl
  · simp [demandHanded]

@[simp] theorem deriveDemand_functions (d : Direction) (s : State) :
    (deriveDemand d s).lamp.functions = s.lamp.functions := by
  rw [deriveDemand_eq]
  split_ifs
  · rfl
  · simp [demandHanded]

/-! ## Health derived again (R154, R167) -/

/-- The state with its lamp unit's health derived again, before any head walks (R154). -/
def healthDerived (s : State) : State :=
  let u := { s.lamp with functions := derivedFunctions s.lamp }
  let s' := s.withLamp u
  if s.closure.state = .prewarnRed then
    s'.withClosure { s.closure with
      redSeen := ((changedFunctions s.lamp u).filter (fun f => !functionHealthy f u)).foldl (fun r f => clearRedSeen f r)
        s.closure.redSeen }
  else s'

/-- Whether the health of some function of the head changes (R167). -/
def headChanges (d : Direction) (s : State) : Bool :=
  (changedFunctions s.lamp { s.lamp with functions := derivedFunctions s.lamp }).any (fun f => headOfFunction f == some d)

/-- The head walked, where the condition holds. -/
def walkHeadIf (b : Bool) (d : Direction) (s : State) : State := if b then walkHead d s else s

theorem rederiveHealth_eq (s : State) :
    rederiveHealth s =
      walkHeadIf (headChanges .landward s) .landward (walkHeadIf (headChanges .seaward s) .seaward (healthDerived s)) := by
  rfl

@[simp] theorem healthDerived_lamp (s : State) :
    (healthDerived s).lamp = { s.lamp with functions := derivedFunctions s.lamp } := by
  simp only [healthDerived]; split <;> simp

@[simp] theorem healthDerived_display (s : State) : (healthDerived s).display = s.display := by
  simp only [healthDerived]; split <;> simp

@[simp] theorem healthDerived_seq (s : State) : (healthDerived s).seq = s.seq := by
  simp only [healthDerived]; split <;> simp

@[simp] theorem healthDerived_sup (s : State) : (healthDerived s).sup = s.sup := by
  simp only [healthDerived]; split <;> simp

theorem mem_allFunctions (f : FunctionId) : f ∈ allFunctions := by
  cases f <;> decide

/-- A function is among the changed ones exactly when its health differs (R154). -/
theorem mem_changedFunctions (old new : LampUnit) (f : FunctionId) :
    f ∈ changedFunctions old new ↔ functionHealthy f old ≠ functionHealthy f new := by
  simp [changedFunctions, mem_allFunctions]

/-- A head none of whose functions changes keeps its health. -/
theorem headHealth_of_not_headChanges {d : Direction} {s : State} (h : headChanges d s = false) :
    headHealth (healthDerived s).lamp d = headHealth s.lamp d := by
  rw [healthDerived_lamp]
  unfold headChanges at h
  generalize ({ s.lamp with functions := derivedFunctions s.lamp } : LampUnit) = u at h ⊢
  have hsame (f : FunctionId) (hf : headOfFunction f = some d) : functionHealthy f u = functionHealthy f s.lamp := by
    by_contra hne
    have hmem := (mem_changedFunctions s.lamp u f).mpr (Ne.symm hne)
    exact List.any_eq_false.mp h f hmem (by simp [hf])
  cases d <;> simp only [headHealth] <;> congr 1 <;> exact hsame _ rfl

theorem headShows_walkHeadIf_ne {b : Bool} {d e : Direction} {s : State} (h : e ≠ d) :
    headShows e (walkHeadIf b d s) ↔ headShows e s := by
  cases b
  · exact Iff.rfl
  · exact headShows_walkHead_ne h

theorem darkKnown_walkHeadIf_ne {b : Bool} {d e : Direction} {s : State} (h : e ≠ d) :
    darkKnown e (walkHeadIf b d s) ↔ darkKnown e s := by
  cases b
  · exact Iff.rfl
  · exact darkKnown_walkHead_ne h

/-- A head whose walk follows a change of its health, from a state that has the head and its copy as they were. -/
theorem headShows_walkHeadIf_derived {d : Direction} {s t : State} (h : headShows d s)
    (hh : t.display.heads.get d = s.display.heads.get d) (hd : t.seq.demand.get d = s.seq.demand.get d)
    (hs : t.seq.shown.get d = s.seq.shown.get d) (hl : headHealth t.lamp d = headHealth (healthDerived s).lamp d) :
    headShows d (walkHeadIf (headChanges d s) d t) := by
  cases hc : headChanges d s
  · exact (headShows_congr hh hd hs (hl.trans (headHealth_of_not_headChanges hc))).mpr h
  · obtain ⟨hdemanded, _, haspect, hred⟩ := h
    exact headShows_walkHead ⟨by rw [hh, hs, haspect], by rw [hh, hs, hred]⟩ (by rw [hh, hd, hdemanded])

theorem walkHeadIf_others {b : Bool} {d e : Direction} (h : e ≠ d) (s : State) :
    (walkHeadIf b d s).display.heads.get e = s.display.heads.get e
      ∧ (walkHeadIf b d s).seq.demand.get e = s.seq.demand.get e
      ∧ (walkHeadIf b d s).seq.shown.get e = s.seq.shown.get e
      ∧ headHealth (walkHeadIf b d s).lamp e = headHealth s.lamp e := by
  cases b
  · exact ⟨rfl, rfl, rfl, rfl⟩
  · refine ⟨walkHead_head_ne h s, congrArg (·.get e) (walkHead_seq_demand d s), ?_, headHealth_walkHead d e s⟩
    simp only [walkHeadIf, if_true, walkHead_shown]
    split
    · rfl
    · exact PerHead.get_set_ne _ _ _ _ h

theorem headShows_rederiveHealth {s : State} (h : ∀ e, headShows e s) (e : Direction) : headShows e (rederiveHealth s) := by
  rw [rederiveHealth_eq]
  cases e
  · rw [headShows_walkHeadIf_ne (by decide)]
    exact headShows_walkHeadIf_derived (h .seaward) (by rw [healthDerived_display]) (by rw [healthDerived_seq])
      (by rw [healthDerived_seq]) rfl
  · obtain ⟨hh, hd, hs, hl⟩ := walkHeadIf_others (b := headChanges .seaward s) (d := .seaward) (e := .landward) (by decide)
      (healthDerived s)
    exact headShows_walkHeadIf_derived (h .landward) (by rw [hh, healthDerived_display]) (by rw [hd, healthDerived_seq])
      (by rw [hs, healthDerived_seq]) hl

theorem darkKnown_walkHeadIf {b : Bool} {d : Direction} {s : State} (h : darkKnown d s) : darkKnown d (walkHeadIf b d s) := by
  cases b
  · exact h
  · exact darkKnown_walkHead h.1

theorem darkKnown_rederiveHealth {s : State} (h : ∀ e, darkKnown e s) (e : Direction) : darkKnown e (rederiveHealth s) := by
  have hbase : darkKnown e (healthDerived s) := (darkKnown_congr (by simp) (by simp)).mpr (h e)
  rw [rederiveHealth_eq]
  cases e
  · rw [darkKnown_walkHeadIf_ne (by decide)]
    exact darkKnown_walkHeadIf hbase
  · exact darkKnown_walkHeadIf ((darkKnown_walkHeadIf_ne (by decide)).mpr hbase)

@[simp] theorem rederiveHealth_road (s : State) : (rederiveHealth s).display.road = s.display.road := by
  rw [rederiveHealth_eq]
  cases headChanges .landward s <;> cases headChanges .seaward s <;> simp [walkHeadIf]

end Sys2Proof.Machine

/-!
What an operation on the state keeps of the conditions that no step breaks: said once for each operation that the blocks
share, so that each command's proof is the chain of its operations.
-/

namespace Sys2Proof.Machine

open Sys2Proof

/-! ## The conditions -/

/-- `listTable` but for what it says of SETUP (R28, R29, R55). -/
structure recordsFit (s : State) : Prop where
  listed : ∀ p ∈ s.reg.records, isActive p = true → p.number ∈ admittedList s
  named : ∀ n ∈ admittedList s, ∃ p ∈ s.reg.records,
    p.number = n ∧ (p.state = .admitted ∨ p.state = .cleared ∨ p.state = .completed)
  short : (admittedList s).length ≤ Config.admittedListSize
  nodup : (admittedList s).Nodup
  ended : ∀ o, s.seq.opening = some o → (o.state = .lowering ∨ o.state = .reopeningRoad ∨ o.state = .recoveryWait) →
    ∀ p ∈ s.reg.records, isActive p = false
  recovery : ∀ o, s.seq.opening = some o → o.recovery = true → o.list = []

/-- In SETUP there is neither record nor opening, and the first scan runs in SETUP alone (R1, R60). -/
def setupEmpty (s : State) : Prop :=
  (s.sup.mode = .setup → s.reg.records = [] ∧ s.seq.opening = none) ∧ (s.loop.firstScan = true → s.sup.mode = .setup)

theorem listTable_iff (s : State) : listTable s ↔ recordsFit s ∧ setupEmpty s := by
  constructor
  · rintro ⟨h1, h2, h3, h4, h5, h6, h7, h8⟩
    exact ⟨⟨h1, h2, h3, h4, h5, h6⟩, h7, h8⟩
  · rintro ⟨⟨h1, h2, h3, h4, h5, h6⟩, h7, h8⟩
    exact ⟨h1, h2, h3, h4, h5, h6, h7, h8⟩

/-- A link's machinery without its attention record. -/
def LinkPort.core (p : LinkPort) : LinkPort := { p with attention := .reset }

/-- The road lights are those of the closure state (R126). -/
def lightsAgree (s : State) : Prop := s.display.road = roadLightOf s.closure.state

theorem displayTable_iff (s : State) :
    displayTable s ↔ demandsStand s ∧ lightsAgree s ∧ ∀ d, headShows d s :=
  Iff.rfl

theorem supervisorTable_iff (s : State) :
    supervisorTable s ↔
      (s.sup.groupTripped = true ↔ s.leaf.group.state = .tripped)
        ∧ (s.sup.closureHeld = true ↔ s.closure.state = .closureHeld) ∧ (∀ d, darkKnown d s)
        ∧ (s.sup.watchdog.isSome = true ↔ s.sup.mode = .attended) := by
  simp only [supervisorTable, darkKnown, forall_and]
  tauto

theorem roadShutWhileMoving_iff (s : State) :
    roadShutWhileMoving s ↔ (s.leaf.moving → s.closure.state = .roadClosed) :=
  Iff.rfl

/-! ## What an operation keeps -/

/-- The two events in which a condition stands broken for a while: a control period, whose stop may leave a lower pending in
HALTED (R99), and the end of the start-up evaluation (R201). -/
inductive Phase where
  | ordinary
  | period
  | startUp
  deriving DecidableEq

/-- What an operation keeps from one state to another, within an event of the given phase. -/
structure Keeps (φ : Phase) (s t : State) : Prop where
  leaf : φ ≠ .period → leafSound s.leaf → leafSound t.leaf
  road : φ ≠ .startUp → roadShutWhileMoving s → roadShutWhileMoving t
  sup : supervisorTable s → supervisorTable t
  heads : (∀ d, headShows d s) → ∀ d, headShows d t
  lights : lightsAgree s → lightsAgree t
  attention : attentionTable s → attentionTable t
  register : registerTable s.reg → registerTable t.reg
  records : registerTable s.reg → recordsFit s → recordsFit t
  setup : φ ≠ .startUp → setupEmpty s → setupEmpty t
  ports : ∀ l, (t.links.get l).core = (s.links.get l).core
  scan : t.loop.firstScan = true → s.loop.firstScan = true

/-- An operation that keeps the derived demands standing too (R59). -/
structure KeepsAll (φ : Phase) (s t : State) : Prop extends Keeps φ s t where
  demands : registerTable s.reg → demandsStand s → demandsStand t

variable {φ : Phase} {s t u : State}

theorem Keeps.refl (s : State) : Keeps φ s s :=
  ⟨fun _ => id, fun _ => id, id, id, id, id, id, fun _ => id, fun _ => id, fun _ => rfl, id⟩

theorem Keeps.trans (h : Keeps φ s t) (h' : Keeps φ t u) : Keeps φ s u where
  leaf := fun hφ => h'.leaf hφ ∘ h.leaf hφ
  road := fun hφ => h'.road hφ ∘ h.road hφ
  sup := h'.sup ∘ h.sup
  heads := h'.heads ∘ h.heads
  lights := h'.lights ∘ h.lights
  attention := h'.attention ∘ h.attention
  register := h'.register ∘ h.register
  records := fun hr => h'.records (h.register hr) ∘ h.records hr
  setup := fun hφ => h'.setup hφ ∘ h.setup hφ
  ports := fun l => (h'.ports l).trans (h.ports l)
  scan := h.scan ∘ h'.scan

theorem KeepsAll.refl (s : State) : KeepsAll φ s s := ⟨.refl s, fun _ => id⟩

theorem KeepsAll.trans (h : KeepsAll φ s t) (h' : KeepsAll φ t u) : KeepsAll φ s u :=
  ⟨h.toKeeps.trans h'.toKeeps, fun hr => h'.demands (h.register hr) ∘ h.demands hr⟩

theorem Keeps.after (h' : Keeps φ t u) (h : Keeps φ s t) : Keeps φ s u := h.trans h'

theorem KeepsAll.after (h' : KeepsAll φ t u) (h : KeepsAll φ s t) : KeepsAll φ s u := h.trans h'

/-- An operation after which the demands stand, whatever they were before. -/
theorem Keeps.all (h : Keeps φ s t) (hd : demandsStand t) : KeepsAll φ s t := ⟨h, fun _ _ => hd⟩

/-- An ordinary operation may stand in an event of any phase. -/
theorem Keeps.of_ordinary (h : Keeps .ordinary s t) : Keeps φ s t :=
  ⟨fun _ => h.leaf (by decide), fun _ => h.road (by decide), h.sup, h.heads, h.lights, h.attention, h.register, h.records,
    fun _ => h.setup (by decide), h.ports, h.scan⟩

/-- An operation on each element of a list keeps what each of its steps keeps. -/
theorem keepsAll_foldl {α : Type} {f : State → α → State} (h : ∀ t a, KeepsAll φ t (f t a)) (l : List α) (s : State) :
    KeepsAll φ s (l.foldl f s) := by
  induction l generalizing s with
  | nil => exact .refl s
  | cons a l ih => exact (h s a).trans (ih (f s a))

/-! ## Reading no more than a part -/

theorem admittedList_congr (ho : t.seq.opening = s.seq.opening) : admittedList t = admittedList s := by
  simp only [admittedList, ho]

theorem recordsFit_congr (hr : t.reg.records = s.reg.records) (ho : t.seq.opening = s.seq.opening) :
    recordsFit t ↔ recordsFit s := by
  have hl := admittedList_congr ho
  constructor <;> rintro ⟨h1, h2, h3, h4, h5, h6⟩
  · exact ⟨by rwa [hr, hl] at h1, by rwa [hr, hl] at h2, by rwa [hl] at h3, by rwa [hl] at h4, by rwa [hr, ho] at h5, by rwa [ho] at h6⟩
  · exact ⟨by rwa [hr, hl], by rwa [hr, hl], by rwa [hl], by rwa [hl], by rwa [hr, ho], by rwa [ho]⟩

theorem setupEmpty_congr (hr : t.reg.records = s.reg.records) (ho : t.seq.opening = s.seq.opening)
    (hm : t.sup.mode = s.sup.mode) (hf : t.loop.firstScan = s.loop.firstScan) : setupEmpty t ↔ setupEmpty s := by
  simp only [setupEmpty, hr, ho, hm, hf]

theorem attentionTable_congr (h : ∀ l, (t.links.get l).attention = (s.links.get l).attention) :
    attentionTable t ↔ attentionTable s := by
  have hh : t.links.harbour.attention = s.links.harbour.attention := h .harbour
  simp only [attentionTable, h, hh]

/-- What R58 reads, of the leaf records the group state alone. -/
theorem demandFor_congr_group (hm : t.sup.mode = s.sup.mode) (hc : t.cfg = s.cfg) (ho : t.seq.opening = s.seq.opening)
    (hcl : t.seq.clearance = s.seq.clearance) (hr : listedRecords t = listedRecords s)
    (hg : t.leaf.group.state = s.leaf.group.state) (d : Direction) : demandFor d t = demandFor d s := by
  have hpass (o : Opening) : passRow d o t = passRow d o s := by
    simp only [passRow, groupAdmitsPassage, hr, hcl, hg]
  have hstandBy (o : Opening) : standByRow d o t = standByRow d o s := by
    simp only [standByRow, activeIn, hr]
  unfold demandFor State.conf
  rw [hm, hc, ho]
  cases s.seq.opening with
  | none => rfl
  | some o => simp only [hpass, hstandBy]

theorem listedRecords_congr_records (ho : t.seq.opening = s.seq.opening) (hr : t.reg.records = s.reg.records) :
    listedRecords t = listedRecords s := by
  simp only [listedRecords, ho, findPassage, hr]

/-! ## Operations that touch none of the conditions -/

/-- Nothing that the conditions read differs. -/
structure Quiet (s t : State) : Prop where
  links : t.links = s.links
  records : t.reg.records = s.reg.records
  nextNumber : t.reg.nextNumber = s.reg.nextNumber
  seq : t.seq = s.seq
  leaf : t.leaf = s.leaf
  closure : t.closure.state = s.closure.state
  scan : t.loop.firstScan = s.loop.firstScan
  functions : t.lamp.functions = s.lamp.functions
  display : t.display = s.display
  mode : t.sup.mode = s.sup.mode
  watchdog : t.sup.watchdog = s.sup.watchdog
  groupTripped : t.sup.groupTripped = s.sup.groupTripped
  closureHeld : t.sup.closureHeld = s.sup.closureHeld
  dark : t.sup.dark = s.sup.dark
  cfg : t.cfg = s.cfg

theorem registerTable_congr {r q : Register} (hr : q.records = r.records) (hn : q.nextNumber = r.nextNumber) :
    registerTable q ↔ registerTable r := by
  simp only [registerTable, hr, hn]

theorem Quiet.keeps (h : Quiet s t) : KeepsAll φ s t where
  leaf := fun _ => by rw [h.leaf]; exact id
  road := fun _ => by simp only [roadShutWhileMoving, h.leaf, h.closure]; exact id
  sup := by
    simp only [supervisorTable, h.groupTripped, h.leaf, h.closureHeld, h.closure, h.dark, h.display, h.watchdog, h.mode]
    exact id
  heads := fun hs d =>
    (headShows_congr (by rw [h.display]) (by rw [h.seq]) (by rw [h.seq]) (headHealth_congr h.functions d)).mpr (hs d)
  lights := by simp only [lightsAgree, h.display, h.closure]; exact id
  attention := (attentionTable_congr fun l => by rw [h.links]).mpr
  register := (registerTable_congr h.records h.nextNumber).mpr
  records := fun _ => (recordsFit_congr h.records (by rw [h.seq])).mpr
  setup := fun _ => (setupEmpty_congr h.records (by rw [h.seq]) h.mode h.scan).mpr
  ports := fun l => by rw [h.links]
  scan := by rw [h.scan]; exact id
  demands := fun _ hd d => by
    rw [h.seq, hd d]
    exact (demandFor_congr_group h.mode h.cfg (by rw [h.seq]) (by rw [h.seq])
      (listedRecords_congr_records (by rw [h.seq]) h.records) (by rw [h.leaf]) d).symm

/-! ## The attention lines -/

/-- The causes that a block may raise on a link (R193). -/
def causeAllowed (l : Link) (c : AttentionCause) : Prop := l = .control ∨ c = .passageRecord

theorem CauseSet.add_ne_empty (x : CauseSet) (c : AttentionCause) : x.add c ≠ .empty := by
  cases c <;> simp [CauseSet.add, CauseSet.empty]

/-- Only the attention record of one link differs, and by one raised cause or by being lowered. -/
theorem keepsAll_setAttention (l : Link) (a : Attention) (s : State)
    (ha : attentionTable s → attentionTable (updatePort l (fun p => { p with attention := a }) s)) :
    KeepsAll φ s (updatePort l (fun p => { p with attention := a }) s) where
  leaf := fun _ => by rw [updatePort_leaf]; exact id
  road := fun _ => by simp [roadShutWhileMoving]
  sup := by simp [supervisorTable]
  heads := fun hs d => (headShows_congr (by simp) (by simp) (by simp) (by simp)).mpr (hs d)
  lights := by simp [lightsAgree]
  attention := ha
  register := by rw [updatePort_reg]; exact id
  records := fun _ => (recordsFit_congr (by simp) (by simp)).mpr
  setup := fun _ => (setupEmpty_congr (by simp) (by simp) (by simp) (by simp)).mpr
  ports := fun k => by
    by_cases hk : k = l
    · subst hk; simp [updatePort_get, LinkPort.core]
    · simp [updatePort, PerLink.get_set_ne _ _ _ _ hk]
  scan := by simp
  demands := fun _ hd d => by
    rw [updatePort_seq, hd d]
    exact (demandFor_congr (by constructor <;> simp) d).symm

theorem raiseAttention_keeps {l : Link} {c : AttentionCause} (hc : causeAllowed l c) (s : State) :
    KeepsAll φ s (raiseAttention l c s) := by
  refine keepsAll_setAttention l _ s fun ⟨hline, hharbour⟩ => ⟨fun k => ?_, ?_⟩
  · by_cases hk : k = l
    · subst hk; simp [updatePort_get, CauseSet.add_ne_empty]
    · simpa [updatePort, PerLink.get_set_ne _ _ _ _ hk] using hline k
  · cases l
    · simpa [updatePort, PerLink.set] using hharbour
    · obtain rfl : c = .passageRecord := hc.resolve_left (by decide)
      rcases hharbour with h | h <;> simp [updatePort, PerLink.set, PerLink.get, h, CauseSet.add, CauseSet.empty]

theorem lowerAttention_keeps (l : Link) (s : State) : KeepsAll φ s (lowerAttention l s) := by
  refine keepsAll_setAttention l _ s fun ⟨hline, hharbour⟩ => ⟨fun k => ?_, ?_⟩
  · by_cases hk : k = l
    · subst hk; simp [updatePort_get, Attention.reset]
    · simpa [updatePort, PerLink.get_set_ne _ _ _ _ hk] using hline k
  · cases l
    · simpa [updatePort, PerLink.set] using hharbour
    · simp [updatePort, PerLink.set, Attention.reset]

theorem raiseControlIf_keeps (b : Bool) (c : AttentionCause) (s : State) : KeepsAll φ s (raiseControlIf b c s) := by
  unfold raiseControlIf
  split
  · exact raiseAttention_keeps (.inl rfl) s
  · exact .refl s

/-! ## The closure state -/

section

variable (q : Bool) (st : ClosureState) (s : State)

@[simp] theorem setClosureState_closure : (setClosureState q st s).closure = { s.closure with state := st } := by
  simp only [setClosureState]; split <;> simp

@[simp] theorem handRoadLight_display (p : RoadLight) : (handRoadLight p s).display = { s.display with road := p } := by
  unfold handRoadLight
  split
  next h => rw [← h]
  next => simp

@[simp] theorem handRoadLight_functions (p : RoadLight) : (handRoadLight p s).lamp.functions = s.lamp.functions := by
  unfold handRoadLight; split <;> simp

@[simp] theorem setClosureState_display :
    (setClosureState q st s).display = { s.display with road := roadLightOf st } := by
  simp only [setClosureState]; split <;> simp

@[simp] theorem setClosureState_functions : (setClosureState q st s).lamp.functions = s.lamp.functions := by
  simp only [setClosureState]; split <;> simp

theorem setClosureState_links :
    (setClosureState q st s).links = (raiseControlIf (!q && s.closure.state != st) .closure s).links := by
  simp only [setClosureState, raiseControlIf]
  split <;> split <;> simp [raiseAttention, updatePort]

theorem setClosureState_closureHeld :
    (setClosureState q st s).sup.closureHeld =
      if (s.closure.state == .closureHeld) = (st == .closureHeld) then s.sup.closureHeld else st == .closureHeld := by
  simp only [setClosureState]; split <;> simp [handClosureHeld, *]

end

/-- The closure may leave ROAD_CLOSED only while nothing moves (R82, R83). -/
def mayEnter (st : ClosureState) (s : State) : Prop := st = .roadClosed ∨ s.closure.state ≠ .roadClosed ∨ ¬s.leaf.moving

theorem setClosureState_keeps {q : Bool} {st : ClosureState} {s : State} (h : φ = .startUp ∨ mayEnter st s) :
    KeepsAll φ s (setClosureState q st s) where
  leaf := fun _ => by rw [setClosureState_leaf]; exact id
  road := fun hφ hs => by
    rw [roadShutWhileMoving_iff] at hs ⊢
    simp only [setClosureState_leaf, setClosureState_closure]
    intro hm
    rcases h.resolve_left hφ with h | h | h
    · exact h
    · exact absurd (hs hm) h
    · exact absurd hm h
  sup := by
    simp only [supervisorTable_iff, setClosureState_closureHeld, setClosureState_leaf, setClosureState_closure,
      setClosureState_sup_groupTripped, setClosureState_sup_watchdog, setClosureState_sup_mode]
    rintro ⟨htripped, hheld, hdark, hwatch⟩
    refine ⟨htripped, ?_, fun d => (darkKnown_congr (by simp) (by simp)).mpr (hdark d), hwatch⟩
    split
    next hsame => rw [hheld, ← beq_iff_eq, hsame, beq_iff_eq]
    next => exact beq_iff_eq
  heads := fun hs d =>
    (headShows_congr (by simp) (by simp) (by simp) (headHealth_congr (by simp) d)).mpr (hs d)
  lights := fun _ => by simp [lightsAgree]
  attention := fun ha => by
    refine (attentionTable_congr fun l => ?_).mpr ((raiseControlIf_keeps (φ := φ) (!q && s.closure.state != st) .closure s).attention ha)
    rw [setClosureState_links]
  register := by rw [setClosureState_reg]; exact id
  records := fun _ => (recordsFit_congr (by simp) (by simp)).mpr
  setup := fun _ => (setupEmpty_congr (by simp) (by simp) (by simp) (by simp)).mpr
  ports := fun l => by
    rw [setClosureState_links]
    exact (raiseControlIf_keeps (φ := φ) _ .closure s).ports l
  scan := by simp
  demands := fun _ hd d => by
    rw [setClosureState_seq, hd d]
    exact (demandFor_congr (by constructor <;> simp) d).symm

/-! ## The demands and the heads -/

theorem deriveDemand_keeps (d : Direction) (s : State) : Keeps φ s (deriveDemand d s) where
  leaf := fun _ => by rw [deriveDemand_leaf]; exact id
  road := fun _ => by simp [roadShutWhileMoving]
  sup := by
    simp only [supervisorTable_iff]
    rintro ⟨htripped, hheld, hdark, hwatch⟩
    exact ⟨by simpa using htripped, by simpa using hheld, darkKnown_deriveDemand hdark, by simpa using hwatch⟩
  heads := headShows_deriveDemand
  lights := by simp [lightsAgree]
  attention := (attentionTable_congr fun l => by simp).mpr
  register := by rw [deriveDemand_reg]; exact id
  records := fun _ => (recordsFit_congr (by simp) (by simp)).mpr
  setup := fun _ => (setupEmpty_congr (by simp) (by simp) (by simp) (by simp)).mpr
  ports := fun l => by simp
  scan := by simp

theorem deriveDemands_keeps (s : State) : KeepsAll φ s (deriveDemands s) :=
  ((deriveDemand_keeps .seaward s).trans (deriveDemand_keeps .landward _)).all (demandsStand_deriveDemands s)

theorem rederiveHealth_keeps (s : State) : KeepsAll φ s (rederiveHealth s) where
  leaf := fun _ => by rw [rederiveHealth_leaf]; exact id
  road := fun _ => by simp [roadShutWhileMoving]
  sup := by
    simp only [supervisorTable_iff]
    rintro ⟨htripped, hheld, hdark, hwatch⟩
    exact ⟨by simpa using htripped, by simpa using hheld, darkKnown_rederiveHealth hdark, by simpa using hwatch⟩
  heads := headShows_rederiveHealth
  lights := by simp [lightsAgree]
  attention := (attentionTable_congr fun l => by simp).mpr
  register := by rw [rederiveHealth_reg]; exact id
  records := fun _ => (recordsFit_congr (by simp) (by simp)).mpr
  setup := fun _ => (setupEmpty_congr (by simp) (by simp) (by simp) (by simp)).mpr
  ports := fun l => by simp
  scan := by simp
  demands := fun _ hd d => by
    rw [rederiveHealth_seq_demand, hd d]
    exact (demandFor_congr (by constructor <;> simp) d).symm

/-! ## The leaf records -/

/-- A leaf change that the Link Supervisor need not be told of (R181). -/
theorem withLeaf_keeps {m : LeafMotion} {s : State} (hm : φ = .period ∨ LeafKeeps (s.closure.state = .roadClosed) s.leaf m)
    (hmove : m.moving → s.leaf.moving ∨ s.closure.state = .roadClosed)
    (ht : m.group.state = .tripped ↔ s.leaf.group.state = .tripped) : Keeps φ s (s.withLeaf m) where
  leaf := fun hφ => (hm.resolve_left hφ).sound
  road := fun _ hs => by
    rw [roadShutWhileMoving_iff] at hs ⊢
    exact fun h => (hmove h).elim hs id
  sup := by
    simp only [supervisorTable_iff, State.withLeaf_sup, State.withLeaf_leaf, State.withLeaf_closure, ht]
    rintro ⟨htripped, hheld, hdark, hwatch⟩
    exact ⟨htripped, hheld, hdark, hwatch⟩
  heads := fun hs => hs
  lights := id
  attention := id
  register := id
  records := fun _ => (recordsFit_congr (s := s) (t := s.withLeaf m) rfl rfl).mpr
  setup := fun _ => (setupEmpty_congr (s := s) (t := s.withLeaf m) rfl rfl rfl rfl).mpr
  ports := fun _ => rfl
  scan := id

/-- A leaf change that the Link Supervisor is told of (R181). -/
theorem handGroupTripped_keeps {m : LeafMotion} {s : State}
    (hm : φ = .period ∨ LeafKeeps (s.closure.state = .roadClosed) s.leaf m)
    (hmove : m.moving → s.leaf.moving ∨ s.closure.state = .roadClosed) :
    Keeps φ s (handGroupTripped (m.group.state == .tripped) (s.withLeaf m)) where
  leaf := fun hφ => (hm.resolve_left hφ).sound
  road := fun _ hs => by
    rw [roadShutWhileMoving_iff] at hs ⊢
    exact fun h => (hmove h).elim hs id
  sup := by
    simp only [supervisorTable_iff]
    rintro ⟨_, hheld, hdark, hwatch⟩
    exact ⟨beq_iff_eq, hheld, hdark, hwatch⟩
  heads := fun hs => hs
  lights := id
  attention := id
  register := id
  records := fun _ => (recordsFit_congr (s := s) (t := handGroupTripped _ (s.withLeaf m)) rfl rfl).mpr
  setup := fun _ => (setupEmpty_congr (s := s) (t := handGroupTripped _ (s.withLeaf m)) rfl rfl rfl rfl).mpr
  ports := fun _ => rfl
  scan := id

/-! ## The opening record and the register -/

/-- A change of the records, the opening and the attention lines alone. -/
structure RecordStep (s t : State) : Prop where
  leaf : t.leaf = s.leaf
  closure : t.closure = s.closure
  demand : t.seq.demand = s.seq.demand
  shown : t.seq.shown = s.seq.shown
  functions : t.lamp.functions = s.lamp.functions
  display : t.display = s.display
  sup : t.sup = s.sup
  scan : t.loop.firstScan = s.loop.firstScan
  ports : ∀ l, (t.links.get l).core = (s.links.get l).core
  attention : attentionTable s → attentionTable t

theorem RecordStep.refl (s : State) : RecordStep s s := ⟨rfl, rfl, rfl, rfl, rfl, rfl, rfl, rfl, fun _ => rfl, id⟩

theorem RecordStep.trans (h : RecordStep s t) (h' : RecordStep t u) : RecordStep s u where
  leaf := h'.leaf.trans h.leaf
  closure := h'.closure.trans h.closure
  demand := h'.demand.trans h.demand
  shown := h'.shown.trans h.shown
  functions := h'.functions.trans h.functions
  display := h'.display.trans h.display
  sup := h'.sup.trans h.sup
  scan := h'.scan.trans h.scan
  ports := fun l => (h'.ports l).trans (h.ports l)
  attention := h'.attention ∘ h.attention

theorem recordStep_foldl {α : Type} {f : State → α → State} (h : ∀ t a, RecordStep t (f t a)) (l : List α) (s : State) :
    RecordStep s (l.foldl f s) := by
  induction l generalizing s with
  | nil => exact .refl s
  | cons a l ih => exact (h s a).trans (ih (f s a))

/-- A change of the records and the opening that keeps the conditions on them keeps every condition but the demands. -/
theorem RecordStep.keeps (h : RecordStep s t) (hreg : registerTable s.reg → registerTable t.reg)
    (hrec : registerTable s.reg → recordsFit s → recordsFit t)
    (hset : φ = .startUp ∨ (s.sup.mode = .setup → s.reg.records = [] → s.seq.opening = none →
      t.reg.records = [] ∧ t.seq.opening = none)) : Keeps φ s t where
  leaf := fun _ => by rw [h.leaf]; exact id
  road := fun _ => by simp only [roadShutWhileMoving, h.leaf, h.closure]; exact id
  sup := by simp only [supervisorTable, h.sup, h.leaf, h.closure, h.display]; exact id
  heads := fun hs d =>
    (headShows_congr (by rw [h.display]) (by rw [h.demand]) (by rw [h.shown]) (headHealth_congr h.functions d)).mpr (hs d)
  lights := by simp only [lightsAgree, h.display, h.closure]; exact id
  attention := h.attention
  register := hreg
  records := hrec
  setup := fun hφ ⟨hempty, hscan⟩ => by
    refine ⟨fun hm => ?_, fun hf => ?_⟩
    · rw [h.sup] at hm
      exact hset.resolve_left hφ hm (hempty hm).1 (hempty hm).2
    · rw [h.sup]; exact hscan (h.scan ▸ hf)
  ports := h.ports
  scan := by rw [h.scan]; exact id

theorem raiseAttention_recordStep {l : Link} {c : AttentionCause} (hc : causeAllowed l c) (s : State) :
    RecordStep s (raiseAttention l c s) := by
  have h := raiseAttention_keeps (φ := .ordinary) hc s
  exact ⟨by simp, by simp, by simp, by simp, by simp, by simp, by simp, by simp, h.ports, h.attention⟩

theorem setOpening_recordStep (o : Option Opening) (s : State) : RecordStep s (setOpening o s) :=
  ⟨rfl, rfl, rfl, rfl, rfl, rfl, rfl, rfl, fun _ => rfl, id⟩

theorem withReg_recordStep (r : Register) (s : State) : RecordStep s (s.withReg r) :=
  ⟨rfl, rfl, rfl, rfl, rfl, rfl, rfl, rfl, fun _ => rfl, id⟩

theorem notifyOrigin_recordStep (requester : Option Link) (p : Passage) (s : State) :
    RecordStep s (notifyOrigin requester p s) := by
  unfold notifyOrigin
  split
  · exact .refl s
  · exact raiseAttention_recordStep (.inr rfl) s

/-- A changed opening that keeps its list and its recovery flag, and that is over only if it was, or if no record is ADMITTED
or CLEARED. -/
theorem updateOpening_keeps {f : Opening → Opening} {s : State}
    (hf : ∀ o, s.seq.opening = some o → (f o).list = o.list ∧ (f o).recovery = o.recovery)
    (hended : ∀ o, s.seq.opening = some o →
      ((f o).state = .lowering ∨ (f o).state = .reopeningRoad ∨ (f o).state = .recoveryWait) →
      (o.state = .lowering ∨ o.state = .reopeningRoad ∨ o.state = .recoveryWait)
        ∨ (registerTable s.reg → recordsFit s → ∀ p ∈ s.reg.records, isActive p = false)) :
    Keeps φ s (updateOpening f s) := by
  refine (setOpening_recordStep _ s).keeps id (fun hr h => ?_) (.inr fun _ hrec ho => ⟨hrec, by simp [setOpening, ho]⟩)
  have hlist : admittedList (updateOpening f s) = admittedList s := by
    cases ho : s.seq.opening with
    | none => simp [admittedList, updateOpening, setOpening, ho]
    | some o => simp [admittedList, updateOpening, setOpening, ho, (hf o ho).1]
  refine ⟨fun p hp ha => ?_, fun n hn => ?_, ?_, ?_, ?_, ?_⟩
  · exact hlist ▸ h.listed p hp ha
  · exact h.named n (hlist ▸ hn)
  · exact hlist ▸ h.short
  · exact hlist ▸ h.nodup
  · intro o' ho' hs'
    obtain ⟨o, ho, rfl⟩ : ∃ o, s.seq.opening = some o ∧ f o = o' := by simpa [updateOpening, setOpening] using ho'
    rcases hended o ho hs' with hs | hs
    · exact h.ended o ho hs
    · exact hs hr h
  · intro o' ho' hrecovery
    obtain ⟨o, ho, rfl⟩ : ∃ o, s.seq.opening = some o ∧ f o = o' := by simpa [updateOpening, setOpening] using ho'
    rw [(hf o ho).1]
    exact h.recovery o ho ((hf o ho).2 ▸ hrecovery)

end Sys2Proof.Machine

/-!
The operations of the Road Closure Unit, the Opening Sequencer and the Leaf Motion Controller on one another: each keeps every
condition (R24 to R59, R103 to R130).
-/

namespace Sys2Proof.Machine

open Sys2Proof

variable {φ : Phase} {s t : State}

/-! ## Operations that touch none of the conditions -/

theorem withArms_keeps (x : Vector Arm 8) (s : State) : KeepsAll φ s (s.withArms x) :=
  Quiet.keeps (by constructor <;> rfl)

theorem withStations_keeps (x : Vector Station 8) (s : State) : KeepsAll φ s (s.withStations x) :=
  Quiet.keeps (by constructor <;> rfl)

theorem withZones_keeps (x : Vector Zone 4) (s : State) : KeepsAll φ s (s.withZones x) :=
  Quiet.keeps (by constructor <;> rfl)

theorem withPins_keeps (x : Pins) (s : State) : KeepsAll φ s (s.withPins x) :=
  Quiet.keeps (by constructor <;> rfl)

theorem withStore_keeps (x : Store) (s : State) : KeepsAll φ s (s.withStore x) :=
  Quiet.keeps (by constructor <;> rfl)

theorem withPending_keeps (x : List Instr) (s : State) : KeepsAll φ s (s.withPending x) :=
  Quiet.keeps (by constructor <;> rfl)

theorem countChoice_keeps (s : State) : KeepsAll φ s (countChoice s) :=
  Quiet.keeps (by constructor <;> rfl)

theorem withClosure_keeps {c : Closure} (h : c.state = s.closure.state) : KeepsAll φ s (s.withClosure c) :=
  Quiet.keeps (by constructor <;> first | rfl | exact h)

theorem withLoop_keeps {x : Loop} (h : x.firstScan = s.loop.firstScan) : KeepsAll φ s (s.withLoop x) :=
  Quiet.keeps (by constructor <;> first | rfl | exact h)

theorem withLamp_keeps {u : LampUnit} (h : u.functions = s.lamp.functions) : KeepsAll φ s (s.withLamp u) :=
  Quiet.keeps (by constructor <;> first | rfl | exact h)

theorem pulseFault_keeps (s : State) : KeepsAll φ s (pulseFault s) :=
  Quiet.keeps (by constructor <;> rfl)

theorem updateArm_keeps (a : ArmId) (f : Arm → Arm) (s : State) : KeepsAll φ s (updateArm a f s) := withArms_keeps _ s

theorem updateStation_keeps (a : ArmId) (f : Station → Station) (s : State) : KeepsAll φ s (updateStation a f s) :=
  withStations_keeps _ s

theorem writeSlot_keeps (a : ArmId) (c : LoopCommand) (s : State) : KeepsAll φ s (writeSlot a c s) :=
  updateStation_keeps a _ s

theorem raiseControl_keeps (c : AttentionCause) (s : State) : KeepsAll φ s (raiseAttention .control c s) :=
  raiseAttention_keeps (.inl rfl) s

/-! ## Arms and holds -/

theorem latchArm_keeps (k : ArmLatch) (a : ArmId) (s : State) : KeepsAll φ s (latchArm k a s) := by
  unfold latchArm
  split
  · exact .refl s
  · exact (updateArm_keeps a _ s).trans (raiseControl_keeps _ _)

theorem commandArm_keeps (p : ArmPosition) (a : ArmId) (s : State) : KeepsAll φ s (commandArm p a s) := by
  unfold commandArm
  split
  · exact .refl s
  · exact (updateArm_keeps a _ s).trans (writeSlot_keeps a _ _)

theorem commandEach_keeps (p : ArmPosition) (arms : List ArmId) (s : State) : KeepsAll φ s (commandEach p arms s) :=
  keepsAll_foldl (fun t a => by
    split
    · exact commandArm_keeps p a t
    · exact .refl t) arms s

theorem setDegraded_keeps (s : State) : KeepsAll φ s (setDegraded s) := by
  unfold setDegraded
  split
  · exact .refl s
  · exact (raiseControl_keeps _ _).after (withClosure_keeps (by rfl))

theorem holdWith_keeps (cause : HeldCause) (heldIn : ClosureState) (h : s.closure.state ≠ .roadClosed) :
    KeepsAll φ s (holdWith cause heldIn s) :=
  (setClosureState_keeps (.inr (.inr (.inl (by exact h))))).after <| (withArms_keeps _ _).after <| withClosure_keeps (by rfl)

theorem holdClosure_keeps (cause : HeldCause) (s : State) : KeepsAll φ s (holdClosure cause s) := by
  unfold holdClosure
  split
  next h => exact holdWith_keeps cause _ (by rintro hc; simp [hc, ClosureState.holdable, ClosureState.closing] at h)
  next => exact .refl s

theorem armFault_keeps (cause : HeldCause) (s : State) : KeepsAll φ s (armFault cause s) := by
  unfold armFault
  split
  · exact setDegraded_keeps s
  · exact holdClosure_keeps cause s

theorem standingCheck_keeps (s : State) : KeepsAll φ s (standingCheck s) := by
  have hlatch : KeepsAll φ s ((localArms s).foldl (fun t a => latchArm .localControl a t)
      ((lostArms s).foldl (fun t a => latchArm .lost a t) s)) :=
    (keepsAll_foldl (fun t a => latchArm_keeps .lost a t) _ s).trans
      (keepsAll_foldl (fun t a => latchArm_keeps .localControl a t) _ _)
  simp only [standingCheck]
  split
  · exact hlatch
  · exact hlatch.trans (holdClosure_keeps _ _)
  · exact hlatch.trans (holdClosure_keeps _ _)
  · exact hlatch.trans ((countChoice_keeps _).trans (holdClosure_keeps _ _))

/-! ## The opening record -/

theorem enterOpening_keeps {st : OpeningState}
    (h : (st = .lowering ∨ st = .reopeningRoad ∨ st = .recoveryWait) → ∀ o, s.seq.opening = some o →
      (o.state = .lowering ∨ o.state = .reopeningRoad ∨ o.state = .recoveryWait) ∨ o.list = []
        ∨ (o.recovery = true)) : Keeps φ s (enterOpening st s) := by
  refine (raiseControl_keeps _ _).toKeeps.after (updateOpening_keeps (fun _ _ => ⟨rfl, rfl⟩) fun o ho hst => ?_)
  have hempty (hl : o.list = []) (_ : registerTable s.reg) (hf : recordsFit s) (p : Passage) (hp : p ∈ s.reg.records) :
      isActive p = false := by
    by_contra ha
    have hmem := hf.listed p hp (by simpa using ha)
    simp [admittedList, ho, hl] at hmem
  rcases h hst o ho with h | h | h
  · exact .inl h
  · exact .inr (hempty h)
  · exact .inr fun hr hf => hempty (hf.recovery o ho h) hr hf

theorem enterOpening_running_keeps {st : OpeningState}
    (h : ¬(st = .lowering ∨ st = .reopeningRoad ∨ st = .recoveryWait)) (s : State) : Keeps φ s (enterOpening st s) :=
  enterOpening_keeps fun hst => absurd hst h

/-- The changeover dwell is weighed on the opening alone (R47, R48). -/
theorem setChangeover_keeps {o : Opening} (ho : s.seq.opening = some o) (c : Option Nat) :
    Keeps φ s (setOpening (some { o with changeover := c }) s) := by
  have h : setOpening (some { o with changeover := c }) s = updateOpening (fun o => { o with changeover := c }) s := by
    simp [updateOpening, ho]
  rw [h]
  exact updateOpening_keeps (fun _ _ => ⟨rfl, rfl⟩) fun _ _ hst => .inl hst

theorem weighChangeover_keeps (s : State) : Keeps φ s (weighChangeover s) := by
  unfold weighChangeover
  split
  next => exact .refl s
  next o ho =>
    split
    next d _ _ =>
      refine .trans ?_ (raiseControlIf_keeps _ _ _).toKeeps
      split <;> split
      · exact setChangeover_keeps ho none
      · exact .refl s
      · exact setChangeover_keeps ho _
      · exact .refl s
    next => exact .refl s

/-! ## Reopening (R52, R121) -/

/-- An opening that is over ends: no record of its list is ADMITTED or CLEARED (R29). -/
theorem setOpening_none_keeps {o : Opening} (ho : s.seq.opening = some o) (hst : o.state = .reopeningRoad) :
    Keeps φ s (setOpening none s) := by
  refine (setOpening_recordStep none s).keeps id (fun _ h => ?_) (.inr fun _ hrec _ => ⟨hrec, rfl⟩)
  have hnone := h.ended o ho (.inr (.inl hst))
  refine ⟨fun p hp ha => ?_, by simp [admittedList, setOpening], by simp [admittedList, setOpening],
    by simp [admittedList, setOpening], by simp [setOpening], by simp [setOpening]⟩
  simp [hnone p hp] at ha

theorem roadOpenReport_keeps (s : State) : KeepsAll φ s (roadOpenReport s) := by
  unfold roadOpenReport
  split
  next h =>
    obtain ⟨o, ho, hst⟩ : ∃ o, s.seq.opening = some o ∧ o.state = .reopeningRoad := by simpa [openingState] using h
    exact ((setOpening_none_keeps ho hst).trans ((raiseControl_keeps _ _).toKeeps.trans (deriveDemands_keeps _).toKeeps)).all
      (demandsStand_deriveDemands _)
  next => exact .refl s

theorem enterRoadOpen_keeps {q : Bool} (h : mayEnter .roadOpen s) : KeepsAll φ s (enterRoadOpen q s) :=
  (roadOpenReport_keeps _).after <| (setClosureState_keeps (.inr (by exact h))).after <| withClosure_keeps (by rfl)

theorem finishReopening_keeps (q : Bool) (s : State) : KeepsAll φ s (finishReopening q s) := by
  unfold finishReopening
  split
  next h => exact enterRoadOpen_keeps (.inr (.inl (by simp [h.1])))
  next => exact .refl s

theorem startReopen_keeps {q : Bool} (h : mayEnter .roadReopening s) : KeepsAll φ s (startReopen q s) :=
  (finishReopening_keeps q _).after <| (standingCheck_keeps _).after <| (commandEach_keeps _ _ _).after <|
    (setClosureState_keeps (.inr (by exact h))).after <| (withArms_keeps _ _).after <| withClosure_keeps (by rfl)

theorem mayEnter_of_stowed {st : ClosureState} (h : s.leaf.group.state = .stowed) : mayEnter st s :=
  .inr (.inr (not_moving_of_resting (by rw [h]; rfl)))

theorem reopenRequest_keeps (q : Bool) (s : State) : KeepsAll φ s (reopenRequest q s) := by
  unfold reopenRequest
  split
  next h =>
    simp only [Bool.and_eq_true, beq_iff_eq] at h
    split
    · exact withClosure_keeps (by rfl)
    · exact startReopen_keeps (mayEnter_of_stowed h.2)
  next => exact .refl s

theorem resumeReopen_keeps (s : State) : KeepsAll φ s (resumeReopen s) := by
  unfold resumeReopen
  split
  next =>
    refine (withClosure_keeps (c := { s.closure with reopenPending := false }) rfl).trans ?_
    dsimp only
    split
    next h => exact startReopen_keeps (mayEnter_of_stowed h)
    next => exact .refl _
  next => exact .refl s

/-! ## Reports of the leaf group (R44, R45, R51, R103) -/

theorem openingState_eq_some {st : OpeningState} (h : openingState s = some st) :
    ∃ o, s.seq.opening = some o ∧ o.state = st := by
  simpa [openingState] using h

theorem clearExtending_keeps (s : State) : Keeps φ s (updateOpening (fun o => { o with extending := false }) s) :=
  updateOpening_keeps (fun _ _ => ⟨rfl, rfl⟩) fun _ _ h => .inl h

theorem heldOpenReport_keeps (s : State) : Keeps φ s (heldOpenReport s) := by
  unfold heldOpenReport
  split
  · exact (weighChangeover_keeps _).after <| (enterOpening_running_keeps (by decide) _).after <|
      updateOpening_keeps (fun _ _ => ⟨rfl, rfl⟩) fun _ _ h => .inl h
  · exact clearExtending_keeps s
  · exact .refl s

theorem stowedReport_keeps (s : State) : Keeps φ s (stowedReport s) := by
  unfold stowedReport
  split
  next h =>
    obtain ⟨o, ho, hst⟩ := openingState_eq_some h.1
    refine (enterOpening_keeps fun _ o' ho' => .inl ?_).trans (reopenRequest_keeps _ _).toKeeps
    rw [ho, Option.some.injEq] at ho'
    exact .inl (ho' ▸ hst)
  next => exact .refl s

theorem stoppedReport_keeps (s : State) : Keeps φ s (stoppedReport s) := by
  unfold stoppedReport
  split
  · exact clearExtending_keeps s
  · exact .refl s

theorem demandsStand_groupReport (s : State) : demandsStand (groupReport s) := demandsStand_deriveDemands _

theorem groupReport_keeps (s : State) : KeepsAll φ s (groupReport s) := by
  refine Keeps.all ((raiseControl_keeps .leafGroup s).toKeeps.trans ?_) (demandsStand_groupReport s)
  simp only [groupReport]
  refine .trans ?_ (deriveDemands_keeps _).toKeeps
  split
  · exact heldOpenReport_keeps _
  · exact stowedReport_keeps _
  · exact stoppedReport_keeps _
  · exact stoppedReport_keeps _
  all_goals exact .refl _

/-- A change of the leaf records with its report. -/
theorem applyLeaf_keeps_of {f : LeafMotion → LeafMotion}
    (hm : φ = .period ∨ LeafKeeps (s.closure.state = .roadClosed) s.leaf (f s.leaf))
    (hmove : (f s.leaf).moving → s.leaf.moving ∨ s.closure.state = .roadClosed) : KeepsAll φ s (applyLeaf f s) := by
  by_cases h : (f s.leaf).group.state = s.leaf.group.state
  · have heq : applyLeaf f s = s.withLeaf (f s.leaf) := by simp [applyLeaf, afterLeaf, h]
    rw [heq]
    refine ⟨withLeaf_keeps hm hmove (by rw [h]), fun _ hd d => ?_⟩
    exact (hd d).trans (demandFor_congr_group (s := s) (t := s.withLeaf (f s.leaf)) rfl rfl rfl rfl rfl h d).symm
  · rw [applyLeaf_of_changed h]
    exact ((handGroupTripped_keeps hm hmove).trans (groupReport_keeps _).toKeeps).all (demandsStand_groupReport _)

theorem applyLeaf_keeps {f : LeafMotion → LeafMotion} (h : LeafKeeps (s.closure.state = .roadClosed) s.leaf (f s.leaf)) :
    KeepsAll φ s (applyLeaf f s) :=
  applyLeaf_keeps_of (.inr h) h.moving

theorem demandsStand_applyLeaf {f : LeafMotion → LeafMotion} (h : (f s.leaf).group.state ≠ s.leaf.group.state) :
    demandsStand (applyLeaf f s) := by
  rw [applyLeaf_of_changed h]
  exact demandsStand_groupReport _

/-! ## The lift (R41, R42) -/

theorem motionStart_state (st : GroupState) (m : LeafMotion) :
    (m.motionStart st).group.state = st ∨ (m.motionStart st).group.state = .tripped := by
  unfold LeafMotion.motionStart
  split
  · exact .inl rfl
  · exact .inr (trip_state _ m)

theorem enterUnlocking_state_ne (m : LeafMotion) : m.enterUnlocking.group.state ≠ .stowed := by
  simp only [LeafMotion.enterUnlocking, LeafMotion.finishUnlocking, LeafMotion.unlocked]
  split_ifs
  · simp [LeafMotion.halt, LeafMotion.enter, LeafMotion.updateGroup]
  · rcases motionStart_state .raising (LeafMotion.removeCommands
      (LeafMotion.enter .unlocking { m with locks := m.locks.map (Lock.commanded .withdraw) })) with h | h <;> simp [h]
  · simp [LeafMotion.enter, LeafMotion.updateGroup]

/-- A raise that is taken changes the group state (R84). -/
theorem raise_state_ne {m : LeafMotion} {closed : Bool} (target : Nat) (h : raiseRefused closed m = false) :
    (m.raise target).group.state ≠ m.group.state := by
  unfold raiseRefused at h
  unfold LeafMotion.raise
  cases hst : m.group.state <;> simp only [hst, Bool.true_eq_false] at h ⊢
  case stowed => exact enterUnlocking_state_ne _
  case heldOpen => rcases motionStart_state .raising (m.setTarget target) with h | h <;> simp [h]

theorem roadIsClosed_iff (s : State) : roadIsClosed s = true ↔ s.closure.state = .roadClosed := by
  simp [roadIsClosed]

theorem raiseAsked_keeps {target : Nat} (h : raiseRefused (roadIsClosed s) s.leaf = false) :
    KeepsAll φ s (applyLeaf (LeafMotion.raise target) s) :=
  applyLeaf_keeps (by simpa only [roadIsClosed_iff] using raise_keeps target h)

theorem startLift_keeps (s : State) : KeepsAll φ s (startLift s) := by
  unfold startLift
  split
  next => exact raiseControl_keeps _ s
  next h =>
    have h' : raiseRefused (roadIsClosed (enterOpening .lifting s)) (enterOpening .lifting s).leaf = false := by
      simpa [roadIsClosed] using h
    exact ((enterOpening_running_keeps (by decide) s).trans (raiseAsked_keeps h').toKeeps).all
      (demandsStand_applyLeaf (raise_state_ne _ h'))

theorem roadClosedReport_keeps (s : State) : KeepsAll φ s (roadClosedReport s) := by
  unfold roadClosedReport
  split
  next =>
    split
    next hr =>
      refine ((enterOpening_keeps fun _ o ho => .inr (.inr ?_)).trans (deriveDemands_keeps _).toKeeps).all
        (demandsStand_deriveDemands _)
      simpa [inRecovery, ho] using hr
    next =>
      split
      · exact .refl s
      · exact startLift_keeps s
  next => exact .refl s

/-! ## The closing sequence (R113 to R120) -/

theorem enterRoadClosed_keeps (q : Bool) (s : State) : KeepsAll φ s (enterRoadClosed q s) := by
  refine (setClosureState_keeps (q := q) (st := .roadClosed) (.inr (.inl rfl))).trans ?_
  simp only [enterRoadClosed]
  split
  · exact .refl _
  · exact (roadClosedReport_keeps _).after (withClosure_keeps (by rfl))

theorem restartClearDwell_keeps (s : State) : KeepsAll φ s (restartClearDwell s) := withClosure_keeps (by rfl)

theorem enterSpanClearing_keeps {q : Bool} (h : s.closure.state ≠ .roadClosed) : KeepsAll φ s (enterSpanClearing q s) :=
  (restartClearDwell_keeps s).trans (setClosureState_keeps (.inr (.inr (.inl (by exact h)))))

theorem enterExitLowering_keeps {q : Bool} (h : s.closure.state ≠ .roadClosed) : KeepsAll φ s (enterExitLowering q s) := by
  unfold enterExitLowering
  split
  · exact (setClosureState_keeps (.inr (.inr (.inl (by exact h))))).trans (commandEach_keeps _ _ _)
  · exact holdWith_keeps _ _ h

theorem evaluateGroups_keeps (q : Bool) (s : State) : KeepsAll φ s (evaluateGroups q s) := by
  unfold evaluateGroups
  cases hst : s.closure.state <;> simp only
  case entryLowering =>
    split_ifs
    · exact holdClosure_keeps _ s
    · exact enterSpanClearing_keeps (by simp [hst])
    · exact .refl s
  case spanClearing =>
    split_ifs
    · exact holdClosure_keeps _ s
    · exact enterExitLowering_keeps (by simp [hst])
    · exact .refl s
  case exitLowering =>
    split_ifs
    · exact holdClosure_keeps _ s
    · exact holdClosure_keeps _ s
    · exact enterRoadClosed_keeps q s
    · exact .refl s
  case roadReopening => exact finishReopening_keeps q s
  all_goals exact .refl s

theorem testWarning_keeps (q : Bool) (s : State) : KeepsAll φ s (testWarning q s) := by
  unfold testWarning
  split
  next h =>
    have hopen : s.closure.state ≠ .roadClosed := by simp [h.1]
    split
    · exact (setClosureState_keeps (.inr (.inr (.inl (by exact hopen))))).trans (commandEach_keeps _ _ _)
    · exact holdWith_keeps _ _ hopen
  next => exact .refl s

theorem closeRequest_keeps (q : Bool) (s : State) : KeepsAll φ s (closeRequest q s) := by
  unfold closeRequest
  split
  next h =>
    have hopen : s.closure.state ≠ .roadClosed := by rcases h with h | h <;> simp [h]
    exact (standingCheck_keeps _).after <| (setClosureState_keeps (.inr (.inr (.inl (by exact hopen))))).after <|
      (withClosure_keeps (by rfl)).after <| withArms_keeps _ s
  next => exact .refl s

theorem phaseExpired_keeps (s : State) : KeepsAll φ s (phaseExpired s) := by
  unfold phaseExpired
  split
  next => exact .refl s
  next =>
    cases hst : s.closure.state <;> simp only
    case prewarnAmber =>
      exact (setClosureState_keeps (.inr (.inr (.inl (by simp [hst]))))).after (withClosure_keeps (by rfl))
    case prewarnRed =>
      exact (withClosure_keeps (c := { s.closure with redTimeExpired := true, phaseTimer := none }) rfl).trans <|
        (testWarning_keeps _ _).trans (raiseControlIf_keeps _ _ _)
    all_goals exact .refl s

theorem redsProven_keeps (fs : List FunctionId) (s : State) : KeepsAll φ s (redsProven fs s) := by
  unfold redsProven
  split
  · exact (testWarning_keeps _ _).after (withClosure_keeps (by rfl))
  · exact .refl s

theorem endFlashHalf_keeps (s : State) : KeepsAll φ s (endFlashHalf s) := by
  unfold endFlashHalf
  split
  · split
    · exact .refl s
    · exact (redsProven_keeps _ _).after (withLamp_keeps rfl)
  all_goals exact .refl s

/-! ## Arm events (R109 to R111) -/

theorem armAcknowledged_keeps (a : ArmId) (c : LoopCommand) (s : State) : KeepsAll φ s (armAcknowledged a c s) := by
  unfold armAcknowledged
  split
  · exact .refl s
  · split
    · exact updateArm_keeps a _ s
    · exact .refl s

theorem obstruction_keeps (a : ArmId) (s : State) : KeepsAll φ s (obstruction a s) := by
  unfold obstruction
  split
  · exact (updateArm_keeps a _ s).trans (pulseFault_keeps _)
  · exact (latchArm_keeps _ a s).trans (holdClosure_keeps _ _)

theorem localReport_keeps (a : ArmId) (s : State) : KeepsAll φ s (localReport a s) := by
  refine (latchArm_keeps .localControl a s).trans ?_
  simp only [localReport]
  split
  · exact armFault_keeps _ _
  · exact .refl _

theorem armReported_keeps (a : ArmId) (st : ArmReport) (angle : Nat) (s : State) :
    KeepsAll φ s (armReported a st angle s) := by
  simp only [armReported]
  refine (updateArm_keeps a (Arm.withReport s.closure.state.timesDeparture st angle) s).trans ?_
  generalize updateArm a (Arm.withReport s.closure.state.timesDeparture st angle) s = t
  have hdegraded : KeepsAll φ t (if t.closure.state = .roadClosed ∧ (t.arm a).inService = true ∧ st ≠ .down
      then setDegraded t else t) := by
    split
    · exact setDegraded_keeps t
    · exact .refl t
  refine hdegraded.trans (.trans ?_ (evaluateGroups_keeps _ _))
  generalize (if t.closure.state = .roadClosed ∧ (t.arm a).inService = true ∧ st ≠ .down then setDegraded t else t) = u
  cases st <;> simp only
  case localControl => exact localReport_keeps a u
  case obstructed =>
    split
    · exact obstruction_keeps a u
    · exact .refl u
  all_goals exact .refl u

theorem armLost_keeps (a : ArmId) (s : State) : KeepsAll φ s (armLost a s) := by
  simp only [armLost]
  refine (evaluateGroups_keeps _ _).after <| .trans ((latchArm_keeps .lost a _).after
    (updateArm_keeps a (fun r => { r with lost := true, reported := .unknown }) s)) ?_
  split
  · exact armFault_keeps _ _
  · exact .refl _

theorem travelExpired_keeps (a : ArmId) (s : State) : KeepsAll φ s (travelExpired a s) := by
  unfold travelExpired
  split
  · exact .refl s
  · exact (updateArm_keeps a _ s).trans <| (latchArm_keeps _ a _).trans (armFault_keeps _ _)

theorem retryExpired_keeps (a : ArmId) (s : State) : KeepsAll φ s (retryExpired a s) := by
  unfold retryExpired
  split
  · exact .refl s
  · exact (updateArm_keeps a _ s).trans (commandArm_keeps _ a _)

/-! ## Zones (R98, R112, R118, R119) -/

theorem closureZone_keeps (occupied : Bool) (s : State) : KeepsAll φ s (closureZone occupied s) := by
  unfold closureZone
  cases hst : s.closure.state <;> simp only
  case spanClearing =>
    split_ifs
    · exact withClosure_keeps (by rfl)
    · exact .refl s
    · exact withClosure_keeps (by rfl)
  case exitLowering =>
    split
    · exact (commandEach_keeps _ _ _).after <|
        (setClosureState_keeps (.inr (.inr (.inl (by simp [hst]))))).after (withClosure_keeps (by rfl))
    · exact .refl s
  all_goals exact .refl s

theorem zoneChanges_keeps (z : ZoneId) (s : State) : KeepsAll φ s (zoneChanges z s) :=
  (withZones_keeps _ s).trans <| (closureZone_keeps _ _).trans (applyLeaf_keeps (zoneChange_keeps _ _ _))

theorem zoneInput_keeps (z : ZoneId) (active : Bool) (s : State) : KeepsAll φ s (zoneInput z active s) := by
  unfold zoneInput
  split
  · exact .refl s
  · exact withZones_keeps _ s

theorem debounceExpired_keeps (z : ZoneId) (s : State) : KeepsAll φ s (debounceExpired z s) := by
  unfold debounceExpired
  split
  next => exact .refl s
  next =>
    refine (withZones_keeps (tabModify z (fun r => { r with debounce := none }) s.zones) s).trans ?_
    dsimp only
    split
    · exact .refl _
    · exact zoneChanges_keeps z _

theorem clearDwellComplete_keeps (s : State) : KeepsAll φ s (clearDwellComplete s) := by
  unfold clearDwellComplete
  split
  · exact (evaluateGroups_keeps _ _).after <| (raiseControlIf_keeps _ _ _).after (withClosure_keeps (by rfl))
  · exact .refl s

/-! ## Requests at the closure (R116, R118, R122, R124, R125) -/

theorem takeOverride_keeps (s : State) : KeepsAll φ s (takeOverride s) :=
  (testWarning_keeps _ _).after (withClosure_keeps (by rfl))

theorem takeConfirmation_keeps (s : State) : KeepsAll φ s (takeConfirmation s) :=
  (evaluateGroups_keeps _ _).after (withClosure_keeps (by rfl))

theorem reenter_keeps {st : ClosureState} (h : s.closure.state ≠ .roadClosed) : KeepsAll φ s (reenter st s) := by
  refine (setClosureState_keeps (q := true) (st := st) (.inr (.inr (.inl h)))).trans ?_
  simp only [reenter]
  generalize setClosureState true st s = t
  cases st <;> simp only
  case prewarnAmber | prewarnRed => exact withClosure_keeps (by rfl)
  case entryLowering | exitLowering =>
    split
    · exact commandEach_keeps _ _ t
    · exact holdClosure_keeps _ t
  case spanClearing => exact (restartClearDwell_keeps t).trans (commandEach_keeps _ _ _)
  case roadReopening => exact commandEach_keeps _ _ t
  all_goals exact .refl t

theorem takeRetry_keeps {heldIn : ClosureState} (h : s.closure.state ≠ .roadClosed) :
    KeepsAll φ s (takeRetry heldIn s) :=
  (finishReopening_keeps _ _).after <| (standingCheck_keeps _).after <| (reenter_keeps (by exact h)).after <|
    (withClosure_keeps (by rfl)).after <| withArms_keeps _ s

theorem armOut_keeps (a : ArmId) (s : State) : KeepsAll φ s (armOut a s) := by
  unfold armOut
  split
  next =>
    refine (updateArm_keeps a (fun r =>
      { r with inService := false, retryCount := 0, retryDwell := none, travelTimer := none, commanded := none }) s).trans ?_
    dsimp only
    generalize updateArm a _ s = t
    have hslot : KeepsAll φ t (if (s.arm a).commanded.isSome && !armInPosition (s.arm a) then writeSlot a .halt t else t) := by
      split
      · exact writeSlot_keeps a _ t
      · exact .refl t
    refine hslot.trans ?_
    generalize (if (s.arm a).commanded.isSome && !armInPosition (s.arm a) then writeSlot a .halt t else t) = u
    split
    · exact setDegraded_keeps u
    · exact evaluateGroups_keeps _ u
  next => exact .refl s

theorem armIn_keeps (a : ArmId) (s : State) : KeepsAll φ s (armIn a s) := by
  unfold armIn
  split
  next => exact .refl s
  next =>
    refine (updateArm_keeps a (fun r => { r with inService := true, retryCount := 0 }) s).trans ?_
    dsimp only
    split
    · exact commandArm_keeps _ a _
    · exact .refl _

end Sys2Proof.Machine

/-!
The Passage Register: new numbers, queue order, and what a change of one record, a new record and a removed record keep of the
register's limits and of its agreement with the admitted list (R1 to R6, R28, R29).
-/

namespace Sys2Proof.Machine

open Sys2Proof

/-! ## New numbers (R4) -/

/-- The number `k` places after `n`, with 255 followed by 1 (R4). -/
def numberPast (n k : Nat) : Nat := (n - 1 + k) % 255 + 1

theorem numberPast_zero {n : Nat} (h1 : 1 ≤ n) (h2 : n ≤ 255) : numberPast n 0 = n := by
  simp only [numberPast]; omega

theorem numberAfter_bounds {n : Nat} (h : 1 ≤ n) : 1 ≤ numberAfter n ∧ numberAfter n ≤ 255 := by
  simp only [numberAfter]; split <;> omega

theorem numberPast_numberAfter {n : Nat} (h1 : 1 ≤ n) (h2 : n ≤ 255) (k : Nat) :
    numberPast (numberAfter n) k = numberPast n (k + 1) := by
  simp only [numberPast, numberAfter]; split <;> omega

theorem numberPast_bounds (n k : Nat) : 1 ≤ numberPast n k ∧ numberPast n k ≤ 255 := by
  simp only [numberPast]; omega

/-- Whether some record carries a number. -/
def carried (records : List Passage) (n : Nat) : Prop := ∃ p ∈ records, p.number = n

theorem freeNumberFrom_eq_numberPast (records : List Passage) (fuel n : Nat) (h1 : 1 ≤ n) (h2 : n ≤ 255) :
    ∃ k ≤ fuel, freeNumberFrom records n fuel = numberPast n k ∧ (∀ j < k, carried records (numberPast n j))
      ∧ (k < fuel → ¬carried records (numberPast n k)) := by
  induction fuel generalizing n with
  | zero => exact ⟨0, le_rfl, (numberPast_zero h1 h2).symm, by simp, by simp⟩
  | succ fuel ih =>
    by_cases hc : carried records n
    · obtain ⟨hb1, hb2⟩ := numberAfter_bounds h1
      obtain ⟨k, hk, heq, hbelow, hfree⟩ := ih (numberAfter n) hb1 hb2
      refine ⟨k + 1, by omega, ?_, fun j hj => ?_, fun hlt => ?_⟩
      · have hany : records.any (fun p => p.number == n) = true := by simpa [carried] using hc
        rw [freeNumberFrom, if_pos hany, heq, numberPast_numberAfter h1 h2]
      · cases j with
        | zero => rwa [numberPast_zero h1 h2]
        | succ j => rw [← numberPast_numberAfter h1 h2]; exact hbelow j (by omega)
      · rw [← numberPast_numberAfter h1 h2]; exact hfree (by omega)
    · refine ⟨0, by omega, ?_, by simp, fun _ => by rwa [numberPast_zero h1 h2]⟩
      have hany : ¬records.any (fun p => p.number == n) = true := by simpa [carried] using hc
      rw [freeNumberFrom, if_neg hany, numberPast_zero h1 h2]

/-- Fewer records than numbers cannot carry every number. -/
theorem exists_number_free {records : List Passage} (hlen : records.length < 255) (n : Nat) :
    ∃ j < 255, ¬carried records (numberPast n j) := by
  by_contra hall
  push Not at hall
  have hsub : (List.range 255).map (numberPast n) ⊆ records.map (·.number) := by
    intro m hm
    obtain ⟨j, hj, rfl⟩ := List.mem_map.mp hm
    obtain ⟨p, hp, hpn⟩ := hall j (List.mem_range.mp hj)
    exact List.mem_map.mpr ⟨p, hp, hpn⟩
  have hnodup : ((List.range 255).map (numberPast n)).Nodup := by
    refine List.nodup_range.map_on fun a ha b hb hab => ?_
    simp only [List.mem_range] at ha hb
    simp only [numberPast] at hab
    omega
  have hle := (hnodup.subperm hsub).length_le
  simp only [List.length_map, List.length_range] at hle
  omega

/-- The number of a new record: the first from the next-number counter on that no record carries (R4). -/
theorem allocatedNumber_spec {r : Register} (h1 : 1 ≤ r.nextNumber) (h2 : r.nextNumber ≤ 255) (hlen : r.records.length ≤ 32) :
    ∃ k < 255, allocatedNumber r = numberPast r.nextNumber k ∧ (∀ j < k, carried r.records (numberPast r.nextNumber j))
      ∧ ¬carried r.records (allocatedNumber r) := by
  obtain ⟨k, hk, heq, hbelow, hfree⟩ := freeNumberFrom_eq_numberPast r.records 255 r.nextNumber h1 h2
  obtain ⟨j, hj, hjfree⟩ := exists_number_free (by omega : r.records.length < 255) r.nextNumber
  have hkj : k ≤ j := by
    by_contra hlt
    exact hjfree (hbelow j (by omega))
  exact ⟨k, by omega, heq, hbelow, by rw [allocatedNumber, heq]; exact hfree (by omega)⟩

/-! ## Queue order (R6) -/

/-- The order of R6. -/
def standsBefore (a b : Passage) : Prop :=
  (a.cls = .priority ∧ b.cls = .routine) ∨ (a.cls = b.cls ∧ a.stamp ≤ b.stamp)

theorem queueBefore_iff (a b : Passage) : queueBefore a b = true ↔ standsBefore a b := by
  unfold queueBefore standsBefore
  cases a.cls <;> cases b.cls <;> simp

theorem standsBefore_of_not {a b : Passage} (h : ¬standsBefore a b) : standsBefore b a := by
  unfold standsBefore at h ⊢
  cases ha : a.cls <;> cases hb : b.cls <;> simp_all <;> omega

theorem standsBefore.trans {a b c : Passage} (hab : standsBefore a b) (hbc : standsBefore b c) : standsBefore a c := by
  unfold standsBefore at *
  cases ha : a.cls <;> cases hb : b.cls <;> cases hc : c.cls <;> simp_all <;> omega

theorem queueInsert_perm (p : Passage) (qs : List Passage) : (queueInsert p qs).Perm (p :: qs) := by
  induction qs with
  | nil => exact .refl _
  | cons q qs ih =>
    unfold queueInsert
    split
    · exact .refl _
    · exact (ih.cons q).trans (.swap p q qs)

theorem queueOrder_perm (ps : List Passage) : (queueOrder ps).Perm ps := by
  induction ps with
  | nil => exact .refl _
  | cons p ps ih => exact (queueInsert_perm p _).trans (ih.cons p)

theorem queueInsert_pairwise (p : Passage) {qs : List Passage} (h : qs.Pairwise standsBefore) :
    (queueInsert p qs).Pairwise standsBefore := by
  induction qs with
  | nil => simp [queueInsert]
  | cons q qs ih =>
    obtain ⟨hq, hqs⟩ := List.pairwise_cons.mp h
    unfold queueInsert
    split
    next hb =>
      rw [queueBefore_iff] at hb
      refine List.pairwise_cons.mpr ⟨fun x hx => ?_, h⟩
      rcases List.mem_cons.mp hx with rfl | hx
      · exact hb
      · exact hb.trans (hq x hx)
    next hb =>
      rw [queueBefore_iff] at hb
      refine List.pairwise_cons.mpr ⟨fun x hx => ?_, ih hqs⟩
      rcases List.mem_cons.mp ((queueInsert_perm p qs).mem_iff.mp hx) with rfl | hx
      · exact standsBefore_of_not hb
      · exact hq x hx

theorem queueOrder_pairwise (ps : List Passage) : (queueOrder ps).Pairwise standsBefore := by
  induction ps with
  | nil => exact .nil
  | cons p ps ih => exact queueInsert_pairwise p ih

/-- Settles O13: fewer records than numbers leave one free, and insertion at its place keeps a list in queue order. -/
theorem numbersAndQueueOrder : Obligations.NumbersAndQueueOrder := by
  refine ⟨fun r h1 h2 hlen => ?number, fun ps => ⟨queueOrder_perm ps, queueOrder_pairwise ps⟩⟩
  case number =>
    obtain ⟨k, hk, heq, hbelow, hfree⟩ := allocatedNumber_spec h1 h2 hlen
    exact ⟨fun p hp hpn => hfree ⟨p, hp, hpn⟩, k, hk, heq, hbelow⟩

/-! ## Records by number -/

variable {r : Register} {s t : State} {p : Passage}

theorem registerTable.number_unique (h : registerTable r) {p q : Passage} (hp : p ∈ r.records) (hq : q ∈ r.records)
    (hn : q.number = p.number) : q = p :=
  List.inj_on_of_nodup_map h.2.1 hq hp hn

theorem findPassage_mem {n : Nat} (h : findPassage n r = some p) : p ∈ r.records ∧ p.number = n := by
  obtain ⟨hp, hmem⟩ := And.intro (List.find?_some h) (List.mem_of_find?_eq_some h)
  exact ⟨hmem, by simpa using hp⟩

theorem findPassage_of_mem (h : registerTable r) (hp : p ∈ r.records) : findPassage p.number r = some p := by
  cases hf : findPassage p.number r with
  | none =>
    have := List.find?_eq_none.mp hf p hp
    simp at this
  | some q =>
    obtain ⟨hq, hn⟩ := findPassage_mem hf
    rw [h.number_unique hp hq hn]

theorem mem_listedRecords {q : Passage} (h : q ∈ listedRecords s) : q ∈ s.reg.records := by
  unfold listedRecords at h
  cases ho : s.seq.opening with
  | none => simp [ho] at h
  | some o =>
    rw [ho] at h
    obtain ⟨n, _, hn⟩ := List.mem_filterMap.mp h
    exact (findPassage_mem hn).1

/-! ## A change of the records one by one -/

/-- A change of every record that keeps its number, its tag and its direction, and lets no record out of a terminal state. -/
structure Kept (p q : Passage) : Prop where
  number : q.number = p.number
  tag : q.tag = p.tag
  direction : q.direction = p.direction
  terminal : p.state.terminal = true → q.state.terminal = true
  withdrawn : (p.withdrawnBy.isSome = true ↔ p.state = .withdrawn) → (q.withdrawnBy.isSome = true ↔ q.state = .withdrawn)

theorem Kept.refl (p : Passage) : Kept p p := ⟨rfl, rfl, rfl, id, id⟩

theorem registerTable_map {g : Passage → Passage} (hg : ∀ p ∈ r.records, Kept p (g p)) (h : registerTable r) :
    registerTable { r with records := r.records.map g } := by
  obtain ⟨hlen, hnodup, hnum, hnext, hpair, hwith⟩ := h
  have hnumbers : (r.records.map g).map (·.number) = r.records.map (·.number) := by
    simpa using fun p hp => (hg p hp).number
  refine ⟨by simpa using hlen, by rwa [hnumbers], ?_, hnext, ?_, ?_⟩
  · intro q hq
    obtain ⟨p, hp, rfl⟩ := List.mem_map.mp hq
    rw [(hg p hp).number]
    exact hnum p hp
  · refine List.pairwise_map.mpr (hpair.imp_of_mem fun {p q} hp hq hpq => ?_)
    rw [(hg p hp).tag, (hg q hq).tag, (hg p hp).direction, (hg q hq).direction]
    rcases hpq with h | h | h
    · exact .inl ((hg p hp).terminal h)
    · exact .inr (.inl ((hg q hq).terminal h))
    · exact .inr (.inr h)
  · intro q hq
    obtain ⟨p, hp, rfl⟩ := List.mem_map.mp hq
    exact (hg p hp).withdrawn (hwith p hp)

theorem registerTable_changePassage {f : Passage → Passage} (hp : p ∈ r.records) (hf : Kept p (f p)) (h : registerTable r) :
    registerTable (changePassage p.number f r) := by
  refine registerTable_map (fun q hq => ?_) h
  split
  next hn =>
    rw [h.number_unique hp hq hn]
    exact hf
  next => exact .refl q

/-- Membership after a change of one record. -/
theorem mem_changePassage {f : Passage → Passage} (h : registerTable r) (hp : p ∈ r.records) {q : Passage} :
    q ∈ (changePassage p.number f r).records ↔ q = f p ∨ (q ∈ r.records ∧ q.number ≠ p.number) := by
  simp only [changePassage, List.mem_map]
  constructor
  · rintro ⟨x, hx, rfl⟩
    split
    next hn => exact .inl (by rw [h.number_unique hp hx hn])
    next hn => exact .inr ⟨hx, hn⟩
  · rintro (rfl | ⟨hq, hn⟩)
    · exact ⟨p, hp, by simp⟩
    · exact ⟨q, hq, by simp [hn]⟩

/-- One record changes, and the admitted list differs by its number at most. -/
theorem recordsFit_changePassage {f : Passage → Passage} (hreg : registerTable s.reg) (h : recordsFit s)
    (hp : p ∈ s.reg.records) (hn : (f p).number = p.number)
    (hrec : t.reg.records = (changePassage p.number f s.reg).records)
    (hlist : ∀ m, m ≠ p.number → (m ∈ admittedList t ↔ m ∈ admittedList s))
    (hactive : isActive (f p) = true → p.number ∈ admittedList t)
    (hnamed : p.number ∈ admittedList t → (f p).state = .admitted ∨ (f p).state = .cleared ∨ (f p).state = .completed)
    (hshort : (admittedList t).length ≤ Config.admittedListSize) (hnodup : (admittedList t).Nodup)
    (hended : ∀ o, t.seq.opening = some o →
      (o.state = .lowering ∨ o.state = .reopeningRoad ∨ o.state = .recoveryWait) →
      isActive (f p) = false ∧ ∀ q ∈ s.reg.records, q.number ≠ p.number → isActive q = false)
    (hrecovery : ∀ o, t.seq.opening = some o → o.recovery = true → o.list = []) : recordsFit t := by
  have hmem {q : Passage} : q ∈ t.reg.records ↔ q = f p ∨ (q ∈ s.reg.records ∧ q.number ≠ p.number) := by
    rw [hrec]; exact mem_changePassage hreg hp
  refine ⟨fun q hq ha => ?_, fun m hm => ?_, hshort, hnodup, fun o ho hst q hq => ?_, hrecovery⟩
  · rcases hmem.mp hq with rfl | ⟨hq, hne⟩
    · rw [hn]; exact hactive ha
    · exact (hlist _ hne).mpr (h.listed q hq ha)
  · by_cases hmp : m = p.number
    · subst hmp
      exact ⟨f p, hmem.mpr (.inl rfl), hn, hnamed hm⟩
    · obtain ⟨q, hq, rfl, hst⟩ := h.named m ((hlist m hmp).mp hm)
      exact ⟨q, hmem.mpr (.inr ⟨hq, hmp⟩), rfl, hst⟩
  · rcases hmem.mp hq with rfl | ⟨hq, hne⟩
    · exact (hended o ho hst).1
    · exact (hended o ho hst).2 q hq hne

/-- The records change one by one without any of them becoming or ceasing to be ADMITTED, CLEARED or COMPLETED. -/
theorem recordsFit_map {g : Passage → Passage} (hrec : t.reg.records = s.reg.records.map g) (ho : t.seq.opening = s.seq.opening)
    (hg : ∀ p ∈ s.reg.records, (g p).number = p.number ∧ isActive (g p) = isActive p
      ∧ (p.state = .admitted ∨ p.state = .cleared ∨ p.state = .completed →
          (g p).state = .admitted ∨ (g p).state = .cleared ∨ (g p).state = .completed))
    (h : recordsFit s) : recordsFit t := by
  have hl := admittedList_congr ho
  refine ⟨fun q hq ha => ?_, fun m hm => ?_, hl ▸ h.short, hl ▸ h.nodup, fun o hto hst q hq => ?_,
    fun o hto => h.recovery o (ho ▸ hto)⟩
  · rw [hrec] at hq
    obtain ⟨p, hp, rfl⟩ := List.mem_map.mp hq
    rw [hl, (hg p hp).1]
    exact h.listed p hp ((hg p hp).2.1 ▸ ha)
  · obtain ⟨p, hp, rfl, hst⟩ := h.named m (hl ▸ hm)
    exact ⟨g p, by rw [hrec]; exact List.mem_map_of_mem hp, (hg p hp).1, (hg p hp).2.2 hst⟩
  · rw [hrec] at hq
    obtain ⟨p, hp, rfl⟩ := List.mem_map.mp hq
    rw [(hg p hp).2.1]
    exact h.ended o (ho ▸ hto) hst p hp

/-! ## A new record (R4, R5, R17) -/

/-- A record but for its stamp. -/
def Passage.key (p : Passage) : Passage := { p with stamp := 0 }

theorem stampFrom_map_key (k : Nat) (ps : List Passage) : (stampFrom k ps).map Passage.key = ps.map Passage.key := by
  induction ps generalizing k with
  | nil => rfl
  | cons p ps ih => simp [stampFrom, ih, Passage.key]

/-- The register's limits read of its records their keys, in any order. -/
theorem registerTable_of_keys {q : Register} (hk : (q.records.map Passage.key).Perm (r.records.map Passage.key))
    (hn : q.nextNumber = r.nextNumber) (h : registerTable r) : registerTable q := by
  obtain ⟨hlen, hnodup, hnum, hnext, hpair, hwith⟩ := h
  have hread {P : Passage → Prop} (hP : ∀ p, P p ↔ P p.key) (hall : ∀ p ∈ r.records, P p) : ∀ p ∈ q.records, P p := by
    intro p hp
    obtain ⟨p', hp', heq⟩ := List.mem_map.mp (hk.mem_iff.mp (List.mem_map_of_mem hp))
    rw [hP, ← heq, ← hP]
    exact hall p' hp'
  refine ⟨?_, ?_, hread (fun _ => Iff.rfl) hnum, hn ▸ hnext, ?_, hread (fun _ => Iff.rfl) hwith⟩
  · have := hk.length_eq
    simp only [List.length_map] at this
    omega
  · have hnumbers := hk.map (fun p => p.number)
    simp only [List.map_map] at hnumbers
    exact hnumbers.nodup_iff.mpr hnodup
  · have hkeys : (r.records.map Passage.key).Pairwise (fun p q => p.state.terminal = true ∨ q.state.terminal = true
        ∨ p.tag ≠ q.tag ∨ p.direction ≠ q.direction) := List.pairwise_map.mpr hpair
    exact List.pairwise_map.mp (hk.symm.pairwise hkeys (fun {a b} hab => by
      rcases hab with h | h | h | h
      · exact .inr (.inl h)
      · exact .inl h
      · exact .inr (.inr (.inl (Ne.symm h)))
      · exact .inr (.inr (.inr (Ne.symm h)))))

theorem enterRecord_keys (p : Passage) (r : Register) :
    ((enterRecord p r).records.map Passage.key).Perm ((r.records ++ [p]).map Passage.key) := by
  unfold enterRecord
  dsimp only
  split
  · rw [stampFrom_map_key]; exact (queueOrder_perm _).map _
  · exact .refl _

@[simp] theorem enterRecord_nextNumber (p : Passage) (r : Register) : (enterRecord p r).nextNumber = numberAfter p.number := by
  unfold enterRecord; dsimp only; split <;> rfl

/-- A new record in a register with room for it (R3, R4). -/
theorem registerTable_enterRecord {l : Link} {e : Entry} {angle : Nat} (h : registerTable r) (htwice : heldTwice e r = false)
    (hroom : r.records.length < Config.registerSize) : registerTable (enterRecord (entryRecord l e angle r) r) := by
  obtain ⟨hlen, hnodup, hnum, hnext, hpair, hwith⟩ := h
  obtain ⟨k, _, heq, _, hfree⟩ := allocatedNumber_spec hnext.1 hnext.2 hlen
  have hbounds : 1 ≤ allocatedNumber r ∧ allocatedNumber r ≤ 255 := by rw [heq]; exact numberPast_bounds _ _
  refine registerTable_of_keys (r := { r with records := r.records ++ [entryRecord l e angle r], nextNumber := numberAfter (allocatedNumber r) })
    (enterRecord_keys _ r) (by simp [entryRecord]) ⟨?_, ?_, ?_, numberAfter_bounds hbounds.1, ?_, ?_⟩
  · simpa using hroom
  · rw [List.map_append, List.nodup_append]
    refine ⟨hnodup, by simp, fun a ha b hb hab => ?_⟩
    obtain ⟨p, hp, rfl⟩ := List.mem_map.mp ha
    simp only [List.map_cons, List.map_nil, List.mem_singleton, entryRecord] at hb
    exact hfree ⟨p, hp, hab.trans hb⟩
  · intro p hp
    rcases List.mem_append.mp hp with hp | hp
    · exact hnum p hp
    · simp only [List.mem_singleton] at hp
      subst hp
      exact hbounds
  · refine List.pairwise_append.mpr ⟨hpair, by simp, fun p hp q hq => ?_⟩
    simp only [List.mem_singleton] at hq
    subst hq
    have hne : ¬(p.state.terminal = false ∧ p.tag = e.tag ∧ p.direction = e.direction) := by
      intro hsame
      have := (heldTwice_iff e r).mpr ⟨p, hp, hsame⟩
      simp [htwice] at this
    simp only [entryRecord]
    cases hterm : p.state.terminal
    · simp only [hterm, true_and, not_and_or] at hne
      exact .inr (.inr hne)
    · exact .inl rfl
  · intro p hp
    rcases List.mem_append.mp hp with hp | hp
    · exact hwith p hp
    · simp only [List.mem_singleton] at hp
      subst hp
      simp [entryRecord]

/-- Records with the same keys but for one more, in WAITING. -/
theorem recordsFit_of_keys (hk : (t.reg.records.map Passage.key).Perm ((s.reg.records ++ [p]).map Passage.key))
    (hp : p.state = .waiting) (ho : t.seq.opening = s.seq.opening) (h : recordsFit s) : recordsFit t := by
  have hl := admittedList_congr ho
  have hback {q : Passage} (hq : q ∈ t.reg.records) (ha : isActive q = true) : ∃ q' ∈ s.reg.records, q'.key = q.key := by
    obtain ⟨q', hq', heq⟩ := List.mem_map.mp (hk.mem_iff.mp (List.mem_map_of_mem hq))
    rcases List.mem_append.mp hq' with hq' | hq'
    · exact ⟨q', hq', heq⟩
    · simp only [List.mem_singleton] at hq'
      subst hq'
      have hst : q.state = .waiting := (congrArg Passage.state heq).symm.trans hp
      simp [isActive, isAdmitted, isCleared, hst] at ha
  have hactive {q q' : Passage} (heq : q'.key = q.key) : isActive q' = isActive q := by
    have hst : q'.state = q.state := (congrArg Passage.state heq :)
    simp only [isActive, isAdmitted, isCleared, hst]
  refine ⟨fun q hq ha => ?_, fun m hm => ?_, hl ▸ h.short, hl ▸ h.nodup, fun o hto hst q hq => ?_,
    fun o hto => h.recovery o (ho ▸ hto)⟩
  · obtain ⟨q', hq', heq⟩ := hback hq ha
    have hn : q'.number = q.number := (congrArg Passage.number heq :)
    rw [hl, ← hn]
    exact h.listed q' hq' (hactive heq ▸ ha)
  · obtain ⟨q, hq, hqm, hst⟩ := h.named m (hl ▸ hm)
    have hmem : q.key ∈ (s.reg.records ++ [p]).map Passage.key := List.mem_map_of_mem (List.mem_append_left _ hq)
    obtain ⟨q', hq', heq⟩ := List.mem_map.mp (hk.mem_iff.mpr hmem)
    have hst' : q'.state = q.state := (congrArg Passage.state heq :)
    exact ⟨q', hq', (congrArg Passage.number heq).trans hqm, hst' ▸ hst⟩
  · by_contra ha
    obtain ⟨q', hq', heq⟩ := hback hq (by simpa using ha)
    have hnone := h.ended o (ho ▸ hto) hst q' hq'
    rw [hactive heq] at hnone
    exact ha hnone

end Sys2Proof.Machine

/-!
The record operations of Chapters 1 and 2 on the conditions that no step breaks: admission, clearing, completion, return, withdrawal,
release, enter, amend and age (R11, R16 to R24, R34 to R43), each with what it leaves of the demands.
-/

namespace Sys2Proof.Machine

open Sys2Proof

variable {φ : Phase} {s t : State} {r : Register} {p q : Passage} {st : PassageState} {n : Nat}

/-! ## Records moved between states -/

/-- The register holds a record with a number that is in no terminal state. -/
def holdsLive (r : Register) (n : Nat) : Prop := ∃ q ∈ r.records, q.number = n ∧ q.state.terminal = false

theorem not_withdrawn_of_live (h : p.state.terminal = false) : p.state ≠ .withdrawn := by
  rintro hw; simp [hw, PassageState.terminal] at h

theorem terminal_of_active (h : isActive p = true) : p.state.terminal = false := by
  rcases Bool.or_eq_true _ _ ▸ h with h | h <;> simp [PassageState.terminal, show p.state = _ from beq_iff_eq.mp h]

/-- A record in no terminal state may be moved to any state but WITHDRAWN. -/
theorem kept_move (h : p.state.terminal = false) (hst : st ≠ .withdrawn) : Kept p { p with state := st } where
  number := rfl
  tag := rfl
  direction := rfl
  terminal := fun ht => by simp [h] at ht
  withdrawn := fun hw => by
    have hnone := mt hw.mp (not_withdrawn_of_live h)
    exact ⟨fun hs => absurd hs hnone, fun hs => absurd hs hst⟩

theorem registerTable_move (hlive : holdsLive r n) (hst : st ≠ .withdrawn) (h : registerTable r) :
    registerTable (changePassage n (fun q => { q with state := st }) r) := by
  obtain ⟨q, hq, rfl, hterm⟩ := hlive
  exact registerTable_changePassage hq (kept_move hterm hst) h

theorem holdsLive_move {m : Nat} (hst : st.terminal = false) (h : holdsLive r m) :
    holdsLive (changePassage n (fun q => { q with state := st }) r) m := by
  obtain ⟨q, hq, hn, hterm⟩ := h
  refine ⟨_, List.mem_map_of_mem hq, ?_⟩
  split
  · exact ⟨hn, hst⟩
  · exact ⟨hn, hterm⟩

@[simp] theorem moveRecord_reg (l : Option Link) (p : Passage) (st : PassageState) (s : State) :
    (moveRecord l p st s).reg = changePassage p.number (fun q => { q with state := st }) s.reg := by
  simp [moveRecord]

@[simp] theorem admitStep_reg (l : Option Link) (p : Passage) (s : State) :
    (admitStep l p s).reg = changePassage p.number (fun q => { q with state := .admitted }) s.reg := by
  simp [admitStep]

@[simp] theorem returnStep_reg (l : Option Link) (p : Passage) (s : State) :
    (returnStep l p s).reg = changePassage p.number (fun q => { q with state := .waiting }) s.reg := by
  simp [returnStep]

theorem moveRecord_recordStep (l : Option Link) (p : Passage) (st : PassageState) (s : State) :
    RecordStep s (moveRecord l p st s) :=
  (withReg_recordStep _ s).trans (notifyOrigin_recordStep l p _)

theorem updateOpening_recordStep (f : Opening → Opening) (s : State) : RecordStep s (updateOpening f s) :=
  setOpening_recordStep _ s

theorem admitStep_recordStep (l : Option Link) (p : Passage) (s : State) : RecordStep s (admitStep l p s) :=
  (moveRecord_recordStep l p .admitted s).trans (updateOpening_recordStep _ _)

theorem returnStep_recordStep (l : Option Link) (p : Passage) (s : State) : RecordStep s (returnStep l p s) :=
  (moveRecord_recordStep l p .waiting s).trans (updateOpening_recordStep _ _)

/-- Records moved one after another to one state: the register's limits stand. -/
theorem registerTable_moves {g : State → Passage → State} (hst : st.terminal = false)
    (hg : ∀ t p, (g t p).reg = changePassage p.number (fun q => { q with state := st }) t.reg) (ps : List Passage) (s : State)
    (hlive : ∀ p ∈ ps, holdsLive s.reg p.number) (h : registerTable s.reg) : registerTable (ps.foldl g s).reg := by
  induction ps generalizing s with
  | nil => exact h
  | cons p ps ih =>
    have hne : st ≠ .withdrawn := by rintro rfl; simp [PassageState.terminal] at hst
    refine ih (g s p) (fun q hq => ?_) ?_
    · rw [hg]; exact holdsLive_move hst (hlive q (List.mem_cons_of_mem p hq))
    · rw [hg]; exact registerTable_move (hlive p List.mem_cons_self) hne h

theorem holdsLive_of_mem (hq : q ∈ r.records) (h : q.state.terminal = false) : holdsLive r q.number := ⟨q, hq, rfl, h⟩

/-! ## Clearing and completing (R37, R46) -/

/-- A move of an ADMITTED or CLEARED record to CLEARED or COMPLETED. -/
theorem recordsFit_advance {l : Option Link} (hactive : ∃ q ∈ s.reg.records, q.number = p.number ∧ isActive q = true)
    (hst : st = .cleared ∨ st = .completed) (hr : registerTable s.reg) (h : recordsFit s) :
    recordsFit (moveRecord l p st s) := by
  obtain ⟨q, hq, hn, ha⟩ := hactive
  have hmem : q.number ∈ admittedList s := h.listed q hq ha
  have ho : (moveRecord l p st s).seq.opening = s.seq.opening := by simp
  have hl := admittedList_congr ho
  refine recordsFit_changePassage (f := fun q => { q with state := st }) hr h hq rfl (by simp [hn])
    (fun m _ => by rw [hl]) (fun _ => hl ▸ hmem) (fun _ => .inr hst) (hl ▸ h.short) (hl ▸ h.nodup) (fun o hto hended => ?_)
    (fun o hto => h.recovery o (ho ▸ hto))
  have := h.ended o (ho ▸ hto) hended q hq
  simp [ha] at this

/-- A clearing or a completion of an ADMITTED or CLEARED record keeps every condition but the demands. -/
theorem moveRecord_keeps {l : Option Link} (hactive : ∃ q ∈ s.reg.records, q.number = p.number ∧ isActive q = true)
    (hst : st = .cleared ∨ st = .completed) : Keeps φ s (moveRecord l p st s) := by
  refine (moveRecord_recordStep l p st s).keeps (fun hr => ?_) (recordsFit_advance hactive hst) (.inr fun _ hnil _ => ?_)
  · obtain ⟨q, hq, hn, ha⟩ := hactive
    rw [moveRecord_reg]
    exact registerTable_move ⟨q, hq, hn, terminal_of_active ha⟩ (by rcases hst with rfl | rfl <;> decide) hr
  · obtain ⟨q, hq, _⟩ := hactive
    simp [hnil] at hq

theorem clearEach_keeps (ps : List Passage) (s : State)
    (hactive : ∀ p ∈ ps, ∃ q ∈ s.reg.records, q.number = p.number ∧ isActive q = true) :
    Keeps φ s (ps.foldl (fun t p => moveRecord none p .cleared t) s) := by
  induction ps generalizing s with
  | nil => exact .refl s
  | cons p ps ih =>
    refine (moveRecord_keeps (hactive p List.mem_cons_self) (.inl rfl)).trans (ih _ fun x hx => ?_)
    obtain ⟨q, hq, hn, ha⟩ := hactive x (List.mem_cons_of_mem p hx)
    rw [moveRecord_reg]
    refine ⟨_, List.mem_map_of_mem hq, ?_⟩
    split
    · exact ⟨hn, by simp [isActive, isCleared]⟩
    · exact ⟨hn, ha⟩

theorem mem_admittedRecords (h : p ∈ admittedRecords s) : p ∈ s.reg.records ∧ p.state = .admitted := by
  obtain ⟨hp, ha⟩ := List.mem_filter.mp h
  exact ⟨mem_listedRecords hp, beq_iff_eq.mp ha⟩

theorem active_of_admitted (h : p.state = .admitted) : isActive p = true := by simp [isActive, isAdmitted, h]

/-- The clearance that reaches the sequencer (R46). -/
theorem withClearance_keeps (c : Nat) (s : State) : Keeps φ s (s.withSeq { s.seq with clearance := c }) :=
  (show RecordStep s (s.withSeq { s.seq with clearance := c }) from ⟨rfl, rfl, rfl, rfl, rfl, rfl, rfl, rfl, fun _ => rfl, id⟩).keeps
    id (fun _ => (recordsFit_congr (by rfl) (by rfl)).mpr) (.inr fun _ hr ho => ⟨hr, ho⟩)

theorem clearanceUpdate_keeps (c : Nat) (s : State) : KeepsAll φ s (clearanceUpdate c s) := by
  refine Keeps.all ?_ (demandsStand_deriveDemands _)
  refine (withClearance_keeps c s).trans (.trans ?_ (deriveDemands_keeps _).toKeeps)
  split
  · exact .refl _
  · split
    · refine clearEach_keeps _ _ fun p hp => ?_
      obtain ⟨hmem, hst⟩ := mem_admittedRecords (List.mem_of_mem_filter hp)
      exact ⟨p, hmem, rfl, active_of_admitted hst⟩
    · exact .refl _

/-! ## Numbers that leave the admitted list -/

/-- The opening with a number taken out of its list. -/
def dropListed (n : Nat) (s : State) : State :=
  updateOpening (fun o => { o with list := o.list.filter (fun m => m != n) }) s

theorem returnStep_eq (l : Option Link) (p : Passage) (s : State) :
    returnStep l p s = dropListed p.number (moveRecord l p .waiting s) := rfl

theorem admittedList_dropListed (n : Nat) (s : State) : admittedList (dropListed n s) = (admittedList s).filter (fun m => m != n) := by
  cases ho : s.seq.opening <;> simp [admittedList, dropListed, updateOpening, setOpening, ho]

theorem dropListed_opening (n : Nat) (s : State) :
    (dropListed n s).seq.opening = s.seq.opening.map (fun o => { o with list := o.list.filter (fun m => m != n) }) := rfl

/-- Nothing leaves a list that a number does not stand in. -/
theorem dropListed_of_not_mem (h : n ∉ admittedList s) : dropListed n s = s := by
  cases ho : s.seq.opening with
  | none =>
    simp only [dropListed, updateOpening, ho, Option.map_none, setOpening]
    rw [← ho]
    rfl
  | some o =>
    have hfilter : o.list.filter (fun m => m != n) = o.list := by
      rw [List.filter_eq_self]
      rintro m hm
      simp only [bne_iff_ne]
      rintro rfl
      exact h (by simpa [admittedList, ho] using hm)
    simp only [dropListed, updateOpening, ho, Option.map_some, hfilter, setOpening]
    rw [← ho]
    rfl

theorem leaveList_eq (n : Nat) (s : State) :
    leaveList n s = if n ∈ admittedList s then listShortened (dropListed n s) else s := by
  unfold leaveList
  cases ho : s.seq.opening with
  | none => simp [admittedList, ho]
  | some o => simp [admittedList, ho, dropListed, updateOpening]

/-- A record is changed so that it is neither ADMITTED nor CLEARED, and its number leaves the list. -/
theorem recordsFit_drop {f : Passage → Passage} (hr : registerTable s.reg) (h : recordsFit s) (hq : q ∈ s.reg.records)
    (hn : (f q).number = q.number) (hinactive : isActive (f q) = false)
    (hreg : t.reg.records = (changePassage q.number f s.reg).records)
    (ho : t.seq.opening = s.seq.opening.map (fun o => { o with list := o.list.filter (fun m => m != q.number) })) :
    recordsFit t := by
  have hl : admittedList t = (admittedList s).filter (fun m => m != q.number) := by
    cases hs : s.seq.opening <;> simp [admittedList, ho, hs]
  refine recordsFit_changePassage hr h hq hn hreg (fun m hm => by simp [hl, hm]) (fun ha => by simp [hinactive] at ha)
    (fun hm => by simp [hl] at hm) ?_ (hl ▸ h.nodup.filter _) (fun o hto hended => ?_) (fun o hto hrec => ?_)
  · rw [hl]; exact (List.length_filter_le _ _).trans h.short
  · rw [ho] at hto
    obtain ⟨o', ho', rfl⟩ := Option.map_eq_some_iff.mp hto
    exact ⟨hinactive, fun x hx _ => h.ended o' ho' hended x hx⟩
  · rw [ho] at hto
    obtain ⟨o', ho', rfl⟩ := Option.map_eq_some_iff.mp hto
    simp [h.recovery o' ho' hrec]

/-! ## Returns (R24, R38, R39) -/

theorem recordsFit_returnStep {l : Option Link} (hlive : holdsLive s.reg p.number) (hr : registerTable s.reg) (h : recordsFit s) :
    recordsFit (returnStep l p s) := by
  obtain ⟨q, hq, hn, _⟩ := hlive
  refine recordsFit_drop (f := fun q => { q with state := .waiting }) hr h hq rfl rfl (by simp [hn]) ?_
  rw [returnStep_eq, dropListed_opening, moveRecord_seq, hn]

theorem recordsFit_returns {l : Option Link} (ps : List Passage) (s : State) (hlive : ∀ p ∈ ps, holdsLive s.reg p.number)
    (hr : registerTable s.reg) (h : recordsFit s) : recordsFit (ps.foldl (fun t p => returnStep l p t) s) := by
  induction ps generalizing s with
  | nil => exact h
  | cons p ps ih =>
    have hp := hlive p List.mem_cons_self
    refine ih _ (fun x hx => ?_) ?_ (recordsFit_returnStep hp hr h)
    · rw [returnStep_reg]; exact holdsLive_move rfl (hlive x (List.mem_cons_of_mem p hx))
    · rw [returnStep_reg]; exact registerTable_move hp (by decide) hr

/-- The records after the returns: the named ones are WAITING, the others stand. -/
theorem returns_records {l : Option Link} (ps : List Passage) (s : State) :
    (ps.foldl (fun t p => returnStep l p t) s).reg.records =
      s.reg.records.map (fun q => if q.number ∈ ps.map (·.number) then { q with state := .waiting } else q) := by
  induction ps generalizing s with
  | nil => simp
  | cons p ps ih =>
    rw [List.foldl_cons, ih, returnStep_reg]
    simp only [changePassage, List.map_map]
    refine List.map_congr_left fun q _ => ?_
    by_cases h1 : q.number = p.number
    · simp only [Function.comp_apply, if_pos h1, if_pos (show q.number ∈ (p :: ps).map (·.number) by simp [h1])]
      split <;> rfl
    · simp [h1]

theorem admittedRecords_live (hp : p ∈ admittedRecords s) : holdsLive s.reg p.number := by
  obtain ⟨hmem, hst⟩ := mem_admittedRecords hp
  exact holdsLive_of_mem hmem (by simp [hst, PassageState.terminal])

theorem returnAll_recordStep (l : Option Link) (s : State) : RecordStep s (returnAll l s) :=
  recordStep_foldl (fun t p => returnStep_recordStep l p t) _ s

theorem registerTable_returnAll {l : Option Link} (h : registerTable s.reg) : registerTable (returnAll l s).reg :=
  registerTable_moves (st := .waiting) (g := fun t p => returnStep l p t) rfl (fun _ _ => by simp) _ s (fun _ hp => admittedRecords_live hp) h

theorem recordsFit_returnAll {l : Option Link} (hr : registerTable s.reg) (h : recordsFit s) : recordsFit (returnAll l s) :=
  recordsFit_returns _ s (fun _ hp => admittedRecords_live hp) hr h

/-- With no CLEARED record in the list, nothing is left ADMITTED or CLEARED after the returns. -/
theorem returnAll_inactive {l : Option Link} (hr : registerTable s.reg) (h : recordsFit s)
    (hcleared : (listedRecords s).any isCleared = false) : ∀ p ∈ (returnAll l s).reg.records, isActive p = false := by
  intro p hp
  rw [returnAll, returns_records] at hp
  obtain ⟨q, hq, rfl⟩ := List.mem_map.mp hp
  split
  next => rfl
  next hnot =>
    by_contra ha
    have ha : isActive q = true := by simpa using ha
    have hlisted : q ∈ listedRecords s := by
      have hmem := h.listed q hq ha
      cases ho : s.seq.opening with
      | none => simp [admittedList, ho] at hmem
      | some o =>
        simp only [admittedList, ho] at hmem
        simp only [listedRecords, ho, List.mem_filterMap]
        exact ⟨q.number, hmem, findPassage_of_mem hr hq⟩
    rcases Bool.or_eq_true _ _ ▸ ha with h1 | h1
    · exact hnot (List.mem_map_of_mem (List.mem_filter.mpr ⟨hlisted, h1⟩))
    · have := List.any_eq_false.mp hcleared q hlisted
      exact this h1

theorem returnAll_opening (l : Option Link) (s : State) (hs : s.seq.opening = none) : (returnAll l s).seq.opening = none := by
  have hnil : admittedRecords s = [] := by simp [admittedRecords, listedRecords, hs]
  rw [returnAll, hnil]
  exact hs

/-- Every ADMITTED record returned, and the opening taken to one of the states in which none is left (R29, R38, R39). -/
theorem returnAll_ended_keeps {l : Option Link} {f : Opening → Opening}
    (hf : ∀ o, (f o).list = o.list ∧ (f o).recovery = o.recovery) (hcleared : (listedRecords s).any isCleared = false) :
    Keeps φ s (updateOpening f (returnAll l s)) := by
  refine ((returnAll_recordStep l s).trans (updateOpening_recordStep f _)).keeps registerTable_returnAll (fun hr h => ?_)
    (.inr fun _ hnil ho => ⟨?_, ?_⟩)
  · have hkeep := updateOpening_keeps (φ := .ordinary) (f := f) (s := returnAll l s) (fun o _ => hf o)
      fun _ _ _ => .inr fun _ _ => returnAll_inactive hr h hcleared
    exact hkeep.records (registerTable_returnAll hr) (recordsFit_returnAll hr h)
  · simp [returnAll, returns_records, hnil]
  · simp [updateOpening, setOpening, returnAll_opening l s ho]

/-! ## Admissions (R24, R34, R35) -/

/-- A WAITING record admitted at the end of the list of an opening with room. -/
theorem recordsFit_admitStep {l : Option Link} {o : Opening} (ho : s.seq.opening = some o)
    (hrunning : ¬(o.state = .lowering ∨ o.state = .reopeningRoad ∨ o.state = .recoveryWait)) (hrecovery : o.recovery = false)
    (hroom : o.list.length < Config.admittedListSize) (hwaiting : ∃ q ∈ s.reg.records, q.number = p.number ∧ q.state = .waiting)
    (hr : registerTable s.reg) (h : recordsFit s) : recordsFit (admitStep l p s) := by
  obtain ⟨q, hq, hn, hst⟩ := hwaiting
  have hto : (admitStep l p s).seq.opening = some { o with list := o.list ++ [p.number] } := by
    simp [admitStep, updateOpening, setOpening, ho]
  have hl : admittedList (admitStep l p s) = admittedList s ++ [q.number] := by simp [admittedList, hto, ho, hn]
  have hnew : q.number ∉ admittedList s := by
    intro hmem
    obtain ⟨x, hx, hxn, hxst⟩ := h.named _ hmem
    rw [hr.number_unique hq hx hxn, hst] at hxst
    simp at hxst
  refine recordsFit_changePassage (f := fun q => { q with state := .admitted }) hr h hq rfl (by simp [hn])
    (fun m hm => by simp [hl, hm]) (fun _ => by simp [hl]) (fun _ => .inl rfl) ?_ ?_ (fun o' ho' hended => ?_) (fun o' ho' hrec => ?_)
  · rw [hl]
    simp only [admittedList, ho, List.length_append, List.length_singleton]
    omega
  · rw [hl, List.nodup_append]
    exact ⟨h.nodup, by simp, fun a ha b hb hab => hnew (by simp only [List.mem_singleton] at hb; rw [← hb, ← hab]; exact ha)⟩
  · rw [hto, Option.some.injEq] at ho'
    subst ho'
    exact absurd hended hrunning
  · rw [hto, Option.some.injEq] at ho'
    subst ho'
    simp [hrecovery] at hrec

/-- Several WAITING records admitted one after another, as many as the list has room for. -/
theorem recordsFit_admits {l : Option Link} (ps : List Passage) (s : State) {o : Opening} (ho : s.seq.opening = some o)
    (hrunning : ¬(o.state = .lowering ∨ o.state = .reopeningRoad ∨ o.state = .recoveryWait)) (hrecovery : o.recovery = false)
    (hroom : o.list.length + ps.length ≤ Config.admittedListSize) (hdistinct : (ps.map (·.number)).Nodup)
    (hwaiting : ∀ p ∈ ps, ∃ q ∈ s.reg.records, q.number = p.number ∧ q.state = .waiting)
    (hr : registerTable s.reg) (h : recordsFit s) : recordsFit (ps.foldl (fun t p => admitStep l p t) s) := by
  induction ps generalizing s o with
  | nil => exact h
  | cons p ps ih =>
    obtain ⟨hne, hdistinct⟩ := List.nodup_cons.mp hdistinct
    have hp := hwaiting p List.mem_cons_self
    simp only [List.length_cons] at hroom
    refine ih (admitStep l p s) (o := { o with list := o.list ++ [p.number] }) ?_ hrunning hrecovery ?_ hdistinct
      (fun x hx => ?_) ?_ (recordsFit_admitStep ho hrunning hrecovery (by omega) hp hr h)
    · simp [admitStep, updateOpening, setOpening, ho]
    · simp only [List.length_append, List.length_singleton]; omega
    · obtain ⟨q, hq, hn, hst⟩ := hwaiting x (List.mem_cons_of_mem p hx)
      rw [admitStep_reg]
      refine ⟨q, List.mem_map.mpr ⟨q, hq, if_neg ?_⟩, hn, hst⟩
      intro hqp
      exact hne (List.mem_map.mpr ⟨x, hx, hn.symm.trans hqp⟩)
    · obtain ⟨q, hq, hn, hst⟩ := hp
      rw [admitStep_reg]
      exact registerTable_move ⟨q, hq, hn, by simp [hst, PassageState.terminal]⟩ (by decide) hr

/-- The records that BEGIN OPENING admits: WAITING ones of the register, no number twice, at most `k`. -/
def firstWaiting (k : Nat) (s : State) : List Passage := ((queueOrder s.reg.records).filter (fun p => p.state == .waiting)).take k

theorem firstWaiting_sublist (k : Nat) (s : State) : (firstWaiting k s).Sublist (queueOrder s.reg.records) :=
  (List.take_sublist _ _).trans List.filter_sublist

theorem firstWaiting_mem {k : Nat} (hp : p ∈ firstWaiting k s) : p ∈ s.reg.records ∧ p.state = .waiting := by
  have hmem := List.mem_of_mem_take hp
  obtain ⟨hq, hst⟩ := List.mem_filter.mp hmem
  exact ⟨(queueOrder_perm _).mem_iff.mp hq, by simpa using hst⟩

theorem firstWaiting_nodup (k : Nat) (h : registerTable s.reg) : ((firstWaiting k s).map (·.number)).Nodup :=
  (((queueOrder_perm s.reg.records).map _).nodup_iff.mpr h.2.1).sublist ((firstWaiting_sublist k s).map _)

theorem admitFirst_recordStep (l : Option Link) (k : Nat) (s : State) : RecordStep s (admitFirst l k s) :=
  recordStep_foldl (fun t p => admitStep_recordStep l p t) _ s

/-- BEGIN OPENING's admissions into a new opening (R34). -/
theorem beginAdmissions_keeps {l : Option Link} {k : Nat} {o : Opening} (hs : s.seq.opening = none) (hm : s.sup.mode ≠ .setup)
    (hlist : o.list = []) (hst : o.state = .closingRoad) (hrec : o.recovery = false) (hk : k ≤ Config.admittedListSize) :
    Keeps φ s (admitFirst l k (setOpening (some o) s)) := by
  have hmem (p : Passage) (hp : p ∈ firstWaiting k s) : ∃ q ∈ s.reg.records, q.number = p.number ∧ q.state = .waiting :=
    ⟨p, (firstWaiting_mem hp).1, rfl, (firstWaiting_mem hp).2⟩
  refine ((setOpening_recordStep _ s).trans (admitFirst_recordStep l k _)).keeps (fun hr => ?_) (fun hr h => ?_)
    (.inr fun hsetup => absurd hsetup hm)
  · refine registerTable_moves (st := .admitted) (g := fun t p => admitStep l p t) rfl (fun _ _ => by simp) _ _ (fun p hp => ?_) hr
    obtain ⟨q, hq, hn, hw⟩ := hmem p hp
    exact ⟨q, hq, hn, by simp [hw, PassageState.terminal]⟩
  · have hnone : admittedList s = [] := by simp [admittedList, hs]
    have hfit : recordsFit (setOpening (some o) s) := by
      have hl : admittedList (setOpening (some o) s) = [] := by simp [admittedList, setOpening, hlist]
      refine ⟨fun p hp ha => ?_, by simp [hl], by simp [hl], by simp [hl], fun o' ho' hended p hp => ?_, fun o' ho' _ => ?_⟩
      · have := h.listed p hp ha
        simp [hnone] at this
      · obtain rfl : o = o' := by simpa [setOpening] using ho'
        simp [hst] at hended
      · obtain rfl : o = o' := by simpa [setOpening] using ho'
        exact hlist
    refine recordsFit_admits (firstWaiting k s) (setOpening (some o) s) (o := o) rfl (by simp [hst]) hrec ?_
      (firstWaiting_nodup k hr) hmem hr hfit
    have : (firstWaiting k s).length ≤ k := by simp [firstWaiting]
    simp only [hlist, List.length_nil]
    omega

/-- ADMIT TO OPENING's admission (R35). -/
theorem admitStep_keeps {l : Option Link} {o : Opening} (ho : s.seq.opening = some o)
    (hrunning : ¬(o.state = .lowering ∨ o.state = .reopeningRoad ∨ o.state = .recoveryWait)) (hrecovery : o.recovery = false)
    (hroom : o.list.length < Config.admittedListSize) (hp : p ∈ s.reg.records) (hst : p.state = .waiting) :
    Keeps φ s (admitStep l p s) := by
  refine (admitStep_recordStep l p s).keeps (fun hr => ?_) (recordsFit_admitStep ho hrunning hrecovery hroom ⟨p, hp, rfl, hst⟩)
    (.inr fun _ hnil _ => ?_)
  · rw [admitStep_reg]
    exact registerTable_move (holdsLive_of_mem hp (by simp [hst, PassageState.terminal])) (by decide) hr
  · simp [hnil] at hp

end Sys2Proof.Machine

/-!
The record requests of Chapter 1 on the conditions that no step breaks (R16 to R23, R43), and the demands they leave (R58).
-/

namespace Sys2Proof.Machine

open Sys2Proof

variable {φ : Phase} {s t : State} {r : Register} {p q : Passage} {n : Nat}

/-! ## What R58 reads of the listed records -/

/-- What R58 reads of a record. -/
def shapeOf (p : Passage) : PassageState × Direction × Nat := (p.state, p.direction, p.clearance)

/-- What R58 reads of the ADMITTED and CLEARED records of the list, in list order. -/
def listedShapes (s : State) : List (PassageState × Direction × Nat) := ((listedRecords s).filter isActive).map shapeOf

/-- A question about active records is one about their shapes. -/
theorem any_listed (f : Passage → Bool) (f' : PassageState × Direction × Nat → Bool) (hf : ∀ p, f p = true → isActive p = true)
    (hf' : ∀ p, isActive p = true → f p = f' (shapeOf p)) (s : State) : (listedRecords s).any f = (listedShapes s).any f' := by
  rw [Bool.eq_iff_iff]
  simp only [listedShapes, List.any_map, List.any_eq_true, List.mem_filter, Function.comp_apply]
  constructor
  · rintro ⟨p, hp, h⟩
    exact ⟨p, ⟨hp, hf p h⟩, hf' p (hf p h) ▸ h⟩
  · rintro ⟨p, ⟨hp, ha⟩, h⟩
    exact ⟨p, hp, (hf' p ha).trans h⟩

theorem activeIn_shapes (d : Direction) (s : State) : activeIn d s = (listedShapes s).any (fun x => x.2.1 == d) :=
  any_listed _ _ (fun _ h => (Bool.and_eq_true _ _ ▸ h).1) (fun p ha => by simp [ha, shapeOf]) s

/-- The PASS row of R58 in two questions about the list. -/
theorem passRow_eq_any (d : Direction) (o : Opening) (s : State) : passRow d o s =
    (o.state == .open && o.changeover.isNone && o.served == some d
      && (listedRecords s).any (fun p => isCleared p && p.direction == d) && groupAdmitsPassage o s
      && !(listedRecords s).any (fun p => isCleared p && p.direction == d && !decide (p.clearance ≤ s.seq.clearance))) := by
  have hsome : (!((listedRecords s).filter (fun p => isCleared p && p.direction == d)).isEmpty)
      = (listedRecords s).any (fun p => isCleared p && p.direction == d) := by
    rw [Bool.eq_iff_iff]
    simp
  have hall : ((listedRecords s).filter (fun p => isCleared p && p.direction == d)).all (fun p => p.clearance ≤ s.seq.clearance)
      = !(listedRecords s).any (fun p => isCleared p && p.direction == d && !decide (p.clearance ≤ s.seq.clearance)) := by
    rw [Bool.eq_iff_iff]
    simp [List.all_eq_true]
    grind
  simp only [passRow, hsome, hall]

theorem any_cleared_shapes (d : Direction) (f : Nat → Bool) (s : State) :
    (listedRecords s).any (fun p => isCleared p && p.direction == d && f p.clearance)
      = (listedShapes s).any (fun x => x.1 == .cleared && x.2.1 == d && f x.2.2) :=
  any_listed _ _ (fun p h => by
    have hc : isCleared p = true := by simp only [Bool.and_eq_true] at h; exact h.1.1
    simp [isActive, hc]) (fun p _ => by simp [shapeOf, isCleared]) s

/-- R58 reads the mode, the policy, the opening, the clearance, the group state, and the shapes of the listed records. -/
theorem demandFor_congr_shapes (hm : t.sup.mode = s.sup.mode) (hc : t.cfg = s.cfg) (ho : t.seq.opening = s.seq.opening)
    (hcl : t.seq.clearance = s.seq.clearance) (hr : listedShapes t = listedShapes s)
    (hg : t.leaf.group.state = s.leaf.group.state) (d : Direction) : demandFor d t = demandFor d s := by
  have hpass (o : Opening) : passRow d o t = passRow d o s := by
    have htrue := any_cleared_shapes d (fun _ => true)
    simp only [Bool.and_true] at htrue
    simp only [passRow_eq_any, any_cleared_shapes d (fun k => !decide (k ≤ s.seq.clearance)), htrue, hr, hcl, groupAdmitsPassage, hg]
  have hstandBy (o : Opening) : standByRow d o t = standByRow d o s := by
    simp only [standByRow, activeIn_shapes, hr]
  unfold demandFor State.conf
  rw [hm, hc, ho]
  cases s.seq.opening with
  | none => rfl
  | some o => simp only [hpass, hstandBy]

/-- The list's active records keep their shapes where each listed number keeps its own. -/
theorem listedShapes_congr (ho : t.seq.opening = s.seq.opening)
    (h : ∀ n ∈ admittedList s, ((findPassage n t.reg).filter isActive).map shapeOf = ((findPassage n s.reg).filter isActive).map shapeOf) :
    listedShapes t = listedShapes s := by
  cases hs : s.seq.opening with
  | none => simp [listedShapes, listedRecords, ho, hs]
  | some o =>
    have hfold (u : State) (hu : u.seq.opening = some o) : listedShapes u =
        o.list.filterMap (fun n => ((findPassage n u.reg).filter isActive).map shapeOf) := by
      simp only [listedShapes, listedRecords, hu, List.filter_filterMap, List.map_filterMap]
    rw [hfold t (ho.trans hs), hfold s hs]
    refine List.filterMap_congr fun n hn => h n ?_
    simpa [admittedList, hs] using hn

/-- A change of the records and the attention lines after which R58 reads what it read before. -/
theorem RecordStep.demands (h : RecordStep s t) (ho : t.seq.opening = s.seq.opening) (hcfg : t.cfg = s.cfg)
    (hcl : t.seq.clearance = s.seq.clearance)
    (hl : ∀ n ∈ admittedList s, ((findPassage n t.reg).filter isActive).map shapeOf = ((findPassage n s.reg).filter isActive).map shapeOf)
    (hd : demandsStand s) : demandsStand t := fun d => by
  rw [h.demand, hd d]
  exact (demandFor_congr_shapes (by rw [h.sup]) hcfg ho hcl (listedShapes_congr ho hl) (by rw [h.leaf]) d).symm

/-! ## Records found after a change -/

theorem findPassage_map {g : Passage → Passage} (hg : ∀ p ∈ r.records, (g p).number = p.number) (n : Nat) :
    findPassage n { r with records := r.records.map g } = (findPassage n r).map g := by
  simp only [findPassage, List.find?_map]
  congr 1
  refine List.find?_congr fun p hp => ?_
  simp [hg p hp]

theorem findPassage_change {f : Passage → Passage} (hf : ∀ p, (f p).number = p.number) (m n : Nat) :
    findPassage n (changePassage m f r) = (findPassage n r).map (fun p => if p.number = m then f p else p) :=
  findPassage_map (fun p _ => by split <;> simp [hf]) n

/-- A changed record that is as little ADMITTED or CLEARED as before is not seen by R58. -/
theorem shapes_change {f : Passage → Passage} (hf : ∀ p, (f p).number = p.number) (hreg : registerTable r) (hp : p ∈ r.records)
    (hold : isActive p = false) (hnew : isActive (f p) = false) (n : Nat) :
    ((findPassage n (changePassage p.number f r)).filter isActive).map shapeOf
      = ((findPassage n r).filter isActive).map shapeOf := by
  rw [findPassage_change hf]
  cases hfind : findPassage n r with
  | none => rfl
  | some x =>
    obtain ⟨hx, _⟩ := findPassage_mem hfind
    simp only [Option.map_some]
    split
    next heq =>
      rw [hreg.number_unique hp hx heq]
      simp [Option.filter, hold, hnew]
    next => rfl

/-! ## Withdrawals and releases (R20, R21, R43) -/

theorem formTarget_keeps (s : State) : Keeps φ s (formTarget s) :=
  updateOpening_keeps (fun _ _ => ⟨rfl, rfl⟩) fun _ _ h => .inl h

theorem listShortened_keeps (s : State) : Keeps φ s (listShortened s) := by
  unfold listShortened
  cases ho : s.seq.opening with
  | none => exact .refl s
  | some o =>
    refine .trans ?_ (deriveDemands_keeps _).toKeeps
    split
    · split
      next hempty =>
        have hset : setOpening (some { o with target := 0 }) s = updateOpening (fun o => { o with target := 0 }) s := by
          simp [updateOpening, ho]
        rw [hset]
        refine (reopenRequest_keeps _ _).toKeeps.after ((enterOpening_keeps fun _ o' ho' => .inr (.inl ?_)).after
          (updateOpening_keeps (fun _ _ => ⟨rfl, rfl⟩) fun _ _ h => .inl h))
        obtain rfl : { o with target := 0 } = o' := by simpa [updateOpening, setOpening, ho] using ho'
        simpa using hempty
      next => exact formTarget_keeps s
    · exact weighChangeover_keeps s
    all_goals exact .refl s

theorem demandsStand_listShortened (h : s.seq.opening ≠ none) : demandsStand (listShortened s) := by
  unfold listShortened
  cases ho : s.seq.opening with
  | none => exact absurd ho h
  | some o => exact demandsStand_deriveDemands _

/-- A change of one record that takes it out of ADMITTED and CLEARED, with its number taken out of the list (R20, R21). -/
theorem leaveList_keeps {s t : State} (hkeep : Keeps φ s (dropListed n t))
    (hdemands : registerTable s.reg → n ∉ admittedList t → demandsStand s → demandsStand t) : KeepsAll φ s (leaveList n t) := by
  rw [leaveList_eq]
  split
  next hmem =>
    refine (hkeep.trans (listShortened_keeps _)).all (demandsStand_listShortened ?_)
    rw [dropListed_opening]
    intro hnone
    simp [admittedList, Option.map_eq_none_iff.mp hnone] at hmem
  next hmem =>
    rw [dropListed_of_not_mem hmem] at hkeep
    exact ⟨hkeep, fun hr => hdemands hr hmem⟩

@[simp] theorem withdrawRecord_reg (l : Link) (p : Passage) (s : State) : (withdrawRecord l p s).reg =
    changePassage p.number (fun q => { q with state := .withdrawn, withdrawnBy := some l }) s.reg := by
  simp [withdrawRecord]

@[simp] theorem withdrawRecord_seq (l : Link) (p : Passage) (s : State) : (withdrawRecord l p s).seq = s.seq := by
  simp [withdrawRecord]

@[simp] theorem withdrawRecord_cfg (l : Link) (p : Passage) (s : State) : (withdrawRecord l p s).cfg = s.cfg := by
  simp [withdrawRecord]

theorem withdrawRecord_recordStep (l : Link) (p : Passage) (s : State) : RecordStep s (withdrawRecord l p s) :=
  (withReg_recordStep _ s).trans (notifyOrigin_recordStep _ p _)

theorem kept_withdrawn (l : Link) (p : Passage) : Kept p { p with state := .withdrawn, withdrawnBy := some l } :=
  ⟨rfl, rfl, rfl, fun _ => rfl, fun _ => by simp⟩

theorem withdrawn_keeps (l : Link) (hm : s.sup.mode ≠ .setup) (hp : p ∈ s.reg.records) :
    KeepsAll φ s (leaveList p.number (withdrawRecord l p s)) := by
  have hstep := withdrawRecord_recordStep l p s
  refine leaveList_keeps ?_ fun hr hnot hd => ?_
  · refine (hstep.trans (updateOpening_recordStep _ _)).keeps (fun hr => ?_) (fun hr h => ?_) (.inr fun h => absurd h hm)
    · rw [updateOpening_reg, withdrawRecord_reg]
      exact registerTable_changePassage hp (kept_withdrawn l p) hr
    · refine recordsFit_drop (f := fun q => { q with state := .withdrawn, withdrawnBy := some l }) hr h hp rfl rfl ?_ ?_
      · rw [updateOpening_reg, withdrawRecord_reg]
      · rw [← withdrawRecord_seq l p s]; rfl
  · refine hstep.demands (by simp) (by simp) (by simp) (fun m hmem => ?_) hd
    rw [withdrawRecord_reg, findPassage_change (f := fun q => { q with state := .withdrawn, withdrawnBy := some l }) (fun _ => rfl)]
    cases hfind : findPassage m s.reg with
    | none => rfl
    | some x =>
      obtain ⟨_, hx⟩ := findPassage_mem hfind
      have hne : x.number ≠ p.number := by
        rintro heq
        rw [admittedList_congr (t := withdrawRecord l p s) (s := s) (by simp)] at hnot
        exact hnot (heq ▸ hx ▸ hmem)
      simp [hne]

/-- The register without one number. -/
def withoutRecord (n : Nat) (r : Register) : Register := { r with records := r.records.filter (fun q => q.number != n) }

theorem mem_withoutRecord : q ∈ (withoutRecord n r).records ↔ q ∈ r.records ∧ q.number ≠ n := by
  simp [withoutRecord]

theorem registerTable_withoutRecord (h : registerTable r) : registerTable (withoutRecord n r) := by
  obtain ⟨hlen, hnodup, hnum, hnext, hpair, hwith⟩ := h
  have hsub : (withoutRecord n r).records.Sublist r.records := List.filter_sublist
  exact ⟨hsub.length_le.trans hlen, hnodup.sublist (hsub.map _), fun p hp => hnum p (hsub.subset hp), hnext, hpair.sublist hsub,
    fun p hp => hwith p (hsub.subset hp)⟩

theorem findPassage_withoutRecord {m : Nat} (h : m ≠ n) : findPassage m (withoutRecord n r) = findPassage m r := by
  simp only [findPassage, withoutRecord, List.find?_filter]
  refine List.find?_congr fun p _ => ?_
  by_cases hp : p.number = m
  · simp [hp, h]
  · simp [hp]

theorem released_keeps (l : Link) (hm : s.sup.mode ≠ .setup) :
    KeepsAll φ s (leaveList p.number (notifyOrigin (some l) p (s.withReg (withoutRecord p.number s.reg)))) := by
  have hstep : RecordStep s (notifyOrigin (some l) p (s.withReg (withoutRecord p.number s.reg))) :=
    (withReg_recordStep _ s).trans (notifyOrigin_recordStep _ p _)
  refine leaveList_keeps ?_ fun _ hnot hd => ?_
  · refine (hstep.trans (updateOpening_recordStep _ _)).keeps (fun hr => ?_) (fun _ h => ?_) (.inr fun h => absurd h hm)
    · rw [updateOpening_reg, notifyOrigin_reg]
      exact registerTable_withoutRecord hr
    · generalize hu : updateOpening (fun o => { o with list := o.list.filter (fun m => m != p.number) })
        (notifyOrigin (some l) p (s.withReg (withoutRecord p.number s.reg))) = u
      have hreg : u.reg = withoutRecord p.number s.reg := by subst hu; simp
      have ho : u.seq.opening = s.seq.opening.map (fun o => { o with list := o.list.filter (fun m => m != p.number) }) := by
        subst hu; simp [updateOpening, setOpening]
      have hl : admittedList u = (admittedList s).filter (fun m => m != p.number) := by
        cases hs : s.seq.opening <;> simp [admittedList, ho, hs]
      refine ⟨fun x hx ha => ?_, fun m hmem => ?_, ?_, hl ▸ h.nodup.filter _, fun o hto hended x hx => ?_, fun o hto hrec => ?_⟩
      · rw [hreg, mem_withoutRecord] at hx
        rw [hl, List.mem_filter]
        exact ⟨h.listed x hx.1 ha, by simpa using hx.2⟩
      · rw [hl, List.mem_filter] at hmem
        obtain ⟨x, hx, rfl, hst⟩ := h.named m hmem.1
        exact ⟨x, by rw [hreg, mem_withoutRecord]; exact ⟨hx, by simpa using hmem.2⟩, rfl, hst⟩
      · rw [hl]; exact (List.length_filter_le _ _).trans h.short
      · rw [ho] at hto
        obtain ⟨o', ho', rfl⟩ := Option.map_eq_some_iff.mp hto
        rw [hreg, mem_withoutRecord] at hx
        exact h.ended o' ho' hended x hx.1
      · rw [ho] at hto
        obtain ⟨o', ho', rfl⟩ := Option.map_eq_some_iff.mp hto
        simp [h.recovery o' ho' hrec]
  · refine hstep.demands (by simp) (by simp) (by simp) (fun m hmem => ?_) hd
    rw [notifyOrigin_reg, State.withReg_reg, findPassage_withoutRecord]
    rintro rfl
    rw [admittedList_congr (t := notifyOrigin _ _ _) (s := s) (by simp)] at hnot
    exact hnot hmem

/-! ## Amendments and entries (R17, R19) -/

@[simp] theorem withClearance_fields (c : Option Nat) (angle : Nat) (p : Passage) :
    (withClearance c angle p).number = p.number ∧ (withClearance c angle p).state = p.state
      ∧ (withClearance c angle p).tag = p.tag ∧ (withClearance c angle p).direction = p.direction
      ∧ (withClearance c angle p).withdrawnBy = p.withdrawnBy := by
  cases c <;> simp [withClearance]

theorem amended_fields (a : Amendment) (angle : Nat) (p : Passage) :
    (amended a angle p).number = p.number ∧ (amended a angle p).state = p.state ∧ (amended a angle p).tag = p.tag
      ∧ (amended a angle p).direction = p.direction ∧ (amended a angle p).withdrawnBy = p.withdrawnBy := by
  simp [amended]

theorem kept_amended (a : Amendment) (angle : Nat) (p : Passage) : Kept p (amended a angle p) := by
  obtain ⟨hn, hs, ht, hd, hw⟩ := amended_fields a angle p
  exact ⟨hn, ht, hd, by simp [hs], by simp [hs, hw]⟩

@[simp] theorem applyAmendment_reg (l : Link) (a : Amendment) (angle : Nat) (p : Passage) (s : State) :
    (applyAmendment l a angle p s).reg = changePassage p.number (amended a angle) s.reg := by
  simp [applyAmendment]

section

variable (l : Link) (a : Amendment) (angle : Nat) (p : Passage) (s : State)

@[simp] theorem applyAmendment_seq : (applyAmendment l a angle p s).seq = s.seq := by simp [applyAmendment]
@[simp] theorem applyAmendment_cfg : (applyAmendment l a angle p s).cfg = s.cfg := by simp [applyAmendment]
@[simp] theorem applyAmendment_leaf : (applyAmendment l a angle p s).leaf = s.leaf := by simp [applyAmendment]
@[simp] theorem applyAmendment_closure : (applyAmendment l a angle p s).closure = s.closure := by simp [applyAmendment]
@[simp] theorem applyAmendment_sup : (applyAmendment l a angle p s).sup = s.sup := by simp [applyAmendment]

end

theorem applyAmendment_recordStep (l : Link) (a : Amendment) (angle : Nat) (p : Passage) (s : State) :
    RecordStep s (applyAmendment l a angle p s) :=
  (withReg_recordStep _ s).trans (notifyOrigin_recordStep _ p _)

theorem applyAmendment_keeps (l : Link) (a : Amendment) (angle : Nat) (hm : s.sup.mode ≠ .setup) (hp : p ∈ s.reg.records) :
    Keeps φ s (applyAmendment l a angle p s) := by
  refine (applyAmendment_recordStep l a angle p s).keeps (fun hr => ?_) (fun hr h => ?_) (.inr fun h => absurd h hm)
  · rw [applyAmendment_reg]
    exact registerTable_changePassage hp (kept_amended a angle p) hr
  · refine recordsFit_map (g := fun q => if q.number = p.number then amended a angle q else q) (by rw [applyAmendment_reg]; rfl)
      (by simp) (fun q _ => ?_) h
    obtain ⟨hn, hs, _⟩ := amended_fields a angle q
    split
    · exact ⟨hn, by simp [isActive, isAdmitted, isCleared, hs], by simp [hs]⟩
    · exact ⟨rfl, rfl, id⟩

/-- An amendment of a record that is neither ADMITTED nor CLEARED. -/
theorem applyAmendment_keepsAll (l : Link) (a : Amendment) (angle : Nat) (hm : s.sup.mode ≠ .setup) (hp : p ∈ s.reg.records)
    (hinactive : isActive p = false) : KeepsAll φ s (applyAmendment l a angle p s) := by
  refine ⟨applyAmendment_keeps l a angle hm hp, fun hr hd => ?_⟩
  refine (applyAmendment_recordStep l a angle p s).demands (by simp) (by simp) (by simp) (fun m _ => ?_) hd
  rw [applyAmendment_reg]
  refine shapes_change (fun q => (amended_fields a angle q).1) hr hp hinactive ?_ m
  simpa only [isActive, isAdmitted, isCleared, (amended_fields a angle p).2.1] using hinactive

/-- What R58 reads of a record of a number does not depend on the order of the records, nor on what it does not read. -/
theorem shapes_of_keys {q : Register} (hr : registerTable r) (hq : registerTable q)
    (hk : (q.records.map Passage.key).Perm ((r.records ++ [p]).map Passage.key)) (hp : p.state = .waiting) (n : Nat) :
    ((findPassage n q).filter isActive).map shapeOf = ((findPassage n r).filter isActive).map shapeOf := by
  have hforth {x : Passage} (hx : x ∈ q.records) (ha : isActive x = true) :
      ∃ y ∈ r.records, y.number = x.number := by
    obtain ⟨y, hy, heq⟩ := List.mem_map.mp (hk.mem_iff.mp (List.mem_map_of_mem hx))
    have hst : y.state = x.state := (congrArg Passage.state heq :)
    rcases List.mem_append.mp hy with hy | hy
    · exact ⟨y, hy, (congrArg Passage.number heq :)⟩
    · rw [List.mem_singleton.mp hy, hp] at hst
      simp [isActive, isAdmitted, isCleared, ← hst] at ha
  have hback {y : Passage} (hy : y ∈ r.records) :
      ∃ x ∈ q.records, x.number = y.number ∧ shapeOf x = shapeOf y := by
    obtain ⟨x, hx, heq⟩ := List.mem_map.mp (hk.mem_iff.mpr (List.mem_map_of_mem (List.mem_append_left [p] hy)))
    exact ⟨x, hx, (congrArg Passage.number heq :), (congrArg shapeOf heq :)⟩
  cases hfind : findPassage n r with
  | some y =>
    obtain ⟨hy, rfl⟩ := findPassage_mem hfind
    obtain ⟨x, hx, hn, hshape⟩ := hback hy
    have hst : x.state = y.state := congrArg Prod.fst hshape
    have hactive : isActive x = isActive y := by simp only [isActive, isAdmitted, isCleared, hst]
    rw [← hn, findPassage_of_mem hq hx]
    cases ha : isActive y <;> simp [Option.filter, hactive, ha, hshape]
  | none =>
    cases hfind' : findPassage n q with
    | none => rfl
    | some x =>
      obtain ⟨hx, rfl⟩ := findPassage_mem hfind'
      have hinactive : isActive x = false := by
        by_contra ha
        obtain ⟨y, hy, hn⟩ := hforth hx (by simpa using ha)
        have := List.find?_eq_none.mp hfind y hy
        simp [hn] at this
      simp [Option.filter, hinactive]

end Sys2Proof.Machine

/-!
The requests of Chapter 1 and the minute timer, each as its block takes it, on the conditions that no step breaks.
-/

namespace Sys2Proof.Machine

open Sys2Proof

variable {φ : Phase} {s t : State} {l : Link} {body : List Byte}

@[simp] theorem accept_fst (body : List Byte) (s : State) : (accept body s).1 = s := rfl

@[simp] theorem refuse_fst (o : OutcomeCode) (s : State) : (refuse o s).1 = s := rfl

/-- A request that is refused, or else taken. -/
theorem keeps_unless {c : Prop} [Decidable c] {o : OutcomeCode} {x : Taken} (h : ¬c → KeepsAll φ s x.1) :
    KeepsAll φ s (if c then refuse o s else x).1 := by
  split
  next => exact .refl s
  next hc => exact h hc

/-! ## ENTER PASSAGE (R16, R17) -/

theorem entered_keeps {e : Entry} {angle : Nat} (hm : s.sup.mode ≠ .setup) (htwice : heldTwice e s.reg = false)
    (hroom : s.reg.records.length < Config.registerSize) :
    KeepsAll φ s (s.withReg (enterRecord (entryRecord l e angle s.reg) s.reg)) := by
  have hstep := withReg_recordStep (enterRecord (entryRecord l e angle s.reg) s.reg) s
  have hkeys := enterRecord_keys (entryRecord l e angle s.reg) s.reg
  refine ⟨hstep.keeps (registerTable_enterRecord · htwice hroom) (fun _ h => recordsFit_of_keys hkeys rfl rfl h)
    (.inr fun h => absurd h hm), fun hr hd => hstep.demands rfl rfl rfl (fun n _ => ?_) hd⟩
  exact shapes_of_keys hr (registerTable_enterRecord hr htwice hroom) hkeys rfl n

theorem takeEnter_keeps (l : Link) (body : List Byte) (s : State) : KeepsAll φ s (takeEnter l body s).1 := by
  refine keeps_unless fun hsetup => ?_
  have hm : s.sup.mode ≠ .setup := by simpa [inSetup] using hsetup
  split
  · exact .refl s
  split
  · exact .refl s
  exact keeps_unless fun htwice => keeps_unless fun hroom => entered_keeps hm (by simpa using htwice) (by omega)

/-! ## AMEND PASSAGE (R18, R19, R36) -/

theorem acceptRecord_state (n : Nat) (s : State) : (acceptRecord n s).1 = s := by
  unfold acceptRecord; split <;> rfl

/-- What refuses a target raise (R31). -/
theorem targetRaiseRefused_congr (hc : t.closure = s.closure) (hm : t.sup.mode = s.sup.mode)
    (ho : openingState t = openingState s) (hl : t.leaf = s.leaf) : targetRaiseRefused t = targetRaiseRefused s := by
  simp only [targetRaiseRefused, roadIsClosed, hc, hm, ho, hl]

theorem takeTargetRaise_keeps (target : Nat) (h : targetRaiseRefused s = false) : Keeps φ s (takeTargetRaise target s) := by
  unfold takeTargetRaise
  simp only [targetRaiseRefused, Bool.or_eq_false_iff] at h
  split
  next hst =>
    refine (raiseAsked_keeps ?_).toKeeps.after (updateOpening_keeps (fun _ _ => ⟨rfl, rfl⟩) fun _ _ h => .inl h)
    simpa [hst.1, hst.2, roadIsClosed] using h.2
  next =>
    refine (applyLeaf_keeps ?_).toKeeps.after (updateOpening_keeps (fun _ _ => ⟨rfl, rfl⟩) fun _ _ h => .inl h)
    simpa [roadIsClosed_iff] using handOver_keeps (closed := roadIsClosed s) target s.leaf

theorem amendAdmitted_keeps (a : Amendment) (angle : Nat) {p : Passage} (hm : s.sup.mode ≠ .setup) (hp : p ∈ s.reg.records) :
    KeepsAll φ s (amendAdmitted l a angle p s).1 := by
  have hraise : targetRaiseRefused (applyAmendment l a angle p s) = targetRaiseRefused s :=
    targetRaiseRefused_congr (by simp) (by simp) (by simp [openingState]) (by simp)
  have hamend : Keeps φ s (applyAmendment l a angle p s) := applyAmendment_keeps l a angle hm hp
  have hderive {t : State} (h : Keeps φ (applyAmendment l a angle p s) t) : KeepsAll φ s (deriveDemands t) :=
    ((hamend.trans h).trans (deriveDemands_keeps t).toKeeps).all (demandsStand_deriveDemands t)
  unfold amendAdmitted
  split
  · rw [acceptRecord_state]; exact hderive (formTarget_keeps _)
  · split_ifs with hcalls hrefused
    · exact .refl s
    · rw [acceptRecord_state]; exact hderive (takeTargetRaise_keeps _ (hraise.trans (by simpa using hrefused)))
    · rw [acceptRecord_state]; exact hderive (.refl _)
  · split_ifs with hcalls hrefused
    · exact .refl s
    · rw [acceptRecord_state]; exact hderive (takeTargetRaise_keeps _ (hraise.trans (by simpa using hrefused)))
    · rw [acceptRecord_state]; exact hderive (.refl _)
  · exact .refl s

theorem takeAmend_keeps (l : Link) (body : List Byte) (s : State) : KeepsAll φ s (takeAmend l body s).1 := by
  refine keeps_unless fun hsetup => ?_
  have hm : s.sup.mode ≠ .setup := by simpa [inSetup] using hsetup
  split
  · exact .refl s
  split
  · exact .refl s
  next p hfind =>
    have hp := (findPassage_mem hfind).1
    refine keeps_unless fun _ => keeps_unless fun hstate => keeps_unless fun _ => ?_
    split
    · exact .refl s
    split
    next hadmitted => exact amendAdmitted_keeps _ _ hm hp
    next hadmitted =>
      rw [acceptRecord_state]
      refine applyAmendment_keepsAll l _ _ hm hp ?_
      simp only [Bool.or_eq_true, not_or, beq_iff_eq] at hstate
      simp [isActive, isAdmitted, isCleared, hadmitted, hstate.2]

/-! ## WITHDRAW, RELEASE, LOOK UP and LIST (R20 to R23) -/

theorem takeWithdraw_keeps (l : Link) (body : List Byte) (s : State) : KeepsAll φ s (takeWithdraw l body s).1 := by
  refine keeps_unless fun hsetup => ?_
  have hm : s.sup.mode ≠ .setup := by simpa [inSetup] using hsetup
  split
  · refine keeps_unless fun _ => ?_
    split
    · exact .refl s
    next p hfind =>
      refine keeps_unless fun _ => keeps_unless fun _ => keeps_unless fun _ => ?_
      rw [acceptRecord_state]
      exact withdrawn_keeps l hm (findPassage_mem hfind).1
  · exact .refl s

theorem takeRelease_keeps (l : Link) (body : List Byte) (s : State) : KeepsAll φ s (takeRelease l body s).1 := by
  refine keeps_unless fun hsetup => ?_
  have hm : s.sup.mode ≠ .setup := by simpa [inSetup] using hsetup
  split
  · refine keeps_unless fun _ => ?_
    split
    · exact .refl s
    · exact keeps_unless fun _ => keeps_unless fun _ => released_keeps l hm
  · exact .refl s

theorem takeLookUp_state (body : List Byte) (s : State) : (takeLookUp body s).1 = s := by
  have htag (octets : List Byte) : (lookUpTag octets s).1 = s := by
    unfold lookUpTag
    split
    · rfl
    · split <;> rfl
  unfold takeLookUp
  split_ifs
  · rfl
  split
  · rfl
  · split_ifs
    · split
      · split_ifs
        · rfl
        · exact acceptRecord_state _ s
      · rfl
    · exact htag _
    · rfl
    · rfl

theorem takeList_keeps (l : Link) (body : List Byte) (s : State) : KeepsAll φ s (takeList l body s).1 := by
  refine keeps_unless fun _ => ?_
  split
  · exact lowerAttention_keeps l s
  · exact .refl s

theorem takeStatus_keeps (l : Link) (body : List Byte) (s : State) : KeepsAll φ s (takeStatus l body s).1 := by
  unfold takeStatus
  split
  · exact lowerAttention_keeps l s
  · exact .refl s

/-! ## The minute timer (R10, R11) -/

theorem ageRecord_waiting {p : Passage} (h : p.state = .waiting) : (ageRecord p).state = .waiting ∨ (ageRecord p).state = .expired := by
  unfold ageRecord
  split
  · split
    · exact .inr rfl
    · exact .inl h
  · exact .inl h

theorem ageRecord_of_ne {p : Passage} (h : p.state ≠ .waiting) : ageRecord p = p := by
  unfold ageRecord
  split
  next hw _ => exact absurd hw h
  next => rfl

theorem ageRecord_fields (p : Passage) : (ageRecord p).number = p.number ∧ (ageRecord p).tag = p.tag
    ∧ (ageRecord p).direction = p.direction ∧ (ageRecord p).withdrawnBy = p.withdrawnBy := by
  unfold ageRecord
  split
  · split <;> exact ⟨rfl, rfl, rfl, rfl⟩
  · exact ⟨rfl, rfl, rfl, rfl⟩

theorem kept_age (p : Passage) : Kept p (ageRecord p) := by
  by_cases hw : p.state = .waiting
  · obtain ⟨hn, ht, hd, hb⟩ := ageRecord_fields p
    refine ⟨hn, ht, hd, fun h => by simp [hw, PassageState.terminal] at h, fun h => ?_⟩
    rw [hb, h, hw]
    rcases ageRecord_waiting hw with h | h <;> simp [h]
  · rw [ageRecord_of_ne hw]; exact .refl p

theorem age_inactive {p : Passage} (hw : p.state = .waiting) : isActive (ageRecord p) = false := by
  rcases ageRecord_waiting hw with h | h <;> simp [isActive, isAdmitted, isCleared, h]

theorem inactive_of_waiting {p : Passage} (hw : p.state = .waiting) : isActive p = false := by
  simp [isActive, isAdmitted, isCleared, hw]

/-- The state after a minute timer expiry (R10, R11). -/
def minutePassed (s : State) : State :=
  (s.reg.records.filter expires).foldl (fun t p => notifyOrigin none p t)
    (s.withReg { s.reg with records := s.reg.records.map ageRecord, minuteTimer := some Config.minuteMs })

theorem notifyEach_frame (ps : List Passage) (s : State) : (ps.foldl (fun t p => notifyOrigin none p t) s).reg = s.reg
    ∧ (ps.foldl (fun t p => notifyOrigin none p t) s).seq = s.seq ∧ (ps.foldl (fun t p => notifyOrigin none p t) s).cfg = s.cfg := by
  induction ps generalizing s with
  | nil => exact ⟨rfl, rfl, rfl⟩
  | cons p ps ih => simpa using ih (notifyOrigin none p s)

theorem minutePassed_keeps (s : State) : KeepsAll φ s (minutePassed s) := by
  have hstep : RecordStep s (minutePassed s) :=
    (withReg_recordStep _ s).trans (recordStep_foldl (fun t p => notifyOrigin_recordStep none p t) _ _)
  obtain ⟨hreg, hseq, hcfg⟩ := notifyEach_frame (s.reg.records.filter expires)
    (s.withReg { s.reg with records := s.reg.records.map ageRecord, minuteTimer := some Config.minuteMs })
  change (minutePassed s).reg = _ at hreg
  change (minutePassed s).seq = _ at hseq
  change (minutePassed s).cfg = _ at hcfg
  have hrec : (minutePassed s).reg.records = s.reg.records.map ageRecord := by rw [hreg]; rfl
  have ho : (minutePassed s).seq.opening = s.seq.opening := by rw [hseq]; rfl
  refine ⟨hstep.keeps (fun hr => ?_) (fun _ h => ?_) (.inr fun _ hnil hnone => ?_), fun hr hd => ?_⟩
  · exact (registerTable_congr (r := { s.reg with records := s.reg.records.map ageRecord }) hrec (by rw [hreg]; rfl)).mpr
      (registerTable_map (fun p _ => kept_age p) hr)
  · refine recordsFit_map hrec ho (fun p _ => ?_) h
    by_cases hw : p.state = .waiting
    · exact ⟨(ageRecord_fields p).1, by rw [age_inactive hw, inactive_of_waiting hw], by simp [hw]⟩
    · rw [ageRecord_of_ne hw]; exact ⟨rfl, rfl, id⟩
  · exact ⟨by simp [hrec, hnil], ho.trans hnone⟩
  · refine hstep.demands ho hcfg (by rw [hseq]; rfl) (fun n _ => ?_) hd
    have hfind : findPassage n (minutePassed s).reg = (findPassage n s.reg).map ageRecord := by
      rw [hreg]
      exact findPassage_map (fun p _ => (ageRecord_fields p).1) n
    rw [hfind]
    cases findPassage n s.reg with
    | none => rfl
    | some p =>
      by_cases hw : p.state = .waiting
      · simp [Option.filter, age_inactive hw, inactive_of_waiting hw]
      · simp [ageRecord_of_ne hw]

/-! ## The opening requests (R33 to R40) -/

theorem attended_mode (h : ¬(!attended s) = true) : s.sup.mode = .attended := by
  simpa [attended] using h

theorem takeBegin_keeps (l : Link) (body : List Byte) (s : State) : KeepsAll φ s (takeBegin l body s).1 := by
  refine keeps_unless fun hatt => ?_
  have hm := attended_mode hatt
  split
  · refine keeps_unless fun hn => keeps_unless fun hopen => keeps_unless fun _ => keeps_unless fun _ => ?_
    refine (Keeps.all ?_ (demandsStand_deriveDemands _) : KeepsAll φ s (deriveDemands _))
    refine (deriveDemands_keeps _).toKeeps.after ((closeRequest_keeps true _).toKeeps.after ((formTarget_keeps _).after ?_))
    refine beginAdmissions_keeps (by simpa using hopen) (by simp [hm]) rfl rfl rfl ?_
    simp only [Bool.or_eq_true, decide_eq_true_eq, not_or] at hn
    have : Config.admittedListSize = 8 := rfl
    omega
  · exact .refl s

/-- What ADMIT TO OPENING makes of its admission keeps every condition, and leaves the demands derived. -/
theorem afterAdmission_keeps (angle : Nat) (hraise : callsForRaise angle s = true → targetRaiseRefused s = false) :
    Keeps φ s (afterAdmission angle s) := by
  refine (deriveDemands_keeps _).toKeeps.after ((weighChangeover_keeps _).after ?_)
  split_ifs with hclosing hcalls
  · exact formTarget_keeps s
  · exact takeTargetRaise_keeps _ (hraise hcalls)
  · exact .refl s

theorem callsForRaise_admitStep (angle : Nat) (r : Option Link) (p : Passage) (s : State) :
    callsForRaise angle (admitStep r p s) = callsForRaise angle s := by
  cases ho : s.seq.opening <;>
    simp [callsForRaise, openingState, openingTarget, admitStep, updateOpening, setOpening, State.conf, ho]

theorem targetRaiseRefused_admitStep (r : Option Link) (p : Passage) (s : State) :
    targetRaiseRefused (admitStep r p s) = targetRaiseRefused s := by
  refine targetRaiseRefused_congr (by simp) (by simp) ?_ (by simp)
  cases ho : s.seq.opening <;> simp [openingState, admitStep, updateOpening, setOpening, ho]

theorem takeAdmit_keeps (l : Link) (body : List Byte) (s : State) : KeepsAll φ s (takeAdmit l body s).1 := by
  refine keeps_unless fun _ => ?_
  split
  · refine keeps_unless fun _ => ?_
    split
    · exact .refl s
    next p hfind =>
      split
      · exact .refl s
      next o ho =>
        refine keeps_unless fun hrec => keeps_unless fun hlate => keeps_unless fun hwaiting => keeps_unless fun hfull =>
          keeps_unless fun hraise => ?_
        simp only [Bool.or_eq_true, beq_iff_eq, not_or, Bool.not_eq_true] at hrec hlate
        have hadmit : Keeps φ s (admitStep (some l) p s) :=
          admitStep_keeps ho (by simp [hrec.2, hlate]) hrec.1 (by omega) (findPassage_mem hfind).1 (by simpa using hwaiting)
        refine (hadmit.trans (afterAdmission_keeps p.angle fun hcalls => ?_)).all (demandsStand_deriveDemands _)
        rw [callsForRaise_admitStep] at hcalls
        rw [targetRaiseRefused_admitStep]
        simpa [hcalls] using hraise
  · exact .refl s

theorem takeMark_keeps (l : Link) (body : List Byte) (s : State) : KeepsAll φ s (takeMark l body s).1 := by
  refine keeps_unless fun _ => ?_
  split
  · refine keeps_unless fun _ => ?_
    split
    · exact .refl s
    next p hfind =>
      split
      next hst =>
        refine (Keeps.all ?_ (demandsStand_deriveDemands _) : KeepsAll φ s (deriveDemands _))
        refine (deriveDemands_keeps _).toKeeps.after ((weighChangeover_keeps _).after (moveRecord_keeps ?_ (.inr rfl)))
        exact ⟨p, (findPassage_mem hfind).1, rfl, by simp [isActive, isCleared, hst]⟩
      next => exact .refl s
  · exact .refl s

theorem beginLowering_keeps (l : Link) (hcleared : (listedRecords s).any isCleared = false)
    (hrefused : lowerRefused (roadIsClosed s) s.leaf = false) : KeepsAll φ s (beginLowering l s) := by
  refine (Keeps.all ?_ (demandsStand_deriveDemands _) : KeepsAll φ s (deriveDemands _))
  have hreturn : Keeps φ s (updateOpening loweringFields (returnAll (some l) s)) :=
    returnAll_ended_keeps (fun _ => ⟨rfl, rfl⟩) hcleared
  refine (deriveDemands_keeps _).toKeeps.after ((applyLeaf_keeps ?_).toKeeps.after hreturn)
  simpa [roadIsClosed_iff] using lower_keeps hrefused

theorem abortClosing_keeps (l : Link) (hcleared : (listedRecords s).any isCleared = false) : KeepsAll φ s (abortClosing l s) := by
  refine (Keeps.all ?_ (demandsStand_deriveDemands _) : KeepsAll φ s (deriveDemands _))
  exact (deriveDemands_keeps _).toKeeps.after ((reopenRequest_keeps true _).toKeeps.after
    (returnAll_ended_keeps (fun _ => ⟨rfl, rfl⟩) hcleared))

theorem takeLower_keeps (l : Link) (body : List Byte) (s : State) : KeepsAll φ s (takeLower l body s).1 := by
  refine keeps_unless fun _ => ?_
  split
  · refine keeps_unless fun _ => keeps_unless fun hcleared => keeps_unless fun hrefused => ?_
    simp only [Bool.or_eq_true, not_or, Bool.not_eq_true] at hrefused
    exact beginLowering_keeps l (by simpa using hcleared) hrefused.2
  · exact .refl s

theorem takeAbort_keeps (l : Link) (body : List Byte) (s : State) : KeepsAll φ s (takeAbort l body s).1 := by
  refine keeps_unless fun _ => ?_
  split
  · refine keeps_unless fun _ => ?_
    split
    · exact keeps_unless fun hcleared => abortClosing_keeps l (by simpa using hcleared)
    · refine keeps_unless fun hcleared => keeps_unless fun hrefused => ?_
      simp only [Bool.or_eq_true, not_or, Bool.not_eq_true] at hrefused
      exact beginLowering_keeps l (by simpa using hcleared) hrefused.2
    · exact .refl s
  · exact .refl s

theorem quietLift_keeps (s : State) : Keeps φ s (enterOpeningQuietly .lifting s) :=
  updateOpening_keeps (fun _ _ => ⟨rfl, rfl⟩) fun _ _ h => by simp at h

theorem takeContinue_keeps (body : List Byte) (s : State) : KeepsAll φ s (takeContinue body s).1 := by
  have hmotion : KeepsAll φ s (if s.leaf.group.state != .halted then refuse .wrongState s
      else if continueRefused (roadIsClosed s) s.leaf then refuse .interlock s
      else accept [] (applyLeaf LeafMotion.continueMotion s)).1 :=
    keeps_unless fun _ => keeps_unless fun hrefused => by
      have h := continueMotion_keeps (closed := roadIsClosed s) (m := s.leaf) (by simpa using hrefused)
      exact applyLeaf_keeps (by simpa only [roadIsClosed_iff] using h)
  refine keeps_unless fun _ => ?_
  split
  · split
    · exact hmotion
    · exact hmotion
    · exact hmotion
    · refine keeps_unless fun _ => keeps_unless fun hrefused => ?_
      have h' : raiseRefused (roadIsClosed (enterOpeningQuietly .lifting s)) (enterOpeningQuietly .lifting s).leaf = false := by
        simpa [roadIsClosed] using hrefused
      exact ((quietLift_keeps s).trans (raiseAsked_keeps h').toKeeps).all (demandsStand_applyLeaf (raise_state_ne _ h'))
    all_goals exact .refl s
  · exact .refl s

end Sys2Proof.Machine

/-!
The other requests and commands on the conditions that no step breaks: the closure's, the lamps' and the supervisor's requests,
the field loop, the lamp commands, the passing of a millisecond, and the control period.
-/

namespace Sys2Proof.Machine

open Sys2Proof

variable {φ : Phase} {s t : State} {body : List Byte}

/-! ## The supervisor's record -/

/-- A change of the supervisor's record that keeps the mode and the blocks' copies, and leaves the watchdog running or stopped. -/
theorem withSup_keeps {v : Supervisor} (hm : v.mode = s.sup.mode) (hw : v.watchdog.isSome = s.sup.watchdog.isSome)
    (hg : v.groupTripped = s.sup.groupTripped) (hc : v.closureHeld = s.sup.closureHeld) (hd : v.dark = s.sup.dark) :
    KeepsAll φ s (s.withSup v) where
  leaf := fun _ => id
  road := fun _ => id
  sup := by simp only [supervisorTable, State.withSup_sup, hm, hw, hg, hc, hd]; exact id
  heads := id
  lights := id
  attention := id
  register := id
  records := fun _ => (recordsFit_congr (s := s) (t := s.withSup v) rfl rfl).mpr
  setup := fun _ => (setupEmpty_congr (s := s) (t := s.withSup v) rfl rfl hm rfl).mpr
  ports := fun _ => rfl
  scan := id
  demands := fun _ hs d => (hs d).trans
    (demandFor_congr_group (s := s) (t := s.withSup v) hm rfl rfl rfl (listedRecords_congr_records rfl rfl) rfl d).symm

/-- A change of mode outside SETUP, with the watchdog in ATTENDED alone (R176, R178, R201). -/
theorem changeMode_keeps {v : Supervisor} (hφ : φ = .startUp ∨ (s.sup.mode ≠ .setup ∧ v.mode ≠ .setup))
    (hw : v.watchdog.isSome = true ↔ v.mode = .attended) (hg : v.groupTripped = s.sup.groupTripped)
    (hc : v.closureHeld = s.sup.closureHeld) (hd : v.dark = s.sup.dark) : Keeps φ s (s.withSup v) where
  leaf := fun _ => id
  road := fun _ => id
  sup := by
    simp only [supervisorTable, State.withSup_sup, hg, hc, hd]
    exact fun ⟨h1, h2, h3, h4, _⟩ => ⟨h1, h2, h3, h4, hw⟩
  heads := id
  lights := id
  attention := id
  register := id
  records := fun _ => (recordsFit_congr (s := s) (t := s.withSup v) rfl rfl).mpr
  setup := fun hne ⟨_, hscan⟩ => by
    obtain ⟨hs, hv⟩ := hφ.resolve_left hne
    exact ⟨fun h => absurd h hv, fun h => absurd (hscan h) hs⟩
  ports := fun _ => rfl
  scan := id

/-! ## The closure's, the leaves', the lamps' and the supervisor's requests -/

theorem takeConfirm_keeps (body : List Byte) (s : State) : KeepsAll φ s (takeConfirm body s).1 := by
  refine keeps_unless fun _ => ?_
  split
  · split
    · exact takeConfirmation_keeps s
    · exact .refl s
  · exact .refl s

theorem takeWarningOverride_keeps (body : List Byte) (s : State) : KeepsAll φ s (takeWarningOverride body s).1 := by
  refine keeps_unless fun _ => ?_
  split
  · split
    · exact takeOverride_keeps s
    · exact .refl s
  · exact .refl s

theorem takeArmService_keeps (body : List Byte) (s : State) : KeepsAll φ s (takeArmService body s).1 := by
  refine keeps_unless fun _ => ?_
  split
  · split
    · exact .refl s
    next a _ =>
      split
      · exact armOut_keeps a s
      · split
        · exact armIn_keeps a s
        · exact .refl s
  · exact .refl s

theorem takeClosureRetry_keeps (body : List Byte) (s : State) : KeepsAll φ s (takeClosureRetry body s).1 := by
  refine keeps_unless fun _ => ?_
  split
  · split
    next h => exact takeRetry_keeps (by simp [h])
    next => exact .refl s
  · exact .refl s

theorem takeReopenRoad_keeps (body : List Byte) (s : State) : KeepsAll φ s (takeReopenRoad body s).1 := by
  refine keeps_unless fun _ => ?_
  split
  · refine keeps_unless fun h => keeps_unless fun _ => ?_
    have hst : s.closure.state = .roadUncertain := by simpa using h
    have hmay : mayEnter .roadReopening s := .inr (.inl (by simp [hst]))
    rw [accept_fst]
    exact startReopen_keeps hmay
  · exact .refl s

theorem takeResetTrip_keeps (body : List Byte) (s : State) : KeepsAll φ s (takeResetTrip body s).1 := by
  refine keeps_unless fun _ => ?_
  split
  · exact keeps_unless fun h => keeps_unless fun _ => applyLeaf_keeps (resetTripped_keeps (by simpa using h))
  · exact .refl s

theorem takeClearFaults_keeps (body : List Byte) (s : State) : KeepsAll φ s (takeClearFaults body s).1 := by
  refine keeps_unless fun _ => ?_
  split
  · exact (withLamp_keeps (u := s.lamp.cleared) rfl).trans (rederiveHealth_keeps _)
  · exact .refl s

theorem takeSetDim_keeps (body : List Byte) (s : State) : KeepsAll φ s (takeSetDim body s).1 := by
  refine keeps_unless fun _ => ?_
  split
  · refine keeps_unless fun _ => ?_
    split
    · exact withLamp_keeps rfl
    · split
      · exact withLamp_keeps rfl
      · exact .refl s
  · exact .refl s

theorem resumeOpening_keeps (s : State) : Keeps φ s (resumeOpening s) := by
  unfold resumeOpening
  split
  next => exact .refl s
  next o ho =>
    split
    · exact (startLift_keeps s).toKeeps
    · split
      next h =>
        simp only [Bool.and_eq_true, beq_iff_eq] at h
        refine (enterOpening_keeps fun _ o' ho' => .inl (.inl ?_)).trans (reopenRequest_keeps _ _).toKeeps
        rw [ho, Option.some.injEq] at ho'
        exact ho' ▸ h.1
      next => exact .refl s

theorem takeResume_keeps (body : List Byte) (s : State) : KeepsAll φ s (takeResume body s).1 := by
  unfold takeResume
  split
  next => exact .refl s
  next => exact .refl s
  next hm =>
    split
    · refine (Keeps.all ?_ (demandsStand_deriveDemands _) : KeepsAll φ s (deriveDemands _))
      refine (deriveDemands_keeps _).toKeeps.after ((resumeReopen_keeps _).toKeeps.after ((resumeOpening_keeps _).after ?_))
      exact changeMode_keeps (.inr ⟨by simp [hm], by simp⟩) (by simp) rfl rfl rfl
    · exact .refl s

theorem takeWriteItem_keeps (body : List Byte) (s : State) : KeepsAll φ s (takeWriteItem body s).1 := by
  refine keeps_unless fun _ => ?_
  split
  · dsimp only
    split
    · split
      · exact withStore_keeps _ s
      · exact .refl s
    · exact .refl s
  · exact .refl s

/-! ## The field loop (R132 to R141) -/

theorem setTurn_keeps (x : Option Turn) (s : State) : KeepsAll φ s (setTurn x s) := withLoop_keeps rfl

theorem beginScan_keeps (s : State) : KeepsAll φ s (beginScan s) := withLoop_keeps rfl

theorem beginTurn_keeps (a : ArmId) (s : State) : KeepsAll φ s (beginTurn a s) :=
  (updateStation_keeps a _ s).trans (setTurn_keeps _ _)

theorem commandRefused_keeps (x : Turn) (s : State) : KeepsAll φ s (commandRefused x s) :=
  (updateStation_keeps x.station _ s).trans (setTurn_keeps _ _)

theorem commandAccepted_keeps (x : Turn) (s : State) : KeepsAll φ s (commandAccepted x s) := by
  unfold commandAccepted
  split
  · exact (armAcknowledged_keeps _ _ _).after ((setTurn_keeps _ _).after (updateStation_keeps _ _ s))
  · exact (setTurn_keeps _ _).after (updateStation_keeps _ _ s)

theorem addressAnswered_keeps (accept : Bool) (s : State) : KeepsAll φ s (addressAnswered accept s) := by
  unfold addressAnswered
  split
  · exact .refl s
  · split
    · split
      · exact setTurn_keeps _ s
      · exact commandRefused_keeps _ s
    · exact setTurn_keeps _ s
    all_goals exact .refl s

theorem commandAnswered_keeps (accept : Bool) (s : State) : KeepsAll φ s (commandAnswered accept s) := by
  unfold commandAnswered
  split
  · exact .refl s
  · split
    · split
      · exact commandAccepted_keeps _ s
      · exact commandRefused_keeps _ s
    all_goals exact .refl s

theorem reportOctet_keeps (b : Byte) (s : State) : KeepsAll φ s (reportOctet b s) := by
  unfold reportOctet
  split
  · exact .refl s
  · split
    · exact setTurn_keeps _ s
    · exact setTurn_keeps _ s
    all_goals exact .refl s

theorem windowClosed_keeps (s : State) : KeepsAll φ s (windowClosed s) := by
  unfold windowClosed
  split
  · exact .refl s
  · split
    · exact commandRefused_keeps _ s
    · exact commandRefused_keeps _ s
    · exact setTurn_keeps _ s
    · exact setTurn_keeps _ s
    · exact setTurn_keeps _ s
    · exact .refl s

theorem goodTurn_keeps (a : ArmId) (st : ArmReport) (angle : Nat) (s : State) : KeepsAll φ s (goodTurn a st angle s) :=
  (updateStation_keeps a _ s).trans (armReported_keeps a st angle _)

theorem missedTurn_keeps (a : ArmId) (s : State) : KeepsAll φ s (missedTurn a s) := by
  unfold missedTurn
  dsimp only
  split
  · exact .refl s
  · split
    · exact (updateStation_keeps a _ s).trans (armLost_keeps a _)
    · exact updateStation_keeps a _ s

theorem startTurn_keeps (s : State) : KeepsAll φ s (startTurn s) := by
  unfold startTurn
  split
  · exact beginTurn_keeps _ s
  · exact .refl s

theorem scanExpired_keeps (s : State) : KeepsAll φ s (scanExpired s) := by
  unfold scanExpired
  split
  · exact .refl s
  · refine .trans (withLoop_keeps (x := { s.loop with scanTimer := none }) rfl) ?_
    dsimp only
    split
    · exact beginScan_keeps _
    · exact .refl _

/-- The outcome of a turn, good or missed (R137, R138). -/
def turnOutcome (x : Turn) (s : State) : State :=
  match x.stateOctet, x.angleOctet with
  | some b, some d => goodTurn x.station (reportOf b) (reportAngleOf d) (setTurn none s)
  | _, _ => missedTurn x.station (setTurn none s)

theorem endTurn_none (h : s.loop.turn = none) : endTurn s = s := by simp [endTurn, h]

theorem endTurn_some {x : Turn} (h : s.loop.turn = some x) :
    endTurn s = if x.step = .stop then afterTurn x.station (turnOutcome x s) else s := by
  simp only [endTurn, h]
  rfl

theorem turnOutcome_keeps (x : Turn) (s : State) : KeepsAll φ s (turnOutcome x s) := by
  refine (setTurn_keeps none s).trans ?_
  unfold turnOutcome
  split
  · exact goodTurn_keeps _ _ _ _
  · exact missedTurn_keeps _ _

/-- A loop that goes on after a turn outside the first scan, or within it. -/
theorem afterTurn_keeps {a : ArmId} (h : nextInRing a ≠ none ∨ s.loop.firstScan = false) : KeepsAll φ s (afterTurn a s) := by
  unfold afterTurn
  split
  next => exact withLoop_keeps rfl
  next hlast =>
    have hf := h.resolve_left (by simp [hlast])
    simp only [hf, Bool.false_eq_true, if_false]
    refine .trans (withLoop_keeps (x := { s.loop with next := none, firstScan := false }) hf.symm) ?_
    split
    · exact beginScan_keeps _
    · exact .refl _

/-! ## The lamp commands (R146 to R159) -/

theorem updateChannel_keeps (i : ChannelId) (f : Channel → Channel) (s : State) : KeepsAll φ s (updateChannel i f s) :=
  withLamp_keeps rfl

theorem noteSupply_keeps (k : Nat) (s : State) : KeepsAll φ s (noteSupply k s) := withPins_keeps _ s

theorem signalLatch_keeps (masked : Bool) (s : State) : KeepsAll φ s (signalLatch masked s) := by
  unfold signalLatch
  split
  · exact .refl s
  · exact (pulseFault_keeps s).trans (raiseControl_keeps _ _)

/-! ## One millisecond (log entries 3 and 27) -/

theorem tickLeft_isSome (x : Option Nat) : (tickLeft x).isSome = x.isSome := by cases x <;> rfl

theorem tickOpening_keeps (s : State) : KeepsAll φ s (updateOpening tickOpening s) := by
  refine ⟨updateOpening_keeps (fun _ _ => ⟨rfl, rfl⟩) fun _ _ h => .inl h, fun _ hd d => ?_⟩
  rw [updateOpening_seq_demand, hd d]
  have hlisted : listedRecords (updateOpening tickOpening s) = listedRecords s := by
    cases ho : s.seq.opening <;> simp [listedRecords, updateOpening, setOpening, ho, tickOpening]
  have hisNone (o : Opening) : (tickLeft o.changeover).isNone = o.changeover.isNone := by
    rw [← Option.not_isSome, ← Option.not_isSome, tickLeft_isSome]
  cases ho : s.seq.opening with
  | none => simp [demandFor, updateOpening, setOpening, ho, State.conf]
  | some o =>
    have hto : (updateOpening tickOpening s).seq.opening = some (tickOpening o) := by simp [updateOpening, setOpening, ho]
    have hpass : passRow d (tickOpening o) (updateOpening tickOpening s) = passRow d o s := by
      simp [passRow, groupAdmitsPassage, hlisted, tickOpening, hisNone]
    have hstandBy : standByRow d (tickOpening o) (updateOpening tickOpening s) = standByRow d o s := by
      simp [standByRow, activeIn, hlisted, tickOpening]
    simp only [demandFor, hto, ho, hpass, hstandBy, updateOpening_sup, State.conf, updateOpening_cfg]

theorem tick_keeps (s : State) : KeepsAll φ s (tick s) := by
  let u := (s.withLeaf (tickLocks (s.conf.lockTimeout * 1000) s.leaf)).withSup
    { s.sup with watchdog := tickLeft s.sup.watchdog, pulseTimer := tickLeft s.sup.pulseTimer }
  have hleaf : KeepsAll φ s (s.withLeaf (tickLocks (s.conf.lockTimeout * 1000) s.leaf)) := by
    refine ⟨withLeaf_keeps (.inr (tickLocks_keeps _ _)) (fun h => .inl h) Iff.rfl, fun _ hd d => (hd d).trans ?_⟩
    exact (demandFor_congr_group (s := s) (t := s.withLeaf _) rfl rfl rfl rfl (listedRecords_congr_records rfl rfl) rfl d).symm
  have hsup : KeepsAll φ s u := hleaf.trans (withSup_keeps rfl (tickLeft_isSome _) rfl rfl rfl)
  exact (hsup.trans (tickOpening_keeps u)).trans (Quiet.keeps (by constructor <;> rfl))

/-! ## The control period (R62, R99) -/

@[simp] theorem applyLeaf_leaf (f : LeafMotion → LeafMotion) (s : State) : (applyLeaf f s).leaf = f s.leaf := by
  simp [applyLeaf]

/-- The leaf records as a control period leaves them, before a lower that waited for its stop. -/
def periodLeaf (counts : PerDrive (BitVec 24)) (s : State) : LeafMotion :=
  { s.leaf.period s.conf counts (Config.freeChoice s.freeCount) with periodTimer := some Config.controlPeriodMs }

/-- The state that a control period applies its leaf records to. -/
def periodBase (counts : PerDrive (BitVec 24)) (s : State) : State :=
  if newTwistWarning s.conf (s.leaf.formAngles s.conf counts) then pulseFault (countChoice s) else countChoice s

theorem periodBase_leaf (counts : PerDrive (BitVec 24)) (s : State) : (periodBase counts s).leaf = s.leaf := by
  unfold periodBase; split <;> rfl

theorem periodBase_closure (counts : PerDrive (BitVec 24)) (s : State) : (periodBase counts s).closure = s.closure := by
  unfold periodBase; split <;> rfl

/-- A control period, in the operations that other events share. -/
theorem runPeriod_eq (counts : PerDrive (BitVec 24)) (s : State) : runPeriod counts s =
    pendingLower (clearanceUpdate (periodLeaf counts s).group.clearance
      (applyLeaf (fun _ => periodLeaf counts s) (periodBase counts s))) := by
  have hwith : (periodBase counts s).withLeaf (periodLeaf counts s) =
      if newTwistWarning s.conf (s.leaf.formAngles s.conf counts) then pulseFault ((countChoice s).withLeaf (periodLeaf counts s))
      else (countChoice s).withLeaf (periodLeaf counts s) := by
    unfold periodBase
    split <;> rfl
  have happly : applyLeaf (fun _ => periodLeaf counts s) (periodBase counts s) = afterLeaf s.leaf.group.state
      (if newTwistWarning s.conf (s.leaf.formAngles s.conf counts) then pulseFault ((countChoice s).withLeaf (periodLeaf counts s))
      else (countChoice s).withLeaf (periodLeaf counts s)) := by
    rw [applyLeaf, periodBase_leaf, hwith]
  have hleaf := applyLeaf_leaf (fun _ => periodLeaf counts s) (periodBase counts s)
  rw [happly] at hleaf ⊢
  rw [← congrArg (fun m : LeafMotion => m.group.clearance) hleaf]
  rfl

theorem periodBase_keeps (counts : PerDrive (BitVec 24)) (s : State) : KeepsAll φ s (periodBase counts s) := by
  unfold periodBase
  split
  · exact (countChoice_keeps s).trans (pulseFault_keeps _)
  · exact countChoice_keeps s

theorem dropWaitingLower_periodLeaf (counts : PerDrive (BitVec 24)) (s : State) :
    dropWaitingLower (periodLeaf counts s) = { dropWaitingLower (s.leaf.period s.conf counts (Config.freeChoice s.freeCount))
      with periodTimer := some Config.controlPeriodMs } := by
  unfold dropWaitingLower periodLeaf; split <;> rfl

theorem periodLeaf_keeps (counts : PerDrive (BitVec 24)) (s : State) {shut : Prop} :
    LeafKeeps shut s.leaf (dropWaitingLower (periodLeaf counts s)) := by
  rw [dropWaitingLower_periodLeaf]
  exact (period_keeps s.conf counts _ s.leaf).trans (.of_outputs rfl rfl rfl (fun _ => ⟨rfl, rfl, rfl⟩) (fun _ => rfl) rfl)

theorem pendingLower_keeps (s : State) : KeepsAll .period s (pendingLower s) := by
  unfold pendingLower
  split
  next h =>
    have hdrop : KeepsAll .period s (s.withLeaf (s.leaf.updateGroup (fun g => { g with pendingLower := false }))) := by
      refine ⟨withLeaf_keeps (.inl rfl) (fun h => .inl h) Iff.rfl, fun _ hd d => (hd d).trans ?_⟩
      exact (demandFor_congr_group (s := s) (t := s.withLeaf _) rfl rfl rfl rfl (listedRecords_congr_records rfl rfl) rfl d).symm
    refine hdrop.trans ?_
    dsimp only
    split
    next => exact .refl _
    next hr =>
      have hkeep := lower_keeps (m := s.leaf.updateGroup (fun g => { g with pendingLower := false })) (by simpa using hr)
      refine applyLeaf_keeps_of (.inl rfl) fun hm => ?_
      simpa [roadIsClosed_iff] using hkeep.moving hm
  next => exact .refl s

theorem leafSound_pendingLower (h : leafSound (dropWaitingLower s.leaf)) : leafSound (pendingLower s).leaf := by
  unfold pendingLower
  split
  next hp =>
    rw [dropWaitingLower, if_pos hp] at h
    dsimp only
    split
    next => exact h
    next hr =>
      rw [applyLeaf_leaf]
      exact (lower_keeps (by simpa using hr)).sound h
  next hp => rwa [dropWaitingLower, if_neg hp] at h

theorem runPeriod_keeps (counts : PerDrive (BitVec 24)) (s : State) : KeepsAll .period s (runPeriod counts s) := by
  rw [runPeriod_eq]
  refine (pendingLower_keeps _).after ((clearanceUpdate_keeps _ _).after (.after ?_ (periodBase_keeps counts s)))
  refine applyLeaf_keeps_of (.inl rfl) fun hm => ?_
  rw [periodBase_leaf, periodBase_closure]
  refine (periodLeaf_keeps counts s).moving ?_
  simpa only [LeafMotion.moving, dropWaitingLower_state] using hm

theorem runPeriod_leafSound (counts : PerDrive (BitVec 24)) (h : leafSound s.leaf) : leafSound (runPeriod counts s).leaf := by
  rw [runPeriod_eq]
  refine leafSound_pendingLower ?_
  rw [clearanceUpdate_leaf, applyLeaf_leaf]
  exact (periodLeaf_keeps (shut := True) counts s).sound h

end Sys2Proof.Machine

/-!
What one step keeps: each command in turn, with the reset events, the accepted commit and the end of the start-up evaluation,
which set whole blocks, taken by themselves. The statements on the kept conditions follow.
-/

namespace Sys2Proof.Machine

open Sys2Proof

variable {φ : Phase} {s t u : State} {l : Link} {body : List Byte}

/-- What a step keeps of the conditions on everything but the links' machinery. -/
structure StepKeeps (s t : State) : Prop where
  leaf : leafSound s.leaf → leafSound t.leaf
  road : roadShutWhileMoving s → roadShutWhileMoving t
  sup : supervisorTable s → supervisorTable t
  display : registerTable s.reg → displayTable s → displayTable t
  attention : attentionTable s → attentionTable t
  register : registerTable s.reg → registerTable t.reg
  lists : registerTable s.reg → listTable s → listTable t

theorem StepKeeps.refl (s : State) : StepKeeps s s := ⟨id, id, id, fun _ => id, id, id, fun _ => id⟩

theorem StepKeeps.trans (h : StepKeeps s t) (h' : StepKeeps t u) : StepKeeps s u where
  leaf := h'.leaf ∘ h.leaf
  road := h'.road ∘ h.road
  sup := h'.sup ∘ h.sup
  display := fun hr => h'.display (h.register hr) ∘ h.display hr
  attention := h'.attention ∘ h.attention
  register := h'.register ∘ h.register
  lists := fun hr => h'.lists (h.register hr) ∘ h.lists hr

theorem KeepsAll.display (h : KeepsAll φ s t) (hr : registerTable s.reg) (hd : displayTable s) : displayTable t := by
  rw [displayTable_iff] at *
  obtain ⟨hdemands, hlights, hheads⟩ := hd
  exact ⟨h.demands hr hdemands, h.lights hlights, h.heads hheads⟩

theorem Keeps.lists (h : Keeps φ s t) (hφ : φ ≠ .startUp) (hr : registerTable s.reg) (hl : listTable s) : listTable t := by
  rw [listTable_iff] at *
  exact ⟨h.records hr hl.1, h.setup hφ hl.2⟩

theorem KeepsAll.stepKeeps (h : KeepsAll .ordinary s t) : StepKeeps s t :=
  ⟨h.leaf (by decide), h.road (by decide), h.sup, h.display, h.attention, h.register, h.lists (by decide)⟩

theorem inHand_of_core {p q : LinkPort} (h : q.core = p.core) : q.inHand = p.inHand := (congrArg LinkPort.inHand h :)

theorem portTable_congr {p q : LinkPort} (h : q.core = p.core) : portTable q ↔ portTable p := by
  have hin : q.inHand = p.inHand := (congrArg LinkPort.inHand h :)
  have hsend : q.sending = p.sending := (congrArg LinkPort.sending h :)
  have hwait : q.waiting = p.waiting := (congrArg LinkPort.waiting h :)
  have hover : q.overrun = p.overrun := (congrArg LinkPort.overrun h :)
  simp only [portTable, hin, hsend, hwait, hover]

/-- Links whose machinery stands, outside a new first scan. -/
theorem portsSound_of_cores (hcore : ∀ l, (t.links.get l).core = (s.links.get l).core)
    (hscan : t.loop.firstScan = true → s.loop.firstScan = true) (h : portsSound s) : portsSound t := by
  obtain ⟨hc, hh, hcommit⟩ := h
  have hcontrol : t.links.control.core = s.links.control.core := hcore .control
  refine ⟨(portTable_congr hcontrol).mpr hc, (portTable_congr (hcore .harbour)).mpr hh, fun hf => ?_⟩
  have hin : t.links.control.inHand = s.links.control.inHand := (congrArg LinkPort.inHand hcontrol :)
  have hsend : t.links.control.sending = s.links.control.sending := (congrArg LinkPort.sending hcontrol :)
  have hwait : t.links.control.waiting = s.links.control.waiting := (congrArg LinkPort.waiting hcontrol :)
  rw [hin, hsend, hwait]
  exact hcommit (hscan hf)

theorem Keeps.portsSound (h : Keeps φ s t) (hs : portsSound s) : portsSound t := portsSound_of_cores h.ports h.scan hs

/-! ## Changes at the links alone -/

/-- Nothing but the links' machinery and the watchdog's remaining time differs. -/
structure PortStep (s t : State) : Prop where
  attention : ∀ l, (t.links.get l).attention = (s.links.get l).attention
  reg : t.reg = s.reg
  seq : t.seq = s.seq
  leaf : t.leaf = s.leaf
  closure : t.closure = s.closure
  scan : t.loop.firstScan = s.loop.firstScan
  functions : t.lamp.functions = s.lamp.functions
  display : t.display = s.display
  mode : t.sup.mode = s.sup.mode
  watchdog : t.sup.watchdog.isSome = s.sup.watchdog.isSome
  groupTripped : t.sup.groupTripped = s.sup.groupTripped
  closureHeld : t.sup.closureHeld = s.sup.closureHeld
  dark : t.sup.dark = s.sup.dark
  cfg : t.cfg = s.cfg

theorem PortStep.stepKeeps (h : PortStep s t) : StepKeeps s t where
  leaf := by rw [h.leaf]; exact id
  road := by simp only [roadShutWhileMoving, h.leaf, h.closure]; exact id
  sup := by
    simp only [supervisorTable, h.groupTripped, h.leaf, h.closureHeld, h.closure, h.dark, h.display, h.watchdog, h.mode]
    exact id
  display := fun _ ⟨hd, hroad, hheads⟩ => by
    refine ⟨fun d => ?_, by rw [h.display, h.closure]; exact hroad, fun d => ?_⟩
    · rw [h.seq, hd d]
      exact (demandFor_congr_group h.mode h.cfg (by rw [h.seq]) (by rw [h.seq])
        (listedRecords_congr_records (by rw [h.seq]) (by rw [h.reg])) (by rw [h.leaf]) d).symm
    · rw [h.display, h.seq, headHealth_congr h.functions d]
      exact hheads d
  attention := (attentionTable_congr h.attention).mpr
  register := by rw [h.reg]; exact id
  lists := fun _ hl => by
    rw [listTable_iff] at *
    exact ⟨(recordsFit_congr (by rw [h.reg]) (by rw [h.seq])).mpr hl.1,
      (setupEmpty_congr (by rw [h.reg]) (by rw [h.seq]) h.mode h.scan).mpr hl.2⟩

theorem updatePort_portStep {f : LinkPort → LinkPort} (hf : ∀ p, (f p).attention = p.attention) (s : State) :
    PortStep s (updatePort l f s) := by
  constructor
  case attention =>
    intro k
    by_cases hk : k = l
    · subst hk; rw [updatePort_get, hf]
    · simp [updatePort, PerLink.get_set_ne _ _ _ _ hk]
  all_goals simp

theorem restartWatchdog_portStep (l : Link) (s : State) : PortStep s (restartWatchdog l s) := by
  constructor
  case watchdog =>
    unfold restartWatchdog
    split
    next h => simp [h]
    next => rfl
  all_goals simp

theorem setInHand_portStep (k : Option Byte) (s : State) : PortStep s (setInHand l k s) := by
  unfold setInHand
  refine updatePort_portStep (fun p => ?_) s
  rfl

theorem setIntake_portStep (i : Intake) (s : State) : PortStep s (setIntake l i s) := by
  unfold setIntake
  refine updatePort_portStep (fun p => ?_) s
  rfl

theorem putReply_portStep (k : Byte) (o : OutcomeCode) (b : List Byte) (s : State) : PortStep s (putReply l k o b s) := by
  unfold putReply
  exact updatePort_portStep (fun p => by cases p.sending <;> rfl) s

theorem outcomeLeaves_attention (p : LinkPort) : (outcomeLeaves p).attention = p.attention := by
  unfold outcomeLeaves; split <;> rfl

theorem replyEnds_attention (p : LinkPort) : (replyEnds p).attention = p.attention := by
  unfold replyEnds; split <;> rfl

/-! ## The reset events (R104, R130, R142, R161, R173, R179, R180, R183, R195) -/

theorem leafSound_resetLeaf (keep : Bool) (m : LeafMotion) : leafSound (resetLeaf keep m) := by
  refine ⟨⟨fun d => by cases d <;> rfl, fun _ d => by cases d <;> exact ⟨rfl, rfl⟩, fun k => by simp [resetLeaf, Lock.cleared, Group.reset]⟩, ?_⟩
  refine ⟨?_, ?_, ?_⟩ <;> simp [resetLeaf, Group.reset]

theorem not_moving_resetLeaf (keep : Bool) (m : LeafMotion) : ¬(resetLeaf keep m).moving := by
  simp [LeafMotion.moving, resetLeaf, Group.reset, GroupState.profileRuns]

theorem walk_dark (h : HeadHealth) : walk .dark h = ⟨.dark, none⟩ := rfl

/-- A state of SETUP, whose blocks stand at their reset values. -/
structure BlocksReset (t : State) : Prop where
  reg : t.reg = .reset
  seq : t.seq = .reset
  leaf : ∃ keep m, t.leaf = resetLeaf keep m
  closure : t.closure = .reset
  scan : t.loop.firstScan = false
  display : t.display = .reset
  sup : t.sup = .reset

theorem BlocksReset.registerTable (h : BlocksReset t) : registerTable t.reg := by
  rw [h.reg]; simp [Sys2Proof.Machine.registerTable, Register.reset]

theorem BlocksReset.listTable (h : BlocksReset t) : listTable t := by
  have hr : t.reg.records = [] := by rw [h.reg]; rfl
  have ho : t.seq.opening = none := by rw [h.seq]; rfl
  have hl : admittedList t = [] := by simp [admittedList, ho]
  refine ⟨by simp [hr], by simp [hl], by simp [hl], by simp [hl], by simp [ho], by simp [ho], fun _ => ⟨hr, ho⟩, by simp [h.scan]⟩

theorem BlocksReset.supervisorTable (h : BlocksReset t) : supervisorTable t := by
  obtain ⟨keep, m, hleaf⟩ := h.leaf
  simp only [Sys2Proof.Machine.supervisorTable, h.sup, hleaf, h.closure, h.display]
  refine ⟨by simp [Supervisor.reset, resetLeaf, Group.reset], by simp [Supervisor.reset, Closure.reset], ?_, ?_,
    by simp [Supervisor.reset]⟩
  all_goals intro d; cases d <;> simp [Supervisor.reset, Display.reset, Head.reset, PerHead.get]

theorem BlocksReset.displayTable (h : BlocksReset t) : displayTable t := by
  have hm : t.sup.mode = .setup := by rw [h.sup]; rfl
  refine ⟨fun d => ?_, ?_, fun d => ?_⟩
  · rw [h.seq, demandFor, if_pos hm]
    cases d <;> rfl
  · rw [h.display, h.closure]; rfl
  · rw [h.display, h.seq]
    cases d <;> exact ⟨rfl, rfl, rfl, rfl⟩

theorem BlocksReset.stepKeeps (h : BlocksReset t) (ha : attentionTable s → attentionTable t) : StepKeeps s t where
  leaf := fun _ => by obtain ⟨keep, m, hleaf⟩ := h.leaf; rw [hleaf]; exact leafSound_resetLeaf keep m
  road := fun _ => by
    obtain ⟨keep, m, hleaf⟩ := h.leaf
    rw [roadShutWhileMoving_iff, hleaf]
    exact fun hm => absurd hm (not_moving_resetLeaf keep m)
  sup := fun _ => h.supervisorTable
  display := fun _ _ => h.displayTable
  attention := ha
  register := fun _ => h.registerTable
  lists := fun _ _ => h.listTable

theorem attentionTable_of_reset (h : ∀ l, t.links.get l = .reset) : attentionTable t := by
  have hh : t.links.harbour = .reset := h .harbour
  refine ⟨fun l => by simp [h l, LinkPort.reset, Attention.reset], .inl ?_⟩
  simp [hh, LinkPort.reset, Attention.reset]

theorem resetState_blocks (s : State) : BlocksReset (resetState s) :=
  ⟨rfl, rfl, ⟨false, s.leaf, rfl⟩, rfl, rfl, rfl, rfl⟩

theorem revertState_blocks (s : State) : BlocksReset (revertState s) :=
  ⟨rfl, rfl, ⟨true, s.leaf, rfl⟩, rfl, rfl, rfl, rfl⟩

theorem resetState_stepKeeps (s : State) : StepKeeps s (resetState s) :=
  (resetState_blocks s).stepKeeps fun _ => attentionTable_of_reset fun l => by cases l <;> rfl

theorem portsSound_of_reset (h : ∀ l, t.links.get l = .reset) (hf : t.loop.firstScan = false) : portsSound t := by
  have hc : t.links.control = .reset := h .control
  have hh : t.links.harbour = .reset := h .harbour
  refine ⟨by rw [hc]; simp [portTable, LinkPort.reset], by rw [hh]; simp [portTable, LinkPort.reset], fun hs => by simp [hf] at hs⟩

theorem revertState_stepKeeps (s : State) : StepKeeps s (revertState s) := (revertState_blocks s).stepKeeps id

/-! ## The accepted commit (R200) -/

section

variable (s : State)

theorem acceptCommit_display : (acceptCommit s).display = s.display := rfl
theorem acceptCommit_seq : (acceptCommit s).seq = s.seq := rfl
theorem acceptCommit_closure : (acceptCommit s).closure = s.closure := rfl
theorem acceptCommit_records : (acceptCommit s).reg.records = s.reg.records := rfl
theorem acceptCommit_firstScan : (acceptCommit s).loop.firstScan = true := rfl

theorem acceptCommit_leaf : ∃ occupied, (acceptCommit s).leaf = s.leaf.zoneChange occupied occupied := ⟨_, rfl⟩

end

theorem zoneChange_tripped_iff (became any : Bool) (m : LeafMotion) :
    (m.zoneChange became any).group.state = .tripped ↔ m.group.state = .tripped := by
  simp only [LeafMotion.zoneChange]
  split
  next =>
    cases hst : (m.updateGroup (fun g => { g with spanOccupied := any })).group.state <;>
      simp_all [LeafMotion.updateGroup, LeafMotion.beginStop, LeafMotion.stopTakes]
    split <;> simp
  next => rfl

theorem acceptCommit_stepKeeps (hm : s.sup.mode = .setup) : StepKeeps s (acceptCommit s) := by
  obtain ⟨occupied, hleaf⟩ := acceptCommit_leaf s
  have hkeep : LeafKeeps (s.closure.state = .roadClosed) s.leaf (acceptCommit s).leaf := by
    rw [hleaf]; exact zoneChange_keeps _ _ _
  have hstate : (acceptCommit s).leaf.group.state = .tripped ↔ s.leaf.group.state = .tripped := by
    rw [hleaf]; exact zoneChange_tripped_iff _ _ _
  refine ⟨hkeep.sound, fun h => ?_, ?_, fun _ ⟨hd, hroad, hheads⟩ => ?_, id, ?_, fun _ ⟨h1, h2, h3, h4, h5, h6, h7, h8⟩ => ?_⟩
  · rw [roadShutWhileMoving_iff] at h ⊢
    exact fun hmv => (hkeep.moving hmv).elim h id
  · simp only [supervisorTable, hstate, acceptCommit_sup]
    exact id
  · have hdemand (d : Direction) (t : State) (hmt : t.sup.mode = .setup) : demandFor d t = .dark := by rw [demandFor, if_pos hmt]
    have hmt : (acceptCommit s).sup.mode = .setup := by rw [acceptCommit_sup]; exact hm
    refine ⟨fun d => ?_, hroad, fun d => ?_⟩
    · rw [hdemand d _ hmt, ← hdemand d s hm]; exact hd d
    · obtain ⟨hdem, hshown, hdisp, hred⟩ := hheads d
      refine ⟨hdem, ?_, hdisp, hred⟩
      rw [acceptCommit_seq, hshown, hd d, hdemand d s hm, walk_dark, walk_dark]
  · exact (registerTable_congr rfl rfl).mpr
  · exact ⟨h1, h2, h3, h4, h5, h6, h7, fun _ => by rw [acceptCommit_sup]; exact hm⟩

end Sys2Proof.Machine

/-!
One step, command by command: what it keeps of every condition, and the statements on the kept conditions.
-/

namespace Sys2Proof.Machine

open Sys2Proof

variable {φ : Phase} {s t u : State} {l : Link} {kind : Byte} {body : List Byte}

/-! ## The requests -/

/-- What every request but the commit keeps: the conditions, the links' machinery, and a first scan that does not begin. -/
structure TakeKeeps (s t : State) : Prop extends StepKeeps s t where
  cores : ∀ l, (t.links.get l).core = (s.links.get l).core
  scan : t.loop.firstScan = true → s.loop.firstScan = true

theorem KeepsAll.takeKeeps (h : KeepsAll .ordinary s t) : TakeKeeps s t := ⟨h.stepKeeps, h.ports, h.scan⟩

theorem TakeKeeps.refl (s : State) : TakeKeeps s s := (KeepsAll.refl s).takeKeeps

theorem takeRevert_keeps (body : List Byte) (s : State) : TakeKeeps s (takeRevert body s).1 := by
  unfold takeRevert
  split
  · exact .refl s
  · split
    · split
      · exact .refl s
      · exact ⟨revertState_stepKeeps s, fun _ => rfl, fun h => by simp [accept, revertState, Loop.reset] at h⟩
    · exact .refl s

theorem takeCommit_stepKeeps (body : List Byte) (s : State) : StepKeeps s (takeCommit body s).1 := by
  unfold takeCommit
  split
  next => exact .refl s
  next h =>
    split
    · split
      · exact .refl s
      · exact acceptCommit_stepKeeps (by simpa [inSetup] using h)
    · exact .refl s

theorem takeCommit_cores (body : List Byte) (s : State) (l : Link) :
    ((takeCommit body s).1.links.get l).core = (s.links.get l).core := by
  unfold takeCommit
  split
  · rfl
  · split
    · split <;> rfl
    · rfl

/-- COMMIT CONFIGURATION in the table of R189. -/
theorem kindRow_commit (l : Link) : kindRow l 0x52#8 = some ⟨true, takeCommit⟩ := rfl

theorem kindRow_takeKeeps {r : KindRow} (h : kindRow l kind = some r) (hne : kind ≠ 0x52#8) (body : List Byte) (s : State) :
    TakeKeeps s (r.take body s).1 := by
  unfold kindRow at h
  split at h
  case h_24 heq => exact absurd (BitVec.eq_of_toNat_eq heq) hne
  case h_26 => simp at h
  case h_25 => obtain rfl := Option.some.inj h; exact takeRevert_keeps body s
  all_goals
    obtain rfl := Option.some.inj h
  · exact (takeStatus_keeps l body s).takeKeeps
  · exact (takeEnter_keeps l body s).takeKeeps
  · exact (takeAmend_keeps l body s).takeKeeps
  · exact (takeWithdraw_keeps l body s).takeKeeps
  · exact (takeRelease_keeps l body s).takeKeeps
  · rw [takeLookUp_state]; exact .refl s
  · exact (takeList_keeps l body s).takeKeeps
  · exact (takeBegin_keeps l body s).takeKeeps
  · exact (takeAdmit_keeps l body s).takeKeeps
  · exact (takeMark_keeps l body s).takeKeeps
  · exact (takeLower_keeps l body s).takeKeeps
  · exact (takeAbort_keeps l body s).takeKeeps
  · exact (takeContinue_keeps body s).takeKeeps
  · exact (takeConfirm_keeps body s).takeKeeps
  · exact (takeWarningOverride_keeps body s).takeKeeps
  · exact (takeArmService_keeps body s).takeKeeps
  · exact (takeClosureRetry_keeps body s).takeKeeps
  · exact (takeReopenRoad_keeps body s).takeKeeps
  · exact (takeResetTrip_keeps body s).takeKeeps
  · exact (takeClearFaults_keeps body s).takeKeeps
  · exact (takeSetDim_keeps body s).takeKeeps
  · exact (takeResume_keeps body s).takeKeeps
  · exact (takeWriteItem_keeps body s).takeKeeps

theorem kindRow_stepKeeps {r : KindRow} (h : kindRow l kind = some r) (body : List Byte) (s : State) :
    StepKeeps s (r.take body s).1 := by
  by_cases hk : kind = 0x52#8
  · subst hk
    obtain rfl := Option.some.inj ((kindRow_commit l).symm.trans h)
    exact takeCommit_stepKeeps body s
  · exact (kindRow_takeKeeps h hk body s).toStepKeeps

/-! ## A good frame (R175, R187, R188) -/

theorem portRequest_stepKeeps {controlOnly : Bool} {take : State → Taken} (h : ∀ s, StepKeeps s (take s).1) (s : State) :
    StepKeeps s (portRequest l kind controlOnly take s) := by
  have hwatch := (restartWatchdog_portStep l s).stepKeeps
  have hhand := hwatch.trans (setInHand_portStep (l := l) (some kind) (restartWatchdog l s)).stepKeeps
  unfold portRequest
  dsimp only
  split
  · exact hwatch.trans (updatePort_portStep (f := fun p => { p with overrun := true }) (fun _ => rfl) _).stepKeeps
  · split
    · exact hhand.trans (putReply_portStep _ _ _ _).stepKeeps
    · have htake := hhand.trans (h (setInHand l (some kind) (restartWatchdog l s)))
      split
      next heq => rw [heq] at htake; exact htake.trans (putReply_portStep _ _ _ _).stepKeeps
      next heq => rw [heq] at htake; exact htake

/-- A request that the table of R189 does not hold. -/
theorem frameTaken_stepKeeps (kind : Byte) (body : List Byte) (s : State) : StepKeeps s (frameTaken l kind body s) := by
  unfold frameTaken
  split
  next r h => exact portRequest_stepKeeps (fun s => kindRow_stepKeeps h body s) s
  next => exact portRequest_stepKeeps (fun s => .refl s) s

/-- What a condition keeps through the intake: a good frame, and octets that complete none. -/
theorem intakeOctet_cases {P : State → Prop} (b : Byte) (hs : P s) (hintake : ∀ i, P (setIntake l i s))
    (hframe : ∀ kind body, P (frameTaken l kind body (setIntake l .hunting s))) : P (intakeOctet l b s) := by
  unfold intakeOctet
  split
  · split
    · exact hintake _
    · exact hs
  · split
    · exact hintake _
    · exact hintake _
  · dsimp only
    split
    · unfold frameComplete
      dsimp only
      split
      · split
        · exact hframe _ _
        · exact hintake _
      · exact hintake _
    · exact hintake _

/-! ## The links' machinery through a request (R187, R200) -/

theorem portsSound_of_other {m : Link} (hc : portTable (t.links.get m)) (hother : ∀ k, k ≠ m → t.links.get k = s.links.get k)
    (hcommit : commitInHand t) (h : portsSound s) : portsSound t := by
  obtain ⟨h1, h2, _⟩ := h
  cases m with
  | control => exact ⟨hc, by rw [show t.links.harbour = s.links.harbour from hother .harbour (by decide)]; exact h2, hcommit⟩
  | harbour => exact ⟨by rw [show t.links.control = s.links.control from hother .control (by decide)]; exact h1, hc, hcommit⟩

/-- What holds of a link at which a request has come in hand: no reply waits, and the one being sent has sent its outcome
octet. -/
def takesRequest (p : LinkPort) : Prop := p.waiting = none ∧ ∀ r, p.sending ≠ some ⟨r, false⟩

theorem takesRequest_of_free {p : LinkPort} (h : portTable p) (hfree : p.inHand = none) : takesRequest p := by
  obtain ⟨hwait, hsend, _⟩ := h
  refine ⟨?_, fun r hr => ?_⟩
  · cases hw : p.waiting with
    | none => rfl
    | some x => simpa [hfree] using (hwait (by simp [hw])).1
  · simpa [hfree] using hsend ⟨r, hr⟩

theorem portTable_of_takesRequest {p : LinkPort} (h : takesRequest p) (hin : p.inHand.isSome = true) : portTable p := by
  exact ⟨fun hw => by simp [h.1] at hw, fun _ => hin, fun _ => hin⟩

theorem takesRequest_congr {p q : LinkPort} (h : q.core = p.core) : takesRequest q ↔ takesRequest p := by
  have hsend : q.sending = p.sending := (congrArg LinkPort.sending h :)
  have hwait : q.waiting = p.waiting := (congrArg LinkPort.waiting h :)
  simp only [takesRequest, hsend, hwait]

/-- A reply handed to a link with a request in hand (R187). -/
theorem portTable_putReply {o : OutcomeCode} {b : List Byte} (h : takesRequest (s.links.get l))
    (hin : (s.links.get l).inHand.isSome = true) : portTable ((putReply l kind o b s).links.get l) := by
  obtain ⟨hwait, hsend⟩ := h
  unfold putReply
  rw [updatePort_get]
  cases hs : (s.links.get l).sending with
  | none => exact ⟨fun hw => by simp [hwait] at hw, fun _ => hin, fun _ => hin⟩
  | some x =>
    obtain ⟨r, out⟩ := x
    cases out with
    | false => exact absurd hs (hsend r)
    | true => exact ⟨fun _ => ⟨hin, r, rfl⟩, fun _ => hin, fun _ => hin⟩

theorem putReply_get_ne {k : Link} {o : OutcomeCode} {b : List Byte} (h : k ≠ l) (s : State) :
    (putReply l kind o b s).links.get k = s.links.get k := by
  simp [putReply, updatePort, PerLink.get_set_ne _ _ _ _ h]

theorem updatePort_get_ne {k : Link} {f : LinkPort → LinkPort} (h : k ≠ l) (s : State) :
    (updatePort l f s).links.get k = s.links.get k := by
  simp [updatePort, PerLink.get_set_ne _ _ _ _ h]

theorem commitInHand_of_no_scan (h : s.loop.firstScan = false) : commitInHand s := fun hf => by simp [h] at hf

theorem putReply_portsSound {o : OutcomeCode} {b : List Byte} (h : portsSound s) (ht : takesRequest (s.links.get l))
    (hin : (s.links.get l).inHand.isSome = true) (hscan : s.loop.firstScan = true → l = .harbour) :
    portsSound (putReply l kind o b s) := by
  refine portsSound_of_other (portTable_putReply ht hin) (fun k hk => putReply_get_ne hk s) (fun hf => ?_) h
  rw [putReply_loop] at hf
  obtain rfl := hscan hf
  have hc := h.2.2 hf
  rwa [show (putReply .harbour kind o b s).links.control = s.links.control from putReply_get_ne (k := .control) (by decide) s]

theorem restartWatchdog_portsSound (h : portsSound s) : portsSound (restartWatchdog l s) :=
  portsSound_of_cores (fun k => by rw [restartWatchdog_links]) (by rw [restartWatchdog_loop]; exact id) h

theorem setInHand_portsSound (h : portsSound s) (hfree : (s.links.get l).inHand = none) :
    portsSound (setInHand l (some kind) s) := by
  have hfree' := takesRequest_of_free (p := s.links.get l) (by cases l; exacts [h.1, h.2.1]) hfree
  refine portsSound_of_other (m := l) ?_ (fun k hk => updatePort_get_ne hk s) (fun hf => ?_) h
  · unfold setInHand
    rw [updatePort_get]
    exact portTable_of_takesRequest hfree' rfl
  · rw [setInHand_loop] at hf
    have hc := h.2.2 hf
    cases l with
    | control => simp [PerLink.get, hc.1] at hfree
    | harbour => rwa [show (setInHand .harbour (some kind) s).links.control = s.links.control from updatePort_get_ne (k := .control) (l := .harbour) (by decide) s]

theorem portRequest_portsSound {controlOnly : Bool} {take : State → Taken}
    (hcores : ∀ s l, ((take s).1.links.get l).core = (s.links.get l).core)
    (hscan : ∀ s, (take s).1.loop.firstScan = true → s.loop.firstScan = true ∨
      (l = .control → kind = 0x52#8 ∧ (take s).2 = none) ∧ (l = .harbour → controlOnly = true))
    (h : portsSound s) : portsSound (portRequest l kind controlOnly take s) := by
  have h0 : portsSound (restartWatchdog l s) := restartWatchdog_portsSound h
  unfold portRequest
  generalize restartWatchdog l s = v at h0
  dsimp only
  split
  next hbusy =>
    have htable : portTable (v.links.get l) := by cases l; exacts [h0.1, h0.2.1]
    refine portsSound_of_other (m := l) ?_ (fun k hk => updatePort_get_ne hk v) (fun hf => ?_) h0
    · rw [updatePort_get]
      exact ⟨htable.1, htable.2.1, fun _ => hbusy⟩
    · rw [updatePort_loop] at hf
      have hc := h0.2.2 hf
      cases l with
      | control => simpa [updatePort, PerLink.set, PerLink.get] using hc
      | harbour => simpa [updatePort, PerLink.set] using hc
  next hfree =>
    have hfree : (v.links.get l).inHand = none := by simpa using hfree
    have hnoscan (hl : l = .control) : v.loop.firstScan = false := by
      subst hl
      by_contra hf
      have := (h0.2.2 (by simpa using hf)).1
      simp [PerLink.get, this] at hfree
    have h1 : portsSound (setInHand l (some kind) v) := setInHand_portsSound h0 hfree
    have hget : (setInHand l (some kind) v).links.get l = { v.links.get l with inHand := some kind } := updatePort_get _ _ _
    have htakes : takesRequest ((setInHand l (some kind) v).links.get l) := by
      rw [hget]
      exact takesRequest_of_free (p := v.links.get l) (by cases l; exacts [h0.1, h0.2.1]) hfree
    have hloop : (setInHand l (some kind) v).loop = v.loop := setInHand_loop _ _ _
    generalize setInHand l (some kind) v = w at h1 hget htakes hloop
    have hin : (w.links.get l).inHand = some kind := by rw [hget]
    have hlink (hf : w.loop.firstScan = true) : l = .harbour := by
      cases l with
      | control => rw [hloop, hnoscan rfl] at hf; simp at hf
      | harbour => rfl
    split
    next => exact putReply_portsSound h1 htakes (by simp [hin]) hlink
    next hnot =>
      have hcore := hcores w
      have hmore := hscan w
      have hharbour (hl : l = .harbour) : controlOnly = false := by
        subst hl
        simpa using hnot
      have hcommit : commitInHand (take w).1 := fun hf => by
        have hcore' : (take w).1.links.control.core = w.links.control.core := hcore .control
        have hin' : (take w).1.links.control.inHand = w.links.control.inHand := (congrArg LinkPort.inHand hcore' :)
        have hsend' : (take w).1.links.control.sending = w.links.control.sending := (congrArg LinkPort.sending hcore' :)
        have hwait' : (take w).1.links.control.waiting = w.links.control.waiting := (congrArg LinkPort.waiting hcore' :)
        rw [hin', hsend', hwait']
        rcases hmore hf with hw | ⟨hcontrol, hh⟩
        · exact h1.2.2 hw
        · cases l with
          | control =>
            obtain ⟨rfl, _⟩ := hcontrol rfl
            exact ⟨hin, htakes.1, htakes.2⟩
          | harbour => exact absurd (hh rfl) (by simp [hharbour rfl])
      have h2 : portsSound (take w).1 :=
        ⟨(portTable_congr (hcore .control)).mpr h1.1, (portTable_congr (hcore .harbour)).mpr h1.2.1, hcommit⟩
      have htakes' : takesRequest ((take w).1.links.get l) := (takesRequest_congr (hcore l)).mpr htakes
      have hin' : ((take w).1.links.get l).inHand = some kind := ((congrArg LinkPort.inHand (hcore l) :)).trans hin
      split
      next x a heq =>
        rw [heq] at h2 htakes' hin' hmore
        refine putReply_portsSound h2 htakes' (by simp [hin']) fun hf => ?_
        rcases hmore hf with hw | ⟨hcontrol, _⟩
        · exact hlink hw
        · cases l with
          | control => simpa using (hcontrol rfl).2
          | harbour => rfl
      next x heq => rw [heq] at h2; exact h2

theorem takeCommit_answer (h : (takeCommit body s).1.loop.firstScan = true) :
    s.loop.firstScan = true ∨ (takeCommit body s).2 = none := by
  unfold takeCommit at h ⊢
  split at h
  next => exact .inl h
  next hm =>
    rw [if_neg hm]
    split at h
    next =>
      split at h
      next => exact .inl h
      next => exact .inr rfl
    next => exact .inl h

theorem kindRow_portsSound {r : KindRow} (h : kindRow l kind = some r) (body : List Byte) (hs : portsSound s) :
    portsSound (portRequest l kind r.controlOnly (r.take body) s) := by
  by_cases hk : kind = 0x52#8
  · subst hk
    obtain rfl := Option.some.inj ((kindRow_commit l).symm.trans h)
    refine portRequest_portsSound (takeCommit_cores body) (fun s hf => ?_) hs
    rcases takeCommit_answer hf with hf | hf
    · exact .inl hf
    · exact .inr ⟨fun _ => ⟨rfl, hf⟩, fun _ => rfl⟩
  · exact portRequest_portsSound (fun s => (kindRow_takeKeeps h hk body s).cores)
      (fun s hf => .inl ((kindRow_takeKeeps h hk body s).scan hf)) hs

theorem frameTaken_portsSound (kind : Byte) (body : List Byte) (hs : portsSound s) : portsSound (frameTaken l kind body s) := by
  unfold frameTaken
  split
  next r h => exact kindRow_portsSound h body hs
  next => exact portRequest_portsSound (fun _ _ => rfl) (fun _ hf => .inl hf) hs

/-- A change of a link's machinery that keeps its table, and at the control link the commit in hand. -/
theorem updatePort_portsSound {f : LinkPort → LinkPort} (hf : ∀ p, portTable p → portTable (f p))
    (hc : ∀ p : LinkPort, p.inHand = some 0x52#8 ∧ p.waiting = none ∧ (∀ r, p.sending ≠ some ⟨r, false⟩) →
      (f p).inHand = some 0x52#8 ∧ (f p).waiting = none ∧ ∀ r, (f p).sending ≠ some ⟨r, false⟩)
    (h : portsSound s) : portsSound (updatePort l f s) := by
  refine portsSound_of_other (m := l) ?_ (fun k hk => updatePort_get_ne hk s) (fun hs => ?_) h
  · rw [updatePort_get]
    exact hf _ (by cases l; exacts [h.1, h.2.1])
  · rw [updatePort_loop] at hs
    have hcommit := h.2.2 hs
    cases l with
    | control => exact hc _ hcommit
    | harbour => exact hcommit

theorem setIntake_portsSound (i : Intake) (h : portsSound s) : portsSound (setIntake l i s) := by
  unfold setIntake
  exact updatePort_portsSound (fun p hp => hp) (fun p hp => hp) h

theorem outcomeLeaves_portTable (p : LinkPort) (h : portTable p) : portTable (outcomeLeaves p) := by
  unfold outcomeLeaves
  split
  next r hs =>
    refine ⟨fun hw => ?_, fun ⟨r', hr'⟩ => by simp at hr', fun ho => by simp at ho⟩
    obtain ⟨_, r', hr'⟩ := h.1 hw
    simp [hs] at hr'
  next => exact h
  next => exact h

theorem replyEnds_portTable (p : LinkPort) (h : portTable p) : portTable (replyEnds p) := by
  unfold replyEnds
  split
  next r hs =>
    refine ⟨fun hw => by simp at hw, fun ⟨r', hr'⟩ => ?_, h.2.2⟩
    cases hw : p.waiting with
    | none => simp [hw] at hr'
    | some x => exact (h.1 (by simp [hw])).1
  next => exact h
  next => exact h

theorem outcomeLeaves_commit (p : LinkPort) (h : p.inHand = some 0x52#8 ∧ p.waiting = none ∧ (∀ r, p.sending ≠ some ⟨r, false⟩)) :
    (outcomeLeaves p).inHand = some 0x52#8 ∧ (outcomeLeaves p).waiting = none ∧ ∀ r, (outcomeLeaves p).sending ≠ some ⟨r, false⟩ := by
  unfold outcomeLeaves
  split
  next r hs => exact absurd hs (h.2.2 r)
  next => exact h
  next => exact h

theorem replyEnds_commit (p : LinkPort) (h : p.inHand = some 0x52#8 ∧ p.waiting = none ∧ (∀ r, p.sending ≠ some ⟨r, false⟩)) :
    (replyEnds p).inHand = some 0x52#8 ∧ (replyEnds p).waiting = none ∧ ∀ r, (replyEnds p).sending ≠ some ⟨r, false⟩ := by
  unfold replyEnds
  split
  next r hs => exact ⟨h.1, rfl, by simp [h.2.1]⟩
  next => exact h
  next => exact h

end Sys2Proof.Machine

/-!
The end of the start-up evaluation, one step of every kind, and the statements on the kept conditions (O25, O33, O40, O41, O58,
O59, O60).
-/

namespace Sys2Proof.Machine

open Sys2Proof

variable {φ : Phase} {s t u : State} {l : Link}

/-! ## The end of the start-up evaluation (R201) -/

theorem evaluateRoad_keeps (s : State) : KeepsAll .startUp s (evaluateRoad s) := setClosureState_keeps (.inl rfl)

theorem evaluateLeaves_keeps (s : State) : KeepsAll .startUp s (evaluateLeaves s) := applyLeaf_keeps (evaluate_keeps _ _ _)

theorem groupReport_opening_none (h : s.seq.opening = none) : (groupReport s).seq.opening = none := by
  have hstate : openingState (raiseAttention .control .leafGroup s) = none := by simp [openingState, h]
  simp only [groupReport, deriveDemands_seq_opening]
  split
  · simp [heldOpenReport, hstate, h]
  · simp [stowedReport, hstate, h]
  · simp [stoppedReport, hstate, h]
  · simp [stoppedReport, hstate, h]
  all_goals simp [h]

theorem applyLeaf_opening_none {f : LeafMotion → LeafMotion} (h : s.seq.opening = none) : (applyLeaf f s).seq.opening = none := by
  unfold applyLeaf afterLeaf
  split
  · exact h
  · exact groupReport_opening_none h

/-- The recovery opening, created where there was none (R55). -/
theorem recoveryOpening_keeps (h : s.seq.opening = none) : Keeps .startUp s (setOpening (some recoveryOpening) s) := by
  refine (setOpening_recordStep _ s).keeps id (fun _ hf => ?_) (.inl rfl)
  have hl : admittedList (setOpening (some recoveryOpening) s) = [] := rfl
  have hnone : admittedList s = [] := by simp [admittedList, h]
  have ho (o : Opening) (hto : (setOpening (some recoveryOpening) s).seq.opening = some o) : o = recoveryOpening :=
    (Option.some.inj hto).symm
  refine ⟨fun p hp ha => ?_, by simp [hl], by simp [hl], by simp [hl], fun o hto hst => ?_, fun o hto _ => ?_⟩
  · have := hf.listed p hp ha
    simp [hnone] at this
  · simp [ho o hto, recoveryOpening] at hst
  · rw [ho o hto]; rfl

theorem evaluateOpening_keeps (h : s.seq.opening = none) : Keeps .startUp s (evaluateOpening s) := by
  unfold evaluateOpening
  split
  · exact (closeRequest_keeps _ _).toKeeps.after ((raiseControl_keeps _ _).toKeeps.after (recoveryOpening_keeps h))
  · exact .refl s

theorem evaluateMode_keeps (s : State) : Keeps .startUp s (evaluateMode s) :=
  (deriveDemands_keeps _).toKeeps.after ((changeMode_keeps (s := s.withStore { s.store with state := .committed })
    (v := { s.sup with mode := .attended, watchdog := some (s.conf.watchdogTime * 1000) }) (.inl rfl) (by simp) rfl rfl rfl).after
    (withStore_keeps _ s).toKeeps)

/-- The state that the start-up evaluation leaves, before the attention records and the commit's reply. -/
def evaluated (s : State) : State := evaluateMode (evaluateOpening (evaluateLeaves (evaluateRoad s)))

theorem evaluated_keeps (h : s.seq.opening = none) : Keeps .startUp s (evaluated s) := by
  have hnone : (evaluateLeaves (evaluateRoad s)).seq.opening = none :=
    applyLeaf_opening_none (by simpa [evaluateRoad] using h)
  exact (((evaluateRoad_keeps s).trans (evaluateLeaves_keeps _)).toKeeps.trans (evaluateOpening_keeps hnone)).trans
    (evaluateMode_keeps _)

theorem evaluateOpening_leaf (s : State) : (evaluateOpening s).leaf = s.leaf := by
  unfold evaluateOpening; split <;> simp

theorem evaluateOpening_loop (s : State) : (evaluateOpening s).loop = s.loop := by
  unfold evaluateOpening; split <;> simp

theorem evaluated_leaf (s : State) : (evaluated s).leaf = (evaluateRoad s).leaf.evaluate (evaluateRoad s).conf (evaluateRoad s).pins.encoders := by
  simp [evaluated, evaluateMode, evaluateOpening_leaf, evaluateLeaves]

theorem evaluated_mode (s : State) : (evaluated s).sup.mode = .attended := by simp [evaluated, evaluateMode]

theorem evaluated_loop (s : State) : (evaluated s).loop = s.loop := by
  simp [evaluated, evaluateMode, evaluateOpening_loop, evaluateLeaves, evaluateRoad]

theorem demandsStand_evaluated (s : State) : demandsStand (evaluated s) := demandsStand_deriveDemands _

theorem completeEvaluation_eq (s : State) :
    completeEvaluation s = putReply .control 0x52#8 .ok [octet Mode.attended.code] (keepAttention s (evaluated s)) := rfl

theorem completeEvaluation_sup (h : supervisorTable (evaluated s)) : supervisorTable (completeEvaluation s) := by
  simpa [supervisorTable, completeEvaluation_eq] using h

theorem completeEvaluation_reg (s : State) : (completeEvaluation s).reg = (evaluated s).reg := by simp [completeEvaluation_eq]

theorem completeEvaluation_display (h : displayTable (evaluated s)) : displayTable (completeEvaluation s) := by
  obtain ⟨hd, hroad, hheads⟩ := h
  refine ⟨fun d => ?_, by simpa [completeEvaluation_eq] using hroad, fun d => by simpa [completeEvaluation_eq] using hheads d⟩
  have hseq : (completeEvaluation s).seq = (evaluated s).seq := by simp [completeEvaluation_eq]
  rw [hseq, hd d]
  exact (demandFor_congr (by constructor <;> simp [completeEvaluation_eq]) d).symm

/-- The attention records are those before the evaluation (R193, R195). -/
theorem completeEvaluation_attention (s : State) (l : Link) :
    ((completeEvaluation s).links.get l).attention = (s.links.get l).attention := by
  rw [completeEvaluation_eq, (putReply_portStep _ _ _ _).attention l]
  cases l <;> simp [PerLink.get]

theorem completeEvaluation_lists (hf : s.loop.firstScan = false) (h : recordsFit (evaluated s)) : listTable (completeEvaluation s) := by
  have hm : (completeEvaluation s).sup.mode = .attended := by simp [completeEvaluation_eq, evaluated_mode]
  have hloop : (completeEvaluation s).loop.firstScan = false := by simp [completeEvaluation_eq, evaluated_loop, hf]
  rw [listTable_iff]
  refine ⟨(recordsFit_congr (s := evaluated s) ?_ ?_).mpr h, fun hs => by simp [hm] at hs, fun hs => by simp [hloop] at hs⟩
  · rw [completeEvaluation_reg]
  · simp [completeEvaluation_eq]

/-! ## The tables that do not read the opening -/

/-- What an operation keeps whatever opening it starts from. -/
structure KeepsTables (s t : State) : Prop where
  sup : supervisorTable s → supervisorTable t
  heads : (∀ d, headShows d s) → ∀ d, headShows d t
  lights : lightsAgree s → lightsAgree t
  register : registerTable s.reg → registerTable t.reg
  ports : ∀ l, (t.links.get l).core = (s.links.get l).core

theorem Keeps.tables (h : Keeps φ s t) : KeepsTables s t := ⟨h.sup, h.heads, h.lights, h.register, h.ports⟩

theorem KeepsTables.trans (h : KeepsTables s t) (h' : KeepsTables t u) : KeepsTables s u :=
  ⟨h'.sup ∘ h.sup, h'.heads ∘ h.heads, h'.lights ∘ h.lights, h'.register ∘ h.register,
    fun l => (h'.ports l).trans (h.ports l)⟩

theorem setOpening_tables (o : Option Opening) (s : State) : KeepsTables s (setOpening o s) :=
  ⟨id, fun h => h, id, id, fun _ => rfl⟩

theorem evaluateOpening_tables (s : State) : KeepsTables s (evaluateOpening s) := by
  unfold evaluateOpening
  split
  · exact ((setOpening_tables _ s).trans (raiseControl_keeps (φ := .ordinary) _ _).toKeeps.tables).trans
      (closeRequest_keeps (φ := .ordinary) _ _).toKeeps.tables
  · exact (Keeps.refl (φ := .ordinary) s).tables

theorem evaluated_tables (s : State) : KeepsTables s (evaluated s) :=
  (((evaluateRoad_keeps s).trans (evaluateLeaves_keeps _)).toKeeps.tables.trans (evaluateOpening_tables _)).trans
    (evaluateMode_keeps _).tables

/-- A change of the loop's records at the end of the first scan. -/
theorem scanOver_keeps {x : Loop} (hx : x.firstScan = false) (s : State) : KeepsAll .startUp s (s.withLoop x) := by
  refine ⟨⟨fun _ => id, fun _ => id, id, id, id, id, id, fun _ => (recordsFit_congr (s := s) (t := s.withLoop x) rfl rfl).mpr,
    fun h => absurd rfl h, fun _ => rfl, fun h => ?_⟩, fun _ hd d => ?_⟩
  · rw [State.withLoop_loop, hx] at h; cases h
  · exact (hd d).trans (demandFor_congr_group (s := s) (t := s.withLoop x) rfl rfl rfl rfl (listedRecords_congr_records rfl rfl) rfl d).symm

/-! ## The evaluation completed -/

theorem completeEvaluation_leaf (h : leafSound s.leaf) : leafSound (completeEvaluation s).leaf := by
  rw [completeEvaluation_eq, putReply_leaf, keepAttention_leaf, evaluated_leaf]
  have hroad : (evaluateRoad s).leaf = s.leaf := by simp [evaluateRoad]
  rw [hroad]
  exact (evaluate_keeps (shut := True) _ _ _).sound h

theorem completeEvaluation_road (s : State) : roadShutWhileMoving (completeEvaluation s) := by
  rw [roadShutWhileMoving_iff, completeEvaluation_eq, putReply_leaf, keepAttention_leaf, evaluated_leaf]
  exact fun h => absurd h (not_moving_of_resting (evaluate_resting _ _ _))

/-- The state in which the last turn of the first scan finds the start-up evaluation (R141, R143). -/
def scanOver (s : State) : State :=
  let s := s.withLoop { s.loop with next := none, firstScan := false }
  if s.loop.scanTimer = none then beginScan s else s

theorem afterTurn_first {a : ArmId} (ha : nextInRing a = none) (hf : s.loop.firstScan = true) :
    afterTurn a s = completeEvaluation (scanOver s) := by
  simp only [afterTurn, ha, hf, if_true, scanOver]

theorem scanOver_keepsAll (s : State) : KeepsAll .startUp s (scanOver s) := by
  unfold scanOver
  dsimp only
  split
  · exact (scanOver_keeps rfl s).trans (beginScan_keeps _)
  · exact scanOver_keeps rfl s

theorem scanOver_firstScan (s : State) : (scanOver s).loop.firstScan = false := by
  unfold scanOver; dsimp only; split <;> rfl

theorem scanOver_links (s : State) : (scanOver s).links = s.links := by
  unfold scanOver; dsimp only; split <;> rfl

theorem scanOver_opening (s : State) : (scanOver s).seq = s.seq := by
  unfold scanOver; dsimp only; split <;> rfl

/-- The last turn of the first scan, from what its outcome leaves (R201). -/
theorem completeEvaluation_stepKeeps (hf : s.loop.firstScan = true) : StepKeeps s (completeEvaluation (scanOver s)) := by
  have hover := scanOver_keepsAll s
  have htables : KeepsTables s (evaluated (scanOver s)) := hover.toKeeps.tables.trans (evaluated_tables _)
  refine ⟨fun h => completeEvaluation_leaf (hover.leaf (by decide) h), fun _ => completeEvaluation_road _,
    fun h => completeEvaluation_sup (htables.sup h), fun _ ⟨_, hroad, hheads⟩ => ?_, fun h => ?_, fun h => ?_, fun hr hl => ?_⟩
  · exact completeEvaluation_display ⟨demandsStand_evaluated _, htables.lights hroad, htables.heads hheads⟩
  · refine (attentionTable_congr fun l => ?_).mpr h
    rw [completeEvaluation_attention, scanOver_links]
  · rw [completeEvaluation_reg]; exact htables.register h
  · rw [listTable_iff] at hl
    have hnone : (scanOver s).seq.opening = none := by
      rw [scanOver_opening]
      exact (hl.2.1 (hl.2.2 hf)).2
    refine completeEvaluation_lists (scanOver_firstScan s) ?_
    exact (hover.toKeeps.trans (evaluated_keeps hnone)).records hr hl.1

/-- The commit's reply goes to the control link, at which the commit stands in hand (R195, R200, R201). -/
theorem completeEvaluation_portsSound (hf : s.loop.firstScan = true) (h : portsSound s) :
    portsSound (completeEvaluation (scanOver s)) := by
  have hcore (l : Link) : ((keepAttention (scanOver s) (evaluated (scanOver s))).links.get l).core = (s.links.get l).core := by
    have hports := ((scanOver_keepsAll s).toKeeps.tables.trans (evaluated_tables _)).ports l
    rw [← hports]
    cases l <;> simp [PerLink.get, LinkPort.core]
  have hloop : (keepAttention (scanOver s) (evaluated (scanOver s))).loop.firstScan = false := by
    rw [keepAttention_loop, evaluated_loop, scanOver_firstScan]
  have hcontrol : (s.links.get .control).inHand = some 0x52#8 ∧ takesRequest (s.links.get .control) := h.2.2 hf
  rw [completeEvaluation_eq]
  refine putReply_portsSound (portsSound_of_cores hcore (fun hs => by rw [hloop] at hs; cases hs) h)
    ((takesRequest_congr (hcore .control)).mpr hcontrol.2) ?_ (fun hs => by rw [hloop] at hs; cases hs)
  rw [inHand_of_core (hcore .control), hcontrol.1]
  rfl

/-! ## The step -/

theorem endTurn_stepKeeps (s : State) : StepKeeps s (endTurn s) := by
  cases hx : s.loop.turn with
  | none => rw [endTurn_none hx]; exact .refl s
  | some x =>
    rw [endTurn_some hx]
    split
    next =>
      have hout := (turnOutcome_keeps x s).stepKeeps
      by_cases hlast : nextInRing x.station = none ∧ (turnOutcome x s).loop.firstScan = true
      · rw [afterTurn_first hlast.1 hlast.2]
        exact hout.trans (completeEvaluation_stepKeeps hlast.2)
      · refine hout.trans (afterTurn_keeps ?_).stepKeeps
        rw [not_and_or] at hlast
        simpa using hlast
    next => exact .refl s

theorem endTurn_portsSound (h : portsSound s) : portsSound (endTurn s) := by
  cases hx : s.loop.turn with
  | none => rwa [endTurn_none hx]
  | some x =>
    rw [endTurn_some hx]
    split
    next =>
      have hout := (turnOutcome_keeps (φ := .ordinary) x s).toKeeps.portsSound h
      by_cases hlast : nextInRing x.station = none ∧ (turnOutcome x s).loop.firstScan = true
      · rw [afterTurn_first hlast.1 hlast.2]
        exact completeEvaluation_portsSound hlast.2 hout
      · refine (afterTurn_keeps (φ := .ordinary) ?_).toKeeps.portsSound hout
        rw [not_and_or] at hlast
        simpa using hlast
    next => exact h

/-- The commands that keep every condition by the operations that the blocks share. -/
theorem KeepsAll.next {s t u : State} (h : KeepsAll .ordinary s t) (ht : t = u) : StepKeeps s u ∧ (portsSound s → portsSound u) :=
  ht ▸ ⟨h.stepKeeps, h.toKeeps.portsSound⟩

theorem execControlPeriod_keeps {counts : PerDrive (BitVec 24)} (h : execControlPeriod counts s = .next t) :
    StepKeeps s t ∧ (portsSound s → portsSound t) := by
  have hpins : KeepsAll .ordinary s (s.withPins { s.pins with encoders := counts }) := withPins_keeps _ s
  unfold execControlPeriod at h
  dsimp only at h
  split at h
  · exact hpins.next (Host.Outcome.next.inj h)
  · obtain rfl := Host.Outcome.next.inj h
    have hp := runPeriod_keeps counts (s.withPins { s.pins with encoders := counts })
    refine ⟨hpins.stepKeeps.trans ⟨runPeriod_leafSound counts, hp.road (by decide), hp.sup, hp.display, hp.attention, hp.register,
      hp.lists (by decide)⟩, fun hs => hp.portsSound (hpins.toKeeps.portsSound hs)⟩

/-- A command at the intake or the transmitter of a link, or a request (R185 to R188). -/
theorem portRequest_keeps {c : Instr} {kind : Byte} {body : List Byte} (hreq : requestOf c = some (l, kind, body))
    (h : exec c s = .next t) : StepKeeps s t ∧ (portsSound s → portsSound t) := by
  obtain ⟨r, hrow, hexec⟩ := exec_request c l kind body s hreq
  obtain rfl := Host.Outcome.next.inj (hexec.symm.trans h)
  exact ⟨portRequest_stepKeeps (kindRow_stepKeeps hrow body) s, kindRow_portsSound hrow body⟩

theorem execMinuteTimerExpiry_eq (s : State) :
    execMinuteTimerExpiry s = .next (if s.reg.minuteTimer.isSome then minutePassed s else s) := by
  unfold execMinuteTimerExpiry
  cases h : s.reg.minuteTimer <;> rfl

theorem execChangeoverDwellExpiry_keeps (h : execChangeoverDwellExpiry s = .next t) : KeepsAll .ordinary s t := by
  unfold execChangeoverDwellExpiry at h
  split at h
  next recovery list target d _ extending ho =>
    obtain rfl := Host.Outcome.next.inj h
    refine (Keeps.all ?_ (demandsStand_deriveDemands _) : KeepsAll .ordinary s (deriveDemands _))
    refine (deriveDemands_keeps _).toKeeps.after ((weighChangeover_keeps _).after ?_)
    have hset : setOpening (some ⟨.open, recovery, list, target, some (otherDirection d), none, extending⟩) s =
        updateOpening (fun o => { o with served := some (otherDirection d), changeover := none }) s := by
      simp [updateOpening, ho]
    rw [hset]
    exact updateOpening_keeps (fun _ _ => ⟨rfl, rfl⟩) fun _ _ h => .inl h
  next =>
    obtain rfl := Host.Outcome.next.inj h
    exact .refl s

theorem execWatchdogExpiry_keeps (h : execWatchdogExpiry s = .next t) : KeepsAll .ordinary s t := by
  unfold execWatchdogExpiry at h
  split at h
  next hm _ =>
    obtain rfl := Host.Outcome.next.inj h
    refine (Keeps.all ?_ (demandsStand_deriveDemands _) : KeepsAll .ordinary s (deriveDemands _))
    refine (deriveDemands_keeps _).toKeeps.after ((raiseControl_keeps _ _).toKeeps.after ?_)
    exact changeMode_keeps (s := s) (v := { s.sup with mode := .unattended, watchdog := none }) (.inr ⟨by simp [hm], by simp⟩)
      (by simp) rfl rfl rfl
  next =>
    obtain rfl := Host.Outcome.next.inj h
    exact .refl s

theorem lockSwitchEvent_keeps (k : LockId) (switch : LockSwitch) (made : Bool) (s : State) :
    KeepsAll φ s (lockSwitchEvent k switch made s) := by
  have hswitch : KeepsAll φ s (applyLeaf (LeafMotion.lockSwitch k switch made) s) := applyLeaf_keeps (lockSwitch_keeps _ _ _ _)
  unfold lockSwitchEvent
  dsimp only
  split
  · exact hswitch.trans (pulseFault_keeps _)
  · exact hswitch

theorem execLockSwitchChange_keeps {k : LockId} {switch : LockSwitch} {made : Bool}
    (h : execLockSwitchChange k switch made s = .next t) : KeepsAll .ordinary s t := by
  unfold execLockSwitchChange at h
  cases switch
  all_goals
    dsimp only at h
    split at h
    · obtain rfl := Host.Outcome.next.inj h
      exact .refl s
    · obtain rfl := Host.Outcome.next.inj h
      exact lockSwitchEvent_keeps _ _ _ s

theorem pulsePeriodStart_keeps (s : State) : KeepsAll φ s
    (if lampsRun s then (endFlashHalf s).withLamp (lampsAtPeriod (endFlashHalf s).conf (endFlashHalf s).lamp) else s) := by
  split
  · exact (endFlashHalf_keeps s).trans (withLamp_keeps rfl)
  · exact .refl s

/-- What any command but a request keeps. -/
theorem exec_other_keeps {c : Instr} (hreq : requestOf c = none) (h : exec c s = .next t) :
    StepKeeps s t ∧ (portsSound s → portsSound t) := by
  cases c
  case powerOn | resetLineRelease =>
    obtain rfl := Host.Outcome.next.inj h
    exact ⟨resetState_stepKeeps s, fun _ => portsSound_of_reset (fun l => by cases l <;> rfl) rfl⟩
  case octetReceived l b stopBit =>
    obtain rfl := Host.Outcome.next.inj h
    have hintake (i : Intake) : StepKeeps s (setIntake l i s) ∧ (portsSound s → portsSound (setIntake l i s)) :=
      ⟨(setIntake_portStep i s).stepKeeps, setIntake_portsSound i⟩
    cases stopBit with
    | false => exact hintake _
    | true =>
      refine intakeOctet_cases (P := fun t => StepKeeps s t ∧ (portsSound s → portsSound t)) b ⟨.refl s, id⟩ hintake fun kind body => ?_
      exact ⟨(hintake _).1.trans (frameTaken_stepKeeps kind body _), fun hs => frameTaken_portsSound kind body ((hintake _).2 hs)⟩
  case interOctetGapTimeout l =>
    obtain rfl := Host.Outcome.next.inj h
    exact ⟨(setIntake_portStep _ s).stepKeeps, setIntake_portsSound _⟩
  case outcomeOctetSent l =>
    obtain rfl := Host.Outcome.next.inj h
    exact ⟨(updatePort_portStep outcomeLeaves_attention s).stepKeeps, updatePort_portsSound outcomeLeaves_portTable outcomeLeaves_commit⟩
  case replyComplete l =>
    obtain rfl := Host.Outcome.next.inj h
    exact ⟨(updatePort_portStep replyEnds_attention s).stepKeeps, updatePort_portsSound replyEnds_portTable replyEnds_commit⟩
  case minuteTimerExpiry =>
    obtain rfl := Host.Outcome.next.inj ((execMinuteTimerExpiry_eq s).symm.trans h)
    refine KeepsAll.next (s := s) ?_ rfl
    split
    · exact minutePassed_keeps s
    · exact .refl s
  case controlPeriod counts => exact execControlPeriod_keeps h
  case settleDwellComplete => exact (applyLeaf_keeps (settleComplete_keeps _)).next (Host.Outcome.next.inj h)
  case seatDwellComplete => exact (applyLeaf_keeps (seatComplete_keeps _)).next (Host.Outcome.next.inj h)
  case settleTimeout => exact (applyLeaf_keeps (restTimeout_keeps _)).next (Host.Outcome.next.inj h)
  case emergencyStopChange active =>
    change (if _ then _ else _) = _ at h
    split at h
    · exact (KeepsAll.refl s).next (Host.Outcome.next.inj h)
    · exact (applyLeaf_keeps (emergencyStop_keeps _ _)).next (Host.Outcome.next.inj h)
  case lockSwitchChange k switch made =>
    have hevent := execLockSwitchChange_keeps h
    exact hevent.next rfl
  case lockTimerExpiry k => exact (applyLeaf_keeps (lockTimeout_keeps _ _)).next (Host.Outcome.next.inj h)
  case zoneInputChange z active => exact (zoneInput_keeps z active s).next (Host.Outcome.next.inj h)
  case zoneDebounceExpiry z => exact (debounceExpired_keeps z s).next (Host.Outcome.next.inj h)
  case changeoverDwellExpiry => exact (execChangeoverDwellExpiry_keeps h).next rfl
  case watchdogExpiry => exact (execWatchdogExpiry_keeps h).next rfl
  case faultPulseTimerExpiry =>
    exact (withSup_keeps (v := { s.sup with pulseTimer := none }) rfl rfl rfl rfl rfl).next (Host.Outcome.next.inj h)
  case phaseTimerExpiry => exact (phaseExpired_keeps s).next (Host.Outcome.next.inj h)
  case clearDwellComplete => exact (clearDwellComplete_keeps s).next (Host.Outcome.next.inj h)
  case retryDwellExpiry a => exact (retryExpired_keeps a s).next (Host.Outcome.next.inj h)
  case travelTimerExpiry a => exact (travelExpired_keeps a s).next (Host.Outcome.next.inj h)
  case scanTimerExpiry => exact (scanExpired_keeps s).next (Host.Outcome.next.inj h)
  case turnStart => exact (startTurn_keeps s).next (Host.Outcome.next.inj h)
  case addressAnswer accept => exact (addressAnswered_keeps accept s).next (Host.Outcome.next.inj h)
  case commandAnswer accept => exact (commandAnswered_keeps accept s).next (Host.Outcome.next.inj h)
  case reportOctetReceived b => exact (reportOctet_keeps b s).next (Host.Outcome.next.inj h)
  case answerWindowTimeout => exact (windowClosed_keeps s).next (Host.Outcome.next.inj h)
  case turnEnd =>
    obtain rfl := Host.Outcome.next.inj h
    exact ⟨endTurn_stepKeeps s, endTurn_portsSound⟩
  case pulsePeriodStart => exact (pulsePeriodStart_keeps s).next (Host.Outcome.next.inj h)
  case flashHalfEnd => exact (endFlashHalf_keeps s).next (Host.Outcome.next.inj h)
  case lampFaultLatch i kind current voltage supply =>
    obtain rfl := Host.Outcome.next.inj h
    refine KeepsAll.next ((noteSupply_keeps supply s).trans ?_) rfl
    split
    · exact (signalLatch_keeps _ _).after ((rederiveHealth_keeps _).after (updateChannel_keeps _ _ _))
    · exact .refl _
  case evaluationWindowEnd i lowest clearFor =>
    obtain rfl := Host.Outcome.next.inj h
    refine KeepsAll.next (s := s) ?_ rfl
    split
    · exact updateChannel_keeps _ _ s
    · exact .refl s
  case lowSupplyLatch supply =>
    obtain rfl := Host.Outcome.next.inj h
    refine KeepsAll.next ((noteSupply_keeps supply s).trans ?_) rfl
    split
    · exact (signalLatch_keeps _ _).after (withLamp_keeps (by rfl))
    · exact .refl _
  case undervoltageChange supply =>
    obtain rfl := Host.Outcome.next.inj h
    refine KeepsAll.next ((noteSupply_keeps supply s).trans ?_) rfl
    split
    · exact (rederiveHealth_keeps _).after (withLamp_keeps (by rfl))
    · exact .refl _
  all_goals simp [requestOf] at hreq

theorem exec_keeps {c : Instr} (h : exec c s = .next t) : StepKeeps s t ∧ (portsSound s → portsSound t) := by
  cases hreq : requestOf c with
  | none => exact exec_other_keeps hreq h
  | some x => exact portRequest_keeps hreq h

theorem step_keeps (h : step s = .next t) : StepKeeps s t ∧ (portsSound s → portsSound t) := by
  unfold step at h
  split at h
  · exact (tick_keeps s).next (Host.Outcome.next.inj h)
  next c cs _ =>
    have hqueue := withPending_keeps (φ := .ordinary) cs s
    obtain ⟨hkeep, hports⟩ := exec_keeps h
    exact ⟨hqueue.stepKeeps.trans hkeep, fun hs => hports (hqueue.toKeeps.portsSound hs)⟩

/-! ## The statements on the kept conditions -/

/-- Settles O25: every operation on the records and the opening keeps the register's limits, and their agreement with the list. -/
theorem registerAndListAreKept : Obligations.RegisterAndListAreKept := fun _ _ hr hl h =>
  ⟨(step_keeps h).1.register hr, (step_keeps h).1.lists hr hl⟩

/-- Settles O33: each operation that changes what R58 reads derives the demands again, and each head follows its demand and its
health. -/
theorem displayTableIsKept : Obligations.DisplayTableIsKept := fun _ _ hr hd h => (step_keeps h).1.display hr hd

/-- Settles O40: each operation of the Leaf Motion Controller sets the outputs with the group state. -/
theorem leafTableIsKept : Obligations.LeafTableIsKept := fun _ _ htable hcause h => (step_keeps h).1.leaf ⟨htable, hcause⟩

/-- Settles O41: a motion starts behind a closed road alone, and the closure leaves ROAD_CLOSED from STOWED alone. -/
theorem roadShutWhileLeavesMove : Obligations.RoadShutWhileLeavesMove := fun _ _ hs h => (step_keeps h).1.road hs

/-- Settles O58: the supervisor's copies are set with the states they copy. -/
theorem supervisorTableIsKept : Obligations.SupervisorTableIsKept := fun _ _ hs h => (step_keeps h).1.sup hs

/-- Settles O59: a line is raised and lowered with its set of causes, and a request takes a link's machinery through its table. -/
theorem attentionAndPortsAreKept : Obligations.AttentionAndPortsAreKept := fun _ _ ha hp h =>
  ⟨(step_keeps h).1.attention ha, (step_keeps h).2 hp⟩

/-- Settles O60: the state after reset is one whose blocks have been reset. -/
theorem resetMeetsEveryCondition : Obligations.ResetMeetsEveryCondition := by
  have hblocks : BlocksReset State.reset := ⟨rfl, rfl, ⟨false, State.reset.leaf, rfl⟩, rfl, rfl, rfl, rfl⟩
  obtain ⟨htable, hcause⟩ := leafSound_resetLeaf false State.reset.leaf
  refine ⟨htable, hcause, fun h => absurd h (not_moving_resetLeaf false State.reset.leaf), hblocks.supervisorTable, ?_, ?_,
    hblocks.registerTable, hblocks.listTable, hblocks.displayTable, rfl⟩
  · exact attentionTable_of_reset fun l => by cases l <;> rfl
  · exact portsSound_of_reset (fun l => by cases l <;> rfl) rfl

/-- Settles O1: a step is `exec` of the front command, by definition. -/
theorem stepTakesTheFrontCommand : Obligations.StepTakesTheFrontCommand := by
  unfold Obligations.StepTakesTheFrontCommand
  intros
  rfl

end Sys2Proof.Machine

/-!
The queue, the resets and the Request Port's octets: idle steps, power-on, the intake, request frames octet by octet, and the
check (O2, O3, O4, O5, O6).
-/

namespace Sys2Proof.Machine

open Sys2Proof

variable {s t : State} {l : Link}

/-! ## Idle steps (log entries 3 and 27) -/

/-- A zone but for its debounce. -/
def Zone.undebounced (z : Zone) : Zone := { z with debounce := none }

theorem tickZone_undebounced (limit : Nat) (z : Zone) : (tickZone limit z).undebounced = z.undebounced := rfl

theorem tabModify_tickZone (i j : Fin 4) (limit : Nat) (v : Vector Zone 4) :
    (tabModify i (tickZone limit) v)[j].undebounced = v[j].undebounced := by
  by_cases h : j = i
  · subst h; rw [tabModify_self, tickZone_undebounced]
  · rw [tabModify_ne _ _ _ _ h]

theorem tickZones_undebounced (c : Configured) (v : Vector Zone 4) (j : Fin 4) :
    (tickZones c v)[j].undebounced = v[j].undebounced := by
  simp only [tickZones, tabModify_tickZone]

/-- Settles O2: each block's tick touches its timers alone. -/
theorem idleStepCountsTheTimers : Obligations.IdleStepCountsTheTimers := by
  intro s hidle
  refine ⟨tick s, by simp [step, hidle], ?frame, rfl, ?seq, rfl, fun k => by simp [tick, tickLocks], rfl, fun a => ?arm, fun z => ?zone,
    rfl, rfl, rfl, ?watchdog⟩
  case frame => intro p hp; cases p <;> simp_all [Part.same, tick]
  case seq =>
    cases ho : s.seq.opening with
    | none => simp [tick, ho]
    | some o => cases hc : o.changeover <;> simp [tick, ho, tickOpening, tickLeft, hc]
  case arm => simp [State.arm, tick, tickArm]
  case zone =>
    have h := tickZones_undebounced s.conf s.zones z
    simp only [Zone.undebounced, Zone.mk.injEq] at h
    obtain ⟨hoccupied, hinput, _⟩ := h
    change (tickZones s.conf s.zones)[z] = ⟨s.zones[z].occupied, s.zones[z].input, (tickZones s.conf s.zones)[z].debounce⟩
    rw [← hoccupied, ← hinput]
  case watchdog => cases hw : s.sup.watchdog <;> simp [tick, tickLeft, hw]

/-! ## Power-on and release of the reset line -/

/-- Settles O3: the reset state is a constant but for the levels of the inputs. -/
theorem powerOnValues : Obligations.PowerOnValues := by
  intro s
  refine ⟨resetState s, rfl, rfl, ?frame, fun l => by cases l <;> rfl, rfl, rfl, rfl, rfl, rfl, fun d => by cases d <;> rfl, rfl, rfl,
    fun k => by simp [resetState, resetLeaf, Lock.cleared], rfl, rfl, fun a => ?arm, fun z => by simp [resetState, resetZone], rfl, rfl, rfl,
    fun a => ?station, fun i => ?channel, fun f => ?healthy, rfl, rfl, rfl, rfl, rfl, rfl, rfl, rfl, rfl, fun i => ?image, rfl⟩
  case frame => intro p hp; cases p <;> simp_all [Part.same, resetState]
  case arm => simp [State.arm, resetState, State.reset, Arm.reset, ArmLatches.none]
  case station => simp [State.station, resetState, State.reset, Station.cleared]
  case channel => simp [resetState, State.reset, LampUnit.reset, Channel.cleared]
  case healthy => simp [functionHealthy, resetState, State.reset, LampUnit.reset]
  case image => simp [resetState, State.reset, Store.reset]

/-! ## The intake (R185, R186) -/

theorem setIntake_get (i : Intake) (s : State) : (setIntake l i s).links.get l = { s.links.get l with intake := i } := by
  unfold setIntake; rw [updatePort_get]

theorem setIntake_frame (i : Intake) (s : State) : unchangedBut [portPart l] s (setIntake l i s) := updatePort_frame l _ s

theorem setIntake_setIntake (i j : Intake) (s : State) : setIntake l i (setIntake l j s) = setIntake l i s := by
  cases l <;> simp [setIntake, updatePort, PerLink.get, PerLink.set] <;> rfl

theorem setIntake_same {i : Intake} (h : (s.links.get l).intake = i) : setIntake l i s = s := by
  subst h
  cases l <;> rfl

theorem exec_octetReceived (b : Byte) (s : State) : exec (.octetReceived l b true) s = .next (intakeOctet l b s) := rfl

theorem intakeOctet_hunting (h : (s.links.get l).intake = .hunting) (b : Byte) :
    intakeOctet l b s = setIntake l (if b = 0xC3#8 then .awaitingLength else .hunting) s := by
  simp only [intakeOctet, h]
  split
  · rfl
  · exact (setIntake_same h).symm

theorem intakeOctet_awaitingLength (h : (s.links.get l).intake = .awaitingLength) (b : Byte) :
    intakeOctet l b s = setIntake l (if b.toNat = 0 ∨ 250 < b.toNat then .hunting else .collecting b []) s := by
  have hzero : b = 0 ↔ b.toNat = 0 := by bv_omega
  simp only [intakeOctet, h, Bool.or_eq_true, decide_eq_true_eq, hzero]
  split <;> rfl

theorem intakeOctet_collecting {n : Byte} {octets : List Byte} (h : (s.links.get l).intake = .collecting n octets) (b : Byte) :
    intakeOctet l b s = if octets.length + 1 = n.toNat + 2 then frameComplete l n (octets ++ [b]) (setIntake l .hunting s)
      else setIntake l (.collecting n (octets ++ [b])) s := by
  simp [intakeOctet, h]

/-- The kinds of R189. -/
theorem kindRow_eq_none {kind : Byte} (h : kind.toNat ∉ [0x01, 0x10, 0x11, 0x12, 0x13, 0x14, 0x15, 0x20, 0x21, 0x22, 0x23, 0x24,
    0x25, 0x30, 0x31, 0x32, 0x33, 0x34, 0x40, 0x41, 0x42, 0x50, 0x51, 0x52, 0x53]) : kindRow l kind = none := by
  unfold kindRow
  split
  case h_26 => rfl
  all_goals simp_all

theorem readyFor_setIntake {i : Intake} (h : readyFor l s) : readyFor l (setIntake l i s) := by
  simpa [readyFor, setIntake_get] using h

theorem framedSup_setIntake (i : Intake) (s : State) : framedSup l (setIntake l i s) = framedSup l s := by
  simp [framedSup, frameWatchdog, State.conf]

/-- Settles O4: one equation of the intake for each of its states, and the frame of a request that its table does not hold. -/
theorem intakeTakesAnOctet : Obligations.IntakeTakesAnOctet := by
  intro l b s
  refine ⟨⟨_, rfl, rfl, setIntake_get _ s, setIntake_frame _ s⟩, fun h => ?hunting, fun h => ?length, fun n octets h hmore => ?more,
    fun n octets h hlast hbad => ?bad, fun n octets kind body h hlast hgood hkind hready hundefined => ?unknown⟩
  case hunting => exact ⟨_, exec_octetReceived b s, by rw [intakeOctet_hunting h, setIntake_get],
    by rw [intakeOctet_hunting h]; exact setIntake_frame _ s⟩
  case length => exact ⟨_, exec_octetReceived b s, by rw [intakeOctet_awaitingLength h, setIntake_get],
    by rw [intakeOctet_awaitingLength h]; exact setIntake_frame _ s⟩
  case more =>
    have hne : ¬octets.length + 1 = n.toNat + 2 := by omega
    exact ⟨_, exec_octetReceived b s, by rw [intakeOctet_collecting h, if_neg hne, setIntake_get],
      by rw [intakeOctet_collecting h, if_neg hne]; exact setIntake_frame _ s⟩
  case bad =>
    have hdiscard : intakeOctet l b s = setIntake l .hunting s := by
      rw [intakeOctet_collecting h, if_pos hlast, frameComplete]
      exact if_neg hbad
    exact ⟨_, exec_octetReceived b s, by rw [hdiscard, setIntake_get], by rw [hdiscard]; exact setIntake_frame _ s⟩
  case unknown =>
    have htaken : intakeOctet l b s = portRequest l kind false (refuse .unknownRequest) (setIntake l .hunting s) := by
      rw [intakeOctet_collecting h, if_pos hlast]
      rw [hkind] at hgood
      simp only [frameComplete, hkind, hgood, if_true, frameTaken, kindRow_eq_none hundefined]
    have hready' := readyFor_setIntake (i := .hunting) hready
    obtain ⟨⟨hin, hsend, hwait, hover, hintake⟩, hattention, hsup, hframe⟩ :=
      portRequest_unchanged (take := refuse .unknownRequest) (kind := kind) hready' (controlOnly := false) rfl rfl
    refine ⟨_, exec_octetReceived b s, ?_, ?_, ?_⟩
    · rw [htaken]
      generalize portRequest l kind false (refuse .unknownRequest) (setIntake l .hunting s) = t at *
      rw [setIntake_get] at hwait hover hintake hattention
      have hport : t.links.get l = ⟨(t.links.get l).intake, (t.links.get l).inHand, (t.links.get l).sending, (t.links.get l).waiting,
        (t.links.get l).overrun, (t.links.get l).attention⟩ := rfl
      rw [hport, hin, hsend, hwait, hover, hintake, hattention]
    · rw [htaken, hsup, framedSup_setIntake]
    · rw [htaken]
      exact unchangedBut_trans (unchangedBut_mono (by simp) (setIntake_frame .hunting s)) hframe

/-! ## A request frame octet by octet (R184 to R188) -/

theorem runAll_octets_collecting {n : Byte} (rest octets : List Byte) (s : State) (hrest : rest ≠ [])
    (hlen : octets.length + rest.length = n.toNat + 2) :
    runAll (octetCommands l rest) (setIntake l (.collecting n octets) s) =
      .next (frameComplete l n (octets ++ rest) (setIntake l .hunting s)) := by
  induction rest generalizing octets with
  | nil => exact absurd rfl hrest
  | cons b rest ih =>
    have hcollect : ((setIntake l (.collecting n octets) s).links.get l).intake = .collecting n octets := by rw [setIntake_get]
    simp only [octetCommands, List.map_cons, runAll, exec_octetReceived, intakeOctet_collecting hcollect, setIntake_setIntake]
    simp only [List.length_cons] at hlen
    by_cases hlast : rest = []
    · subst hlast
      rw [if_pos (by simpa using hlen)]
      rfl
    · have hpos : 0 < rest.length := List.length_pos_iff.mpr hlast
      rw [if_neg (by omega)]
      have := ih (octets ++ [b]) hlast (by simp only [List.length_append, List.length_singleton]; omega)
      simpa [octetCommands] using this

theorem checkOctets_length (bs : List Byte) : (checkOctets bs).length = 2 := rfl

/-- A good request frame, from HUNTING. -/
theorem runAll_requestFrame {kind : Byte} {body : List Byte} (hlen : body.length ≤ 249) (h : (s.links.get l).intake = .hunting) :
    runAll (octetCommands l (requestFrame kind body)) s = .next (frameTaken l kind body s) := by
  have hlength : (octet (body.length + 1)).toNat = body.length + 1 := octet_toNat_of_lt (by omega)
  have hawait : ((setIntake l .awaitingLength s).links.get l).intake = .awaitingLength := by rw [setIntake_get]
  have hcollect := runAll_octets_collecting (l := l) (n := octet (body.length + 1))
    (kind :: body ++ checkOctets (octet (body.length + 1) :: kind :: body)) [] s (by simp) (by simp [checkOctets_length, hlength])
  have hhunt : setIntake l .hunting s = s := setIntake_same h
  have hgood : frameComplete l (octet (body.length + 1)) (kind :: body ++ checkOctets (octet (body.length + 1) :: kind :: body)) s
      = frameTaken l kind body s := by
    have hdrop : (kind :: body ++ checkOctets (octet (body.length + 1) :: kind :: body)).drop (body.length + 1)
        = checkOctets (octet (body.length + 1) :: kind :: body) := List.drop_left' (by simp)
    have htake : (kind :: body ++ checkOctets (octet (body.length + 1) :: kind :: body)).take (body.length + 1) = kind :: body :=
      List.take_left' (by simp)
    simp only [frameComplete, hlength, hdrop, htake, if_true]
  have hpos : ¬(body.length + 1 = 0 ∨ 250 < body.length + 1) := by omega
  rw [hhunt, List.nil_append, hgood] at hcollect
  rw [← hcollect]
  simp only [octetCommands, requestFrame, List.cons_append, List.map_cons, runAll, exec_octetReceived, intakeOctet_hunting h, if_true,
    intakeOctet_awaitingLength hawait, setIntake_setIntake, hlength, if_neg hpos]

/-- The octets of a request's frame, and its command. -/
theorem wellFormed_body {c : Instr} {kind : Byte} {body : List Byte} (hreq : requestOf c = some (l, kind, body))
    (hwf : c.wellFormed = true) : body.length ≤ 249 := by
  have hbody : c.body? = some body := by
    cases c <;> simp only [requestOf, Option.some.injEq, Prod.mk.injEq, reduceCtorEq] at hreq <;> obtain ⟨_, _, rfl⟩ := hreq <;> rfl
  exact (Laws.bodyFits_of_some hbody).mp hwf body hbody

/-- Settles O5: the intake collects a good frame's octets and hands its kind and body to the table of R189, as the request's command
does. -/
theorem frameOctetsAreTheRequest : Obligations.FrameOctetsAreTheRequest := by
  intro c l kind body s hreq hwf hhunting
  obtain ⟨r, hrow, hexec⟩ := exec_request c l kind body s hreq
  rw [runAll_requestFrame (wellFormed_body hreq hwf) hhunting, hexec, frameTaken, hrow]

/-! ## The check (R186) -/

theorem checkFrom_cons (c : Nat) (b : Byte) (bs : List Byte) : checkFrom c (b :: bs) = checkFrom (checkOctet c b) bs := by
  rw [checkFrom]
  split
  next h => rw [h]
  next h => rw [h]

theorem checkFrom_append (c : Nat) (as bs : List Byte) : checkFrom c (as ++ bs) = checkFrom (checkFrom c as) bs := by
  induction as generalizing c with
  | nil => rfl
  | cons a as ih => rw [List.cons_append, checkFrom_cons, checkFrom_cons, ih]

/-- The generator polynomial takes away the bit that falls out (R186). -/
theorem checkBit_lt {c : Nat} (h : c < 65536) : checkBit c < 65536 := by
  have hdouble : c <<< 1 = 2 * c := by rw [Nat.shiftLeft_eq]; omega
  unfold checkBit
  rw [hdouble]
  split
  next hc => omega
  next hc =>
    refine Nat.lt_pow_two_of_testBit (n := 16) _ fun i hi => ?_
    rw [Nat.testBit_xor]
    rcases Nat.eq_or_lt_of_le hi with rfl | hi
    · have htop : (2 * c).testBit 16 = true := by
        rw [Nat.testBit_eq_decide_div_mod_eq, decide_eq_true_eq]
        omega
      rw [htop]
      decide
    · have hlarge : 2 ^ 17 ≤ 2 ^ i := Nat.pow_le_pow_right (by omega) hi
      rw [Nat.testBit_lt_two_pow (by omega), Nat.testBit_lt_two_pow (by omega)]
      rfl

theorem checkBit_of_lt {c : Nat} (h : c < 32768) : checkBit c = 2 * c := by
  unfold checkBit
  rw [if_pos h, Nat.shiftLeft_eq]
  omega

/-- Eight bits of a register below 256 fall out nowhere. -/
theorem checkOctet_low {c : Nat} {b : Byte} {k : Nat} (hk : k < 256) (h : c ^^^ (b.toNat <<< 8) = k) : checkOctet c b = 256 * k := by
  simp only [checkOctet, h]
  simp (disch := omega) only [checkBit_of_lt]
  omega

theorem checkOctet_lt {c : Nat} (h : c < 65536) (b : Byte) : checkOctet c b < 65536 := by
  have hb : b.toNat <<< 8 < 2 ^ 16 := by have := b.isLt; rw [Nat.shiftLeft_eq]; omega
  have hx : c ^^^ b.toNat <<< 8 < 65536 := Nat.xor_lt_two_pow (n := 16) h hb
  unfold checkOctet
  exact checkBit_lt (checkBit_lt (checkBit_lt (checkBit_lt (checkBit_lt (checkBit_lt (checkBit_lt (checkBit_lt hx)))))))

theorem checkFrom_lt {c : Nat} (h : c < 65536) (bs : List Byte) : checkFrom c bs < 65536 := by
  induction bs generalizing c with
  | nil => exact h
  | cons b bs ih => rw [checkFrom_cons]; exact ih (checkOctet_lt h b)

theorem octet_toNat (n : Nat) : (octet n).toNat = n % 256 := by simp [octet]

/-- The high octet taken from a register leaves its low octet. -/
theorem xor_high_octet (c : Nat) : c ^^^ ((c / 256) <<< 8) = c % 256 := by
  refine Nat.eq_of_testBit_eq fun i => ?_
  rw [Nat.testBit_xor, Nat.testBit_shiftLeft, show c / 256 = c / 2 ^ 8 from rfl, Nat.testBit_div_two_pow,
    show c % 256 = c % 2 ^ 8 from rfl, Nat.testBit_mod_two_pow]
  by_cases hi : i < 8
  · simp [hi, show ¬8 ≤ i by omega]
  · have hge : 8 ≤ i := by omega
    simp [hi, hge, Nat.sub_add_cancel hge]

/-- A register fed its own two octets, high octet first, is 0. -/
theorem checkFrom_own_octets {c : Nat} (h : c < 65536) : checkFrom c [octet (c / 256), octet c] = 0 := by
  have hhigh : (octet (c / 256)).toNat = c / 256 := octet_toNat_of_lt (by omega)
  have hfirst : checkOctet c (octet (c / 256)) = 256 * (c % 256) :=
    checkOctet_low (Nat.mod_lt _ (by omega)) (by rw [hhigh]; exact xor_high_octet c)
  have hsecond : checkOctet (256 * (c % 256)) (octet c) = 256 * 0 := by
    refine checkOctet_low (by omega) ?_
    rw [octet_toNat, Nat.shiftLeft_eq, Nat.mul_comm, Nat.xor_self]
  rw [checkFrom_cons, hfirst, checkFrom_cons, hsecond]
  rfl

/-- Settles O6: each octet fed in takes the register's own octet away. -/
theorem checkOfCheckedOctetsIsZero : Obligations.CheckOfCheckedOctetsIsZero := by
  refine ⟨fun bs => ?_, by decide⟩
  have hlt : checkFrom 0xFFFF bs < 65536 := checkFrom_lt (by omega) bs
  have hword : (checkWord bs).toNat = checkFrom 0xFFFF bs := by
    simp only [checkWord, BitVec.toNat_ofNat]
    exact Nat.mod_eq_of_lt hlt
  unfold checkOctets octets16
  rw [hword, checkWord, checkFrom_append, checkFrom_own_octets hlt]
  rfl

end Sys2Proof.Machine

/-!
How requests are answered: a refusal that changes nothing or an OK, the refusals of authority and mode, and the replies one after
another (O8, O9, O10, O11, O12).
-/

namespace Sys2Proof.Machine

open Sys2Proof

variable {s t : State} {l : Link} {kind : Byte} {body : List Byte} {n : Nat} {p : Passage}

/-! ## A refusal or an OK (R189) -/

/-- A request is refused with nothing changed, or taken. -/
def Answers (s : State) (x : Taken) : Prop :=
  (∃ o, o ≠ .ok ∧ o ≠ .configInvalid ∧ x = refuse o s) ∨ ∃ b t, x = accept b t

theorem answers_refuse {o : OutcomeCode} (hok : o ≠ .ok) (hconfig : o ≠ .configInvalid) : Answers s (refuse o s) :=
  .inl ⟨o, hok, hconfig, rfl⟩

theorem answers_accept (b : List Byte) (t : State) : Answers s (accept b t) := .inr ⟨b, t, rfl⟩

theorem answers_unless {c : Prop} [Decidable c] {o : OutcomeCode} {x : Taken} (hok : o ≠ .ok) (hconfig : o ≠ .configInvalid)
    (h : ¬c → Answers s x) : Answers s (if c then refuse o s else x) := by
  split
  next => exact answers_refuse hok hconfig
  next hc => exact h hc

/-- The reply that carries a record as it stands. -/
theorem acceptRecord_found (h : findPassage n s.reg = some p) : acceptRecord n s = accept (passageOctets p) s := by
  simp only [acceptRecord, h]

/-- The reply that carries a record just changed. -/
theorem acceptRecord_changed {f : Passage → Passage} (hfind : findPassage n s.reg = some p)
    (hreg : t.reg = changePassage p.number f s.reg) (hf : ∀ q, (f q).number = q.number) :
    acceptRecord p.number t = accept (passageOctets (f p)) t := by
  refine acceptRecord_found ?_
  rw [hreg, findPassage_change hf, (findPassage_mem hfind).2, hfind]
  simp [(findPassage_mem hfind).2]

theorem takeStatus_answers (l : Link) (body : List Byte) (s : State) : Answers s (takeStatus l body s) := by
  unfold takeStatus
  split
  · exact answers_accept _ _
  · exact answers_refuse (by decide) (by decide)

theorem takeEnter_answers (l : Link) (body : List Byte) (s : State) : Answers s (takeEnter l body s) := by
  refine answers_unless (by decide) (by decide) fun _ => ?_
  split
  · exact answers_refuse (by decide) (by decide)
  split
  · exact answers_refuse (by decide) (by decide)
  · exact answers_unless (by decide) (by decide) fun _ => answers_unless (by decide) (by decide) fun _ => answers_accept _ _

theorem amendAdmitted_answers (a : Amendment) (angle : Nat) (hfind : findPassage n s.reg = some p) :
    Answers s (amendAdmitted l a angle p s) := by
  have hchanged {t : State} (hreg : t.reg = changePassage p.number (amended a angle) s.reg) :
      Answers s (acceptRecord p.number t) := by
    rw [acceptRecord_changed hfind hreg fun q => (amended_fields a angle q).1]
    exact answers_accept _ _
  have hraise : Answers s (if callsForRaise angle s then
      if targetRaiseRefused s then refuse .interlock s
      else acceptRecord p.number (deriveDemands (takeTargetRaise (withMargin s.conf angle) (applyAmendment l a angle p s)))
      else acceptRecord p.number (deriveDemands (applyAmendment l a angle p s))) := by
    split
    · exact answers_unless (by decide) (by decide) fun _ => hchanged (by simp)
    · exact hchanged (by simp)
  unfold amendAdmitted
  split
  · exact hchanged (by simp)
  · exact hraise
  · exact hraise
  · exact answers_refuse (by decide) (by decide)

theorem takeAmend_answers (l : Link) (body : List Byte) (s : State) : Answers s (takeAmend l body s) := by
  refine answers_unless (by decide) (by decide) fun _ => ?_
  split
  · exact answers_refuse (by decide) (by decide)
  split
  · exact answers_refuse (by decide) (by decide)
  next a p hfind =>
    refine answers_unless (by decide) (by decide) fun _ => answers_unless (by decide) (by decide) fun _ =>
      answers_unless (by decide) (by decide) fun _ => ?_
    split
    · exact answers_refuse (by decide) (by decide)
    · split
      · exact amendAdmitted_answers _ _ hfind
      · rw [acceptRecord_changed hfind (applyAmendment_reg _ _ _ _ _) fun q => (amended_fields _ _ q).1]
        exact answers_accept _ _

theorem takeWithdraw_answers (l : Link) (body : List Byte) (s : State) : Answers s (takeWithdraw l body s) := by
  refine answers_unless (by decide) (by decide) fun _ => ?_
  split
  · refine answers_unless (by decide) (by decide) fun _ => ?_
    split
    · exact answers_refuse (by decide) (by decide)
    next p hfind =>
      refine answers_unless (by decide) (by decide) fun _ => answers_unless (by decide) (by decide) fun _ =>
        answers_unless (by decide) (by decide) fun _ => ?_
      rw [acceptRecord_changed (f := fun q => { q with state := .withdrawn, withdrawnBy := some l }) hfind (by simp) fun _ => rfl]
      exact answers_accept _ _
  · exact answers_refuse (by decide) (by decide)

theorem takeRelease_answers (l : Link) (body : List Byte) (s : State) : Answers s (takeRelease l body s) := by
  refine answers_unless (by decide) (by decide) fun _ => ?_
  split
  · refine answers_unless (by decide) (by decide) fun _ => ?_
    split
    · exact answers_refuse (by decide) (by decide)
    · exact answers_unless (by decide) (by decide) fun _ => answers_unless (by decide) (by decide) fun _ => answers_accept _ _
  · exact answers_refuse (by decide) (by decide)

theorem acceptRecord_answers (n : Nat) (s : State) : Answers s (acceptRecord n s) := by
  unfold acceptRecord
  split
  · exact answers_accept _ _
  · exact answers_refuse (by decide) (by decide)

theorem lookUpTag_answers (octets : List Byte) (s : State) : Answers s (lookUpTag octets s) := by
  unfold lookUpTag
  split
  · exact answers_refuse (by decide) (by decide)
  split
  · exact answers_refuse (by decide) (by decide)
  · exact answers_accept _ _

theorem takeLookUp_answers (body : List Byte) (s : State) : Answers s (takeLookUp body s) := by
  refine answers_unless (by decide) (by decide) fun _ => ?_
  split
  · exact answers_refuse (by decide) (by decide)
  split
  · split
    · exact answers_unless (by decide) (by decide) fun _ => acceptRecord_answers _ s
    · exact answers_refuse (by decide) (by decide)
  split
  · split
    · exact lookUpTag_answers _ s
    · exact answers_refuse (by decide) (by decide)
  · exact answers_refuse (by decide) (by decide)

theorem takeList_answers (l : Link) (body : List Byte) (s : State) : Answers s (takeList l body s) := by
  refine answers_unless (by decide) (by decide) fun _ => ?_
  split
  · exact answers_accept _ _
  · exact answers_refuse (by decide) (by decide)

theorem takeBegin_answers (l : Link) (body : List Byte) (s : State) : Answers s (takeBegin l body s) := by
  refine answers_unless (by decide) (by decide) fun _ => ?_
  split
  · exact answers_unless (by decide) (by decide) fun _ => answers_unless (by decide) (by decide) fun _ =>
      answers_unless (by decide) (by decide) fun _ => answers_unless (by decide) (by decide) fun _ => answers_accept _ _
  · exact answers_refuse (by decide) (by decide)

theorem takeAdmit_answers (l : Link) (body : List Byte) (s : State) : Answers s (takeAdmit l body s) := by
  refine answers_unless (by decide) (by decide) fun _ => ?_
  split
  · refine answers_unless (by decide) (by decide) fun _ => ?_
    split
    · exact answers_refuse (by decide) (by decide)
    split
    · exact answers_refuse (by decide) (by decide)
    · exact answers_unless (by decide) (by decide) fun _ => answers_unless (by decide) (by decide) fun _ =>
        answers_unless (by decide) (by decide) fun _ => answers_unless (by decide) (by decide) fun _ =>
        answers_unless (by decide) (by decide) fun _ => answers_accept _ _
  · exact answers_refuse (by decide) (by decide)

theorem takeMark_answers (l : Link) (body : List Byte) (s : State) : Answers s (takeMark l body s) := by
  refine answers_unless (by decide) (by decide) fun _ => ?_
  split
  · refine answers_unless (by decide) (by decide) fun _ => ?_
    split
    · exact answers_refuse (by decide) (by decide)
    split
    · exact answers_accept _ _
    · exact answers_refuse (by decide) (by decide)
  · exact answers_refuse (by decide) (by decide)

theorem takeLower_answers (l : Link) (body : List Byte) (s : State) : Answers s (takeLower l body s) := by
  refine answers_unless (by decide) (by decide) fun _ => ?_
  split
  · exact answers_unless (by decide) (by decide) fun _ => answers_unless (by decide) (by decide) fun _ =>
      answers_unless (by decide) (by decide) fun _ => answers_accept _ _
  · exact answers_refuse (by decide) (by decide)

theorem takeAbort_answers (l : Link) (body : List Byte) (s : State) : Answers s (takeAbort l body s) := by
  refine answers_unless (by decide) (by decide) fun _ => ?_
  split
  · refine answers_unless (by decide) (by decide) fun _ => ?_
    split
    · exact answers_unless (by decide) (by decide) fun _ => answers_accept _ _
    · exact answers_unless (by decide) (by decide) fun _ => answers_unless (by decide) (by decide) fun _ => answers_accept _ _
    · exact answers_refuse (by decide) (by decide)
  · exact answers_refuse (by decide) (by decide)

theorem takeContinue_answers (body : List Byte) (s : State) : Answers s (takeContinue body s) := by
  have htwo {a b : Prop} [Decidable a] [Decidable b] {x : Taken} (hx : Answers s x) :
      Answers s (if a then refuse .wrongState s else if b then refuse .interlock s else x) :=
    answers_unless (by decide) (by decide) fun _ => answers_unless (by decide) (by decide) fun _ => hx
  refine answers_unless (by decide) (by decide) fun _ => ?_
  split
  · split
    · exact htwo (answers_accept _ _)
    · exact htwo (answers_accept _ _)
    · exact htwo (answers_accept _ _)
    · exact htwo (answers_accept _ _)
    all_goals exact answers_refuse (by decide) (by decide)
  · exact answers_refuse (by decide) (by decide)

theorem answers_if {c : Prop} [Decidable c] {o : OutcomeCode} {b : List Byte} {t : State} (hok : o ≠ .ok)
    (hconfig : o ≠ .configInvalid) : Answers s (if c then accept b t else refuse o s) := by
  split
  · exact answers_accept _ _
  · exact answers_refuse hok hconfig

theorem takeConfirm_answers (body : List Byte) (s : State) : Answers s (takeConfirm body s) := by
  refine answers_unless (by decide) (by decide) fun _ => ?_
  split
  · exact answers_if (by decide) (by decide)
  · exact answers_refuse (by decide) (by decide)

theorem takeWarningOverride_answers (body : List Byte) (s : State) : Answers s (takeWarningOverride body s) := by
  refine answers_unless (by decide) (by decide) fun _ => ?_
  split
  · exact answers_if (by decide) (by decide)
  · exact answers_refuse (by decide) (by decide)

theorem takeArmService_answers (body : List Byte) (s : State) : Answers s (takeArmService body s) := by
  refine answers_unless (by decide) (by decide) fun _ => ?_
  split
  · split
    · exact answers_refuse (by decide) (by decide)
    split
    · exact answers_accept _ _
    · exact answers_if (by decide) (by decide)
  · exact answers_refuse (by decide) (by decide)

theorem takeClosureRetry_answers (body : List Byte) (s : State) : Answers s (takeClosureRetry body s) := by
  refine answers_unless (by decide) (by decide) fun _ => ?_
  split
  · exact answers_if (by decide) (by decide)
  · exact answers_refuse (by decide) (by decide)

theorem takeReopenRoad_answers (body : List Byte) (s : State) : Answers s (takeReopenRoad body s) := by
  refine answers_unless (by decide) (by decide) fun _ => ?_
  split
  · exact answers_unless (by decide) (by decide) fun _ => answers_unless (by decide) (by decide) fun _ => answers_accept _ _
  · exact answers_refuse (by decide) (by decide)

theorem takeResetTrip_answers (body : List Byte) (s : State) : Answers s (takeResetTrip body s) := by
  refine answers_unless (by decide) (by decide) fun _ => ?_
  split
  · exact answers_unless (by decide) (by decide) fun _ => answers_unless (by decide) (by decide) fun _ => answers_accept _ _
  · exact answers_refuse (by decide) (by decide)

theorem takeClearFaults_answers (body : List Byte) (s : State) : Answers s (takeClearFaults body s) := by
  refine answers_unless (by decide) (by decide) fun _ => ?_
  split
  · exact answers_accept _ _
  · exact answers_refuse (by decide) (by decide)

theorem takeSetDim_answers (body : List Byte) (s : State) : Answers s (takeSetDim body s) := by
  refine answers_unless (by decide) (by decide) fun _ => ?_
  split
  · refine answers_unless (by decide) (by decide) fun _ => ?_
    split
    · exact answers_accept _ _
    · exact answers_if (by decide) (by decide)
  · exact answers_refuse (by decide) (by decide)

theorem takeResume_answers (body : List Byte) (s : State) : Answers s (takeResume body s) := by
  unfold takeResume
  split
  · exact answers_refuse (by decide) (by decide)
  · exact answers_refuse (by decide) (by decide)
  · split
    · exact answers_accept _ _
    · exact answers_refuse (by decide) (by decide)

theorem takeWriteItem_answers (body : List Byte) (s : State) : Answers s (takeWriteItem body s) := by
  refine answers_unless (by decide) (by decide) fun _ => ?_
  split
  · dsimp only
    split
    · exact answers_if (by decide) (by decide)
    · exact answers_refuse (by decide) (by decide)
  · exact answers_refuse (by decide) (by decide)

theorem takeRevert_answers (body : List Byte) (s : State) : Answers s (takeRevert body s) := by
  refine answers_unless (by decide) (by decide) fun _ => ?_
  split
  · exact answers_unless (by decide) (by decide) fun _ => answers_accept _ _
  · exact answers_refuse (by decide) (by decide)

/-- Every request but the commit is refused with nothing changed, or taken and answered OK. -/
theorem kindRow_answers {r : KindRow} (h : kindRow l kind = some r) (hne : kind ≠ 0x52#8) (body : List Byte) (s : State) :
    Answers s (r.take body s) := by
  unfold kindRow at h
  split at h
  case h_24 heq => exact absurd (BitVec.eq_of_toNat_eq heq) hne
  case h_26 => simp at h
  case h_25 => obtain rfl := Option.some.inj h; exact takeRevert_answers body s
  all_goals
    obtain rfl := Option.some.inj h
  · exact takeStatus_answers l body s
  · exact takeEnter_answers l body s
  · exact takeAmend_answers l body s
  · exact takeWithdraw_answers l body s
  · exact takeRelease_answers l body s
  · exact takeLookUp_answers body s
  · exact takeList_answers l body s
  · exact takeBegin_answers l body s
  · exact takeAdmit_answers l body s
  · exact takeMark_answers l body s
  · exact takeLower_answers l body s
  · exact takeAbort_answers l body s
  · exact takeContinue_answers body s
  · exact takeConfirm_answers body s
  · exact takeWarningOverride_answers body s
  · exact takeArmService_answers body s
  · exact takeClosureRetry_answers body s
  · exact takeReopenRoad_answers body s
  · exact takeResetTrip_answers body s
  · exact takeClearFaults_answers body s
  · exact takeSetDim_answers body s
  · exact takeResume_answers body s
  · exact takeWriteItem_answers body s

/-- COMMIT CONFIGURATION is refused with nothing changed, fails with an item number, or is taken without an answer yet. -/
theorem takeCommit_answers (body : List Byte) (s : State) :
    (∃ o, o ≠ .ok ∧ o ≠ .configInvalid ∧ takeCommit body s = refuse o s)
      ∨ (∃ n, takeCommit body s = (s, some ⟨.configInvalid, octets16 n⟩)) ∨ takeCommit body s = (acceptCommit s, none) := by
  unfold takeCommit
  split
  · exact .inl ⟨_, by decide, by decide, rfl⟩
  · split
    · split
      · exact .inr (.inl ⟨_, rfl⟩)
      · exact .inr (.inr rfl)
    · exact .inl ⟨_, by decide, by decide, rfl⟩

/-! ## The answer of a command (R187, R188, R189) -/

/-- A request at a link with none in hand: refused with nothing changed, failed with an item number, taken and answered OK, or
the accepted commit. -/
theorem exec_request_free {c : Instr} (hreq : requestOf c = some (l, kind, body)) (hfree : (s.links.get l).inHand = none) :
    (∃ o reply, o ≠ .ok ∧ (o ≠ .configInvalid → reply = []) ∧ (o = .configInvalid → reply.length = 2)
        ∧ exec c s = .next (putReply l kind o reply (takenIn l kind s)))
      ∨ (∃ b t, (∀ k, (t.links.get k).core = ((takenIn l kind s).links.get k).core) ∧ exec c s = .next (putReply l kind .ok b t))
      ∨ (kind = 0x52#8 ∧ exec c s = .next (acceptCommit (takenIn l kind s))) := by
  obtain ⟨r, hrow, hexec⟩ := exec_request c l kind body s hreq
  have hport : portRequest l kind r.controlOnly (r.take body) s =
      if r.controlOnly && l == .harbour then putReply l kind .notPermitted [] (takenIn l kind s)
      else match r.take body (takenIn l kind s) with
        | (t, some a) => putReply l kind a.outcome a.body t
        | (t, none) => t := by
    have hin : ((restartWatchdog l s).links.get l).inHand = none := by simpa using hfree
    simp only [portRequest, hin, takenIn, Option.isSome_none, Bool.false_eq_true, if_false] <;> rfl
  rw [hport] at hexec
  split at hexec
  next => exact .inl ⟨.notPermitted, [], by decide, fun _ => rfl, by simp, hexec⟩
  next =>
    by_cases hk : kind = 0x52#8
    · subst hk
      obtain rfl := Option.some.inj ((kindRow_commit l).symm.trans hrow)
      dsimp only at hexec
      rcases takeCommit_answers body (takenIn l 0x52#8 s) with ⟨o, hok, hconfig, heq⟩ | ⟨n, heq⟩ | heq
      · rw [heq] at hexec
        exact .inl ⟨o, [], hok, fun _ => rfl, fun h => absurd h hconfig, hexec⟩
      · rw [heq] at hexec
        exact .inl ⟨.configInvalid, octets16 n, by decide, fun h => absurd rfl h, fun _ => rfl, hexec⟩
      · rw [heq] at hexec
        exact .inr (.inr ⟨rfl, hexec⟩)
    · rcases kindRow_answers hrow hk body (takenIn l kind s) with ⟨o, hok, hconfig, heq⟩ | ⟨b, t, heq⟩
      · rw [heq] at hexec
        exact .inl ⟨o, [], hok, fun _ => rfl, fun h => absurd h hconfig, hexec⟩
      · have hcores := (kindRow_takeKeeps hrow hk body (takenIn l kind s)).cores
        rw [heq] at hexec hcores
        exact .inr (.inl ⟨b, t, hcores, hexec⟩)

/-- Settles O8: the transmitter's two events by the state of the reply being sent, and the one place that puts a reply together. -/
theorem repliesLeaveOneAfterAnother : Obligations.RepliesLeaveOneAfterAnother := by
  intro l s
  refine ⟨fun r hsend => ?leaves, fun r hsend => ?ends, fun c kind body x hreq hfree hsend => ?waits⟩
  case leaves =>
    refine ⟨_, rfl, ?_, updatePort_frame l _ s⟩
    rw [updatePort_get]
    simp only [outcomeLeaves, hsend]
  case ends =>
    refine ⟨_, rfl, ?_, updatePort_frame l _ s⟩
    rw [updatePort_get]
    simp only [replyEnds, hsend]
  case waits =>
    have htaken := takenIn_get l kind s
    have hreply (o : OutcomeCode) (b : List Byte) (t : State)
        (hcore : (t.links.get l).core = ((takenIn l kind s).links.get l).core) :
        ((putReply l kind o b t).links.get l).sending = some x ∧ ((putReply l kind o b t).links.get l).inHand = some kind
          ∧ ((putReply l kind o b t).links.get l).waiting = some ⟨kind, o, false, b⟩ := by
      rw [htaken] at hcore
      have hin : (t.links.get l).inHand = some kind := inHand_of_core hcore
      have hs : (t.links.get l).sending = some x := ((congrArg LinkPort.sending hcore :)).trans hsend
      simp [putReply, updatePort_get, hs, hin]
    rcases exec_request_free hreq hfree with ⟨o, b, _, _, _, hexec⟩ | ⟨b, t, hcores, hexec⟩ | ⟨hkind, hexec⟩
    · obtain ⟨h1, h2, h3⟩ := hreply o b _ rfl
      exact ⟨_, hexec, h1, h2, .inl ⟨o, b, h3⟩⟩
    · obtain ⟨h1, h2, h3⟩ := hreply .ok b t (hcores l)
      exact ⟨_, hexec, h1, h2, .inl ⟨.ok, b, h3⟩⟩
    · refine ⟨_, hexec, ?_, ?_, .inr ⟨hkind, ?_⟩⟩ <;> rw [acceptCommit_links, htaken]
      exact hsend

/-- Settles O9: with a request in hand the port takes its first branch. -/
theorem frameBehindARequestIsDiscarded : Obligations.FrameBehindARequestIsDiscarded := by
  intro c l kind body s hreq hbusy
  obtain ⟨r, hrow, hexec⟩ := exec_request c l kind body s hreq
  have hport : portRequest l kind r.controlOnly (r.take body) s =
      updatePort l (fun p => { p with overrun := true }) (restartWatchdog l s) := by
    have hin : ((restartWatchdog l s).links.get l).inHand.isSome = true := by simpa using hbusy
    simp only [portRequest, hin, if_true]
  rw [hport] at hexec
  refine ⟨_, hexec, ?_, ?_, ?_⟩
  · rw [updatePort_get, restartWatchdog_links]
  · rw [updatePort_sup, restartWatchdog_framed]
  · exact unchangedBut_trans (unchangedBut_mono (by simp) (restartWatchdog_frame l s))
      (unchangedBut_mono (by simp) (updatePort_frame l _ _))

/-! ## Authority and mode (R188, R189) -/

/-- The kinds of the table that only the control link may use. -/
theorem kindRow_controlOnly {r : KindRow} (h : kindRow l kind = some r) : r.controlOnly = decide (0x20 ≤ kind.toNat) := by
  unfold kindRow at h
  split at h
  case h_26 => simp at h
  all_goals
    next heq =>
      obtain rfl := Option.some.inj h
      rw [heq]
      rfl

/-- A mode in which a block does not take a request refuses it before its body. -/
theorem kindRow_modeRefusal {r : KindRow} {o : OutcomeCode} (h : kindRow l kind = some r)
    (hm : modeRefusal kind s.sup.mode = some o) (body : List Byte) : r.take body s = refuse o s := by
  unfold kindRow at h
  split at h
  case h_26 => simp at h
  all_goals
    rename_i heq
    obtain rfl := Option.some.inj h
    simp only [modeRefusal, heq] at hm
  case h_1 => simp at hm
  case h_22 => cases hmode : s.sup.mode <;> simp [hmode] at hm <;> subst hm <;> simp [takeResume, hmode]
  case h_2 | h_3 | h_4 | h_5 | h_6 | h_7 =>
    simp only [Nat.reduceLT, if_true, if_false, Option.ite_none_right_eq_some, Option.some.injEq] at hm
    obtain ⟨hsetup, rfl⟩ := hm
    simp [takeEnter, takeAmend, takeWithdraw, takeRelease, takeLookUp, takeList, inSetup, hsetup]
  case h_23 | h_24 =>
    simp at hm
    obtain ⟨hsetup, rfl⟩ := hm
    simp [takeWriteItem, takeCommit, inSetup, hsetup]
  all_goals
    simp at hm
    obtain ⟨hatt, rfl⟩ := hm
    simp [takeBegin, takeAdmit, takeMark, takeLower, takeAbort, takeContinue, takeConfirm, takeWarningOverride, takeArmService,
      takeClosureRetry, takeReopenRoad, takeResetTrip, takeClearFaults, takeSetDim, takeRevert, attended, hatt]

/-- Settles O10: the port refuses a C only kind before the block, and the block refuses by its mode before the body. -/
theorem refusedWhateverTheBody : Obligations.RefusedWhateverTheBody := by
  intro c l kind body s hreq hr
  obtain ⟨r, hrow, hexec⟩ := exec_request c l kind body s hreq
  refine ⟨fun hl hk => ?authority, fun o hl hm => ?mode⟩
  case authority =>
    subst hl
    have honly : r.controlOnly = true := by rw [kindRow_controlOnly hrow]; exact decide_eq_true hk
    rw [honly] at hexec
    exact ⟨_, hexec, portRequest_notPermitted hr⟩
  case mode =>
    have honly : (r.controlOnly && l == .harbour) = false := by
      rw [kindRow_controlOnly hrow]
      rcases hl with rfl | hk
      · exact Bool.and_false _
      · rw [decide_eq_false (by omega)]; rfl
    exact ⟨_, hexec, portRequest_unchanged hr honly (kindRow_modeRefusal hrow (by rwa [takenIn_sup_mode]) body)⟩

/-- Settles O11: a reply other than OK comes from the port's or the block's refusal, which changes nothing. -/
theorem refusalChangesNothing : Obligations.RefusalChangesNothing := by
  intro c l kind body reply outcome s t hreq hr hexec hsend hne
  have hidle (b : List Byte) (o : OutcomeCode) (u : State) (hcore : (u.links.get l).core = ((takenIn l kind s).links.get l).core) :
      ((putReply l kind o b u).links.get l).sending = some ⟨⟨kind, o, false, b⟩, false⟩ := by
    rw [takenIn_get] at hcore
    have hs : (u.links.get l).sending = none := ((congrArg LinkPort.sending hcore :)).trans hr.2
    rw [putReply_get_of_idle hs]
  rcases exec_request_free hreq hr.1 with ⟨o, b, _, hempty, hitem, heq⟩ | ⟨b, u, hcores, heq⟩ | ⟨_, heq⟩
  · obtain rfl := Host.Outcome.next.inj (heq.symm.trans hexec)
    rw [hidle b o _ rfl] at hsend
    simp only [Option.some.injEq, Sending.mk.injEq, Reply.mk.injEq, true_and, and_true] at hsend
    obtain ⟨rfl, rfl⟩ := hsend
    exact ⟨onlyAnswered_putReply hr rfl rfl (fun _ _ => by cases ‹Part› <;> rfl), hempty, hitem⟩
  · obtain rfl := Host.Outcome.next.inj (heq.symm.trans hexec)
    rw [hidle b .ok u (hcores l)] at hsend
    simp only [Option.some.injEq, Sending.mk.injEq, Reply.mk.injEq, true_and, and_true] at hsend
    exact absurd hsend.1.symm hne
  · obtain rfl := Host.Outcome.next.inj (heq.symm.trans hexec)
    rw [acceptCommit_links, takenIn_get, hr.2] at hsend
    cases hsend

/-! ## STATUS (R192, R193) -/

theorem flagsOctet_zero (b : Bool) (bs : List Bool) : (flagsOctet (b :: bs)).getLsbD 0 = b := by
  simp only [flagsOctet, octet, flagValue, BitVec.getLsbD_ofNat, Nat.testBit_zero]
  cases b <;> simp

theorem statusOpening_length (h : ∀ o, s.seq.opening = some o → o.list.length ≤ 8) : (statusOpening s).length = 16 := by
  unfold statusOpening
  cases ho : s.seq.opening with
  | none => simp
  | some o =>
    have := h o ho
    simp [octets16, padded]
    omega

theorem statusMotion_length (m : LeafMotion) : (statusMotion m).length = 10 := by
  unfold statusMotion
  split <;> rfl

theorem flatten_map_length {α β : Type} (f : α → List β) (k : Nat) (hf : ∀ a, (f a).length = k) (xs : List α) :
    (xs.map f).flatten.length = k * xs.length := by
  induction xs with
  | nil => rfl
  | cons x xs ih => simp only [List.map_cons, List.flatten_cons, List.length_append, hf, ih, List.length_cons]; ring

theorem statusLeaf_length (m : LeafMotion) : (statusLeaf m).length = 18 := by
  simp [statusLeaf, statusMotion_length]

theorem statusArms_length (s : State) : ((s.arms.toList.map statusArm).flatten).length = 32 := by
  rw [flatten_map_length statusArm 4 (fun _ => rfl), Vector.length_toList]

theorem statusChannels_length (u : LampUnit) :
    ((u.channels.toList.map (statusChannel u.undervoltage)).flatten).length = 64 := by
  rw [flatten_map_length (statusChannel u.undervoltage) 2 (fun _ => rfl), Vector.length_toList]

theorem statusLamps_length (c : Configured) (u : LampUnit) : (statusLamps c u).length = 9 := rfl

end Sys2Proof.Machine

/-! The STATUS reply (O12). -/

namespace Sys2Proof.Machine

open Sys2Proof

variable {s t : State} {l : Link} {kind : Byte} {body : List Byte} {n : Nat} {p : Passage}

theorem lowerAttention_get (l : Link) (s : State) :
    (lowerAttention l s).links.get l = { s.links.get l with attention := .reset } := updatePort_get _ _ _

/-- A request taken with a change of its own link's attention record alone (R193). -/
theorem answered_of_core {o : OutcomeCode} {b : List Byte} (hr : readyFor l s)
    (hcore : (t.links.get l).core = ((takenIn l kind s).links.get l).core) :
    answered l kind o b s (putReply l kind o b t)
      ∧ ((putReply l kind o b t).links.get l).attention = (t.links.get l).attention := by
  rw [takenIn_get] at hcore
  have hin : (t.links.get l).inHand = some kind := inHand_of_core hcore
  have hsend : (t.links.get l).sending = none := ((congrArg LinkPort.sending hcore :)).trans hr.2
  have hwait : (t.links.get l).waiting = (s.links.get l).waiting := (congrArg LinkPort.waiting hcore :)
  have hover : (t.links.get l).overrun = (s.links.get l).overrun := (congrArg LinkPort.overrun hcore :)
  have hintake : (t.links.get l).intake = (s.links.get l).intake := (congrArg LinkPort.intake hcore :)
  rw [answered, putReply_get_of_idle hsend]
  exact ⟨⟨hin, rfl, hwait, hover, hintake⟩, rfl⟩

/-- The states of STATUS and LIST PASSAGES, whose reply goes out with the link's own line lowered. -/
theorem answered_lowered {o : OutcomeCode} {b : List Byte} (hr : readyFor l s) :
    answered l kind o b s (putReply l kind o b (lowerAttention l (takenIn l kind s)))
      ∧ ((putReply l kind o b (lowerAttention l (takenIn l kind s))).links.get l).attention = ⟨false, .empty⟩
      ∧ (putReply l kind o b (lowerAttention l (takenIn l kind s))).sup = framedSup l s
      ∧ unchangedBut [portPart l, .sup] s (putReply l kind o b (lowerAttention l (takenIn l kind s))) := by
  obtain ⟨hanswered, hattention⟩ := answered_of_core (o := o) (b := b) (t := lowerAttention l (takenIn l kind s)) hr
    (by rw [lowerAttention_get]; rfl)
  refine ⟨hanswered, ?_, ?_, ?_⟩
  · rw [hattention, lowerAttention_get]; rfl
  · rw [putReply_sup, lowerAttention_sup, takenIn_sup]
  · have hlowered : unchangedBut [portPart l] (takenIn l kind s) (lowerAttention l (takenIn l kind s)) := updatePort_frame l _ _
    have hreplied : unchangedBut [portPart l] (lowerAttention l (takenIn l kind s)) (putReply l kind o b (lowerAttention l (takenIn l kind s))) :=
      updatePort_frame l _ _
    exact unchangedBut_trans (takenIn_frame l kind s) (unchangedBut_mono (by simp) (unchangedBut_trans hlowered hreplied))

theorem status_arms_second (s : State) : ((s.arms.toList.map statusArm).flatten)[1]? = some (octet (s.arm .wEntry1).reported.code) := by
  have hlen : s.arms.toList.length = 8 := Vector.length_toList ..
  have hfirst : s.arms.toList[0]'(by omega) = s.arm .wEntry1 := by simp [State.arm, armIndex]
  cases harms : s.arms.toList with
  | nil => simp [harms] at hlen
  | cons a rest =>
    simp only [harms, List.getElem_cons_zero] at hfirst
    subst hfirst
    rfl

/-- Settles O12: the reply's blocks have fixed lengths, and each octet named is one of its block. -/
theorem statusReadsTheDevice : Obligations.StatusReadsTheDevice := by
  refine ⟨fun l s hr => ⟨?_, fun b bs => ?_⟩, fun l s hlen hopening => ?_⟩
  · have hexec : exec (.status l []) s = .next (putReply l 0x01#8 .ok (statusBody l (takenIn l 0x01#8 s))
        (lowerAttention l (takenIn l 0x01#8 s))) := by
      change Host.Outcome.next _ = _
      rw [portRequest_answers hr (by rfl) (by rfl)]
    exact ⟨_, hexec, answered_lowered hr⟩
  · exact ⟨_, rfl, portRequest_unchanged hr rfl rfl⟩
  · have h16 := statusOpening_length hopening
    have h18 := statusLeaf_length s.leaf
    have h32 := statusArms_length s
    have h64 := statusChannels_length s.lamp
    have h9 := statusLamps_length s.conf s.lamp
    have h4 : (statusClosure s.closure).length = 4 := rfl
    have hhead (a : Aspect) (h : Head) : (statusHead a h).length = 3 := rfl
    have h2 : (statusSupervisor s.sup).length = 2 := rfl
    have harm := status_arms_second s
    have hfault : (flagsOctet [faultLine s.sup, s.sup.groupTripped, s.sup.closureHeld, s.sup.dark.seaward, s.sup.dark.landward,
        s.sup.mode == .unattended, s.sup.pulseTimer.isSome]).getLsbD 0 = faultLine s.sup := flagsOctet_zero _ _
    have hfirst : (statusOpening s)[0]? = some (octet (match s.seq.opening with | none => 0 | some o => o.state.code)) := by
      unfold statusOpening
      cases s.seq.opening <;> rfl
    simp [statusBody, h16, h18, h32, h64, h9, h4, hhead, h2]
    refine ⟨(List.getElem?_eq_some_iff.mp hfirst).2, rfl, rfl, rfl, rfl, rfl, (List.getElem?_eq_some_iff.mp harm).2, rfl, rfl, hfault, rfl⟩

end Sys2Proof.Machine

/-!
The answers of the record requests: what a taken request does to its link and to the attention lines, and the requests that
read the register or change one record (O14, O18, O21, O22, O23, O24).
-/

namespace Sys2Proof.Machine

open Sys2Proof

variable {s t : State} {l : Link} {kind : Byte} {body : List Byte} {n : Nat} {p : Passage}

/-! ## Attention records through a request -/

theorem updatePort_attention {f : LinkPort → LinkPort} (hf : ∀ p, (f p).attention = p.attention) (k : Link) (s : State) :
    ((updatePort l f s).links.get k).attention = (s.links.get k).attention := by
  by_cases h : k = l
  · subst h; rw [updatePort_get, hf]
  · rw [updatePort_get_ne h]

@[simp] theorem putReply_attention (l : Link) (kind : Byte) (o : OutcomeCode) (b : List Byte) (s : State) (k : Link) :
    ((putReply l kind o b s).links.get k).attention = (s.links.get k).attention := by
  refine updatePort_attention (fun p => ?_) k s
  cases p.sending <;> rfl

@[simp] theorem takenIn_attention (l : Link) (kind : Byte) (s : State) (k : Link) :
    ((takenIn l kind s).links.get k).attention = (s.links.get k).attention := by
  refine (updatePort_attention (f := fun p => { p with inHand := some kind }) (fun _ => rfl) k _).trans ?_
  rw [restartWatchdog_links]

theorem raiseAttention_attention_same (l : Link) (c : AttentionCause) (s : State) :
    ((raiseAttention l c s).links.get l).attention = ⟨true, (s.links.get l).attention.causes.add c⟩ := by
  rw [raiseAttention, updatePort_get]

theorem raiseAttention_attention_ne {k : Link} (h : k ≠ l) (c : AttentionCause) (s : State) :
    ((raiseAttention l c s).links.get k).attention = (s.links.get k).attention := by
  rw [raiseAttention, updatePort_get_ne h]

theorem notifyOrigin_told (l : Link) (p : Passage) (s : State) :
    ((notifyOrigin (some l) p s).links.get p.origin).attention = toldAttention l p s := by
  by_cases h : l = p.origin
  · subst h; simp [notifyOrigin, toldAttention]
  · simp [notifyOrigin, toldAttention, h, raiseAttention_attention_same]

theorem notifyOrigin_attention_ne {k : Link} {r : Option Link} (h : k ≠ p.origin) (s : State) :
    ((notifyOrigin r p s).links.get k).attention = (s.links.get k).attention := by
  unfold notifyOrigin
  split
  · rfl
  · exact raiseAttention_attention_ne h _ _

theorem toldAttention_congr (h : (t.links.get p.origin).attention = (s.links.get p.origin).attention) :
    toldAttention l p t = toldAttention l p s := by simp only [toldAttention, h]

/-- `told` of a request in hand is that of the state before it. -/
theorem toldAttention_takenIn (k : Link) (kind : Byte) (p : Passage) (s : State) :
    toldAttention l p (takenIn k kind s) = toldAttention l p s := toldAttention_congr (takenIn_attention k kind s _)

/-! ## A taken request at a ready link (R187) -/

theorem putReply_frame {changed : List Part} {o : OutcomeCode} {b : List Byte} (h : unchangedBut changed (takenIn l kind s) t) :
    unchangedBut (portPart l :: .sup :: changed) s (putReply l kind o b t) :=
  unchangedBut_trans (unchangedBut_mono (by simp) (takenIn_frame l kind s))
    (unchangedBut_trans (unchangedBut_mono (fun p hp => by simp [hp]) h)
      (unchangedBut_mono (by simp) (updatePort_frame l _ t : unchangedBut [portPart l] t (putReply l kind o b t))))

/-- The frame of a taken request whose list already names both links' machinery and the supervisor. -/
theorem putReply_frame_of_mem {changed : List Part} {o : OutcomeCode} {b : List Byte}
    (h : unchangedBut changed (takenIn l kind s) t) (hmem : portPart l ∈ changed ∧ Part.sup ∈ changed) :
    unchangedBut changed s (putReply l kind o b t) :=
  unchangedBut_mono (by simp [hmem.1, hmem.2]) (putReply_frame h)

/-- A request of any kind but the commit, taken at a ready link by its row of R189. -/
theorem exec_accepted {c : Instr} {r : KindRow} {b : List Byte} (hreq : requestOf c = some (l, kind, body))
    (hrow : kindRow l kind = some r) (hne : kind ≠ 0x52#8) (hr : readyFor l s) (hc : (r.controlOnly && l == .harbour) = false)
    (htake : r.take body (takenIn l kind s) = accept b t) :
    exec c s = .next (putReply l kind .ok b t) ∧ answered l kind .ok b s (putReply l kind .ok b t) := by
  obtain ⟨r', hrow', hexec⟩ := exec_request c l kind body s hreq
  obtain rfl := Option.some.inj (hrow.symm.trans hrow')
  have hcores := (kindRow_takeKeeps hrow hne body (takenIn l kind s)).cores l
  rw [htake] at hcores
  exact ⟨by rw [hexec, portRequest_answers hr hc htake], (answered_of_core hr hcores).1⟩

/-- A request refused by its owning block at a ready link, by its row of R189. -/
theorem exec_refused {c : Instr} {r : KindRow} {o : OutcomeCode} (hreq : requestOf c = some (l, kind, body))
    (hrow : kindRow l kind = some r) (hr : readyFor l s) (hc : (r.controlOnly && l == .harbour) = false)
    (htake : r.take body (takenIn l kind s) = refuse o (takenIn l kind s)) :
    ∃ t, exec c s = .next t ∧ onlyAnswered l kind o [] [] s t := by
  obtain ⟨r', hrow', hexec⟩ := exec_request c l kind body s hreq
  obtain rfl := Option.some.inj (hrow.symm.trans hrow')
  exact ⟨_, hexec, portRequest_unchanged hr hc htake⟩

/-- A request that its owning block answers OK without changing anything, by its row of R189. -/
theorem exec_read {c : Instr} {r : KindRow} {b : List Byte} (hreq : requestOf c = some (l, kind, body))
    (hrow : kindRow l kind = some r) (hr : readyFor l s) (hc : (r.controlOnly && l == .harbour) = false)
    (htake : r.take body (takenIn l kind s) = accept b (takenIn l kind s)) :
    ∃ t, exec c s = .next t ∧ onlyAnswered l kind .ok b [] s t := by
  obtain ⟨r', hrow', hexec⟩ := exec_request c l kind body s hreq
  obtain rfl := Option.some.inj (hrow.symm.trans hrow')
  exact ⟨_, hexec, portRequest_unchanged hr hc htake⟩

theorem not_inSetup (hm : s.sup.mode ≠ .setup) (l : Link) (kind : Byte) : inSetup (takenIn l kind s) = false := by
  simp [inSetup, hm]

/-! ## ENTER PASSAGE (O14) -/

theorem directionOf_entry {b : Byte} {d : Direction} (h : b = 0 ∧ d = .seaward ∨ b = 1 ∧ d = .landward) :
    directionOf b = some d := by
  rcases h with ⟨rfl, rfl⟩ | ⟨rfl, rfl⟩ <;> rfl

theorem classOf_entry {b : Byte} {k : PassageClass} (h : b = 0 ∧ k = .priority ∨ b = 1 ∧ k = .routine) :
    classOf b = some k := by
  rcases h with ⟨rfl, rfl⟩ | ⟨rfl, rfl⟩ <;> rfl

theorem entryLifetime_entry {present : Byte} {minutes : Nat} {life : Option Nat}
    (h : present = 0 ∧ life = none ∨ present = 1 ∧ 1 ≤ minutes ∧ minutes ≤ 720 ∧ life = some minutes) :
    entryLifetime present minutes = some life := by
  rcases h with ⟨rfl, rfl⟩ | ⟨rfl, hlow, hhigh, rfl⟩
  · rfl
  · simp [entryLifetime, hlow, hhigh]

theorem entryOf_eq_some {tagOctets tag : List Byte} {dir cls ch cl present lh ll : Byte} {d : Direction} {k : PassageClass}
    {life : Option Nat} (hlen : tagOctets.length = 12) (htag : normaliseTag tagOctets = some tag)
    (hdir : directionOf dir = some d) (hcls : classOf cls = some k) (hclear : 100 ≤ word16 ch cl)
    (hlife : entryLifetime present (word16 lh ll) = some life) :
    entryOf (tagOctets ++ [dir, cls, ch, cl, present, lh, ll]) = some ⟨tag, d, k, word16 ch cl, life⟩ := by
  have hdrop : (tagOctets ++ [dir, cls, ch, cl, present, lh, ll]).drop 12 = [dir, cls, ch, cl, present, lh, ll] := by
    rw [← hlen, List.drop_left]
  have htake : (tagOctets ++ [dir, cls, ch, cl, present, lh, ll]).take 12 = tagOctets := by rw [← hlen, List.take_left]
  simp only [entryOf, hdrop, htake, htag, hdir, hcls, hlife, if_neg (not_lt.mpr hclear)]

theorem takeEnter_taken {e : Entry} {angle : Nat} (hm : s.sup.mode ≠ .setup) (he : entryOf body = some e)
    (hangle : passageAngle s.conf e.clearance = some angle) (htwice : heldTwice e s.reg = false)
    (hroom : s.reg.records.length < 32) :
    takeEnter l body s = accept [octet (entryRecord l e angle s.reg).number]
      (s.withReg (enterRecord (entryRecord l e angle s.reg) s.reg)) := by
  have hfull : ¬Config.registerSize ≤ s.reg.records.length := by simpa [Config.registerSize] using hroom
  simp [takeEnter, inSetup, hm, he, hangle, htwice, hfull]

theorem stampFrom_stamps (k : Nat) (ps : List Passage) : (stampFrom k ps).map (·.stamp) = List.range' k ps.length := by
  induction ps generalizing k with
  | nil => rfl
  | cons p ps ih => simp [stampFrom, ih, List.range'_succ]

theorem queueOrder_length (ps : List Passage) : (queueOrder ps).length = ps.length := (queueOrder_perm ps).length_eq

/-- Settles O14: the body is well formed, nothing refuses it, and `enterRecord` branches on the last stamp. -/
theorem enterCreatesARecord : Obligations.EnterCreatesARecord := by
  intro l tagOctets dir cls ch cl present lh ll tag d k life angle s hr hm hlen htag hdir hcls hclear hlife hreq hlimit hdup hroom
  have he := entryOf_eq_some hlen htag (directionOf_entry hdir) (classOf_entry hcls) hclear (entryLifetime_entry hlife)
  have hangle : passageAngle s.conf (word16 ch cl) = some angle := by simp [passageAngle, hreq, hlimit]
  have htwice : heldTwice ⟨tag, d, k, word16 ch cl, life⟩ s.reg = false := by
    rw [Bool.eq_false_iff, Ne, heldTwice_iff]
    rintro ⟨p, hp, hlive, heq, hdir⟩
    rcases hdup p hp with h | h | h
    · simp [h] at hlive
    · exact h heq
    · exact h hdir
  let p : Passage := ⟨allocatedNumber s.reg, l, tag, d, k, word16 ch cl, angle, life, s.reg.nextStamp, .waiting, none⟩
  have htake : takeEnter l (tagOctets ++ [dir, cls, ch, cl, present, lh, ll]) (takenIn l 0x10#8 s) =
      accept [octet p.number] ((takenIn l 0x10#8 s).withReg (enterRecord p s.reg)) := by
    rw [takeEnter_taken (by simpa using hm) he (by simpa using hangle) (by simpa using htwice) (by simpa using hroom)]
    simp [entryRecord, p]
  have hexec := (exec_accepted (c := .enterPassage l _) rfl rfl (by decide) hr rfl htake).1
  refine ⟨_, p, hexec, rfl, ?number, ?timer, fun hstamp => ?plain, fun hstamp => ?renumbered, ?answer⟩
  case number =>
    rw [putReply_reg, State.withReg_reg, enterRecord_nextNumber]
    rfl
  case timer =>
    rw [putReply_reg, State.withReg_reg]
    simp only [enterRecord]
    split <;> rfl
  case plain =>
    have hp : ¬p.stamp = lastStamp := hstamp
    rw [putReply_reg, State.withReg_reg, enterRecord, if_neg hp]
    exact ⟨rfl, rfl⟩
  case renumbered =>
    have hp : p.stamp = lastStamp := hstamp
    rw [putReply_reg, State.withReg_reg, enterRecord, if_pos hp]
    refine ⟨stampFrom_map_key 0 _, ?_, by simp⟩
    rw [stampFrom_stamps, queueOrder_length, List.range_eq_range']
    simp
  case answer =>
    refine onlyAnswered_putReply hr (by simp) (by simp) fun q hq => ?_
    cases q <;> simp_all [Part.same]

/-! ## LOOK UP PASSAGE and LIST PASSAGES (O22, O23) -/

theorem takeLookUp_number (hm : s.sup.mode ≠ .setup) {n : Byte} (hn : n ≠ 0) :
    takeLookUp [0, n] s = acceptRecord n.toNat s := by
  have hn' : ¬n = 0#8 := hn
  simp [takeLookUp, inSetup, hm, hn']

theorem takeLookUp_tag (hm : s.sup.mode ≠ .setup) {octets : List Byte} (hlen : octets.length = 12) :
    takeLookUp (1 :: octets) s = lookUpTag octets s := by simp [takeLookUp, inSetup, hm, hlen]

/-- Settles O22: each selector's branches, none of which changes the state. -/
theorem lookUpReadsTheRegister : Obligations.LookUpReadsTheRegister := by
  intro l s hr hm
  have hm' : (takenIn l 0x14#8 s).sup.mode ≠ .setup := by simpa using hm
  refine ⟨fun n => ?number, fun octets hlen => ?tag⟩
  case number =>
    by_cases hn : n = 0
    · subst hn
      simp only [if_true]
      exact exec_refused (c := .lookUpPassage l _) rfl rfl hr rfl (by simp [takeLookUp, inSetup, hm])
    · simp only [if_neg hn]
      have htake := takeLookUp_number hm' hn
      cases hfind : findPassage n.toNat s.reg with
      | none =>
        rw [findPassage] at hfind
        simp only [hfind]
        exact exec_refused (c := .lookUpPassage l _) rfl rfl hr rfl (htake.trans (by simp [acceptRecord, findPassage, hfind]))
      | some p =>
        rw [findPassage] at hfind
        simp only [hfind]
        exact exec_read (c := .lookUpPassage l _) rfl rfl hr rfl (htake.trans (by simp [acceptRecord, findPassage, hfind]))
  case tag =>
    have htake := takeLookUp_tag hm' hlen
    cases htag : normaliseTag octets with
    | none => exact exec_refused (c := .lookUpPassage l _) rfl rfl hr rfl (htake.trans (by simp [lookUpTag, htag]))
    | some tag =>
      dsimp only
      have hfound : taggedRecords tag s.reg = (queueOrder s.reg.records).filter (fun p => p.tag == tag) := rfl
      rw [← hfound]
      cases hlist : taggedRecords tag s.reg with
      | nil =>
        simp only [if_true]
        exact exec_refused (c := .lookUpPassage l _) rfl rfl hr rfl (htake.trans (by simp [lookUpTag, htag, hlist]))
      | cons p ps =>
        simp only [if_neg (List.cons_ne_nil p ps)]
        exact exec_read (c := .lookUpPassage l _) rfl rfl hr rfl (htake.trans (by simp [lookUpTag, htag, hlist]))

/-- Settles O23. -/
theorem listPassagesInQueueOrder : Obligations.ListPassagesInQueueOrder := by
  intro l s hr hm
  have htake : takeList l [] (takenIn l 0x15#8 s) = accept (octet s.reg.records.length ::
      ((queueOrder s.reg.records).map listOctets).flatten) (lowerAttention l (takenIn l 0x15#8 s)) := by
    simp [takeList, inSetup, hm]
  exact ⟨_, (exec_accepted (c := .listPassages l []) rfl rfl (by decide) hr rfl htake).1, answered_lowered hr⟩

end Sys2Proof.Machine

/-!
The minute timer, and the requests that change or remove one record (O18, O21, O24).
-/

namespace Sys2Proof.Machine

open Sys2Proof

variable {s t : State} {l : Link} {kind : Byte} {body : List Byte} {n : Nat} {p : Passage}

/-! ## A minute passes (O24) -/

theorem CauseSet.add_add (x : CauseSet) (c : AttentionCause) : (x.add c).add c = x.add c := by cases c <;> rfl

theorem LinkPort.eq_of_core {p q : LinkPort} (h : q.core = p.core) : q = { p with attention := q.attention } := by
  obtain ⟨_, _, _, _, _, _⟩ := p
  obtain ⟨_, _, _, _, _, _⟩ := q
  simp only [LinkPort.core, LinkPort.mk.injEq] at h ⊢
  simp [h]

theorem notifyEach_unchanged (ps : List Passage) (s : State) :
    unchangedBut [.controlPort, .harbourPort] s (ps.foldl (fun t p => notifyOrigin none p t) s) := by
  induction ps generalizing s with
  | nil => intro q _; cases q <;> rfl
  | cons p ps ih =>
    refine unchangedBut_trans (fun q hq => ?_) (ih (notifyOrigin none p s))
    cases q <;> simp_all [Part.same]

/-- Records whose origins are told one after another: an origin's line is raised by the first of its records (R25). -/
theorem notifyEach_attention (ps : List Passage) (l : Link) (s : State) :
    ((ps.foldl (fun t p => notifyOrigin none p t) s).links.get l).attention =
      if ∃ p ∈ ps, p.origin = l then ⟨true, (s.links.get l).attention.causes.add .passageRecord⟩
      else (s.links.get l).attention := by
  induction ps generalizing s with
  | nil => simp
  | cons p ps ih =>
    rw [List.foldl_cons, ih]
    by_cases hp : p.origin = l
    · subst hp
      have htold : ((notifyOrigin none p s).links.get p.origin).attention =
          ⟨true, (s.links.get p.origin).attention.causes.add .passageRecord⟩ := by
        simp [notifyOrigin, raiseAttention_attention_same]
      simp [htold, CauseSet.add_add]
    · rw [notifyOrigin_attention_ne (fun h => hp h.symm)]
      simp [hp]

/-- What ends at a minute: a WAITING record with one minute left (R11). -/
theorem expires_iff (p : Passage) : expires p = true ↔ p.state = .waiting ∧ ∃ n, p.lifetime = some n ∧ n ≤ 1 := by
  by_cases hw : p.state = .waiting
  · cases hl : p.lifetime with
    | none => simp [expires, ageRecord, hw, hl]
    | some n => by_cases hn : n ≤ 1 <;> simp [expires, ageRecord, hw, hl, hn]
  · simp [expires, hw]

/-- Settles O24: the records age in one map, and the origins of those that end are told one after another. -/
theorem minuteExpiryAgesWaitingRecords : Obligations.MinuteExpiryAgesWaitingRecords := by
  intro ms s hms
  have hframe := notifyEach_unchanged (s.reg.records.filter expires)
    (s.withReg { s.reg with records := s.reg.records.map ageRecord, minuteTimer := some Config.minuteMs })
  have hattention (l : Link) : ((minutePassed s).links.get l).attention =
      if ∃ p ∈ s.reg.records.filter expires, p.origin = l then ⟨true, (s.links.get l).attention.causes.add .passageRecord⟩
      else (s.links.get l).attention := notifyEach_attention _ _ _
  have hexec : exec .minuteTimerExpiry s = .next (minutePassed s) :=
    (execMinuteTimerExpiry_eq s).trans (by simp [hms])
  refine ⟨minutePassed s, hexec, hframe .reg (by decide), fun l => ?port, fun l htold => ?told, fun l huntold => ?untold, ?frame⟩
  case port => exact LinkPort.eq_of_core ((minutePassed_keeps (φ := .ordinary) s).ports l)
  case told =>
    obtain ⟨p, hp, hl, hends⟩ := htold
    rw [hattention, if_pos ⟨p, List.mem_filter.mpr ⟨hp, (expires_iff p).mpr hends⟩, hl⟩]
  case untold =>
    rw [hattention, if_neg]
    rintro ⟨p, hp, hl⟩
    obtain ⟨hmem, hexp⟩ := List.mem_filter.mp hp
    exact huntold p hmem hl ((expires_iff p).mp hexp)
  case frame =>
    refine unchangedBut_trans (fun q hq => ?_) (unchangedBut_mono (by simp) hframe)
    cases q <;> simp_all [Part.same]

/-! ## The admitted list as it shortens -/

/-- An ended opening is one in REOPENING_ROAD (R52). -/
theorem roadOpenReport_opening (s : State) : (roadOpenReport s).seq.opening = s.seq.opening
    ∨ openingState s = some .reopeningRoad ∧ (roadOpenReport s).seq.opening = none := by
  unfold roadOpenReport
  split
  next h => exact .inr ⟨h, by simp [raiseAttention, setOpening]⟩
  next => exact .inl rfl

theorem finishReopening_opening (q : Bool) (s : State) : (finishReopening q s).seq.opening = s.seq.opening
    ∨ openingState s = some .reopeningRoad ∧ (finishReopening q s).seq.opening = none := by
  unfold finishReopening
  split
  next =>
    rcases roadOpenReport_opening (setClosureState q .roadOpen
      (s.withClosure { s.closure with degraded := false, override := false, redSeen := .none, confirmation := false })) with
      h | ⟨ho, h⟩
    · exact .inl (h.trans (by simp))
    · exact .inr ⟨by simpa [openingState] using ho, h⟩
  next => exact .inl rfl

theorem startReopen_opening (q : Bool) (s : State) : (startReopen q s).seq.opening = s.seq.opening
    ∨ openingState s = some .reopeningRoad ∧ (startReopen q s).seq.opening = none := by
  unfold startReopen
  dsimp only
  rcases finishReopening_opening q _ with h | ⟨ho, h⟩
  · exact .inl (h.trans (by simp))
  · exact .inr ⟨by simpa [openingState] using ho, h⟩

theorem reopenRequest_opening (q : Bool) (s : State) : (reopenRequest q s).seq.opening = s.seq.opening
    ∨ openingState s = some .reopeningRoad ∧ (reopenRequest q s).seq.opening = none := by
  unfold reopenRequest
  split
  · split
    · exact .inl rfl
    · exact startReopen_opening q s
  · exact .inl rfl

/-! ## The changeover weighed (R47, R48, R50) -/

/-- The changeover dwell as it stands once weighed for the served direction: cancelled while a vessel of that direction is
listed or none of the other waits, and started when only the other is left (R47, R48). -/
def weighedDwell (d : Direction) (o : Opening) (s : State) : Option Nat :=
  match o.changeover with
  | some c => if activeIn d s || !admittedIn (otherDirection d) s then none else some c
  | none => if !activeIn d s && admittedIn (otherDirection d) s then some (s.conf.changeoverDwell * 1000) else none

theorem setOpening_self {o : Opening} (ho : s.seq.opening = some o) : setOpening (some o) s = s := by
  rw [← ho]; rfl

theorem activeIn_setOpening {o o' : Opening} (ho : s.seq.opening = some o) (hlist : o'.list = o.list) (d : Direction) :
    activeIn d (setOpening (some o') s) = activeIn d s := by
  simp [activeIn, listedRecords, setOpening, ho, hlist]

theorem weighChangeover_open {o : Opening} {d : Direction} (ho : s.seq.opening = some o) (hst : o.state = .open)
    (hd : o.served = some d) : weighChangeover s =
      raiseControlIf (!activeIn d s && !activeIn (otherDirection d) s) .opening
        (setOpening (some { o with changeover := weighedDwell d o s }) s) := by
  obtain ⟨st, recovery, list, target, served, changeover, extending⟩ := o
  obtain rfl : st = .open := hst
  obtain rfl : served = some d := hd
  have hactive (c : Option Nat) (e : Direction) :
      activeIn e (setOpening (some ⟨.open, recovery, list, target, some d, c, extending⟩) s) = activeIn e s :=
    activeIn_setOpening ho rfl e
  simp only [weighChangeover, ho]
  cases changeover with
  | some c =>
    simp only [weighedDwell]
    split
    · simp only [hactive]
    · rw [setOpening_self ho]
  | none =>
    simp only [weighedDwell]
    split
    · simp only [hactive]
    · rw [setOpening_self ho]

theorem weighChangeover_of_not_serving (h : ∀ o, s.seq.opening = some o → o.state = .open → o.served = none) :
    weighChangeover s = s := by
  cases ho : s.seq.opening with
  | none => simp only [weighChangeover, ho]
  | some o =>
    by_cases hst : o.state = .open
    · simp only [weighChangeover, ho, hst, h o ho hst]
    · simp only [weighChangeover, ho]
      split
      next heq _ => exact absurd heq hst
      next => rfl

theorem weighChangeover_admittedList (s : State) : admittedList (weighChangeover s) = admittedList s := by
  cases ho : s.seq.opening with
  | none => rw [weighChangeover_of_not_serving (by simp [ho])]
  | some o =>
    by_cases hserving : o.state = .open ∧ ∃ d, o.served = some d
    · obtain ⟨hst, d, hd⟩ := hserving
      rw [weighChangeover_open ho hst hd, admittedList_congr (congrArg Sequencer.opening (raiseControlIf_seq ..))]
      simp [admittedList, setOpening, ho]
    · rw [weighChangeover_of_not_serving fun o' ho' hst => ?_]
      obtain rfl := Option.some.inj (ho.symm.trans ho')
      exact Option.eq_none_iff_forall_ne_some.mpr fun d hd => hserving ⟨hst, d, hd⟩

/-! ## A number leaves the list (R20, R21, R43) -/

/-- The list shortened already stands as it is: an opening that is abandoned or ended had none left (R43). -/
theorem admittedList_listShortened (s : State) : admittedList (listShortened s) = admittedList s := by
  unfold listShortened
  cases ho : s.seq.opening with
  | none => rfl
  | some o =>
    refine (admittedList_congr (deriveDemands_seq_opening _)).trans ?_
    split
    · split
      next hempty =>
        have hnil : o.list = [] := by simpa using hempty
        have hs : admittedList s = [] := by simp only [admittedList, ho, hnil]
        rw [hs]
        rcases reopenRequest_opening false (enterOpening .reopeningRoad (setOpening (some { o with target := 0 }) s)) with h | ⟨_, h⟩
        · rw [admittedList_congr h]
          simp [admittedList, enterOpening, enterOpeningQuietly, updateOpening, setOpening, raiseAttention, hnil]
        · simp only [admittedList, h]
      next => simp [admittedList, formTarget, updateOpening, setOpening, ho]
    · exact weighChangeover_admittedList s
    all_goals rfl

theorem admittedList_leaveList (n : Nat) (s : State) :
    admittedList (leaveList n s) = (admittedList s).filter (fun m => m != n) := by
  rw [leaveList_eq]
  split
  next => rw [admittedList_listShortened, admittedList_dropListed]
  next h => exact (List.filter_eq_self.mpr fun m hm => by
      have hne : m ≠ n := fun heq => h (heq ▸ hm)
      simpa using hne).symm

theorem leaveList_of_not_mem (h : n ∉ admittedList s) : leaveList n s = s := by rw [leaveList_eq, if_neg h]

/-- What may change as a number leaves the list: the opening, and the road where the opening is abandoned (R43). -/
theorem leaveList_frame (n : Nat) (s : State) : unchangedBut [.freeCount, .controlPort, .harbourPort, .seq, .closure, .arms,
    .stations, .lamp, .display, .sup] s (leaveList n s) := by
  intro q hq
  cases q <;> simp_all [Part.same]

/-! ## RELEASE PASSAGE (O21) -/

/-- The register without a number. -/
def released (n : Nat) (s : State) : State :=
  s.withReg { s.reg with records := s.reg.records.filter (fun q => q.number != n) }

theorem permitted_of_origin (h : l = .control ∨ p.origin = .harbour) : permitted l p = true := by
  simpa [permitted] using h

theorem takeRelease_taken {n : Byte} (hm : s.sup.mode ≠ .setup) (hn : n ≠ 0) (hfind : findPassage n.toNat s.reg = some p)
    (hper : l = .control ∨ p.origin = .harbour) (hterm : p.state.terminal = true) :
    takeRelease l [n] s = accept [n] (leaveList n.toNat (notifyOrigin (some l) p (released n.toNat s))) := by
  have hn' : ¬n = 0#8 := hn
  simp [takeRelease, inSetup, hm, hn', hfind, permitted_of_origin hper, hterm, (findPassage_mem hfind).2, released]

theorem takeRelease_wrongState {n : Byte} (hm : s.sup.mode ≠ .setup) (hn : n ≠ 0) (hfind : findPassage n.toNat s.reg = some p)
    (hper : l = .control ∨ p.origin = .harbour) (hterm : p.state.terminal = false) :
    takeRelease l [n] s = refuse .wrongState s := by
  have hn' : ¬n = 0#8 := hn
  simp [takeRelease, inSetup, hm, hn', hfind, permitted_of_origin hper, hterm]

/-- Settles O21: `takeRelease` past its refusals, and what leaves the list with the record. -/
theorem releaseRemovesATerminalRecord : Obligations.ReleaseRemovesATerminalRecord := by
  intro l n p s hr hm hn hfind hper
  have hm' : (takenIn l 0x13#8 s).sup.mode ≠ .setup := by simpa using hm
  have hfind' : findPassage n.toNat (takenIn l 0x13#8 s).reg = some p := by simpa using hfind
  refine ⟨fun hterm => ?taken, fun hterm => ?refused⟩
  case refused =>
    exact exec_refused (c := .releasePassage l _) rfl rfl hr rfl (takeRelease_wrongState hm' hn hfind' hper hterm)
  case taken =>
    have hlist : admittedList (notifyOrigin (some l) p (released n.toNat (takenIn l 0x13#8 s))) = admittedList s :=
      admittedList_congr (by simp [released])
    obtain ⟨hexec, hanswered⟩ := exec_accepted (c := .releasePassage l [n]) rfl rfl (by decide) hr rfl
      (takeRelease_taken hm' hn hfind' hper hterm)
    refine ⟨_, hexec, by simp [released], hanswered, ?list, fun habsent => ⟨?told, fun hne => ?own, ?sup, ?frame⟩, ?whole⟩
    case list => rw [admittedList_congr (congrArg Sequencer.opening (putReply_seq ..)), admittedList_leaveList, hlist]
    case told =>
      rw [leaveList_of_not_mem (hlist ▸ habsent), putReply_attention, notifyOrigin_told]
      exact toldAttention_takenIn l 0x13#8 p s
    case own =>
      rw [leaveList_of_not_mem (hlist ▸ habsent), putReply_attention, notifyOrigin_attention_ne hne]
      exact takenIn_attention l 0x13#8 s l
    case sup =>
      rw [leaveList_of_not_mem (hlist ▸ habsent), putReply_sup, notifyOrigin_sup]
      exact takenIn_sup l 0x13#8 s
    case frame =>
      rw [leaveList_of_not_mem (hlist ▸ habsent)]
      refine putReply_frame_of_mem (fun q hq => ?_) (by cases l <;> simp [portPart])
      cases q <;> simp_all [Part.same, released]
    case whole =>
      refine putReply_frame_of_mem (unchangedBut_trans (fun q hq => ?_) (unchangedBut_mono (by simp) (leaveList_frame _ _)))
        (by cases l <;> simp [portPart])
      cases q <;> simp_all [Part.same, released]

/-! ## AMEND PASSAGE of a WAITING record (O18) -/

theorem takeAmend_waiting {a : Amendment} {angle : Nat} (hm : s.sup.mode ≠ .setup) (ha : amendmentOf body = some a)
    (hfind : findPassage a.number s.reg = some p) (hper : l = .control ∨ p.origin = .harbour) (hstate : p.state = .waiting)
    (hangle : amendmentAngle s.conf a = some angle) :
    takeAmend l body s = accept (passageOctets (amended a angle p)) (applyAmendment l a angle p s) := by
  rw [← acceptRecord_changed hfind (applyAmendment_reg l a angle p s) fun q => (amended_fields a angle q).1]
  simp [takeAmend, inSetup, hm, ha, hfind, permitted_of_origin hper, hstate, PassageState.terminal, hangle]

/-- The amendment of a request's present items. -/
def requestedAmendment (n flags ch cl cls lh ll : Byte) : Amendment where
  number := n.toNat
  clearance := if flags.getLsbD 0 then some (word16 ch cl) else none
  cls := if flags.getLsbD 1 then some (if cls = 0 then .priority else .routine) else none
  lifetime := if flags.getLsbD 2 then some (if word16 lh ll = 0 then none else some (word16 lh ll)) else none

theorem amendedClearance_present {present : Bool} {cm : Nat} (h : present = true → 100 ≤ cm) :
    amendedClearance present cm = some (if present then some cm else none) := by
  cases present
  · rfl
  · simp [amendedClearance, h rfl]

theorem amendedClass_present {present : Bool} {code : Byte} (h : present = true → code.toNat ≤ 1) :
    amendedClass present code = some (if present then some (if code = 0 then .priority else .routine) else none) := by
  cases present with
  | false => rfl
  | true =>
    have hdefined : classOf code ≠ none := fun hnone => absurd ((classOf_eq_none_iff code).mp hnone) (not_lt.mpr (h rfl))
    by_cases hzero : code = 0
    · simp [amendedClass, classOf, hzero]
    · have hzero' : ¬code = 0#8 := hzero
      have hone : code = 1#8 := by
        by_contra hone
        exact hdefined (by simp [classOf, hzero', hone])
      simp [amendedClass, hone, classOf]

theorem amendedLifetime_present {present : Bool} {minutes : Nat} (h : present = true → minutes ≤ 720) :
    amendedLifetime present minutes = some (if present then some (if minutes = 0 then none else some minutes) else none) := by
  cases present
  · rfl
  · by_cases hzero : minutes = 0 <;> simp [amendedLifetime, hzero, h rfl]

theorem amendmentOf_present {n flags ch cl cls lh ll : Byte} (hn : n ≠ 0) (hlow : 1 ≤ flags.toNat) (hhigh : flags.toNat ≤ 7)
    (hclear : flags.getLsbD 0 = true → 100 ≤ word16 ch cl) (hcls : flags.getLsbD 1 = true → cls.toNat ≤ 1)
    (hlife : flags.getLsbD 2 = true → word16 lh ll ≤ 720) :
    amendmentOf [n, flags, ch, cl, cls, lh, ll] = some (requestedAmendment n flags ch cl cls lh ll) := by
  have hn' : ¬n = 0#8 := hn
  have hflags : ¬flags = 0#8 := by rintro rfl; simp at hlow
  have hfits : ¬8 ≤ flags.toNat := by omega
  have hgood : ¬(n = 0 || flags = 0 || 8 ≤ flags.toNat) = true := by simp [hn', hflags, hfits]
  simp only [amendmentOf]
  rw [if_neg hgood, amendedClearance_present hclear, amendedClass_present hcls, amendedLifetime_present hlife]
  rfl

/-- Settles O18: the request's present items are those of the amendment, and an absent clearance leaves the angle alone. -/
theorem amendReplacesThePresentItems : Obligations.AmendReplacesThePresentItems := by
  intro l n flags ch cl cls lh ll p angle s hr hm hn hlow hhigh hclear hcls hlife hfind hstate hper hangle amend
  let a := requestedAmendment n flags ch cl cls lh ll
  have ha : amendmentOf [n, flags, ch, cl, cls, lh, ll] = some a := amendmentOf_present hn hlow hhigh hclear hcls hlife
  obtain ⟨angle', hangle', hsame⟩ : ∃ angle', amendmentAngle s.conf a = some angle' ∧ ∀ q, amended a angle' q = amend q := by
    have hrest (angle' : Nat) (h : flags.getLsbD 0 = true → angle' = angle) (q : Passage) : amended a angle' q = amend q := by
      simp only [amended, withClearance, a, requestedAmendment, amend]
      generalize flags.getLsbD 0 = clearance at h ⊢
      generalize flags.getLsbD 1 = cls'
      generalize flags.getLsbD 2 = life
      cases clearance <;> cases cls' <;> cases life <;> simp [h]
    by_cases h0 : flags.getLsbD 0 = true
    · exact ⟨angle, by simp only [amendmentAngle, a, requestedAmendment, if_pos h0]; exact hangle h0, hrest angle fun _ => rfl⟩
    · exact ⟨0, by simp only [amendmentAngle, a, requestedAmendment, if_neg h0], hrest 0 fun h => absurd h h0⟩
  obtain ⟨hexec, hanswered⟩ := exec_accepted (c := .amendPassage l _) rfl rfl (by decide) hr rfl
    (takeAmend_waiting (s := takenIn l 0x11#8 s) (by simpa using hm) ha (by rw [takenIn_reg]; exact hfind) hper hstate
      (by rw [takenIn_conf]; exact hangle'))
  refine ⟨_, hexec, ?reg, hsame p ▸ hanswered, ?told, fun hne => ?own, ?sup, ?frame⟩
  case reg =>
    have hfun : amended a angle' = amend := funext hsame
    rw [putReply_reg, applyAmendment_reg, hfun, (findPassage_mem hfind).2, takenIn_reg]
    rfl
  case told =>
    rw [putReply_attention, applyAmendment, notifyOrigin_told]
    exact toldAttention_takenIn l 0x11#8 p s
  case own =>
    rw [putReply_attention, applyAmendment, notifyOrigin_attention_ne hne]
    exact takenIn_attention l 0x11#8 s l
  case sup => rw [putReply_sup, applyAmendment_sup, takenIn_sup]
  case frame =>
    refine putReply_frame_of_mem (fun q hq => ?_) (by cases l <;> simp [portPart])
    cases q <;> simp_all [Part.same, applyAmendment]

end Sys2Proof.Machine

/-! The normalised tag of a request (O16). -/

namespace Sys2Proof.Machine

open Sys2Proof

/-- An octet that a tag keeps (R7). -/
def tagKept (b : Byte) : Prop :=
  (0x41 ≤ b.toNat ∧ b.toNat ≤ 0x5A) ∨ (0x30 ≤ b.toNat ∧ b.toNat ≤ 0x39) ∨ b = 0x20#8 ∨ b = 0x2D#8 ∨ b = 0x2E#8

/-- A lower-case letter. -/
def tagLower (b : Byte) : Prop := 0x61 ≤ b.toNat ∧ b.toNat ≤ 0x7A

/-- An octet with its lower-case letter replaced (R7). -/
def tagUpper (b : Byte) : Byte := if 0x61 ≤ b.toNat ∧ b.toNat ≤ 0x7A then b - 0x20#8 else b

theorem not_tagLower_of_tagKept {b : Byte} (h : tagKept b) : ¬tagLower b := by
  rcases h with h | h | rfl | rfl | rfl
  · unfold tagLower; omega
  · unfold tagLower; omega
  all_goals simp [tagLower]

theorem tagUpper_of_tagKept {b : Byte} (h : tagKept b) : tagUpper b = b := if_neg (not_tagLower_of_tagKept h)

theorem tagUpper_of_tagLower {b : Byte} (h : tagLower b) : (tagUpper b).toNat = b.toNat - 0x20 := by
  obtain ⟨hlow, hhigh⟩ := h
  rw [tagUpper, if_pos ⟨hlow, hhigh⟩]
  bv_omega

theorem tagKept_tagUpper {b : Byte} (h : tagKept b ∨ tagLower b) : tagKept (tagUpper b) := by
  rcases h with h | h
  · rwa [tagUpper_of_tagKept h]
  · refine .inl ?_
    rw [tagUpper_of_tagLower h]
    obtain ⟨hlow, hhigh⟩ := h
    omega

theorem tagUpper_eq_space_iff {b : Byte} (h : tagKept b ∨ tagLower b) : tagUpper b = 0x20#8 ↔ b = 0x20#8 := by
  rcases h with h | h
  · rw [tagUpper_of_tagKept h]
  · have hupper := tagUpper_of_tagLower h
    obtain ⟨hlow, hhigh⟩ := h
    refine iff_of_false (fun heq => ?_) (fun heq => ?_)
    · rw [heq] at hupper
      have hspace : (0x20#8).toNat = 32 := rfl
      omega
    · rw [heq] at hlow
      exact absurd hlow (by decide)

theorem tagOctet_kept {b : Byte} (h : tagKept b ∨ tagLower b) : tagOctet b = some (tagUpper b) := by
  rcases h with h | h
  · rw [tagUpper_of_tagKept h]
    refine if_pos ?_
    simpa [tagKept, or_assoc] using h
  · have hnot : ¬tagKept b := fun hk => not_tagLower_of_tagKept hk h
    rw [tagOctet, if_neg (by simpa [tagKept, or_assoc] using hnot), if_pos (by simpa [tagLower] using h)]
    unfold tagUpper
    exact congrArg some (if_pos h).symm

theorem tagOctet_refused {b : Byte} (hk : ¬tagKept b) (hl : ¬tagLower b) : tagOctet b = none := by
  rw [tagOctet, if_neg (by simpa [tagKept, or_assoc] using hk), if_neg (by simpa [tagLower] using hl)]

theorem tagOctets_kept {bs : List Byte} (h : ∀ b ∈ bs, tagKept b ∨ tagLower b) : tagOctets bs = some (bs.map tagUpper) := by
  induction bs with
  | nil => rfl
  | cons b bs ih => simp [tagOctets, tagOctet_kept (h b (by simp)), ih fun c hc => h c (by simp [hc])]

theorem tagOctets_refused {bs : List Byte} {b : Byte} (hb : b ∈ bs) (hk : ¬tagKept b) (hl : ¬tagLower b) : tagOctets bs = none := by
  induction bs with
  | nil => simp at hb
  | cons c bs ih =>
    rcases List.mem_cons.mp hb with rfl | hmem
    · simp [tagOctets, tagOctet_refused hk hl]
    · rw [tagOctets, ih hmem]
      cases tagOctet c <;> rfl

theorem tagText_eq (bs : List Byte) : tagText bs = bs.takeWhile (fun b => b != 0x00#8) := by
  induction bs with
  | nil => rfl
  | cons b bs ih => by_cases hb : b = 0x00#8 <;> simp [tagText, hb, ih]

/-! ## Spaces at both ends -/

theorem dropSpaces_split (bs : List Byte) : ∃ k, bs = List.replicate k 0x20#8 ++ dropSpaces bs := by
  induction bs with
  | nil => exact ⟨0, rfl⟩
  | cons b bs ih =>
    by_cases hb : b = 0x20#8
    · obtain ⟨k, hk⟩ := ih
      refine ⟨k + 1, ?_⟩
      rw [dropSpaces, if_pos hb, List.replicate_succ, List.cons_append, ← hk, hb]
    · exact ⟨0, by simp [dropSpaces, hb]⟩

theorem dropSpaces_head (bs : List Byte) : (dropSpaces bs).head? ≠ some 0x20#8 := by
  induction bs with
  | nil => simp [dropSpaces]
  | cons b bs ih =>
    by_cases hb : b = 0x20#8
    · rwa [dropSpaces, if_pos hb]
    · simp [dropSpaces, hb]

theorem dropSpaces_of_head {bs : List Byte} (h : bs.head? ≠ some 0x20#8) : dropSpaces bs = bs := by
  cases bs with
  | nil => rfl
  | cons b bs => exact if_neg fun hb => h (by simp [hb])

theorem trimSpaces_split (bs : List Byte) :
    ∃ before after, bs = List.replicate before 0x20#8 ++ trimSpaces bs ++ List.replicate after 0x20#8 := by
  obtain ⟨before, hbefore⟩ := dropSpaces_split bs
  obtain ⟨after, hafter⟩ := dropSpaces_split (dropSpaces bs).reverse
  refine ⟨before, after, ?_⟩
  have hrest : dropSpaces bs = trimSpaces bs ++ List.replicate after 0x20#8 := by
    have hreversed := congrArg List.reverse hafter
    rwa [List.reverse_reverse, List.reverse_append, List.reverse_replicate] at hreversed
  rw [List.append_assoc, ← hrest]
  exact hbefore

theorem trimSpaces_last (bs : List Byte) : (trimSpaces bs).getLast? ≠ some 0x20#8 := by
  rw [trimSpaces, List.getLast?_reverse]
  exact dropSpaces_head _

theorem trimSpaces_head (bs : List Byte) : (trimSpaces bs).head? ≠ some 0x20#8 := by
  obtain ⟨after, hafter⟩ := dropSpaces_split (dropSpaces bs).reverse
  have hrest : dropSpaces bs = trimSpaces bs ++ List.replicate after 0x20#8 := by
    have hreversed := congrArg List.reverse hafter
    rwa [List.reverse_reverse, List.reverse_append, List.reverse_replicate] at hreversed
  have hhead := dropSpaces_head bs
  rw [hrest] at hhead
  cases htrim : trimSpaces bs with
  | nil => simp
  | cons b rest => simpa [htrim] using hhead

theorem trimSpaces_of_ends {bs : List Byte} (hhead : bs.head? ≠ some 0x20#8) (hlast : bs.getLast? ≠ some 0x20#8) :
    trimSpaces bs = bs := by
  rw [trimSpaces, dropSpaces_of_head hhead, dropSpaces_of_head (by rwa [List.head?_reverse]), List.reverse_reverse]

theorem trimSpaces_eq_nil_iff (bs : List Byte) : trimSpaces bs = [] ↔ ∀ b ∈ bs, b = 0x20#8 := by
  constructor
  · intro h b hb
    obtain ⟨before, after, hsplit⟩ := trimSpaces_split bs
    rw [hsplit, h] at hb
    simp at hb
    tauto
  · intro h
    by_contra hne
    obtain ⟨before, after, hsplit⟩ := trimSpaces_split bs
    obtain ⟨b, rest, htrim⟩ := List.exists_cons_of_ne_nil hne
    refine trimSpaces_head bs ?_
    rw [htrim, List.head?_cons, h b (by rw [hsplit, htrim]; simp)]

/-! ## Normal tags -/

theorem normaliseTag_of_tagOctets {bs cs : List Byte} (h : tagOctets (tagText bs) = some cs) :
    normaliseTag bs = if trimSpaces cs = [] then none else some (trimSpaces cs) := by
  simp only [normaliseTag, h]

theorem normaliseTag_of_normal {tag : List Byte} (hne : tag ≠ []) (hhead : tag.head? ≠ some 0x20#8)
    (hlast : tag.getLast? ≠ some 0x20#8) (hkept : ∀ b ∈ tag, tagKept b) : normaliseTag tag = some tag := by
  have htext : tagText tag = tag := by
    rw [tagText_eq, List.takeWhile_eq_self_iff]
    rintro b hb
    have := hkept b hb
    by_contra hzero
    obtain rfl : b = 0x00#8 := by simpa using hzero
    simp [tagKept] at this
  have hupper : tag.map tagUpper = tag :=
    (List.map_congr_left fun b hb => tagUpper_of_tagKept (hkept b hb)).trans (List.map_id' tag)
  have hoctets : tagOctets (tagText tag) = some tag := by
    rw [htext, tagOctets_kept fun b hb => .inl (hkept b hb), hupper]
  rw [normaliseTag_of_tagOctets hoctets, trimSpaces_of_ends hhead hlast, if_neg hne]

/-- Settles O16: the octets of the text are taken one by one, and the taken ones trimmed. -/
theorem normalisedTagsAreNormal : Obligations.NormalisedTagsAreNormal := by
  intro bs text kept upper
  have htext : tagText bs = text := tagText_eq bs
  by_cases hbad : ∃ b ∈ text, ¬tagKept b ∧ ¬tagLower b
  · have hnone : normaliseTag bs = none := by
      obtain ⟨b, hb, hk, hl⟩ := hbad
      simp only [normaliseTag, htext, tagOctets_refused hb hk hl]
    exact ⟨iff_of_true hnone (.inl hbad), fun tag htag => by simp [hnone] at htag⟩
  have hgood : ∀ b ∈ text, tagKept b ∨ tagLower b := fun b hb => by
    by_contra hrefused
    exact hbad ⟨b, hb, not_or.mp hrefused⟩
  have hnormal : normaliseTag bs = if trimSpaces (text.map tagUpper) = [] then none else some (trimSpaces (text.map tagUpper)) :=
    normaliseTag_of_tagOctets (by rw [htext, tagOctets_kept hgood])
  have hspaces : trimSpaces (text.map tagUpper) = [] ↔ ∀ b ∈ text, b = 0x20#8 := by
    rw [trimSpaces_eq_nil_iff, List.forall_mem_map]
    exact forall₂_congr fun b hb => tagUpper_eq_space_iff (hgood b hb)
  refine ⟨?none, fun tag htag => ?some⟩
  case none =>
    rw [hnormal, ← hspaces]
    split
    next h => exact iff_of_true rfl (.inr h)
    next h => exact iff_of_false (by simp) (not_or.mpr ⟨hbad, h⟩)
  case some =>
    obtain ⟨hne, rfl⟩ : trimSpaces (text.map tagUpper) ≠ [] ∧ trimSpaces (text.map tagUpper) = tag := by
      rw [hnormal] at htag
      split at htag
      · simp at htag
      next h => exact ⟨h, Option.some.inj htag⟩
    obtain ⟨before, after, hsplit⟩ := trimSpaces_split (text.map tagUpper)
    have hkept : ∀ b ∈ trimSpaces (text.map tagUpper), tagKept b := by
      intro b hb
      have hmem : b ∈ text.map tagUpper := by rw [hsplit]; simp [hb]
      obtain ⟨c, hc, rfl⟩ := List.mem_map.mp hmem
      exact tagKept_tagUpper (hgood c hc)
    have hlength : (trimSpaces (text.map tagUpper)).length ≤ bs.length := by
      have hlen := congrArg List.length hsplit
      have htake : text.length ≤ bs.length := (List.takeWhile_sublist _).length_le
      simp only [List.length_map, List.length_append] at hlen
      omega
    exact ⟨⟨before, after, hsplit⟩, hne, hlength, trimSpaces_head _, trimSpaces_last _, hkept,
      normaliseTag_of_normal hne (trimSpaces_head _) (trimSpaces_last _) hkept⟩

end Sys2Proof.Machine

/-!
The layer of the road: what a commanded arm, a changed closure state, a hold and a reopening do (R109, R121, R123, R126).
-/

namespace Sys2Proof.Machine

open Sys2Proof

variable {s t : State} {a b : ArmId} {p : ArmPosition} {arms : List ArmId} {q : Bool} {st : ClosureState}

/-! ## Frames of the single replacements -/

theorem withClosure_frame (c : Closure) (s : State) : unchangedBut [.closure] s (s.withClosure c) := by
  intro x hx; cases x <;> simp_all [Part.same]

theorem withArms_frame (v : Vector Arm 8) (s : State) : unchangedBut [.arms] s (s.withArms v) := by
  intro x hx; cases x <;> simp_all [Part.same]

theorem withLeaf_frame (m : LeafMotion) (s : State) : unchangedBut [.leaf] s (s.withLeaf m) := by
  intro x hx; cases x <;> simp_all [Part.same]

theorem withReg_frame (r : Register) (s : State) : unchangedBut [.reg] s (s.withReg r) := by
  intro x hx; cases x <;> simp_all [Part.same]

theorem setOpening_frame (o : Option Opening) (s : State) : unchangedBut [.seq] s (setOpening o s) := by
  intro x hx; cases x <;> simp_all [Part.same]

theorem raiseControl_frame (c : AttentionCause) (s : State) : unchangedBut [.controlPort] s (raiseAttention .control c s) :=
  updatePort_frame .control _ s

theorem unchangedBut_refl (changed : List Part) (s : State) : unchangedBut changed s s := by
  intro x _; cases x <;> rfl

/-! ## Arm and station records (R108, R109) -/

theorem armIndex_injective : Function.Injective armIndex := by
  intro a b h
  revert h
  cases a <;> cases b <;> decide

theorem arm_withArms (v : Vector Arm 8) (s : State) (a : ArmId) : (s.withArms v).arm a = v[armIndex a] := rfl

theorem updateArm_arm (a : ArmId) (f : Arm → Arm) (s : State) (b : ArmId) :
    (updateArm a f s).arm b = if b = a then f (s.arm a) else s.arm b := by
  split
  next h => subst h; exact tabModify_self _ _ _
  next h => exact tabModify_ne _ _ _ _ fun hi => h (armIndex_injective hi)

theorem updateStation_station (a : ArmId) (f : Station → Station) (s : State) (b : ArmId) :
    (updateStation a f s).station b = if b = a then f (s.station a) else s.station b := by
  split
  next h => subst h; exact tabModify_self _ _ _
  next h => exact tabModify_ne _ _ _ _ fun hi => h (armIndex_injective hi)

theorem arm_congr (h : t.arms = s.arms) (a : ArmId) : t.arm a = s.arm a := by rw [State.arm, State.arm, h]

theorem station_congr (h : t.stations = s.stations) (a : ArmId) : t.station a = s.station a := by
  rw [State.station, State.station, h]

theorem hasEntryArms_congr (h : t.arms = s.arms) : hasEntryArms t = hasEntryArms s := by
  simp only [hasEntryArms, arm_congr h]

theorem hasExitArms_congr (h : t.arms = s.arms) : hasExitArms t = hasExitArms s := by
  simp only [hasExitArms, arm_congr h]

theorem armsAt_congr (h : t.arms = s.arms) (p : ArmPosition) (arms : List ArmId) : armsAt p arms t = armsAt p arms s := by
  simp only [armsAt, arm_congr h]

theorem arms_mapped (f : Arm → Arm) (s : State) (a : ArmId) : (s.withArms (tabMap f s.arms)).arm a = f (s.arm a) := by
  simp [State.arm, tabMap]

/-- An arm record as it is commanded (R109). -/
def armCommanded (p : ArmPosition) (r : Arm) : Arm :=
  { r with commanded := some p, acknowledged := false, reportedSince := false, travelTimer := some 0 }

/-- The position may be commanded: UP only while the leaf group is down (R119). -/
def mayCommand (p : ArmPosition) (s : State) : Prop := p = .up → raiseAllowed s = true

theorem mayCommand_down (s : State) : mayCommand .down s := fun h => by cases h

theorem commandArm_eq (h : mayCommand p s) (a : ArmId) :
    commandArm p a s = writeSlot a (commandFor p) (updateArm a (armCommanded p) s) := by
  refine if_neg ?_
  cases p
  · simp [h rfl]
  · simp

theorem commandArm_of_not_allowed (h : raiseAllowed s = false) (a : ArmId) : commandArm .up a s = s :=
  if_pos (by simp [h])

theorem commandArm_arm (h : mayCommand p s) (a b : ArmId) :
    (commandArm p a s).arm b = if b = a then armCommanded p (s.arm a) else s.arm b := by
  rw [commandArm_eq h, arm_congr (writeSlot_arms ..), updateArm_arm]

theorem commandArm_slot (h : mayCommand p s) (a : ArmId) : ((commandArm p a s).station a).slot = some (commandFor p) := by
  rw [commandArm_eq h, writeSlot, updateStation_station, if_pos rfl]

theorem commandArm_station_ne (h : mayCommand p s) (hne : b ≠ a) : (commandArm p a s).station b = s.station b := by
  rw [commandArm_eq h, writeSlot, updateStation_station, if_neg hne, station_congr (updateArm_stations ..)]

theorem commandArm_frame (p : ArmPosition) (a : ArmId) (s : State) : unchangedBut [.arms, .stations] s (commandArm p a s) := by
  rcases commandArm_cases p a s with ⟨h, _, _⟩ | ⟨_, h⟩
  · rw [h]; intro q _; cases q <;> rfl
  · exact h

theorem mayCommand_congr (h : t.leaf = s.leaf) : mayCommand p t ↔ mayCommand p s := by simp only [mayCommand, raiseAllowed, h]

/-- One step of `commandEach`. -/
def commandInService (p : ArmPosition) (s : State) (a : ArmId) : State :=
  if (s.arm a).inService then commandArm p a s else s

theorem commandEach_cons (p : ArmPosition) (a : ArmId) (arms : List ArmId) (s : State) :
    commandEach p (a :: arms) s = commandEach p arms (commandInService p s a) := rfl

theorem commandInService_leaf (p : ArmPosition) (s : State) (a : ArmId) : (commandInService p s a).leaf = s.leaf := by
  unfold commandInService; split <;> simp

theorem commandInService_arm (h : mayCommand p s) (a b : ArmId) :
    (commandInService p s a).arm b = if b = a ∧ (s.arm b).inService = true then armCommanded p (s.arm b) else s.arm b := by
  unfold commandInService
  by_cases hb : b = a
  · subst hb
    split
    next hin => simp [commandArm_arm h, hin]
    next hin => simp [hin]
  · split
    next => simp [commandArm_arm h, hb]
    next => simp [hb]

theorem commandInService_station (h : mayCommand p s) (a b : ArmId) :
    if b = a ∧ (s.arm b).inService = true then ((commandInService p s a).station b).slot = some (commandFor p)
    else (commandInService p s a).station b = s.station b := by
  unfold commandInService
  split
  next hb =>
    obtain ⟨rfl, hin⟩ := hb
    rw [if_pos hin, commandArm_slot h]
  next hb =>
    split
    next hin => exact commandArm_station_ne h fun heq => hb ⟨heq, heq ▸ hin⟩
    next => rfl

theorem armCommanded_twice (p : ArmPosition) (r : Arm) : armCommanded p (armCommanded p r) = armCommanded p r := rfl

/-- The in-service arms of a list commanded one after another: being commanded twice is being commanded once (R109). -/
theorem commandEach_arm (h : mayCommand p s) (arms : List ArmId) (b : ArmId) : (commandEach p arms s).arm b =
    if b ∈ arms ∧ (s.arm b).inService = true then armCommanded p (s.arm b) else s.arm b := by
  induction arms generalizing s with
  | nil => simp [commandEach]
  | cons a arms ih =>
    have hrest := ih ((mayCommand_congr (commandInService_leaf p s a)).mpr h)
    have hfirst := commandInService_arm h a b
    rw [commandEach_cons, hrest, hfirst]
    by_cases hb : b = a ∧ (s.arm b).inService = true
    · have hmem : b ∈ a :: arms ∧ (s.arm b).inService = true := ⟨by simp [hb.1], hb.2⟩
      rw [if_pos hb, if_pos hmem, armCommanded_twice, ite_self]
    · rw [if_neg hb]
      have hiff : b ∈ a :: arms ∧ (s.arm b).inService = true ↔ b ∈ arms ∧ (s.arm b).inService = true := by
        rw [List.mem_cons]; tauto
      simp only [hiff]

theorem commandEach_station (h : mayCommand p s) (arms : List ArmId) (b : ArmId) :
    if b ∈ arms ∧ (s.arm b).inService = true then ((commandEach p arms s).station b).slot = some (commandFor p)
    else (commandEach p arms s).station b = s.station b := by
  induction arms generalizing s with
  | nil => simp [commandEach]
  | cons a arms ih =>
    have hrest := ih ((mayCommand_congr (commandInService_leaf p s a)).mpr h)
    have hfirst := commandInService_station h a b
    have hservice : ((commandInService p s a).arm b).inService = (s.arm b).inService := by
      rw [commandInService_arm h]; split <;> rfl
    rw [hservice] at hrest
    rw [commandEach_cons]
    by_cases hmem : b ∈ arms ∧ (s.arm b).inService = true
    · rw [if_pos hmem] at hrest
      rwa [if_pos ⟨by simp [hmem.1], hmem.2⟩]
    · rw [if_neg hmem] at hrest
      rw [hrest]
      have hiff : b ∈ a :: arms ∧ (s.arm b).inService = true ↔ b = a ∧ (s.arm b).inService = true := by
        rw [List.mem_cons]; tauto
      simp only [hiff]
      exact hfirst

theorem commandEach_only (h : mayCommand p s) (arms : List ArmId) : commandedOnly p arms s (commandEach p arms s) := by
  intro a
  have harm := commandEach_arm h arms a
  have hstation := commandEach_station h arms a
  split
  next hmem =>
    rw [if_pos hmem] at harm hstation
    rw [commandedNow, harm]
    exact ⟨rfl, rfl, rfl, hstation⟩
  next hmem =>
    rw [if_neg hmem] at harm hstation
    exact ⟨harm, hstation⟩

theorem commandEach_frame (p : ArmPosition) (arms : List ArmId) (s : State) :
    unchangedBut [.arms, .stations] s (commandEach p arms s) := by
  intro q hq
  cases q <;> simp_all [Part.same]

theorem commandEach_of_not_allowed (h : raiseAllowed s = false) (arms : List ArmId) : commandEach .up arms s = s := by
  induction arms with
  | nil => rfl
  | cons a arms ih =>
    rw [commandEach_cons]
    have hstep : commandInService .up s a = s := by unfold commandInService; split <;> simp [commandArm_of_not_allowed h]
    rw [hstep, ih]

theorem commandedNow_congr (harm : t.arm a = s.arm a) (hstation : t.station a = s.station a) :
    commandedNow p a t ↔ commandedNow p a s := by simp only [commandedNow, harm, hstation]

theorem armInPosition_commanded (p : ArmPosition) (r : Arm) : armInPosition (armCommanded p r) = false := by
  simp [armInPosition, armCommanded]

theorem not_armsAt_commanded {x : ArmPosition} (h : mayCommand p s) (hmem : a ∈ arms) (hin : (s.arm a).inService = true) :
    armsAt x arms (commandEach p arms s) = false := by
  rw [armsAt, List.all_eq_false]
  refine ⟨a, hmem, ?_⟩
  rw [commandEach_arm h, if_pos ⟨hmem, hin⟩]
  have hservice : (armCommanded p (s.arm a)).inService = true := hin
  simp [armIsAt, armInPosition_commanded, hservice]

theorem mem_ringOrder (a : ArmId) : a ∈ ringOrder := by cases a <;> decide

/-! ## The closure state (R126, R127, R181) -/

theorem setClosureState_quiet_links (st : ClosureState) (s : State) : (setClosureState true st s).links = s.links := by
  rw [setClosureState_links]; rfl

theorem setClosureState_loud_links (h : s.closure.state ≠ st) :
    (setClosureState false st s).links = (raiseAttention .control .closure s).links := by
  rw [setClosureState_links]; simp [raiseControlIf, h]

theorem setClosureState_sup (h : (s.closure.state = .closureHeld) ↔ (st = .closureHeld)) :
    (setClosureState q st s).sup = s.sup := by
  have heq : (s.closure.state == .closureHeld) = (st == .closureHeld) := by
    rw [Bool.eq_iff_iff, beq_iff_eq, beq_iff_eq]; exact h
  simp [setClosureState, heq]

theorem setClosureState_frame (q : Bool) (st : ClosureState) (s : State) :
    unchangedBut [.controlPort, .closure, .lamp, .display, .sup] s (setClosureState q st s) := by
  intro x hx
  cases x
  case harbourPort =>
    simp only [Part.same, setClosureState_links, raiseControlIf]
    split <;> rfl
  all_goals simp_all [Part.same]

theorem setClosureState_unheld_frame (h : (s.closure.state = .closureHeld) ↔ (st = .closureHeld)) (q : Bool) :
    unchangedBut [.controlPort, .closure, .lamp, .display] s (setClosureState q st s) := by
  intro x hx
  cases x
  case sup => exact setClosureState_sup h
  case harbourPort => exact setClosureState_frame q st s .harbourPort (by decide)
  all_goals simp_all [Part.same]

theorem setClosureState_quiet_frame (h : (s.closure.state = .closureHeld) ↔ (st = .closureHeld)) :
    unchangedBut [.closure, .lamp, .display] s (setClosureState true st s) := by
  intro x hx
  cases x
  case sup => exact setClosureState_sup h
  case controlPort => simp only [Part.same, setClosureState_quiet_links]
  case harbourPort => simp only [Part.same, setClosureState_quiet_links]
  all_goals simp_all [Part.same]

/-! ## Holds (R123) -/

theorem raiseAttention_control_links (c : AttentionCause) (s : State) : (raiseAttention .control c s).links =
    { s.links with control :=
      { s.links.control with attention := ⟨true, s.links.control.attention.causes.add c⟩ } } := rfl

/-- The records of a hold before the closure enters CLOSURE_HELD (R123). -/
def holdFields (cause : HeldCause) (heldIn : ClosureState) (s : State) : State :=
  (s.withClosure { s.closure with
    heldCause := some cause, heldIn := some heldIn, phaseTimer := none, clearDwell := .stopped }).withArms
    (tabMap (fun a => { a with travelTimer := none, retryDwell := none }) s.arms)

theorem holdWith_eq (cause : HeldCause) (heldIn : ClosureState) (s : State) :
    holdWith cause heldIn s = setClosureState false .closureHeld (holdFields cause heldIn s) := rfl

theorem holdWith_frame (cause : HeldCause) (heldIn : ClosureState) (s : State) :
    unchangedBut [.controlPort, .closure, .arms, .lamp, .display, .sup] s (holdWith cause heldIn s) :=
  unchangedBut_trans (t := holdFields cause heldIn s) (fun x hx => by cases x <;> simp_all [Part.same, holdFields])
    (unchangedBut_mono (by simp) (setClosureState_frame false .closureHeld (holdFields cause heldIn s)))

theorem holdWith_arm (cause : HeldCause) (heldIn : ClosureState) (s : State) (a : ArmId) :
    (holdWith cause heldIn s).arm a = { s.arm a with travelTimer := none, retryDwell := none } := by
  rw [holdWith_eq, arm_congr (setClosureState_arms ..)]
  exact arms_mapped _ s a

theorem holdWith_held {cause : HeldCause} {heldIn : ClosureState} (h : s.closure.state ≠ .closureHeld) :
    heldNow cause heldIn s (holdWith cause heldIn s) := by
  have hlinks : (holdWith cause heldIn s).links = (raiseAttention .control .closure s).links :=
    setClosureState_loud_links (by simpa using h)
  refine ⟨?closure, fun b => by rw [holdWith_arm]; exact ⟨rfl, rfl⟩, ?sup, by simp [holdWith, roadLightOf], ?raised, ?cause⟩
  case closure => simp [holdWith]
  case sup =>
    rw [holdWith, setClosureState_closureHeld]
    simp [h]
  case raised => rw [hlinks, raiseAttention_control_links]
  case cause => rw [hlinks, raiseAttention_control_links]; rfl

theorem holdClosure_held {cause : HeldCause} (h : s.closure.state.holdable = true) :
    holdClosure cause s = holdWith cause s.closure.state s := if_pos h

theorem holdClosure_of_not_holdable {cause : HeldCause} (h : s.closure.state.holdable = false) : holdClosure cause s = s :=
  if_neg (by simp [h])

/-! ## Standing conditions (R111) -/

theorem lostArms_eq_nil (h : noStandingFault s) : lostArms s = [] := by
  rw [lostArms, List.filter_eq_nil_iff]
  intro a _
  by_cases hin : (s.arm a).inService = true
  · simp [(h a hin).1]
  · simp [hin]

theorem localArms_eq_nil (h : noStandingFault s) : localArms s = [] := by
  rw [localArms, List.filter_eq_nil_iff]
  intro a _
  by_cases hin : (s.arm a).inService = true
  · simp [(h a hin).2]
  · simp [hin]

theorem standingCheck_clear (h : noStandingFault s) : standingCheck s = s := by
  simp [standingCheck, lostArms_eq_nil h, localArms_eq_nil h]

theorem noStandingFault_of_arms (h : noStandingFault s) (harm : ∀ a, (t.arm a).inService = (s.arm a).inService
    ∧ (t.arm a).lost = (s.arm a).lost ∧ (t.arm a).reported = (s.arm a).reported) : noStandingFault t := by
  intro a hin
  obtain ⟨hi, hl, hr⟩ := harm a
  rw [hl, hr]
  exact h a (hi ▸ hin)

end Sys2Proof.Machine

/-!
The reopening of the road, and the requests and timers of the prewarning and of the span (O43, O44).
-/

namespace Sys2Proof.Machine

open Sys2Proof

variable {s t u v : State} {l : Link} {kind : Byte} {body : List Byte} {a : ArmId} {p : ArmPosition} {arms : List ArmId} {q : Bool}
  {st : ClosureState}

/-! ## A request that changes records and answers with its own line standing -/

@[simp] theorem takenIn_arms (l : Link) (kind : Byte) (s : State) : (takenIn l kind s).arms = s.arms := by simp [takenIn]
@[simp] theorem takenIn_stations (l : Link) (kind : Byte) (s : State) : (takenIn l kind s).stations = s.stations := by
  simp [takenIn]
@[simp] theorem takenIn_display (l : Link) (kind : Byte) (s : State) : (takenIn l kind s).display = s.display := by
  simp [takenIn]
@[simp] theorem takenIn_lamp (l : Link) (kind : Byte) (s : State) : (takenIn l kind s).lamp = s.lamp := by simp [takenIn]

theorem exec_only {c : Instr} {r : KindRow} {b : List Byte} {changed : List Part} (hreq : requestOf c = some (l, kind, body))
    (hrow : kindRow l kind = some r) (hr : readyFor l s) (hc : (r.controlOnly && l == .harbour) = false)
    (htake : r.take body (takenIn l kind s) = accept b t) (hlinks : t.links = (takenIn l kind s).links)
    (hsup : t.sup = (takenIn l kind s).sup) (hframe : unchangedBut changed (takenIn l kind s) t) :
    exec c s = .next (putReply l kind .ok b t) ∧ onlyAnswered l kind .ok b changed s (putReply l kind .ok b t) := by
  obtain ⟨r', hrow', hexec⟩ := exec_request c l kind body s hreq
  obtain rfl := Option.some.inj (hrow.symm.trans hrow')
  exact ⟨by rw [hexec, portRequest_answers hr hc htake], onlyAnswered_putReply hr hlinks hsup hframe⟩

theorem commandedOnly_congr (hs : u.arms = s.arms ∧ u.stations = s.stations) (ht : v.arms = t.arms ∧ v.stations = t.stations)
    (h : commandedOnly p arms s t) : commandedOnly p arms u v := by
  intro a
  have := h a
  rw [arm_congr hs.1, station_congr hs.2, arm_congr ht.1, station_congr ht.2, commandedNow_congr (arm_congr ht.1 a)
    (station_congr ht.2 a)]
  exact this

/-! ## The prewarning left (R115) -/

theorem testWarning_stays (h : ¬(s.closure.state = .prewarnRed ∧ warningPassed s.closure = true)) (q : Bool) :
    testWarning q s = s := if_neg h

theorem testWarning_lowers (h : s.closure.state = .prewarnRed ∧ warningPassed s.closure = true) (harms : hasEntryArms s = true)
    (q : Bool) : testWarning q s = commandEach .down entryArms (setClosureState q .entryLowering s) := by
  rw [testWarning, if_pos h, if_pos harms]

theorem testWarning_holds (h : s.closure.state = .prewarnRed ∧ warningPassed s.closure = true) (harms : hasEntryArms s = false)
    (q : Bool) : testWarning q s = holdWith .noEntryArm .entryLowering s := by
  rw [testWarning, if_pos h, if_neg (by simp [harms])]

/-- The arms of a group commanded as the closure enters a lowering. -/
theorem commandedOnly_entered (st : ClosureState) (q : Bool) (arms : List ArmId) (s : State) :
    commandedOnly .down arms s (commandEach .down arms (setClosureState q st s)) :=
  commandedOnly_congr ⟨by simp, by simp⟩ ⟨rfl, rfl⟩ (commandEach_only (mayCommand_down (setClosureState q st s)) arms)

theorem loweringEntered_frame (q : Bool) (arms : List ArmId) (hheld : (s.closure.state = .closureHeld) ↔ (st = .closureHeld)) :
    unchangedBut [.controlPort, .closure, .arms, .stations, .lamp, .display] s
      (commandEach .down arms (setClosureState q st s)) :=
  unchangedBut_trans (unchangedBut_mono (by simp) (setClosureState_unheld_frame hheld q))
    (unchangedBut_mono (by simp) (commandEach_frame _ _ _))

theorem loweringEntered_quiet_frame (arms : List ArmId) (hheld : (s.closure.state = .closureHeld) ↔ (st = .closureHeld)) :
    unchangedBut [.closure, .arms, .stations, .lamp, .display] s (commandEach .down arms (setClosureState true st s)) :=
  unchangedBut_trans (unchangedBut_mono (by simp) (setClosureState_quiet_frame hheld))
    (unchangedBut_mono (by simp) (commandEach_frame _ _ _))

theorem phaseExpired_amber {ms : Nat} (hms : s.closure.phaseTimer = some ms) (hst : s.closure.state = .prewarnAmber) :
    phaseExpired s = setClosureState false .prewarnRed (s.withClosure { s.closure with
      redSeen := .none, redTimeExpired := false, phaseTimer := some (s.conf.redMinimum * 1000) }) := by
  unfold phaseExpired
  split
  next h => simp [hms] at h
  next =>
    split
    next => rfl
    all_goals simp_all

theorem phaseExpired_red {ms : Nat} (hms : s.closure.phaseTimer = some ms) (hst : s.closure.state = .prewarnRed) :
    phaseExpired s =
      (let t := testWarning false (s.withClosure { s.closure with redTimeExpired := true, phaseTimer := none })
       raiseControlIf (t.closure.state == .prewarnRed) .closure t) := by
  unfold phaseExpired
  split
  next h => simp [hms] at h
  next =>
    split
    next h => simp [hst] at h
    next => rfl
    all_goals simp_all

/-- Settles O43: the phase timer's two states, and the override by whether the warning lets the closure leave PREWARN_RED. -/
theorem warningBeforeTheArms : Obligations.WarningBeforeTheArms := by
  intro s lowered
  refine ⟨fun ms hms hst => ?amber, fun ms hms hst => ?red, fun hr hm hst => ?noted, fun hr hm hst hred harms => ?taken⟩
  case amber =>
    let r := s.withClosure { s.closure with redSeen := .none, redTimeExpired := false, phaseTimer := some (s.conf.redMinimum * 1000) }
    have hexec : exec .phaseTimerExpiry s = .next (setClosureState false .prewarnRed r) :=
      congrArg Host.Outcome.next (phaseExpired_amber hms hst)
    have hlinks : (setClosureState false .prewarnRed r).links = (raiseAttention .control .closure s).links :=
      setClosureState_loud_links (by simp [r, hst])
    refine ⟨_, hexec, by simp [r], by simp [roadLightOf], by rw [hlinks]; rfl, ?_⟩
    exact unchangedBut_trans (unchangedBut_mono (by simp) (withClosure_frame _ s : unchangedBut [.closure] s r))
      (setClosureState_unheld_frame (by simp [r, hst]) false)
  case red =>
    intro passed
    let r := s.withClosure { s.closure with redTimeExpired := true, phaseTimer := none }
    have hexec : exec .phaseTimerExpiry s =
        .next (raiseControlIf ((testWarning false r).closure.state == .prewarnRed) .closure (testWarning false r)) :=
      congrArg Host.Outcome.next (phaseExpired_red hms hst)
    have hpassed : (r.closure.state = .prewarnRed ∧ warningPassed r.closure = true) ↔ passed := by
      simp [r, hst, warningPassed, passed, westProven, eastProven]
    by_cases hp : passed
    · cases harms : hasEntryArms s with
      | true =>
        have hlower : testWarning false r = commandEach .down entryArms (setClosureState false .entryLowering r) :=
          testWarning_lowers (hpassed.mpr hp) ((hasEntryArms_congr rfl).trans harms) false
        have hend : exec .phaseTimerExpiry s = .next (commandEach .down entryArms (setClosureState false .entryLowering r)) := by
          rw [hexec, hlower]
          simp [raiseControlIf]
        have hlinks : (commandEach .down entryArms (setClosureState false .entryLowering r)).links =
            (raiseAttention .control .closure s).links := by
          rw [commandEach_links, setClosureState_loud_links (by simp [r, hst])]
          rfl
        refine ⟨_, hend, by rw [hlinks]; rfl, fun h => absurd hp h, fun _ _ => ⟨by simp [r], ⟨?_, by simp [roadLightOf]⟩, ?_⟩,
          fun _ h => by simp at h⟩
        · exact commandedOnly_congr ⟨rfl, rfl⟩ ⟨rfl, rfl⟩ (commandedOnly_entered .entryLowering false entryArms r)
        · refine unchangedBut_trans (unchangedBut_mono (by simp) (withClosure_frame _ s : unchangedBut [.closure] s r)) ?_
          exact loweringEntered_frame false entryArms (by simp [r, hst])
      | false =>
        have hhold : testWarning false r = holdWith .noEntryArm .entryLowering r :=
          testWarning_holds (hpassed.mpr hp) ((hasEntryArms_congr rfl).trans harms) false
        have hend : exec .phaseTimerExpiry s = .next (holdWith .noEntryArm .entryLowering r) := by
          rw [hexec, hhold]
          simp [raiseControlIf, holdWith]
        obtain ⟨hclosure, _, hsup, _⟩ := holdWith_held (cause := .noEntryArm) (heldIn := .entryLowering) (s := r) (by simp [r, hst])
        have hlinks : (holdWith .noEntryArm .entryLowering r).links = (raiseAttention .control .closure s).links :=
          setClosureState_loud_links (by simp [r, hst])
        refine ⟨_, hend, by rw [hlinks]; rfl, fun h => absurd hp h, fun _ h => by simp at h, fun _ _ => ⟨by rw [hclosure], by rw [hclosure],
          by rw [hclosure], fun a => ?_, hsup⟩⟩
        rw [holdWith_arm]
        rfl
    · have hstay : testWarning false r = r := testWarning_stays (fun h => hp (hpassed.mp h)) false
      have hend : exec .phaseTimerExpiry s = .next (raiseAttention .control .closure r) := by
        rw [hexec, hstay]
        simp [raiseControlIf, r, hst]
      refine ⟨_, hend, rfl, fun _ => ⟨rfl, ?_⟩, fun h => absurd h hp, fun h => absurd h hp⟩
      exact unchangedBut_trans (unchangedBut_mono (by simp) (withClosure_frame _ s : unchangedBut [.closure] s r))
        (unchangedBut_mono (by simp) (raiseControl_frame .closure r))
  case noted =>
    let r := (takenIn .control 0x31#8 s).withClosure { s.closure with override := true }
    have hstay : testWarning true r = r := testWarning_stays (by
      rcases hst with h | ⟨h, he⟩ | ⟨h, _⟩ <;> simp [r, h, warningPassed]
      exact he) true
    have htake : takeWarningOverride [] (takenIn .control 0x31#8 s) = accept [] r := by
      have hallowed : overrideAllowed s.closure = true := by
        rcases hst with h | ⟨h, _⟩ | ⟨h, hin⟩
        · simp [overrideAllowed, h]
        · simp [overrideAllowed, h]
        · rcases hin with hin | hin <;> simp [overrideAllowed, h, hin]
      rw [← hstay]
      simp [takeWarningOverride, attended, hm, hallowed, takeOverride, r]
    obtain ⟨hexec, honly⟩ := exec_only (changed := [.closure]) (c := .warningOverride .control []) rfl rfl hr rfl htake rfl rfl
      (withClosure_frame _ _)
    exact ⟨_, hexec, by simp [r], honly⟩
  case taken =>
    let r := (takenIn .control 0x31#8 s).withClosure { s.closure with override := true }
    have hlower : testWarning true r = commandEach .down entryArms (setClosureState true .entryLowering r) :=
      testWarning_lowers (by simp [r, hst, warningPassed, hred]) ((hasEntryArms_congr (by simp [r])).trans harms) true
    have htake : takeWarningOverride [] (takenIn .control 0x31#8 s) =
        accept [] (commandEach .down entryArms (setClosureState true .entryLowering r)) := by
      rw [← hlower]
      simp [takeWarningOverride, attended, hm, overrideAllowed, hst, takeOverride, r]
    have hframe : unchangedBut [.closure, .arms, .stations, .lamp, .display] (takenIn .control 0x31#8 s)
        (commandEach .down entryArms (setClosureState true .entryLowering r)) := by
      refine unchangedBut_trans (unchangedBut_mono (by simp) (withClosure_frame _ _ : unchangedBut [.closure] _ r)) ?_
      exact loweringEntered_quiet_frame entryArms (by simp [r, hst])
    obtain ⟨hexec, honly⟩ := exec_only (c := .warningOverride .control []) rfl rfl hr rfl htake
      (by simp [setClosureState_quiet_links, r])
      (by rw [commandEach_sup, setClosureState_sup (by simp [r, hst])]; rfl) hframe
    refine ⟨_, hexec, by simp [r], ⟨?_, by simp [roadLightOf]⟩, honly⟩
    exact commandedOnly_congr ⟨by simp [r], by simp [r]⟩ ⟨by simp, by simp⟩ (commandedOnly_entered .entryLowering true entryArms r)

/-! ## The groups evaluated, by the closure state (R117 to R119) -/

theorem evaluateGroups_entryLowering (h : s.closure.state = .entryLowering) (q : Bool) : evaluateGroups q s =
    if !hasEntryArms s then holdClosure .noEntryArm s
    else if armsAt .down entryArms s then enterSpanClearing q s else s := by simp only [evaluateGroups, h]

theorem evaluateGroups_spanClearing (h : s.closure.state = .spanClearing) (q : Bool) : evaluateGroups q s =
    if !hasEntryArms s then holdClosure .noEntryArm s
    else if spanProvedClear s then enterExitLowering q s else s := by simp only [evaluateGroups, h]

theorem evaluateGroups_exitLowering (h : s.closure.state = .exitLowering) (q : Bool) : evaluateGroups q s =
    if !hasEntryArms s then holdClosure .noEntryArm s
    else if !hasExitArms s then holdClosure .noExitArm s
    else if armsAt .down ringOrder s then enterRoadClosed q s else s := by simp only [evaluateGroups, h]

theorem evaluateGroups_roadReopening (h : s.closure.state = .roadReopening) (q : Bool) :
    evaluateGroups q s = finishReopening q s := by simp only [evaluateGroups, h]

/-- The states in which the groups are awaited (R117 to R121). -/
def awaitsGroups (st : ClosureState) : Prop :=
  st = .entryLowering ∨ st = .spanClearing ∨ st = .exitLowering ∨ st = .roadReopening

theorem evaluateGroups_other (h : ¬awaitsGroups s.closure.state) (q : Bool) : evaluateGroups q s = s := by
  cases hst : s.closure.state <;> simp [awaitsGroups, hst] at h <;> simp only [evaluateGroups, hst]

theorem spanProvedClear_iff (s : State) : spanProvedClear s = true ↔ s.closure.clearDwell = .complete
    ∧ (s.closure.confirmation = true ∨ s.conf.confirmationRequired = false) ∧ armsAt .down entryArms s = true := by
  simp [spanProvedClear, and_assoc]

theorem enterExitLowering_lowers (h : hasExitArms s = true) (q : Bool) :
    enterExitLowering q s = commandEach .down exitArms (setClosureState q .exitLowering s) := if_pos h

theorem enterExitLowering_holds (h : hasExitArms s = false) (q : Bool) :
    enterExitLowering q s = holdWith .noExitArm .exitLowering s := if_neg (by simp [h])

theorem evaluateGroups_proved (h : s.closure.state = .spanClearing) (hentry : hasEntryArms s = true)
    (hexit : hasExitArms s = true) (hproved : spanProvedClear s = true) (q : Bool) :
    evaluateGroups q s = commandEach .down exitArms (setClosureState q .exitLowering s) := by
  rw [evaluateGroups_spanClearing h, hentry, if_neg (by simp), if_pos hproved, enterExitLowering_lowers hexit]

theorem evaluateGroups_unproved (h : s.closure.state = .spanClearing) (hentry : hasEntryArms s = true)
    (hproved : spanProvedClear s = false) (q : Bool) : evaluateGroups q s = s := by
  rw [evaluateGroups_spanClearing h, hentry, hproved]
  rfl

/-! ## The clear dwell and its confirmation (O44) -/

theorem clearDwellComplete_running {ms : Nat} (hst : s.closure.state = .spanClearing) (hms : s.closure.clearDwell = .running ms) :
    clearDwellComplete s = evaluateGroups false (raiseControlIf s.conf.confirmationRequired .closure
      (s.withClosure { s.closure with clearDwell := .complete })) := by
  unfold clearDwellComplete
  split
  next => rfl
  next hne => exact absurd hms (hne _ hst)

theorem takeConfirm_taken (hm : s.sup.mode = .attended) (hst : s.closure.state = .spanClearing)
    (hdwell : s.closure.clearDwell = .complete) : takeConfirm [] s = accept [] (takeConfirmation s) := by
  simp [takeConfirm, attended, hm, hst, hdwell]

/-- Settles O44: `evaluateGroups` in SPAN_CLEARING, after the dwell and after the confirmation. -/
theorem spanProvedClearLowersTheExitArms : Obligations.SpanProvedClearLowersTheExitArms := by
  intro s hst lowered
  refine ⟨fun ms hms hreq hconf hentry => ?waits, fun ms hms hreq hentry hexit hdown => ?lowers,
    fun hr hm hdwell => ⟨fun hentry hexit hdown => ?confirmed, fun hentry hdown => ?noted⟩, fun hr hm hdwell => ?refused⟩
  case waits =>
    let r := s.withClosure { s.closure with clearDwell := .complete }
    have hstay : evaluateGroups false (raiseAttention .control .closure r) = raiseAttention .control .closure r :=
      evaluateGroups_unproved (by simpa [r] using hst) ((hasEntryArms_congr (by simp [r])).trans hentry)
        (by
          have hreq' : (raiseAttention .control .closure r).conf.confirmationRequired = true := hreq
          rw [Bool.eq_false_iff, Ne, spanProvedClear_iff, hreq']
          simp [r, hconf]) false
    have hexec : exec .clearDwellComplete s = .next (raiseAttention .control .closure r) := by
      rw [← hstay]
      exact congrArg Host.Outcome.next ((clearDwellComplete_running hst hms).trans (by rw [hreq]; rfl))
    exact ⟨_, hexec, rfl, rfl, unchangedBut_trans (unchangedBut_mono (by simp) (withClosure_frame _ s : unchangedBut [.closure] s r))
      (unchangedBut_mono (by simp) (raiseControl_frame .closure r))⟩
  case lowers =>
    let r := s.withClosure { s.closure with clearDwell := .complete }
    have hproved : evaluateGroups false r = commandEach .down exitArms (setClosureState false .exitLowering r) :=
      evaluateGroups_proved (s := r) hst ((hasEntryArms_congr (t := r) rfl).trans hentry) ((hasExitArms_congr (t := r) rfl).trans hexit)
        ((spanProvedClear_iff r).mpr ⟨rfl, .inr hreq, (armsAt_congr (t := r) rfl ..).trans hdown⟩) false
    have hexec : exec .clearDwellComplete s = .next (commandEach .down exitArms (setClosureState false .exitLowering r)) := by
      rw [← hproved]
      exact congrArg Host.Outcome.next ((clearDwellComplete_running hst hms).trans (by rw [hreq]; rfl))
    refine ⟨_, hexec, ⟨by simp, ?_⟩, by simp [r], ?_, ?_⟩
    · exact commandedOnly_congr ⟨rfl, rfl⟩ ⟨rfl, rfl⟩ (commandedOnly_entered .exitLowering false exitArms r)
    · rw [commandEach_links, setClosureState_loud_links (by simp [r, hst])]
      rfl
    · exact unchangedBut_trans (unchangedBut_mono (by simp) (withClosure_frame _ s : unchangedBut [.closure] s r))
        (loweringEntered_frame false exitArms (by simp [r, hst]))
  case confirmed =>
    let r := (takenIn .control 0x30#8 s).withClosure { s.closure with confirmation := true }
    have hproved : evaluateGroups true r = commandEach .down exitArms (setClosureState true .exitLowering r) :=
      evaluateGroups_proved (by simpa [r] using hst) ((hasEntryArms_congr (by simp [r])).trans hentry)
        ((hasExitArms_congr (by simp [r])).trans hexit)
        ((spanProvedClear_iff r).mpr ⟨hdwell, .inl rfl, (armsAt_congr (by simp [r]) ..).trans hdown⟩) true
    have htake : takeConfirm [] (takenIn .control 0x30#8 s) =
        accept [] (commandEach .down exitArms (setClosureState true .exitLowering r)) := by
      rw [takeConfirm_taken (by simpa using hm) (by simpa using hst) (by simpa using hdwell), ← hproved, takeConfirmation, takenIn_closure]
    obtain ⟨hexec, honly⟩ := exec_only (changed := [.closure, .arms, .stations, .lamp, .display]) (c := .confirmSpanClear .control [])
      rfl rfl hr rfl htake (by simp [setClosureState_quiet_links, r])
      (by rw [commandEach_sup, setClosureState_sup (by simp [r, hst])]; rfl)
      (unchangedBut_trans (unchangedBut_mono (by simp) (withClosure_frame _ _ : unchangedBut [.closure] _ r))
        (loweringEntered_quiet_frame exitArms (by simp [r, hst])))
    refine ⟨_, hexec, ⟨by simp, ?_⟩, by simp [r], honly⟩
    exact commandedOnly_congr ⟨by simp [r], by simp [r]⟩ ⟨by simp, by simp⟩ (commandedOnly_entered .exitLowering true exitArms r)
  case noted =>
    let r := (takenIn .control 0x30#8 s).withClosure { s.closure with confirmation := true }
    have hstay : evaluateGroups true r = r :=
      evaluateGroups_unproved (by simpa [r] using hst) ((hasEntryArms_congr (by simp [r])).trans hentry)
        (by
          have hat : armsAt .down entryArms r = false := (armsAt_congr (by simp [r]) ..).trans hdown
          rw [Bool.eq_false_iff, Ne, spanProvedClear_iff, hat]
          simp) true
    have htake : takeConfirm [] (takenIn .control 0x30#8 s) = accept [] r := by
      rw [takeConfirm_taken (by simpa using hm) (by simpa using hst) (by simpa using hdwell), ← hstay, takeConfirmation, takenIn_closure]
    obtain ⟨hexec, honly⟩ := exec_only (changed := [.closure]) (c := .confirmSpanClear .control []) rfl rfl hr rfl htake rfl rfl
      (withClosure_frame _ _)
    exact ⟨_, hexec, by simp [r], honly⟩
  case refused =>
    exact exec_refused (c := .confirmSpanClear .control []) rfl rfl hr rfl (by simp [takeConfirm, attended, hm, hdwell])

end Sys2Proof.Machine

/-! The reopening of the road, the target formed again, and WITHDRAW PASSAGE by the state of the record (O20). -/

namespace Sys2Proof.Machine

open Sys2Proof

variable {s t u v : State} {l : Link} {kind : Byte} {body : List Byte} {a : ArmId} {arms : List ArmId} {q : Bool}
  {st : ClosureState} {p : Passage} {n : Nat}

/-! ## The reopening (R121) -/

/-- The records of a reopening before the closure enters ROAD_REOPENING (R121). -/
def reopenFields (s : State) : State :=
  (s.withClosure { s.closure with phaseTimer := none, clearDwell := .stopped, heldCause := none, heldIn := none }).withArms
    (tabMap (fun a => { a with retryDwell := none }) s.arms)

theorem reopenFields_arm (s : State) (a : ArmId) : (reopenFields s).arm a = { s.arm a with retryDwell := none } := arms_mapped _ s a

/-- A reopening under way: the in-service arms are commanded UP. -/
def reopened (q : Bool) (s : State) : State := commandEach .up ringOrder (setClosureState q .roadReopening (reopenFields s))

theorem startReopen_eq (q : Bool) (s : State) : startReopen q s = finishReopening q (standingCheck (reopened q s)) := rfl

theorem entered_arm (q : Bool) (st : ClosureState) (s : State) (a : ArmId) : (setClosureState q st s).arm a = s.arm a :=
  arm_congr (setClosureState_arms ..) a

theorem mayCommand_up (h : s.leaf.group.state = .stowed ∨ s.leaf.group.state = .inactive) (p : ArmPosition) : mayCommand p s :=
  fun _ => by rcases h with h | h <;> simp [raiseAllowed, h]

theorem reopened_arm (h : mayCommand .up s) (q : Bool) (a : ArmId) : (reopened q s).arm a =
    if (s.arm a).inService = true then armCommanded .up { s.arm a with retryDwell := none }
    else { s.arm a with retryDwell := none } := by
  have hmay : mayCommand .up (setClosureState q .roadReopening (reopenFields s)) :=
    (mayCommand_congr (by simp [reopenFields])).mpr h
  rw [reopened, commandEach_arm hmay, entered_arm, reopenFields_arm]
  simp [mem_ringOrder]

theorem reopened_station (h : mayCommand .up s) (q : Bool) (a : ArmId) :
    if (s.arm a).inService = true then ((reopened q s).station a).slot = some .raise
    else (reopened q s).station a = s.station a := by
  have hmay : mayCommand .up (setClosureState q .roadReopening (reopenFields s)) :=
    (mayCommand_congr (by simp [reopenFields])).mpr h
  have hstation := commandEach_station hmay ringOrder a
  rw [entered_arm, reopenFields_arm] at hstation
  have hsame : (setClosureState q .roadReopening (reopenFields s)).station a = s.station a :=
    station_congr (by simp [reopenFields]) a
  rw [hsame] at hstation
  simpa [reopened, mem_ringOrder, commandFor] using hstation

theorem reopened_closure (q : Bool) (s : State) : (reopened q s).closure = { s.closure with
    state := .roadReopening, phaseTimer := none, clearDwell := .stopped, heldCause := none, heldIn := none } := by
  simp [reopened, reopenFields]

theorem reopened_started (h : mayCommand .up s) (q : Bool) : reopeningStarted s (reopened q s) := by
  refine ⟨reopened_closure q s, fun a hin => ?_, fun a hin => ?_, by simp [reopened, roadLightOf]⟩
  · have harm := reopened_arm h q a
    have hstation := reopened_station h q a
    rw [if_pos hin] at harm hstation
    rw [commandedNow, harm]
    exact ⟨⟨rfl, rfl, rfl, hstation⟩, rfl⟩
  · have harm := reopened_arm h q a
    have hstation := reopened_station h q a
    rw [if_neg (by simp [hin])] at harm hstation
    exact ⟨harm, hstation⟩

/-- A reopening is told by the closure, the arms, the stations and the road lights. -/
theorem reopeningStarted_congr (hc : u.closure = s.closure) (ha : u.arms = s.arms) (hst : u.stations = s.stations)
    (hc' : v.closure = t.closure) (ha' : v.arms = t.arms) (hst' : v.stations = t.stations)
    (hroad : v.display.road = t.display.road) (h : reopeningStarted s t) : reopeningStarted u v := by
  obtain ⟨hclosure, hin, hout, hred⟩ := h
  refine ⟨by rw [hc', hclosure, hc], fun a hin' => ?_, fun a hout' => ?_, hroad.trans hred⟩
  · rw [arm_congr ha] at hin'
    rw [commandedNow_congr (arm_congr ha' a) (station_congr hst' a), arm_congr ha']
    exact hin a hin'
  · rw [arm_congr ha] at hout'
    rw [arm_congr ha', station_congr hst', arm_congr ha, station_congr hst]
    exact hout a hout'

/-- No arm is in position just after it has been commanded, so that a reopening with an in-service arm goes on. -/
theorem startReopen_reopened (hfault : noStandingFault s) (hin : ∃ a, (s.arm a).inService = true) (h : mayCommand .up s) (q : Bool) :
    startReopen q s = reopened q s := by
  obtain ⟨a, hin⟩ := hin
  have hclear : standingCheck (reopened q s) = reopened q s := standingCheck_clear (noStandingFault_of_arms hfault fun b => by
    rw [reopened_arm h]; split <;> exact ⟨rfl, rfl, rfl⟩)
  have hmay : mayCommand .up (setClosureState q .roadReopening (reopenFields s)) :=
    (mayCommand_congr (by simp [reopenFields])).mpr h
  have hnot : armsAt .up ringOrder (reopened q s) = false :=
    not_armsAt_commanded hmay (mem_ringOrder a) (by rw [entered_arm, reopenFields_arm]; exact hin)
  rw [startReopen_eq, hclear, finishReopening, if_neg (by simp [hnot])]

theorem reopenFields_frame (s : State) : unchangedBut [.closure, .arms] s (reopenFields s) :=
  unchangedBut_trans (unchangedBut_mono (by simp) (withClosure_frame _ s)) (unchangedBut_mono (by simp) (withArms_frame _ _))

theorem reopened_frame (q : Bool) (s : State) :
    unchangedBut [.controlPort, .closure, .arms, .stations, .lamp, .display, .sup] s (reopened q s) :=
  unchangedBut_trans (unchangedBut_mono (by simp) (reopenFields_frame s))
    (unchangedBut_trans (unchangedBut_mono (by simp) (setClosureState_frame q .roadReopening _))
      (unchangedBut_mono (by simp) (commandEach_frame _ _ _)))

theorem reopened_quiet_frame (hheld : s.closure.state ≠ .closureHeld) :
    unchangedBut [.closure, .arms, .stations, .lamp, .display] s (reopened true s) :=
  unchangedBut_trans (unchangedBut_mono (by simp) (reopenFields_frame s))
    (unchangedBut_trans (unchangedBut_mono (by simp) (setClosureState_quiet_frame (by simpa [reopenFields] using hheld)))
      (unchangedBut_mono (by simp) (commandEach_frame _ _ _)))

theorem reopened_loud_links (h : s.closure.state ≠ .roadReopening) :
    (reopened false s).links = (raiseAttention .control .closure s).links := by
  rw [reopened, commandEach_links, setClosureState_loud_links (by simpa [reopenFields] using h)]
  rfl

theorem reopened_quiet_links (s : State) : (reopened true s).links = s.links := by
  rw [reopened, commandEach_links, setClosureState_quiet_links]
  rfl

/-! ## The target formed again (R30) -/

theorem withMargin_mono (c : Configured) {m n : Nat} (h : m ≤ n) : withMargin c m ≤ withMargin c n := by
  simp only [withMargin]; omega

theorem foldl_max_le (ns : List Nat) (k : Nat) : (∀ n ∈ ns, n ≤ ns.foldl max k) ∧ k ≤ ns.foldl max k := by
  induction ns generalizing k with
  | nil => simp
  | cons n ns ih =>
    obtain ⟨hmem, hle⟩ := ih (max k n)
    refine ⟨fun m hm => ?_, by rw [List.foldl_cons]; omega⟩
    rw [List.foldl_cons]
    rcases List.mem_cons.mp hm with rfl | hm
    · omega
    · exact hmem m hm

theorem foldl_max_mem (ns : List Nat) (k : Nat) : ns.foldl max k = k ∨ ns.foldl max k ∈ ns := by
  induction ns generalizing k with
  | nil => exact .inl rfl
  | cons n ns ih =>
    rw [List.foldl_cons]
    rcases ih (max k n) with h | h
    · rcases max_choice k n with hk | hk
      · exact .inl (h.trans hk)
      · exact .inr (by rw [h, hk]; simp)
    · exact .inr (List.mem_cons_of_mem _ h)

theorem largest_mem {ns : List Nat} (h : ns ≠ []) : largest ns ∈ ns := by
  rcases foldl_max_mem ns 0 with hzero | hmem
  · obtain ⟨n, rest, rfl⟩ := List.exists_cons_of_ne_nil h
    have hle := (foldl_max_le (n :: rest) 0).1 n (by simp)
    have hn : n = 0 := by omega
    rw [largest, hzero, hn]
    simp
  · exact hmem

theorem le_formedTarget {x : Passage} (hx : x ∈ listedRecords s) (ha : isActive x = true) :
    withMargin s.conf x.angle ≤ formedTarget s := by
  have hmem : x ∈ (listedRecords s).filter isActive := List.mem_filter.mpr ⟨hx, ha⟩
  unfold formedTarget
  split
  next h => simp [h] at hmem
  next => exact withMargin_mono _ ((foldl_max_le (((listedRecords s).filter isActive).map (·.angle)) 0).1 _ (List.mem_map_of_mem hmem))

theorem formedTarget_attained (h : ∃ x ∈ listedRecords s, isActive x = true) :
    ∃ x ∈ listedRecords s, isActive x = true ∧ formedTarget s = withMargin s.conf x.angle := by
  obtain ⟨y, hy, ha⟩ := h
  have hne : (listedRecords s).filter isActive ≠ [] := List.ne_nil_of_mem (List.mem_filter.mpr ⟨hy, ha⟩)
  obtain ⟨x, hx, hangle⟩ := List.mem_map.mp (largest_mem (ns := ((listedRecords s).filter isActive).map (·.angle)) (by simpa using hne))
  obtain ⟨hlisted, hactive⟩ := List.mem_filter.mp hx
  refine ⟨x, hlisted, hactive, ?_⟩
  unfold formedTarget
  split
  next h => exact absurd h hne
  next => rw [hangle]

theorem formTarget_opening {o : Opening} (ho : s.seq.opening = some o) (hrec : o.recovery = false) :
    (formTarget s).seq.opening = some { o with target := formedTarget s } := by
  simp [formTarget, updateOpening, setOpening, ho, hrec]

theorem formTarget_frame (s : State) : unchangedBut [.seq] s (formTarget s) := by
  intro x hx; cases x <;> simp_all [Part.same]

theorem deriveDemands_frame (s : State) : unchangedBut [.seq, .lamp, .display, .sup] s (deriveDemands s) := by
  intro x hx; cases x <;> simp_all [Part.same]

@[simp] theorem deriveDemands_road (s : State) : (deriveDemands s).display.road = s.display.road := by simp [deriveDemands]

theorem demandsStand_putReply {o : OutcomeCode} {b : List Byte} (h : demandsStand s) : demandsStand (putReply l kind o b s) := by
  intro d
  rw [putReply_seq, h d, demandFor_congr (putReply_sameForDemands _ _ _ _ _)]

theorem listedRecords_of_lists (ho : (t.seq.opening.map (·.list)) = s.seq.opening.map (·.list)) (hr : t.reg = s.reg) :
    listedRecords t = listedRecords s := by
  unfold listedRecords
  rw [hr]
  cases ht : t.seq.opening <;> cases hs : s.seq.opening <;> simp [ht, hs] at ho ⊢
  rw [ho]

/-! ## WITHDRAW PASSAGE (O20) -/

theorem takeWithdraw_taken {n : Byte} (hm : s.sup.mode ≠ .setup) (hn : n ≠ 0) (hfind : findPassage n.toNat s.reg = some p)
    (hper : l = .control ∨ p.origin = .harbour) (hterm : p.state.terminal = false) (hlate : ¬(p.state = .cleared ∧ l = .harbour)) :
    takeWithdraw l [n] s = accept (passageOctets { p with state := .withdrawn, withdrawnBy := some l })
      (leaveList n.toNat (withdrawRecord l p s)) := by
  have hn' : ¬n = 0#8 := hn
  have hlate' : ¬(p.state == .cleared && l == .harbour) = true := by simpa using hlate
  have hchanged := acceptRecord_changed (f := fun q => { q with state := .withdrawn, withdrawnBy := some l })
    (t := leaveList n.toNat (withdrawRecord l p s)) hfind (by simp) fun _ => rfl
  rw [← hchanged]
  simp only [takeWithdraw, inSetup, beq_iff_eq, hm, if_false]
  rw [if_neg hn, hfind]
  simp only [permitted_of_origin hper, hterm, (findPassage_mem hfind).2]
  simp [hlate']

theorem takeWithdraw_tooLate {n : Byte} (hm : s.sup.mode ≠ .setup) (hn : n ≠ 0) (hfind : findPassage n.toNat s.reg = some p)
    (hper : l = .control ∨ p.origin = .harbour) (hst : p.state = .cleared) (hl : l = .harbour) :
    takeWithdraw l [n] s = refuse .tooLate s := by
  have hn' : ¬n = 0#8 := hn
  have hper' := permitted_of_origin hper
  simp [takeWithdraw, inSetup, hm, hn', hfind, hst, hl, PassageState.terminal] at *
  simp [hper']

theorem takeWithdraw_wrongState {n : Byte} (hm : s.sup.mode ≠ .setup) (hn : n ≠ 0) (hfind : findPassage n.toNat s.reg = some p)
    (hper : l = .control ∨ p.origin = .harbour) (hterm : p.state.terminal = true) :
    takeWithdraw l [n] s = refuse .wrongState s := by
  have hn' : ¬n = 0#8 := hn
  simp [takeWithdraw, inSetup, hm, hn', hfind, permitted_of_origin hper, hterm]

/-- A record withdrawn while its number stands in the opening's list (R20, R43). -/
theorem leaveList_listed {o : Opening} (ho : s.seq.opening = some o) (hmem : n ∈ o.list) :
    leaveList n s = listShortened (dropListed n s) := by
  rw [leaveList_eq, if_pos (by simpa [admittedList, ho] using hmem)]

theorem listShortened_closing {o : Opening} (ho : s.seq.opening = some o) (hst : o.state = .closingRoad) (hne : o.list ≠ []) :
    listShortened s = deriveDemands (formTarget s) := by
  simp [listShortened, ho, hst, hne]

theorem listShortened_abandoned {o : Opening} (ho : s.seq.opening = some o) (hst : o.state = .closingRoad) (hnil : o.list = []) :
    listShortened s = deriveDemands (reopenRequest false
      (enterOpening .reopeningRoad (setOpening (some { o with target := 0 }) s))) := by
  obtain ⟨_, _, _, _, _, _, _⟩ := o
  obtain rfl := hst
  obtain rfl := hnil
  simp [listShortened, ho]

theorem listShortened_lifting {o : Opening} (ho : s.seq.opening = some o) (hst : o.state = .lifting) :
    listShortened s = deriveDemands s := by
  simp [listShortened, ho, hst]

theorem dropListed_frame (n : Nat) (s : State) : unchangedBut [.seq] s (dropListed n s) := by
  intro x hx; cases x <;> simp_all [Part.same, dropListed]

theorem withdrawRecord_frame (l : Link) (p : Passage) (s : State) :
    unchangedBut [.controlPort, .harbourPort, .reg] s (withdrawRecord l p s) := by
  intro x hx; cases x <;> simp_all [Part.same, withdrawRecord]

theorem withdrawRecord_told (l : Link) (p : Passage) (s : State) :
    ((withdrawRecord l p s).links.get p.origin).attention = toldAttention l p s := notifyOrigin_told l p _

theorem withdrawRecord_attention_ne {k : Link} (h : k ≠ p.origin) (s : State) :
    ((withdrawRecord l p s).links.get k).attention = (s.links.get k).attention := notifyOrigin_attention_ne h _

/-- An opening abandoned, before the road is asked to reopen (R43). -/
def abandonedOpening (o : Opening) (s : State) : State := enterOpening .reopeningRoad (setOpening (some { o with target := 0 }) s)

theorem abandonedOpening_opening (o : Opening) (s : State) :
    (abandonedOpening o s).seq.opening = some { o with state := .reopeningRoad, target := 0 } := by
  simp [abandonedOpening, enterOpening, enterOpeningQuietly, updateOpening, setOpening, raiseAttention]

theorem abandonedOpening_frame (o : Opening) (s : State) : unchangedBut [.controlPort, .seq] s (abandonedOpening o s) := by
  intro x hx; cases x <;> simp_all [Part.same, abandonedOpening, enterOpening, enterOpeningQuietly]
  simp [raiseAttention, updatePort, PerLink.set, updateOpening]

/-- Settles O20: `takeWithdraw` past its refusals, then the list by the state of the opening. -/
theorem withdrawByState : Obligations.WithdrawByState := by
  intro l n p s hr hm hn hfind hper withdrawn records
  let w := takenIn l 0x12#8 s
  have hm' : w.sup.mode ≠ .setup := by simpa [w] using hm
  have hfind' : findPassage n.toNat w.reg = some p := by simpa [w] using hfind
  have htaken (hterm : p.state.terminal = false) (hlate : ¬(p.state = .cleared ∧ l = .harbour)) :=
    exec_accepted (c := .withdrawPassage l [n]) rfl rfl (by decide) hr rfl
      (takeWithdraw_taken hm' hn hfind' hper hterm hlate)
  have hlate_of (h : p.state = .admitted ∨ (p.state = .cleared ∧ l = .control)) : ¬(p.state = .cleared ∧ l = .harbour) := by
    rintro ⟨hc, hl⟩
    rcases h with h | ⟨_, h⟩
    · simp [hc] at h
    · simp [hl] at h
  have hterm_of (h : p.state = .admitted ∨ (p.state = .cleared ∧ l = .control)) : p.state.terminal = false := by
    rcases h with h | ⟨h, _⟩ <;> rw [h] <;> rfl
  let x := withdrawRecord l p w
  have hreg : x.reg = { s.reg with records := records } := by
    simp only [x, withdrawRecord_reg, w, takenIn_reg, (findPassage_mem hfind).2]
    rfl
  have hlist : admittedList x = admittedList s := admittedList_congr (by simp [x, w])
  have hframe : unchangedBut [.controlPort, .harbourPort, .reg, .sup] s x :=
    unchangedBut_trans (unchangedBut_mono (by cases l <;> simp [portPart]) (takenIn_frame l 0x12#8 s))
      (unchangedBut_mono (by simp) (withdrawRecord_frame l p w))
  refine ⟨fun hst habsent => ?waiting, fun hst => ?listed, fun o ho hmem hst => ?opening, fun hst hl => ?tooLate,
    fun hterm => ?wrongState⟩
  case tooLate => exact exec_refused (c := .withdrawPassage l [n]) rfl rfl hr rfl (takeWithdraw_tooLate hm' hn hfind' hper hst hl)
  case wrongState => exact exec_refused (c := .withdrawPassage l [n]) rfl rfl hr rfl (takeWithdraw_wrongState hm' hn hfind' hper hterm)
  case waiting =>
    obtain ⟨hexec, hanswered⟩ := htaken (by rw [hst]; rfl) (by simp [hst])
    have hstay : leaveList n.toNat x = x := leaveList_of_not_mem (hlist ▸ habsent)
    rw [hstay] at hexec hanswered
    refine ⟨_, hexec, by rw [putReply_reg, hreg], hanswered, ?_, fun hne => ?_, by simp [x, w, withdrawRecord, takenIn_sup], ?_⟩
    · rw [putReply_attention]
      exact (withdrawRecord_told l p w).trans (toldAttention_takenIn l 0x12#8 p s)
    · rw [putReply_attention]
      exact (withdrawRecord_attention_ne hne w).trans (takenIn_attention l 0x12#8 s l)
    · exact unchangedBut_trans hframe (unchangedBut_mono (by cases l <;> simp [portPart])
        (updatePort_frame l _ x : unchangedBut [portPart l] x (putReply l 0x12#8 .ok _ x)))
  case listed =>
    obtain ⟨hexec, hanswered⟩ := htaken (hterm_of hst) (hlate_of hst)
    refine ⟨_, hexec, by rw [putReply_reg, leaveList_reg, hreg], hanswered, ?_, ?_⟩
    · rw [admittedList_congr (congrArg Sequencer.opening (putReply_seq ..)), admittedList_leaveList, hlist]
    · exact unchangedBut_trans (unchangedBut_mono (by simp) hframe) (unchangedBut_trans (unchangedBut_mono (by simp) (leaveList_frame _ _))
        (unchangedBut_mono (by cases l <;> simp [portPart])
          (updatePort_frame l _ _ : unchangedBut [portPart l] (leaveList n.toNat x) (putReply l 0x12#8 .ok _ _))))
  case opening =>
    intro left abandoned
    obtain ⟨hexec, hanswered⟩ := htaken (hterm_of hst) (hlate_of hst)
    let y := dropListed n.toNat x
    have hox : x.seq.opening = some o := by simpa [x, w] using ho
    have hoy : y.seq.opening = some { o with list := left } := by simp [y, dropListed_opening, hox, left]
    have hleave : leaveList n.toNat x = listShortened y := leaveList_listed hox hmem
    rw [hleave] at hexec
    have hyframe : unchangedBut [.controlPort, .harbourPort, .reg, .seq, .sup] s y :=
      unchangedBut_trans (unchangedBut_mono (by simp) hframe) (unchangedBut_mono (by simp) (dropListed_frame _ _))
    have hend {changed : List Part} {z : State} (h : unchangedBut changed s z) (hmem : Part.controlPort ∈ changed ∧ Part.harbourPort ∈ changed) :
        unchangedBut changed s (putReply l 0x12#8 .ok (passageOctets (withdrawn p)) z) :=
      unchangedBut_trans h (unchangedBut_mono (by cases l <;> simp [portPart, hmem.1, hmem.2])
        (updatePort_frame l _ z : unchangedBut [portPart l] z (putReply l 0x12#8 .ok _ z)))
    refine ⟨fun hclosing hrec hne => ?target, fun hclosing hnil hstowed hroad => ?abandon, fun hlift => ?lifting⟩
    case target =>
      rw [listShortened_closing hoy hclosing hne] at hexec
      have hlisted : listedRecords (putReply l 0x12#8 .ok (passageOctets (withdrawn p)) (deriveDemands (formTarget y))) =
          listedRecords y := listedRecords_of_lists (by simp [formTarget, updateOpening, setOpening, hoy]) (by simp)
      have hconf : y.conf = s.conf := congrArg (·.getD Configured.blank) (hyframe .cfg (by decide))
      refine ⟨_, formedTarget y, hexec, ?_, fun z hz ha => ?_, fun hex => ?_, demandsStand_putReply (demandsStand_deriveDemands _), ?_⟩
      · rw [putReply_seq, deriveDemands_seq_opening, formTarget_opening hoy hrec]
      · rw [← hconf]; exact le_formedTarget (hlisted ▸ hz) ha
      · rw [hlisted] at hex ⊢
        rw [← hconf]
        exact formedTarget_attained hex
      · refine hend (unchangedBut_trans (unchangedBut_mono (by simp) hyframe) (unchangedBut_trans
          (unchangedBut_mono (by simp) (formTarget_frame y)) (unchangedBut_mono (by simp) (deriveDemands_frame _)))) (by simp)
    case abandon =>
      let z := abandonedOpening { o with list := left } y
      have hshort : listShortened y = deriveDemands (reopenRequest false z) := listShortened_abandoned hoy hclosing hnil
      rw [hshort] at hexec
      have hzframe : unchangedBut [.controlPort, .harbourPort, .reg, .seq, .sup] s z :=
        unchangedBut_trans hyframe (unchangedBut_mono (by simp) (abandonedOpening_frame _ y))
      have hzo : z.seq.opening = some { o with state := .reopeningRoad, list := [], target := 0 } := by
        rw [abandonedOpening_opening, hnil]
      have hzmode : z.sup.mode = s.sup.mode := by
        simp [z, y, x, w, abandonedOpening, enterOpening, enterOpeningQuietly, dropListed, withdrawRecord]
      have hzclosure : z.closure = s.closure := hzframe .closure (by decide)
      have hzleaf : z.leaf = s.leaf := hzframe .leaf (by decide)
      have hasked : ((z.closure.state.closing || z.closure.state == .closureHeld || z.closure.state == .roadClosed)
          && z.leaf.group.state == .stowed) = true := by
        rw [hzclosure, hzleaf, hstowed]
        rcases hroad with h | h | h <;> simp [h]
      refine ⟨fun hatt hfault hin => ?started, fun hunatt => ?pending⟩
      case started =>
        have hstart : reopenRequest false z = reopened false z := by
          rw [reopenRequest, if_pos hasked, if_neg (by simp [hzmode, hatt])]
          refine startReopen_reopened (noStandingFault_of_arms hfault fun a => ?_) ?_ (mayCommand_up (.inl ?_) _) _
          · rw [arm_congr (hzframe .arms (by decide))]; exact ⟨rfl, rfl, rfl⟩
          · obtain ⟨a, ha⟩ := hin
            exact ⟨a, by rw [arm_congr (hzframe .arms (by decide))]; exact ha⟩
          · rw [hzleaf]; exact hstowed
        rw [hstart] at hexec
        have hlinks : (reopened false z).links = (raiseAttention .control .closure z).links :=
          reopened_loud_links (by
            rw [hzclosure]
            rcases hroad with h | h | h
            · rintro heq; simp [heq, ClosureState.closing] at h
            · simp [h]
            · simp [h])
        refine ⟨_, hexec, ⟨?_, ?_, ?_, demandsStand_putReply (demandsStand_deriveDemands _)⟩, ?_⟩
        · rw [putReply_seq, deriveDemands_seq_opening, ← hzo]
          simp [reopened, reopenFields]
        · rw [putReply_attention, deriveDemands_links, hlinks]; rfl
        · rw [putReply_attention, deriveDemands_links, hlinks]; rfl
        · refine reopeningStarted_congr hzclosure.symm (hzframe .arms (by decide)).symm (hzframe .stations (by decide)).symm
            (by simp) (by simp) (by simp) (by simp) (reopened_started (mayCommand_up (.inl ?_) _) false)
          rw [hzleaf]; exact hstowed
      case pending =>
        have hkept : reopenRequest false z = z.withClosure { z.closure with reopenPending := true } := by
          rw [reopenRequest, if_pos hasked, if_pos (by simp [hzmode, hunatt])]
        rw [hkept] at hexec
        refine ⟨_, hexec, ⟨?_, ?_, ?_, demandsStand_putReply (demandsStand_deriveDemands _)⟩, ?_, ?_, ?_⟩
        · rw [putReply_seq, deriveDemands_seq_opening, State.withClosure_seq, hzo]
        · rw [putReply_attention, deriveDemands_links]; rfl
        · rw [putReply_attention, deriveDemands_links]; rfl
        · rw [putReply_closure, deriveDemands_closure, State.withClosure_closure, hzclosure]
        · rw [putReply_arms, deriveDemands_arms, State.withClosure_arms]; exact hzframe .arms (by decide)
        · rw [putReply_stations, deriveDemands_stations, State.withClosure_stations]; exact hzframe .stations (by decide)
    case lifting =>
      rw [listShortened_lifting hoy hlift] at hexec
      exact ⟨_, hexec, by rw [putReply_seq, deriveDemands_seq_opening, hoy], demandsStand_putReply (demandsStand_deriveDemands _)⟩

end Sys2Proof.Machine

/-!
The layer of the leaves: motion starts, unlocking and immediate trips, and the report of a group that has changed state
without coming to a stop or to STOWED (R83, R84, R86 to R88, R100, R103).
-/

namespace Sys2Proof.Machine

open Sys2Proof

variable {s t u : State} {m n : LeafMotion} {target : Nat}

/-! ## Motion starts and trips -/

theorem startReference_eq (west east : Int) : startReference west east = (max 0 (min 144000 ((west + east) / 2))).toNat := by
  simp [startReference]

theorem motionStart_started {st : GroupState} (hlocks : allLocks .withdrawn m = true) (ht : m.group.target = some target) :
    startedMotion st target m (m.motionStart st) := by
  rw [LeafMotion.motionStart, if_pos hlocks]
  refine ⟨rfl, ht, rfl, ⟨decide (m.group.targetInUse ≥ startReference m.west.angle m.east.angle), ?_⟩,
    fun d => PerDrive.get_map _ _ d, rfl, rfl, rfl⟩
  rw [← startReference_eq]
  rfl

/-- A motion start is told by the drives, the locks and the leaves that it starts from. -/
theorem startedMotion_congr {st : GroupState} {m' : LeafMotion} (hd : m'.drives = m.drives) (hk : m'.locks = m.locks)
    (hw : m'.west = m.west) (he : m'.east = m.east) (h : startedMotion st target m' n) : startedMotion st target m n := by
  simpa only [startedMotion, hd, hk, hw, he] using h

theorem trip_eq {cause : TripCause} (hne : m.group.state ≠ .tripped) (hstop : m.group.state ≠ .stopping) :
    m.trip cause = trippedLeaf cause m := by
  simp only [LeafMotion.trip, if_neg hne, if_neg hstop]
  rfl

theorem lockState_commanded_withdraw {k : Lock} (h : k.command = none) :
    (lockState (Lock.commanded .withdraw k) == .withdrawn) = (lockState k == .withdrawn) := by
  obtain ⟨command, driven, withdrawn, timer, unproven⟩ := k
  obtain rfl : command = none := h
  cases driven <;> cases withdrawn <;> rfl

theorem allLocks_commanded_withdraw (h : ∀ k, (m.locks.get k).command = none) :
    allLocks .withdrawn { m with locks := m.locks.map (Lock.commanded .withdraw) } = allLocks .withdrawn m := by
  have hwest := lockState_commanded_withdraw (h .westTail)
  have heast := lockState_commanded_withdraw (h .eastTail)
  have hcentre := lockState_commanded_withdraw (h .centre)
  simp only [PerLock.get] at hwest heast hcentre
  simp only [allLocks, PerLock.map, hwest, heast, hcentre]

/-- UNLOCKING entered with some lock still to be withdrawn (R88). -/
theorem enterUnlocking_eq (h : ∀ k, (m.locks.get k).command = none) (hlocks : allLocks .withdrawn m = false) :
    m.enterUnlocking = LeafMotion.enter .unlocking { m with locks := m.locks.map (Lock.commanded .withdraw) } := by
  have hnot : allLocks .withdrawn (LeafMotion.enter .unlocking { m with locks := m.locks.map (Lock.commanded .withdraw) }) = false :=
    (allLocks_commanded_withdraw h).trans hlocks
  simp only [LeafMotion.enterUnlocking, LeafMotion.finishUnlocking, hnot]
  rfl

/-! ## The report of a group that is under way (R103) -/

/-- The states whose report changes nothing at the other blocks. -/
def reportsQuietly (st : GroupState) : Prop :=
  st = .unlocking ∨ st = .raising ∨ st = .settling ∨ st = .lowering ∨ st = .seating ∨ st = .locking ∨ st = .stopping

theorem groupReport_quiet (h : reportsQuietly s.leaf.group.state) :
    groupReport s = deriveDemands (raiseAttention .control .leafGroup s) := by
  rcases h with h | h | h | h | h | h | h <;> simp [groupReport, h]

/-- A change of the leaf records whose report nothing follows at the other blocks (R103, R181). -/
theorem applyLeaf_alone {f : LeafMotion → LeafMotion} (hchanged : (f s.leaf).group.state ≠ s.leaf.group.state)
    (halone : let t := handGroupTripped ((f s.leaf).group.state == .tripped) (s.withLeaf (f s.leaf))
      groupReport t = deriveDemands (raiseAttention .control .leafGroup t)) :
    (applyLeaf f s).seq.opening = s.seq.opening ∧ groupReported [.leafGroup] s (applyLeaf f s) := by
  rw [applyLeaf_of_changed hchanged, halone]
  refine ⟨by simp [raiseAttention], ?sup, ?port, by simp, demandsStand_deriveDemands _, ?frame⟩
  case sup =>
    rw [deriveDemands_sup]
    simp [handGroupTripped]
  case port => simp [raiseAttention, updatePort, PerLink.set, PerLink.get]
  case frame =>
    intro p hp
    cases p <;> simp_all [Part.same, raiseAttention, updatePort, PerLink.set]

/-- A change of the leaf records that puts the group under way, with its report (R103, R181). -/
theorem applyLeaf_quiet {f : LeafMotion → LeafMotion} (hquiet : reportsQuietly (f s.leaf).group.state)
    (hchanged : (f s.leaf).group.state ≠ s.leaf.group.state) :
    (applyLeaf f s).seq.opening = s.seq.opening ∧ groupReported [.leafGroup] s (applyLeaf f s) :=
  applyLeaf_alone hchanged (groupReport_quiet (by simpa using hquiet))

theorem applyLeaf_same {f : LeafMotion → LeafMotion} (h : (f s.leaf).group.state = s.leaf.group.state) :
    applyLeaf f s = s.withLeaf (f s.leaf) := by
  simp [applyLeaf, afterLeaf, h]

/-- A report from a state that a change of other parts has led to (R103). -/
theorem groupReported_after {changed : List Part} {causes : List AttentionCause} (hsup : u.sup = s.sup)
    (hport : u.links.control = s.links.control) (hclear : u.seq.clearance = s.seq.clearance)
    (hframe : unchangedBut ([.controlPort, .seq, .leaf, .lamp, .display, .sup] ++ changed) s u)
    (h : groupReported causes u t) : groupReportedWith changed causes s t := by
  obtain ⟨hs, hp, hc, hd, hf⟩ := h
  refine ⟨hsup ▸ hs, hport ▸ hp, hc.trans hclear, hd, unchangedBut_trans hframe (unchangedBut_mono (fun x hx => ?_) hf)⟩
  rw [List.append_nil] at hx
  exact List.mem_append_left _ hx

/-- As `answeredMoving_putReply`, with further parts changed (R187). -/
theorem answeredMoving_with {kind : Byte} {changed : List Part} (hr : readyFor .control s) (body : List Byte)
    (hreport : groupReportedWith changed [.leafGroup] (takenIn .control kind s) t) :
    answeredMoving kind body changed s (putReply .control kind .ok body t) := by
  obtain ⟨hsup, hport, hclearance, hdemands, hframe⟩ := hreport
  have hcore : (t.links.get .control).core = ((takenIn .control kind s).links.get .control).core := by
    simp only [PerLink.get]
    rw [hport]
    rfl
  obtain ⟨hanswered, hattention⟩ := answered_of_core (o := .ok) (b := body) hr hcore
  refine ⟨hanswered, ?attention, ?sup, by simpa using hclearance, demandsStand_putReply hdemands, ?frame⟩
  case attention =>
    have htaken := takenIn_attention .control kind s .control
    simp only [PerLink.get] at htaken
    rw [hattention]
    simp only [PerLink.get]
    rw [hport, htaken]
    rfl
  case sup => rw [putReply_sup, putReply_leaf, hsup, takenIn_sup]
  case frame => exact putReply_frame_of_mem hframe (by simp [portPart])

end Sys2Proof.Machine

/-! CONTINUE MOTION (O31). -/

namespace Sys2Proof.Machine

open Sys2Proof

variable {s t : State} {m : LeafMotion}

/-- R83 lets a start go ahead behind a closed road, without the emergency stop and with the span vacant. -/
def startable (s : State) : Prop :=
  s.leaf.group.emergencyStop = false ∧ s.leaf.group.spanOccupied = false ∧ s.closure.state = .roadClosed

theorem startRefused_iff (s : State) : startRefused (roadIsClosed s) s.leaf = false ↔ startable s := by
  simp [startRefused, roadIsClosed, startable, and_assoc]

theorem startable_congr (hl : t.leaf = s.leaf) (hc : t.closure = s.closure) : startable t ↔ startable s := by
  simp only [startable, hl, hc]

theorem continueRefused_started (hst : s.leaf.group.state = .halted) (h : startable s)
    (hseated : s.leaf.group.targetInUse = 0 → bothSeated s.leaf = false) : continueRefused (roadIsClosed s) s.leaf = false := by
  have hstart := (startRefused_iff s).mpr h
  by_cases hzero : s.leaf.group.targetInUse = 0
  · simp [continueRefused, hst, hzero, lowerRefused, hseated hzero, hstart]
  · simp [continueRefused, hst, hzero, hstart]

theorem continueRefused_stopped (hst : s.leaf.group.state = .halted) (h : s.leaf.group.emergencyStop = true) :
    continueRefused (roadIsClosed s) s.leaf = true := by
  have hstart : startRefused (roadIsClosed s) s.leaf = true := by simp [startRefused, h]
  by_cases hzero : s.leaf.group.targetInUse = 0
  · simp [continueRefused, hst, hzero, lowerRefused, hstart, h]
  · simp [continueRefused, hst, hzero, hstart]

/-- The opening is in a state in which CONTINUE MOTION continues the leaves (R40). -/
def continues (s : State) : Prop := ∃ o, s.seq.opening = some o ∧ (o.state = .lifting ∨ o.state = .open ∨ o.state = .lowering)

theorem takeContinue_continues (hm : s.sup.mode = .attended) (ho : continues s) (hst : s.leaf.group.state = .halted) :
    takeContinue [] s = if continueRefused (roadIsClosed s) s.leaf then refuse .interlock s
      else accept [] (applyLeaf LeafMotion.continueMotion s) := by
  obtain ⟨o, ho, hlift | hopen | hlower⟩ := ho
  · simp [takeContinue, attended, hm, openingState, ho, hst, hlift]
  · simp [takeContinue, attended, hm, openingState, ho, hst, hopen]
  · simp [takeContinue, attended, hm, openingState, ho, hst, hlower]

/-- CONTINUE MOTION taken with the leaves halted, as the request's answer around the group's report (R40, R87). -/
theorem exec_continueMotion (hr : readyFor .control s) (hm : s.sup.mode = .attended) (ho : continues s)
    (hst : s.leaf.group.state = .halted) (hstart : startable s)
    (hseated : s.leaf.group.targetInUse = 0 → bothSeated s.leaf = false) :
    exec (.continueMotion .control []) s =
      .next (putReply .control 0x25#8 .ok [] (applyLeaf LeafMotion.continueMotion (takenIn .control 0x25#8 s))) := by
  refine (exec_accepted (c := .continueMotion .control []) rfl rfl (by decide) hr rfl ?_).1
  have hrefused : continueRefused (roadIsClosed (takenIn .control 0x25#8 s)) (takenIn .control 0x25#8 s).leaf = false :=
    continueRefused_started (by simpa using hst) ((startable_congr (by simp) (by simp)).mpr hstart) (by simpa using hseated)
  change takeContinue [] _ = _
  rw [takeContinue_continues (by simpa using hm) (by simpa [continues] using ho) (by simpa using hst), hrefused]
  rfl

/-- CONTINUE MOTION that puts the leaves under way. -/
theorem continueMotion_moves (hr : readyFor .control s) (hm : s.sup.mode = .attended) (ho : continues s)
    (hst : s.leaf.group.state = .halted) (hstart : startable s)
    (hseated : s.leaf.group.targetInUse = 0 → bothSeated s.leaf = false)
    (hquiet : reportsQuietly s.leaf.continueMotion.group.state) :
    ∃ t, exec (.continueMotion .control []) s = .next t ∧ t.leaf = s.leaf.continueMotion ∧ t.seq.opening = s.seq.opening
      ∧ answeredMoving 0x25#8 [] [] s t := by
  have hleaf : (takenIn .control 0x25#8 s).leaf = s.leaf := takenIn_leaf _ _ _
  have hne : s.leaf.continueMotion.group.state ≠ s.leaf.group.state := by
    rw [hst]; rintro h; simp [reportsQuietly, h] at hquiet
  obtain ⟨hopening, hreport⟩ := applyLeaf_quiet (f := LeafMotion.continueMotion) (s := takenIn .control 0x25#8 s)
    (by rw [hleaf]; exact hquiet) (by rw [hleaf]; exact hne)
  refine ⟨_, exec_continueMotion hr hm ho hst hstart hseated, ?_, ?_, answeredMoving_putReply hr [] hreport⟩
  · rw [putReply_leaf, applyLeaf_leaf, hleaf]
  · rw [putReply_seq, hopening, takenIn_seq]

/-- What stands behind `0 < toward`: T is present and in use. -/
theorem target_of_pos {g : Group} (h : 0 < g.target.getD 0) : g.target = some (g.target.getD 0) ∧ g.targetInUse ≠ 0 := by
  cases ht : g.target with
  | none => simp [ht] at h
  | some k => exact ⟨rfl, by simpa [Group.targetInUse, ht] using Nat.pos_iff_ne_zero.mp (by simpa [ht] using h)⟩

theorem continueMotion_toward (h : m.group.targetInUse ≠ 0) (hseated : bothSeated m = false ∨ allLocks .withdrawn m = true) :
    m.continueMotion = m.motionStart .raising := by
  have hcond : ¬(bothSeated m && !allLocks .withdrawn m) = true := by rcases hseated with h | h <;> simp [h]
  rw [LeafMotion.continueMotion, if_neg h, if_neg hcond]

theorem continueMotion_unlocks (h : m.group.targetInUse ≠ 0) (hseated : bothSeated m = true)
    (hlocks : allLocks .withdrawn m = false) : m.continueMotion = m.enterUnlocking := by
  rw [LeafMotion.continueMotion, if_neg h, if_pos (by simp [hseated, hlocks])]

theorem continueMotion_down (h : m.group.targetInUse = 0) (hst : m.group.state = .halted) (hseated : bothSeated m = false) :
    m.continueMotion = (m.setTarget 0).motionStart .lowering := by
  rw [LeafMotion.continueMotion, if_pos h]
  simp [LeafMotion.lower, hst, hseated]

/-- The leaf records of UNLOCKING entered from a table that commands no lock. -/
theorem enterUnlocking_fields (h : ∀ k, (m.locks.get k).command = none) (hlocks : allLocks .withdrawn m = false) :
    m.enterUnlocking.group = { m.group with state := .unlocking }
      ∧ (∀ k, (m.enterUnlocking.locks.get k).command = some .withdraw) ∧ m.enterUnlocking.drives = m.drives := by
  rw [enterUnlocking_eq h hlocks]
  exact ⟨rfl, fun k => by simp [LeafMotion.enter, LeafMotion.updateGroup], rfl⟩

theorem raiseRefused_stowed (hst : s.leaf.group.state = .stowed) (hstart : startable s) :
    raiseRefused (roadIsClosed s) s.leaf = false := by
  simp only [raiseRefused, hst]
  exact (startRefused_iff s).mpr hstart

theorem raise_stowed (hst : m.group.state = .stowed) (target : Nat) : m.raise target = (m.setTarget target).enterUnlocking := by
  simp only [LeafMotion.raise, hst]

/-- Settles O31: `continueMotion` by the target, the locks and the seats; and the lift that was refused before. -/
theorem continueMotionByTarget : Obligations.ContinueMotionByTarget := by
  intro o s hr hm ho started toward opening
  refine ⟨fun hstate hst => ⟨fun hstart hpos hlocks => ?up, fun hstart hzero hseated hlocks => ?down,
    fun hstart hpos htable hlocks hseated => ?unlock, fun hstart hpos hlocks hseated => ?trip, fun hestop => ?refused⟩,
    fun hclosing hrec hst hstart htable hlocks => ?lift⟩
  case up =>
    obtain ⟨htarget, hne⟩ := target_of_pos hpos
    have hmotion := continueMotion_toward hne (.inr hlocks)
    have hstarted := motionStart_started (st := .raising) hlocks htarget
    obtain ⟨t, hexec, hleaf, hopening, hmoving⟩ := continueMotion_moves hr hm ⟨o, ho, hstate⟩ hst hstart (fun h => absurd h hne)
      (by rw [hmotion, hstarted.1]; simp [reportsQuietly])
    exact ⟨t, hexec, by rw [hleaf, hmotion]; exact hstarted, hopening.trans ho, hmoving⟩
  case down =>
    have hmotion := continueMotion_down (m := s.leaf) hzero hst hseated
    have hstarted : startedMotion .lowering 0 s.leaf ((s.leaf.setTarget 0).motionStart .lowering) :=
      startedMotion_congr rfl rfl rfl rfl (motionStart_started (m := s.leaf.setTarget 0) hlocks rfl)
    obtain ⟨t, hexec, hleaf, hopening, hmoving⟩ := continueMotion_moves hr hm ⟨o, ho, hstate⟩ hst hstart (fun _ => hseated)
      (by rw [hmotion, hstarted.1]; simp [reportsQuietly])
    exact ⟨t, hexec, by rw [hleaf, hmotion]; exact hstarted, hopening.trans ho, hmoving⟩
  case unlock =>
    obtain ⟨htarget, hne⟩ := target_of_pos hpos
    have hmotion := continueMotion_unlocks hne hseated hlocks
    obtain ⟨hgroup, hcommands, hdrives⟩ :=
      enterUnlocking_fields (m := s.leaf) (htable.locksIdle (by simp [hst])) hlocks
    obtain ⟨t, hexec, hleaf, hopening, hmoving⟩ := continueMotion_moves hr hm ⟨o, ho, hstate⟩ hst hstart (fun h => absurd h hne)
      (by rw [hmotion, hgroup]; simp [reportsQuietly])
    refine ⟨t, hexec, ?_, ?_, ?_, hopening.trans ho, hmoving⟩
    · rw [hleaf, hmotion, hgroup]
    · rw [hleaf, hmotion]; exact hcommands
    · rw [hleaf, hmotion, hdrives]
  case trip =>
    obtain ⟨htarget, hne⟩ := target_of_pos hpos
    have hmotion : s.leaf.continueMotion = trippedLeaf .lockFault s.leaf := by
      rw [continueMotion_toward hne (.inl hseated), LeafMotion.motionStart, if_neg (by simp [hlocks]), trip_eq (by simp [hst]) (by simp [hst])]
    have hleaf : (takenIn .control 0x25#8 s).leaf = s.leaf := takenIn_leaf _ _ _
    obtain ⟨htleaf, htopening, hreport⟩ := applyLeaf_stopped (f := LeafMotion.continueMotion) (s := takenIn .control 0x25#8 s)
      (by rw [hleaf, hmotion]; exact .inl rfl) (by rw [hleaf, hmotion, hst]; simp [trippedLeaf])
    refine ⟨_, exec_continueMotion hr hm ⟨o, ho, hstate⟩ hst hstart (fun h => absurd h hne), ?_, ?_, answeredMoving_putReply hr [] hreport⟩
    · rw [putReply_leaf, htleaf, hleaf, hmotion]
    · rw [putReply_seq, htopening]
      simp only [stoppedOpening, takenIn_seq, ho, Option.map_some]
      rfl
  case refused =>
    refine exec_refused (c := .continueMotion .control []) rfl rfl hr rfl ?_
    change takeContinue [] _ = _
    rw [takeContinue_continues (by simpa using hm) (by simpa [continues, ho] using hstate) (by simpa using hst),
      if_pos (continueRefused_stopped (by simpa using hst) (by simpa using hestop))]
  case lift =>
    let w := takenIn .control 0x25#8 s
    let v := enterOpeningQuietly .lifting w
    have hwleaf : w.leaf = s.leaf := takenIn_leaf _ _ _
    have hvleaf : v.leaf = s.leaf := by simp [v, w]
    have htake : takeContinue [] w = accept [] (applyLeaf (LeafMotion.raise o.target) v) := by
      have hclosed : roadIsClosed w = true := by rw [roadIsClosed_iff]; simpa [w] using hstart.2.2
      have hrefused : raiseRefused (roadIsClosed w) w.leaf = false :=
        raiseRefused_stowed (by rw [hwleaf]; exact hst) ((startable_congr hwleaf (by simp [w])).mpr hstart)
      have how : w.seq.opening = some o := by simpa [w] using ho
      have hmw : w.sup.mode = .attended := by simpa [w] using hm
      rw [hclosed] at hrefused
      simp [takeContinue, attended, hmw, openingState, how, hclosing, inRecovery, hrec, hclosed, hrefused, openingTarget, v]
    have hraise : v.leaf.raise o.target = (s.leaf.setTarget o.target).enterUnlocking := by
      rw [hvleaf, raise_stowed hst]
    obtain ⟨hgroup, hcommands, hdrives⟩ := enterUnlocking_fields (m := s.leaf.setTarget o.target) (htable.locksIdle (by simp [hst])) hlocks
    obtain ⟨hopening, hreport⟩ := applyLeaf_quiet (f := LeafMotion.raise o.target) (s := v)
      (by rw [hraise, hgroup]; simp [reportsQuietly]) (by rw [hraise, hgroup, hvleaf, hst]; simp)
    have hreported : groupReportedWith [] [.leafGroup] w (applyLeaf (LeafMotion.raise o.target) v) :=
      groupReported_after (by simp [v]) (by simp [v]) (by simp [v, enterOpeningQuietly, updateOpening, setOpening])
        (unchangedBut_mono (by simp) (setOpening_frame _ w)) hreport
    refine ⟨_, (exec_accepted (c := .continueMotion .control []) rfl rfl (by decide) hr rfl htake).1, ?_, ?_, ?_, ?_,
      answeredMoving_with hr [] hreported⟩
    · rw [putReply_leaf, applyLeaf_leaf, hraise, hgroup]; rfl
    · rw [putReply_leaf, applyLeaf_leaf, hraise]; exact hcommands
    · rw [putReply_leaf, applyLeaf_leaf, hraise, hdrives]; rfl
    · rw [putReply_seq, hopening]
      simp [v, w, enterOpeningQuietly, updateOpening, setOpening, ho]

end Sys2Proof.Machine

/-! AMEND PASSAGE of an ADMITTED record (O19). -/

namespace Sys2Proof.Machine

open Sys2Proof

variable {s t u v : State} {l : Link} {kind : Byte} {body : List Byte} {p : Passage} {n : Nat} {a : Amendment} {angle : Nat}
  {o : Opening} {m : LeafMotion}

/-! ## A target handed over (R31, R85) -/

theorem handOver_stands (closed : Bool) (target : Nat) (hs : m.group.state ≠ .settling) (hh : m.group.state ≠ .heldOpen) :
    m.handOver closed target = m.setTarget target := by
  have hstate : (m.setTarget target).group.state = m.group.state := rfl
  unfold LeafMotion.handOver
  dsimp only
  split
  next h => exact absurd (hstate ▸ h) hs
  next h => exact absurd (hstate ▸ h) hh
  all_goals rfl

theorem handOver_settling (closed : Bool) (target : Nat) (hs : m.group.state = .settling) :
    m.handOver closed target = (m.setTarget target).clearCounts.enter .raising := by
  have hstate : (m.setTarget target).group.state = .settling := hs
  simp only [LeafMotion.handOver, hstate]

theorem takeTargetRaise_held (h : openingState s = some .open ∧ s.leaf.group.state = .heldOpen) (target : Nat) :
    takeTargetRaise target s = applyLeaf (LeafMotion.raise target)
      (updateOpening (fun o => { o with target := target, extending := true }) s) := if_pos h

theorem takeTargetRaise_handed (h : s.leaf.group.state ≠ .heldOpen) (target : Nat) :
    takeTargetRaise target s = applyLeaf (LeafMotion.handOver (roadIsClosed s) target)
      (updateOpening (fun o => { o with target := target }) s) := if_neg fun hc => h hc.2

theorem raise_heldOpen (hst : m.group.state = .heldOpen) (target : Nat) :
    m.raise target = (m.setTarget target).motionStart .raising := by simp only [LeafMotion.raise, hst]

theorem raiseRefused_heldOpen (hst : s.leaf.group.state = .heldOpen) :
    raiseRefused (roadIsClosed s) s.leaf = false ↔ startable s := by
  simp only [raiseRefused, hst]
  exact startRefused_iff s

theorem targetRaiseRefused_iff (ho : s.seq.opening = some o) : targetRaiseRefused s = true ↔
    s.closure.degraded = true ∨ s.sup.mode = .unattended
      ∨ (o.state = .open ∧ s.leaf.group.state = .heldOpen ∧ ¬startable s) := by
  by_cases hheld : s.leaf.group.state = .heldOpen
  · have hiff : raiseRefused (roadIsClosed s) s.leaf = true ↔ ¬startable s := by
      rw [← raiseRefused_heldOpen hheld, Bool.not_eq_false]
    simp [targetRaiseRefused, openingState, ho, hheld, hiff, or_assoc]
  · simp [targetRaiseRefused, openingState, ho, hheld]

theorem callsForRaise_iff (ho : s.seq.opening = some o) (hst : o.state = .lifting ∨ o.state = .open) (angle : Nat) :
    callsForRaise angle s = true ↔ o.target < withMargin s.conf angle := by
  rcases hst with h | h <;> simp [callsForRaise, openingState, openingTarget, ho, h]

theorem updateOpening_opening (f : Opening → Opening) (ho : s.seq.opening = some o) :
    (updateOpening f s).seq.opening = some (f o) := by simp [updateOpening, setOpening, ho]

theorem updateOpening_frame (f : Opening → Opening) (s : State) : unchangedBut [.seq] s (updateOpening f s) :=
  setOpening_frame _ s

theorem takeTargetRaise_stands (hs : s.leaf.group.state ≠ .settling) (hh : s.leaf.group.state ≠ .heldOpen) (target : Nat) :
    takeTargetRaise target s =
      (updateOpening (fun o => { o with target := target }) s).withLeaf (s.leaf.setTarget target) := by
  have hleaf : (updateOpening (fun o => { o with target := target }) s).leaf = s.leaf := by simp
  have hhand : (updateOpening (fun o => { o with target := target }) s).leaf.handOver (roadIsClosed s) target =
      s.leaf.setTarget target := by rw [hleaf]; exact handOver_stands _ _ hs hh
  rw [takeTargetRaise_handed hh, applyLeaf_same (by rw [hhand, hleaf]; rfl), hhand]

theorem groupReported_afterOpening {causes : List AttentionCause} (f : Opening → Opening)
    (h : groupReported causes (updateOpening f s) t) : groupReportedWith [] causes s t :=
  groupReported_after (by simp) (by simp) (by simp [updateOpening, setOpening])
    (unchangedBut_mono (by simp) (updateOpening_frame f s)) h

theorem takeTargetRaise_settles (ho : s.seq.opening = some o) (hs : s.leaf.group.state = .settling) (target : Nat) :
    (takeTargetRaise target s).leaf = (s.leaf.setTarget target).clearCounts.enter .raising
      ∧ (takeTargetRaise target s).seq.opening = some { o with target := target }
      ∧ groupReportedWith [] [.leafGroup] s (takeTargetRaise target s) := by
  have hleaf : (updateOpening (fun o => { o with target := target }) s).leaf = s.leaf := by simp
  have hhand : (updateOpening (fun o => { o with target := target }) s).leaf.handOver (roadIsClosed s) target =
      (s.leaf.setTarget target).clearCounts.enter .raising := by rw [hleaf]; exact handOver_settling _ _ hs
  rw [takeTargetRaise_handed (by simp [hs])]
  obtain ⟨hopening, hreport⟩ := applyLeaf_quiet (f := LeafMotion.handOver (roadIsClosed s) target)
    (s := updateOpening (fun o => { o with target := target }) s) (by rw [hhand]; simp [reportsQuietly, LeafMotion.enter, LeafMotion.updateGroup])
    (by rw [hhand, hleaf, hs]; simp [LeafMotion.enter, LeafMotion.updateGroup])
  exact ⟨by rw [applyLeaf_leaf, hhand], hopening.trans (updateOpening_opening _ ho), groupReported_afterOpening _ hreport⟩

theorem takeTargetRaise_starts (ho : s.seq.opening = some o) (hst : o.state = .open) (hh : s.leaf.group.state = .heldOpen)
    (hlocks : allLocks .withdrawn s.leaf = true) (target : Nat) :
    startedMotion .raising (16 * target) s.leaf (takeTargetRaise target s).leaf
      ∧ (takeTargetRaise target s).seq.opening = some { o with target := target, extending := true }
      ∧ groupReportedWith [] [.leafGroup] s (takeTargetRaise target s) := by
  have hleaf : (updateOpening (fun o => { o with target := target, extending := true }) s).leaf = s.leaf := by simp
  have hraise : (updateOpening (fun o => { o with target := target, extending := true }) s).leaf.raise target =
      (s.leaf.setTarget target).motionStart .raising := by rw [hleaf]; exact raise_heldOpen hh target
  have hstarted : startedMotion .raising (16 * target) s.leaf ((s.leaf.setTarget target).motionStart .raising) :=
    startedMotion_congr rfl rfl rfl rfl (motionStart_started (m := s.leaf.setTarget target) hlocks rfl)
  rw [takeTargetRaise_held ⟨by simp [openingState, ho, hst], hh⟩]
  obtain ⟨hopening, hreport⟩ := applyLeaf_quiet (f := LeafMotion.raise target)
    (s := updateOpening (fun o => { o with target := target, extending := true }) s) (by rw [hraise, hstarted.1]; simp [reportsQuietly])
    (by rw [hraise, hleaf, hstarted.1, hh]; simp)
  exact ⟨by rw [applyLeaf_leaf, hraise]; exact hstarted, hopening.trans (updateOpening_opening _ ho), groupReported_afterOpening _ hreport⟩

/-! ## The amendment and who is told (R25) -/

theorem applyAmendment_told (l : Link) (a : Amendment) (angle : Nat) (p : Passage) (s : State) :
    ((applyAmendment l a angle p s).links.get p.origin).attention = toldAttention l p s := notifyOrigin_told l p _

theorem applyAmendment_attention_ne {k : Link} (h : k ≠ p.origin) (a : Amendment) (angle : Nat) (s : State) :
    ((applyAmendment l a angle p s).links.get k).attention = (s.links.get k).attention := notifyOrigin_attention_ne h _

/-- The control line stands at an amendment: the control link may amend any record, and the harbour link its own alone. -/
theorem applyAmendment_control (hper : l = .control ∨ p.origin = .harbour) (a : Amendment) (angle : Nat) (s : State) :
    ((applyAmendment l a angle p s).links.get .control).attention = (s.links.get .control).attention := by
  by_cases h : p.origin = .control
  · have hl : l = .control := hper.resolve_right (by simp [h])
    have htold := applyAmendment_told l a angle p s
    rw [toldAttention, if_pos (hl.trans h.symm), h] at htold
    exact htold
  · exact applyAmendment_attention_ne (Ne.symm h) a angle s

theorem applyAmendment_frame (l : Link) (a : Amendment) (angle : Nat) (p : Passage) (s : State) :
    unchangedBut [.controlPort, .harbourPort, .reg] s (applyAmendment l a angle p s) := by
  intro x hx; cases x <;> simp_all [Part.same, applyAmendment]

theorem takeAmend_late (hm : s.sup.mode ≠ .setup) (ha : amendmentOf body = some a)
    (hfind : findPassage a.number s.reg = some p) (hper : l = .control ∨ p.origin = .harbour) (hst : p.state = .admitted)
    (hlate : a.cls ≠ none ∨ a.lifetime ≠ none) : takeAmend l body s = refuse .tooLate s := by
  have hcond : (a.cls.isSome || a.lifetime.isSome) = true := by
    rcases hlate with h | h <;> simp [Option.isSome_iff_ne_none.mpr h]
  simp only [takeAmend, inSetup, ha, hfind, permitted_of_origin hper, hst, PassageState.terminal, hcond]
  simp [hm]

theorem takeAmend_admitted (hm : s.sup.mode ≠ .setup) (ha : amendmentOf body = some a)
    (hfind : findPassage a.number s.reg = some p) (hper : l = .control ∨ p.origin = .harbour) (hst : p.state = .admitted)
    (hcls : a.cls = none) (hlife : a.lifetime = none) (hangle : amendmentAngle s.conf a = some angle) :
    takeAmend l body s = amendAdmitted l a angle p s := by
  simp only [takeAmend, inSetup, ha, hfind, permitted_of_origin hper, hst, PassageState.terminal, hcls, hlife, hangle]
  simp [hm]

/-- The reply of an amendment of an ADMITTED record carries the record as it now stands. -/
theorem amendAdmitted_accept (hfind : findPassage n s.reg = some p) (hreg : t.reg = changePassage p.number (amended a angle) s.reg) :
    acceptRecord p.number t = accept (passageOctets (amended a angle p)) t :=
  acceptRecord_changed hfind hreg fun q => (amended_fields a angle q).1

theorem amendAdmitted_closing (hfind : findPassage n s.reg = some p) (ho : s.seq.opening = some o) (hst : o.state = .closingRoad) :
    amendAdmitted l a angle p s = accept (passageOctets (amended a angle p))
      (deriveDemands (formTarget (applyAmendment l a angle p s))) := by
  rw [← amendAdmitted_accept hfind (by simp)]
  simp [amendAdmitted, openingState, ho, hst]

theorem amendAdmitted_tooLate (ho : s.seq.opening = some o)
    (hst : o.state = .lowering ∨ o.state = .reopeningRoad ∨ o.state = .recoveryWait) :
    amendAdmitted l a angle p s = refuse .tooLate s := by
  rcases hst with h | h | h <;> simp [amendAdmitted, openingState, ho, h]

theorem amendAdmitted_kept (hfind : findPassage n s.reg = some p) (ho : s.seq.opening = some o)
    (hst : o.state = .lifting ∨ o.state = .open) (hle : withMargin s.conf angle ≤ o.target) :
    amendAdmitted l a angle p s = accept (passageOctets (amended a angle p)) (deriveDemands (applyAmendment l a angle p s)) := by
  have hcalls : callsForRaise angle s = false := by
    rw [Bool.eq_false_iff, Ne, callsForRaise_iff ho hst]; exact not_lt.mpr hle
  rw [← amendAdmitted_accept hfind (by simp)]
  rcases hst with h | h <;> simp [amendAdmitted, openingState, ho, h, hcalls]

theorem amendAdmitted_raised (hfind : findPassage n s.reg = some p) (ho : s.seq.opening = some o)
    (hst : o.state = .lifting ∨ o.state = .open) (hlt : o.target < withMargin s.conf angle) :
    amendAdmitted l a angle p s = if targetRaiseRefused s then refuse .interlock s
      else accept (passageOctets (amended a angle p))
        (deriveDemands (takeTargetRaise (withMargin s.conf angle) (applyAmendment l a angle p s))) := by
  have hcalls : callsForRaise angle s = true := (callsForRaise_iff ho hst angle).mpr hlt
  rw [← amendAdmitted_accept hfind (by simp)]
  rcases hst with h | h <;> simp [amendAdmitted, openingState, ho, h, hcalls]

/-- The state of an opening that a changed record is listed in. -/
theorem mem_listed_of_find (ho : s.seq.opening = some o) (hmem : n ∈ o.list) (hfind : findPassage n s.reg = some p) :
    p ∈ listedRecords s := by
  simp only [listedRecords, ho]
  exact List.mem_filterMap.mpr ⟨n, hmem, hfind⟩

/-- Settles O19: the refusals of `takeAmend`, and `amendAdmitted` by the states of the opening and of the group. -/
theorem amendOfAnAdmittedRecord : Obligations.AmendOfAnAdmittedRecord := by
  intro l body a p o s hr hm ha hfind hst hper ho
  let w := takenIn l 0x11#8 s
  have hmw : w.sup.mode ≠ .setup := by simpa [w] using hm
  have hfindw : findPassage a.number w.reg = some p := by simpa [w] using hfind
  have how : w.seq.opening = some o := by simpa [w] using ho
  have hleafw : w.leaf = s.leaf := takenIn_leaf _ _ _
  have hclosurew : w.closure = s.closure := takenIn_closure _ _ _
  have hconfw : w.conf = s.conf := takenIn_conf _ _ _
  refine ⟨fun hlate => exec_refused (c := .amendPassage l _) rfl rfl hr rfl (takeAmend_late hmw ha hfindw hper hst hlate), ?_⟩
  intro cm angle hcm hcls hlife hangle records amended told moved raise startable'
  have htake : takeAmend l body w = amendAdmitted l a angle p w :=
    takeAmend_admitted hmw ha hfindw hper hst hcls hlife (by rw [amendmentAngle, hcm, hconfw]; exact hangle)
  have hfields : Machine.amended a angle = fun q => { q with clearance := cm, angle := angle } := by
    funext q
    simp [Machine.amended, withClearance, hcm, hcls, hlife]
  let x := applyAmendment l a angle p w
  have hregx : x.reg = { s.reg with records := records } := by
    simp only [x, applyAmendment_reg, w, takenIn_reg, (findPassage_mem hfind).2, hfields]
    rfl
  have hox : x.seq.opening = some o := by simpa [x] using how
  have hleafx : x.leaf = s.leaf := by simp [x, hleafw]
  have htoldx : (x.links.get p.origin).attention = toldAttention l p s :=
    (applyAmendment_told l a angle p w).trans (toldAttention_takenIn l 0x11#8 p s)
  have hownx (hne : l ≠ p.origin) : (x.links.get l).attention = (s.links.get l).attention :=
    (applyAmendment_attention_ne hne a angle w).trans (takenIn_attention l 0x11#8 s l)
  have hcontrolx : (x.links.get .control).attention = (s.links.get .control).attention :=
    (applyAmendment_control hper a angle w).trans (takenIn_attention l 0x11#8 s .control)
  have hframex : unchangedBut [.controlPort, .harbourPort, .reg, .sup] s x :=
    unchangedBut_trans (unchangedBut_mono (by cases l <;> simp [portPart]) (takenIn_frame l 0x11#8 s))
      (unchangedBut_mono (by simp) (applyAmendment_frame l a angle p w))
  have hconfx : x.conf = s.conf := congrArg (·.getD Configured.blank) (hframex .cfg (by decide))
  -- the answer around a state `z` that the taken amendment leads to
  have hanswer {z : State} (hz : takeAmend l body w = accept (passageOctets (Machine.amended a angle p)) z) (hreg : z.reg = x.reg) :
      exec (.amendPassage l body) s = .next (putReply l 0x11#8 .ok (passageOctets (Machine.amended a angle p)) z)
        ∧ amended (putReply l 0x11#8 .ok (passageOctets (Machine.amended a angle p)) z) := by
    obtain ⟨hexec, hanswered⟩ := exec_accepted (c := .amendPassage l body) rfl rfl (by decide) hr rfl hz
    refine ⟨hexec, by rw [putReply_reg, hreg, hregx], ?_⟩
    rw [hfields] at hanswered ⊢
    exact hanswered
  have htold {z : State} {b : List Byte} (hlinks : z.links = x.links) : told (putReply l 0x11#8 .ok b z) := by
    refine ⟨by rw [putReply_attention, hlinks, htoldx], fun hne => by rw [putReply_attention, hlinks, hownx hne]⟩
  have hend {changed : List Part} {z : State} {b : List Byte} (h : unchangedBut changed s z)
      (hmem : Part.controlPort ∈ changed ∧ Part.harbourPort ∈ changed) : unchangedBut changed s (putReply l 0x11#8 .ok b z) :=
    unchangedBut_trans h (unchangedBut_mono (by cases l <;> simp [portPart, hmem.1, hmem.2])
      (updatePort_frame l _ z : unchangedBut [portPart l] z (putReply l 0x11#8 .ok b z)))
  have hraised (hlift : o.state = .lifting ∨ o.state = .open) (hlt : o.target < raise) :
      takeAmend l body w = if targetRaiseRefused w then refuse .interlock w
        else accept (passageOctets (Machine.amended a angle p)) (deriveDemands (takeTargetRaise raise x)) := by
    rw [htake, amendAdmitted_raised hfindw how hlift (by rw [hconfw]; exact hlt), hconfw]
  have hrefused : targetRaiseRefused w = true ↔ s.closure.degraded = true ∨ s.sup.mode = .unattended
      ∨ (o.state = .open ∧ s.leaf.group.state = .heldOpen ∧ ¬startable') := by
    rw [targetRaiseRefused_iff how, hclosurew, hleafw, startable_congr hleafw hclosurew]
    simp [w]
    rfl
  refine ⟨fun hlate => ?late, fun hclosing hrec hmem _ => ?closing, fun hlift hle => ?kept, fun hlift hlt => ⟨fun hint => ?interlock,
    fun hdeg hatt => ⟨fun hheld hset => ?handed, fun hset => ?settling, fun hopen hheld hstart hlocks => ?start⟩⟩⟩
  case late =>
    exact exec_refused (c := .amendPassage l _) rfl rfl hr rfl (htake.trans (amendAdmitted_tooLate how hlate))
  case closing =>
    obtain ⟨hexec, hamended⟩ := hanswer (htake.trans (amendAdmitted_closing hfindw how hclosing))
      (by rw [deriveDemands_reg, formTarget_reg])
    have hlisted : listedRecords (putReply l 0x11#8 .ok (passageOctets (Machine.amended a angle p)) (deriveDemands (formTarget x))) =
        listedRecords x := listedRecords_of_lists (by simp [formTarget, updateOpening, setOpening, hox]) (by simp)
    have hself : Machine.amended a angle p ∈ listedRecords x := by
      refine mem_listed_of_find hox hmem ?_
      rw [applyAmendment_reg, findPassage_change fun q => (amended_fields a angle q).1, hfindw]
      simp
    have hactive : isActive (Machine.amended a angle p) = true := by
      simp [isActive, isAdmitted, (amended_fields a angle p).2.1, hst]
    refine ⟨_, formedTarget x, hexec, hamended, htold (by rw [deriveDemands_links, formTarget_links]), ?_, fun z hz hz' => ?_, ?_,
      demandsStand_putReply (demandsStand_deriveDemands _), ?_⟩
    · rw [putReply_seq, deriveDemands_seq_opening, formTarget_opening hox hrec]
    · rw [← hconfx]; exact le_formedTarget (hlisted ▸ hz) hz'
    · rw [hlisted, ← hconfx]; exact formedTarget_attained ⟨_, hself, hactive⟩
    · exact hend (unchangedBut_trans (unchangedBut_mono (by simp) hframex) (unchangedBut_trans
        (unchangedBut_mono (by simp) (formTarget_frame x)) (unchangedBut_mono (by simp) (deriveDemands_frame _)))) (by simp)
  case kept =>
    obtain ⟨hexec, hamended⟩ := hanswer (htake.trans (amendAdmitted_kept hfindw how hlift (by rw [hconfw]; exact hle)))
      (deriveDemands_reg x)
    refine ⟨_, hexec, hamended, htold (deriveDemands_links x), ?_, demandsStand_putReply (demandsStand_deriveDemands _), ?_⟩
    · rw [putReply_seq, deriveDemands_seq_opening]; exact hox
    · exact hend (unchangedBut_trans (unchangedBut_mono (by simp) hframex) (unchangedBut_mono (by simp) (deriveDemands_frame _))) (by simp)
  case interlock =>
    refine exec_refused (c := .amendPassage l _) rfl rfl hr rfl ((hraised hlift hlt).trans (if_pos (hrefused.mpr ?_)))
    exact hint
  -- the raise of a taken amendment, and what a raise that moves the group makes of the lines
  all_goals
    have htaken : takeAmend l body w = accept (passageOctets (Machine.amended a angle p)) (deriveDemands (takeTargetRaise raise x)) := by
      rw [hraised hlift hlt, if_neg]
      intro h
      rcases hrefused.mp h with h | h | ⟨_, h', h''⟩
      · simp [hdeg] at h
      · simp [hatt] at h
      · first | exact hheld h' | exact absurd h' (by simp [hset]) | exact h'' hstart
  case handed =>
    have hraise : takeTargetRaise raise x = (updateOpening (fun o => { o with target := raise }) x).withLeaf (s.leaf.setTarget raise) := by
      rw [takeTargetRaise_stands (by rw [hleafx]; exact hset) (by rw [hleafx]; exact hheld), hleafx]
    rw [hraise] at htaken
    obtain ⟨hexec, hamended⟩ := hanswer htaken (by simp)
    refine ⟨_, hexec, hamended, htold (by simp), ?_, demandsStand_putReply (demandsStand_deriveDemands _), by simp [LeafMotion.setTarget, LeafMotion.updateGroup], ?_⟩
    · rw [putReply_seq, deriveDemands_seq_opening, State.withLeaf_seq, updateOpening_opening _ hox]
    · exact hend (unchangedBut_trans (unchangedBut_mono (by simp) hframex) (unchangedBut_trans (unchangedBut_mono (by simp) (updateOpening_frame _ x))
        (unchangedBut_trans (unchangedBut_mono (by simp) (withLeaf_frame _ _)) (unchangedBut_mono (by simp) (deriveDemands_frame _))))) (by simp)
  all_goals
    have hmoved {z : State} {b : List Byte} (h : groupReportedWith [] [.leafGroup] x z) : moved (putReply l 0x11#8 .ok b (deriveDemands z)) := by
      obtain ⟨_, hport, _, _, hframe⟩ := h
      refine ⟨?_, fun horigin => ?_, demandsStand_putReply (demandsStand_deriveDemands _), ?_⟩
      · rw [putReply_attention, deriveDemands_links]
        simp only [PerLink.get] at hcontrolx ⊢
        rw [hport, hcontrolx]
        rfl
      · rw [putReply_attention, deriveDemands_links]
        have hharbour : z.links.harbour = x.links.harbour := hframe .harbourPort (by decide)
        rw [horigin] at htoldx
        simp only [PerLink.get] at htoldx ⊢
        rw [hharbour, htoldx]
      · exact hend (unchangedBut_trans (unchangedBut_mono (by simp) hframex) (unchangedBut_trans (unchangedBut_mono (by simp) hframe)
          (unchangedBut_mono (by simp) (deriveDemands_frame _)))) (by simp)
  case settling =>
    obtain ⟨hleaf, hopening, hreport⟩ := takeTargetRaise_settles hox (by rw [hleafx]; exact hset) raise
    obtain ⟨hexec, hamended⟩ := hanswer htaken (by rw [deriveDemands_reg]; exact hreport.2.2.2.2 .reg (by decide))
    refine ⟨_, hexec, hamended, hmoved hreport, ?_, ?_⟩
    · rw [putReply_seq, deriveDemands_seq_opening, hopening]
    · rw [putReply_leaf, deriveDemands_leaf, hleaf, hleafx]; rfl
  case start =>
    obtain ⟨hstarted, hopening, hreport⟩ :=
      takeTargetRaise_starts hox hopen (by rw [hleafx]; exact hheld) (by rw [hleafx]; exact hlocks) raise
    obtain ⟨hexec, hamended⟩ := hanswer htaken (by rw [deriveDemands_reg]; exact hreport.2.2.2.2 .reg (by decide))
    refine ⟨_, hexec, hamended, hmoved hreport, ?_, ?_⟩
    · rw [putReply_seq, deriveDemands_seq_opening, hopening]
    · rw [putReply_leaf, deriveDemands_leaf, ← hleafx]; exact hstarted

end Sys2Proof.Machine

/-! ADMIT TO OPENING and MARK PASSED: what joins the list, and the changeover weighed after it (O28, O29). -/

namespace Sys2Proof.Machine

open Sys2Proof

variable {s t u v w : State} {l : Link} {kind n : Byte} {body : List Byte} {p : Passage} {o : Opening} {d : Direction}

/-! ## A record admitted (R24) -/

/-- A record as an admission leaves it. -/
def admittedAs (p : Passage) : Passage := { p with state := .admitted }

theorem admitStep_told (l : Link) (p : Passage) (s : State) :
    ((admitStep (some l) p s).links.get p.origin).attention = toldAttention l p s := by
  simp only [admitStep, updateOpening, setOpening, State.withSeq_links]
  exact notifyOrigin_told l p _

/-- The control line stands where the control link admits. -/
theorem admitStep_control (p : Passage) (s : State) :
    ((admitStep (some .control) p s).links.get .control).attention = (s.links.get .control).attention := by
  simp only [admitStep, updateOpening, setOpening, State.withSeq_links, moveRecord]
  by_cases h : p.origin = .control
  · simp [notifyOrigin, h]
  · exact notifyOrigin_attention_ne (Ne.symm h) _

theorem admitStep_opening (r : Option Link) (p : Passage) (ho : s.seq.opening = some o) :
    (admitStep r p s).seq.opening = some { o with list := o.list ++ [p.number] } := by
  simp [admitStep, updateOpening, setOpening, ho]

theorem admitStep_frame (r : Option Link) (p : Passage) (s : State) :
    unchangedBut [.controlPort, .harbourPort, .reg, .seq] s (admitStep r p s) := by
  intro x hx; cases x <;> simp_all [Part.same, admitStep, moveRecord]

theorem listedRecords_admitted (r : Option Link) (ho : s.seq.opening = some o) (hfind : findPassage p.number s.reg = some p)
    (hnew : p.number ∉ o.list) : listedRecords (admitStep r p s) = listedRecords s ++ [admittedAs p] := by
  have hchange (m : Nat) : findPassage m (admitStep r p s).reg =
      (findPassage m s.reg).map fun q => if q.number = p.number then admittedAs q else q := by
    rw [admitStep_reg]; exact findPassage_change (f := admittedAs) (fun _ => rfl) p.number m
  have hrest (m : Nat) (hm : m ∈ o.list) : findPassage m (admitStep r p s).reg = findPassage m s.reg := by
    rw [hchange m]
    cases hq : findPassage m s.reg with
    | none => rfl
    | some q =>
      have hne : q.number ≠ p.number := by
        rw [(findPassage_mem hq).2]
        exact fun heq => hnew (heq ▸ hm)
      simp [hne]
  have hadded : findPassage p.number (admitStep r p s).reg = some (admittedAs p) := by rw [hchange, hfind]; simp
  simp only [listedRecords, admitStep_opening r p ho, ho, List.filterMap_append, List.filterMap_congr hrest]
  rw [List.filterMap_cons, hadded, List.filterMap_nil]

theorem activeIn_of_listed {q : Passage} (h : listedRecords t = listedRecords s ++ [q]) (hq : isActive q = true) (e : Direction) :
    activeIn e t = true ↔ q.direction = e ∨ activeIn e s = true := by
  simp [activeIn, h, List.any_append, hq, or_comm]

theorem eq_otherDirection {d e : Direction} (h : e ≠ d) : e = otherDirection d := by
  revert h
  cases d <;> cases e <;> decide

/-- The changeover after an admission: cancelled by the served direction, else standing or started for the other (R47, R48). -/
theorem weighChangeover_admitted {q : Passage} (ho : t.seq.opening = some o) (hst : o.state = .open) (hd : o.served = some d)
    (hlisted : listedRecords t = listedRecords s ++ [q]) (hq : q.state = .admitted) (hconf : t.conf = s.conf) :
    weighChangeover t = setOpening (some { o with
      changeover := if q.direction = d ∨ activeIn d s = true then none
        else some (o.changeover.getD (s.conf.changeoverDwell * 1000)) }) t := by
  have hactive : isActive q = true := by simp [isActive, isAdmitted, hq]
  have hserved := activeIn_of_listed hlisted hactive d
  rw [weighChangeover_open ho hst hd]
  by_cases hdir : q.direction = d ∨ activeIn d s = true
  · have hd' := hserved.mpr hdir
    rw [if_pos hdir]
    unfold weighedDwell
    cases o.changeover <;> simp [hd', raiseControlIf]
  · have hd' : activeIn d t = false := Bool.eq_false_iff.mpr fun h => hdir (hserved.mp h)
    have hother : q.direction = otherDirection d := eq_otherDirection fun h => hdir (.inl h)
    have hwaits : admittedIn (otherDirection d) t = true := by
      simp [admittedIn, hlisted, List.any_append, isAdmitted, hq, hother]
    have hactive' := (activeIn_of_listed hlisted hactive (otherDirection d)).mpr (.inl hother)
    rw [if_neg hdir]
    unfold weighedDwell
    cases o.changeover <;> simp [hd', hwaits, hactive', raiseControlIf, hconf]

/-! ## ADMIT TO OPENING past its refusals -/

theorem takeAdmit_joins (ha : s.sup.mode = .attended) (hn : n ≠ 0) (hfind : findPassage n.toNat s.reg = some p)
    (ho : s.seq.opening = some o) (hrec : o.recovery = false)
    (hst : o.state = .closingRoad ∨ o.state = .lifting ∨ o.state = .open) (hp : p.state = .waiting) (hroom : o.list.length < 8) :
    takeAdmit l [n] s = if callsForRaise p.angle s && targetRaiseRefused s then refuse .interlock s
      else accept (octets16 (openingTarget (afterAdmission p.angle (admitStep (some l) p s))))
        (afterAdmission p.angle (admitStep (some l) p s)) := by
  have hn' : ¬n = 0#8 := hn
  have hsize : ¬Config.admittedListSize ≤ o.list.length := by simpa [Config.admittedListSize] using hroom
  rcases hst with h | h | h <;> simp [takeAdmit, attended, ha, hn', hfind, ho, hrec, h, hp, hsize]

theorem callsForRaise_closing (ho : s.seq.opening = some o) (hst : o.state = .closingRoad) (angle : Nat) :
    callsForRaise angle s = false := by simp [callsForRaise, openingState, ho, hst]

theorem afterAdmission_closing (ho : s.seq.opening = some o) (hst : o.state = .closingRoad) (angle : Nat) :
    afterAdmission angle s = deriveDemands (formTarget s) := by
  have hopen : weighChangeover (formTarget s) = formTarget s :=
    weighChangeover_of_not_serving fun o' ho' hst' => by
      simp [formTarget, updateOpening, setOpening, ho] at ho'
      simp [← ho', hst] at hst'
  simp only [afterAdmission, openingState, ho, Option.map_some, hst, if_true, hopen]

theorem afterAdmission_stands (ho : s.seq.opening = some o) (hst : o.state ≠ .closingRoad) {angle : Nat}
    (hcalls : callsForRaise angle s = false) : afterAdmission angle s = deriveDemands (weighChangeover s) := by
  simp [afterAdmission, openingState, ho, hst, hcalls]

theorem afterAdmission_raises (ho : s.seq.opening = some o) (hst : o.state ≠ .closingRoad) {angle : Nat}
    (hcalls : callsForRaise angle s = true) :
    afterAdmission angle s = deriveDemands (weighChangeover (takeTargetRaise (withMargin s.conf angle) s)) := by
  simp [afterAdmission, openingState, ho, hst, hcalls]

theorem deriveDemands_sup_darkAlone (s : State) : (deriveDemands s).sup = { s.sup with dark := (deriveDemands s).sup.dark } := by
  have eta (a : Supervisor) : a = ⟨a.mode, a.watchdog, a.groupTripped, a.closureHeld, a.dark, a.pulseTimer⟩ := rfl
  rw [eta (deriveDemands s).sup]
  simp

/-- A listed ADMITTED record has its head asked to stand by while the road closes (R58). -/
theorem demandFor_closing (hm : s.sup.mode = .attended) (ho : s.seq.opening = some o) (hst : o.state = .closingRoad)
    (hactive : activeIn d s = true) : demandFor d s = .standBy := by
  simp [demandFor, hm, ho, passRow, standByRow, hst, hactive]

/-- Settles O28: the admission, what the target makes of it by the states of the opening and the group, and the changeover. -/
theorem admitJoinsTheOpening : Obligations.AdmitJoinsTheOpening := by
  intro n p o s hr ha hn hfind hwait hdistinct ho hrec hroom hnew records joined
  let w := takenIn .control 0x21#8 s
  let x := admitStep (some .control) p w
  have hnum : p.number = n.toNat := (findPassage_mem hfind).2
  have haw : w.sup.mode = .attended := by simpa [w] using ha
  have hfindw : findPassage n.toNat w.reg = some p := by simpa [w] using hfind
  have how : w.seq.opening = some o := by simpa [w] using ho
  have hframex : unchangedBut [.controlPort, .harbourPort, .reg, .seq, .sup] s x :=
    unchangedBut_trans (unchangedBut_mono (by simp [portPart]) (takenIn_frame .control 0x21#8 s))
      (unchangedBut_mono (by simp) (admitStep_frame _ p w))
  have hleafx : x.leaf = s.leaf := hframex .leaf (by decide)
  have hclosurex : x.closure = s.closure := hframex .closure (by decide)
  have hconfx : x.conf = s.conf := congrArg (·.getD Configured.blank) (hframex .cfg (by decide))
  have hconfw : w.conf = s.conf := takenIn_conf _ _ _
  have hox : x.seq.opening = some { o with list := o.list ++ [n.toNat] } := by rw [← hnum]; exact admitStep_opening _ p how
  have hregx : x.reg = { s.reg with records := records } := by
    simp only [x, admitStep_reg, w, takenIn_reg, hnum]
    rfl
  have htoldx : (x.links.get p.origin).attention = toldAttention .control p s :=
    (admitStep_told .control p w).trans (toldAttention_takenIn .control 0x21#8 p s)
  have hcontrolx : (x.links.get .control).attention = (s.links.get .control).attention :=
    (admitStep_control p w).trans (takenIn_attention .control 0x21#8 s .control)
  have hsupx : x.sup = framedSup .control s := (admitStep_sup _ p w).trans (takenIn_sup .control 0x21#8 s)
  have hlistedx : listedRecords x = listedRecords s ++ [admittedAs p] := by
    have h := listedRecords_admitted (p := p) (some .control) how (by rw [hnum]; exact hfindw) (by rw [hnum]; exact hnew)
    rwa [show listedRecords w = listedRecords s from listedRecords_of_lists (by simp [w]) (by simp [w])] at h
  have hself : admittedAs p ∈ listedRecords x := by simp [hlistedx]
  have hcallsx (hst : o.state = .lifting ∨ o.state = .open) : callsForRaise p.angle x = true ↔ o.target < withMargin s.conf p.angle := by
    rw [callsForRaise_admitStep, callsForRaise_iff how hst, hconfw]
  have hrefused : targetRaiseRefused w = true ↔ s.closure.degraded = true
      ∨ (o.state = .open ∧ s.leaf.group.state = .heldOpen ∧ ¬startable s) := by
    have hw : w.closure = s.closure ∧ w.leaf = s.leaf := ⟨takenIn_closure .., takenIn_leaf ..⟩
    rw [targetRaiseRefused_iff how, hw.1, hw.2, startable_congr hw.2 hw.1]
    simp [haw]
  have hend {changed : List Part} {z : State} {b : List Byte} (h : unchangedBut changed x z)
      (hmem : (∀ q ∈ [Part.controlPort, .harbourPort, .reg, .seq, .lamp, .display, .sup], q ∈ changed)) :
      unchangedBut changed s (putReply .control 0x21#8 .ok b (deriveDemands z)) := by
    have hport : unchangedBut [portPart .control] (deriveDemands z) (putReply .control 0x21#8 .ok b (deriveDemands z)) :=
      updatePort_frame .control _ _
    exact unchangedBut_trans (unchangedBut_mono (fun q hq => hmem q (by fin_cases hq <;> decide)) hframex) (unchangedBut_trans h
      (unchangedBut_trans (unchangedBut_mono (fun q hq => hmem q (by fin_cases hq <;> decide)) (deriveDemands_frame z))
        (unchangedBut_mono (fun q hq => hmem q (by fin_cases hq <;> decide)) hport)))
  -- the answer around a state `z` that the admission leads to, and around one where no group has moved
  have hanswer {z : State} {o' : Opening} (htake : takeAdmit .control [n] w =
        accept (octets16 (openingTarget (deriveDemands z))) (deriveDemands z)) (hopening : z.seq.opening = some o') :
      let t := putReply .control 0x21#8 .ok (octets16 o'.target) (deriveDemands z)
      exec (.admitToOpening .control [n]) s = .next t ∧ answered .control 0x21#8 .ok (octets16 o'.target) s t
        ∧ t.seq.opening = some o' ∧ demandsStand t := by
    have htarget : openingTarget (deriveDemands z) = o'.target := by
      simp only [openingTarget, deriveDemands_seq_opening, hopening]
    rw [htarget] at htake
    obtain ⟨hexec, hanswered⟩ := exec_accepted (c := .admitToOpening .control [n]) rfl rfl (by decide) hr rfl htake
    refine ⟨hexec, hanswered, ?_, demandsStand_putReply (demandsStand_deriveDemands _)⟩
    rw [putReply_seq, deriveDemands_seq_opening, hopening]
  have hjoined {z : State} {target : Nat} (hreg : z.reg = x.reg) (hlinks : z.links = x.links) (hsup : z.sup = x.sup)
      (hanswered : answered .control 0x21#8 .ok (octets16 target) s (putReply .control 0x21#8 .ok (octets16 target) (deriveDemands z)))
      (hdemands : demandsStand (putReply .control 0x21#8 .ok (octets16 target) (deriveDemands z))) :
      joined target (putReply .control 0x21#8 .ok (octets16 target) (deriveDemands z)) := by
    refine ⟨?_, hanswered, ?_, ?_, ?_, hdemands⟩
    · rw [putReply_reg, deriveDemands_reg, hreg, hregx]
    · rw [putReply_attention, deriveDemands_links, hlinks, htoldx]
    · rw [putReply_attention, deriveDemands_links, hlinks, hcontrolx]
    · rw [putReply_sup, ← hsupx, ← hsup]
      exact deriveDemands_sup_darkAlone z
  have hstate (h : o.state = .closingRoad ∨ o.state = .lifting ∨ o.state = .open) :
      takeAdmit .control [n] w = if callsForRaise p.angle w && targetRaiseRefused w then refuse .interlock w
        else accept (octets16 (openingTarget (afterAdmission p.angle x))) (afterAdmission p.angle x) :=
    takeAdmit_joins haw hn hfindw how hrec h hwait hroom
  have hinterlock (h : o.state = .lifting ∨ o.state = .open) (hlt : o.target < withMargin s.conf p.angle)
      (href : targetRaiseRefused w = true) : takeAdmit .control [n] w = refuse .interlock w := by
    rw [hstate (.inr h), (callsForRaise_iff how h p.angle).mpr (by rw [hconfw]; exact hlt), href]
    rfl
  have hstands (h : o.state = .lifting ∨ o.state = .open) (hle : withMargin s.conf p.angle ≤ o.target) :
      takeAdmit .control [n] w = accept (octets16 (openingTarget (deriveDemands (weighChangeover x)))) (deriveDemands (weighChangeover x)) := by
    have hcalls : callsForRaise p.angle x = false := by
      rw [Bool.eq_false_iff, Ne, hcallsx h]; exact not_lt.mpr hle
    rw [hstate (.inr h), ← callsForRaise_admitStep p.angle (some .control) p w, hcalls,
      afterAdmission_stands hox (by rcases h with h | h <;> simp [h]) hcalls]
    rfl
  have hraises (h : o.state = .lifting ∨ o.state = .open) (hlt : o.target < withMargin s.conf p.angle)
      (href : targetRaiseRefused w = false) :
      takeAdmit .control [n] w = accept
        (octets16 (openingTarget (deriveDemands (weighChangeover (takeTargetRaise (withMargin s.conf p.angle) x)))))
        (deriveDemands (weighChangeover (takeTargetRaise (withMargin s.conf p.angle) x))) := by
    rw [hstate (.inr h), href, Bool.and_false, if_neg (by simp),
      afterAdmission_raises hox (by rcases h with h | h <;> simp [h]) ((hcallsx h).mpr hlt), hconfx]
  refine ⟨fun hclosing => ?closing, fun hlift hle => ?lifting, fun d hopen hd hle => ?serving, fun hlift hrising hdeg hlt => ?rising,
    fun hst hdeg hlt => ?degraded, fun hopen hheld hlt => ⟨fun hstart => ?refused, fun d hd hstart hdeg hlocks => ?raised⟩⟩
  case closing =>
    have htake : takeAdmit .control [n] w = accept (octets16 (openingTarget (deriveDemands (formTarget x)))) (deriveDemands (formTarget x)) := by
      rw [hstate (.inl hclosing), callsForRaise_closing how hclosing, afterAdmission_closing hox hclosing]
      rfl
    obtain ⟨hexec, hanswered, hopening, hdemands⟩ := hanswer htake (formTarget_opening hox hrec)
    have hlisted : listedRecords (putReply .control 0x21#8 .ok (octets16 (formedTarget x)) (deriveDemands (formTarget x))) =
        listedRecords x := listedRecords_of_lists (by simp [formTarget, updateOpening, setOpening, hox]) (by simp)
    have hactive : isActive (admittedAs p) = true := by simp [isActive, isAdmitted, admittedAs]
    refine ⟨_, formedTarget x, hexec, hjoined (formTarget_reg x) (formTarget_links x) (formTarget_sup x) hanswered hdemands,
      hopening, fun q hq hq' => ?_, ?_, ?_, hend (unchangedBut_mono (by simp) (formTarget_frame x)) (by simp)⟩
    · rw [← hconfx]; exact le_formedTarget (hlisted ▸ hq) hq'
    · rw [hlisted, ← hconfx]; exact formedTarget_attained ⟨_, hself, hactive⟩
    · rw [hdemands p.direction]
      refine demandFor_closing ?_ hopening hclosing ?_
      · rw [putReply_sup, deriveDemands_sup_mode, formTarget_sup, hsupx]; exact ha
      · rw [activeIn, hlisted, hlistedx, List.any_append]
        have hdir : (admittedAs p).direction = p.direction := rfl
        simp [hactive, hdir]
  case lifting =>
    have hstay : weighChangeover x = x := weighChangeover_of_not_serving fun o' ho' hst' => by
      rw [hox] at ho'
      rw [← Option.some.inj ho'] at hst'
      simp [hlift] at hst'
    have htake := hstands (.inl hlift) hle
    rw [hstay] at htake
    obtain ⟨hexec, hanswered, hopening, hdemands⟩ := hanswer htake hox
    exact ⟨_, hexec, hjoined rfl rfl rfl hanswered hdemands, hopening, hend (unchangedBut_refl _ x) (by simp)⟩
  case serving =>
    have hweigh := weighChangeover_admitted hox hopen hd hlistedx rfl hconfx
    have htake := hstands (.inr hopen) hle
    rw [hweigh] at htake
    obtain ⟨hexec, hanswered, hopening, hdemands⟩ := hanswer htake rfl
    exact ⟨_, hexec, hjoined rfl rfl rfl hanswered hdemands, hopening, hend (unchangedBut_mono (by simp) (setOpening_frame _ x)) (by simp)⟩
  case rising =>
    have hraise : takeTargetRaise (withMargin s.conf p.angle) x =
        (updateOpening (fun o => { o with target := withMargin s.conf p.angle }) x).withLeaf (s.leaf.setTarget (withMargin s.conf p.angle)) := by
      rw [takeTargetRaise_stands (by simp [hleafx, hrising]) (by simp [hleafx, hrising]), hleafx]
    have hoz := updateOpening_opening (fun o => { o with target := withMargin s.conf p.angle }) hox
    have htake := hraises (.inl hlift) hlt (by rw [Bool.eq_false_iff, Ne, hrefused]; simp [hdeg, hlift])
    rw [hraise, weighChangeover_of_not_serving fun o' ho' hst' => by
      rw [State.withLeaf_seq, hoz] at ho'
      rw [← Option.some.inj ho'] at hst'
      simp [hlift] at hst'] at htake
    obtain ⟨hexec, hanswered, hopening, hdemands⟩ := hanswer htake hoz
    refine ⟨_, hexec, hjoined rfl rfl rfl hanswered hdemands, hopening, ?_, hend (unchangedBut_trans
      (unchangedBut_mono (by simp) (updateOpening_frame _ x)) (unchangedBut_mono (by simp) (withLeaf_frame _ _))) (by simp)⟩
    simp [LeafMotion.setTarget, LeafMotion.updateGroup]
  case degraded =>
    exact exec_refused (c := .admitToOpening .control [n]) rfl rfl hr rfl (hinterlock hst hlt (hrefused.mpr (.inl hdeg)))
  case refused =>
    exact exec_refused (c := .admitToOpening .control [n]) rfl rfl hr rfl
      (hinterlock (.inr hopen) hlt (hrefused.mpr (.inr ⟨hopen, hheld, hstart⟩)))
  case raised =>
    obtain ⟨hstarted, hoz, hreport⟩ := takeTargetRaise_starts hox hopen (by rw [hleafx]; exact hheld) (by rw [hleafx]; exact hlocks)
      (withMargin s.conf p.angle)
    let z := takeTargetRaise (withMargin s.conf p.angle) x
    obtain ⟨_, hport, _, _, hframe⟩ := hreport
    have hregz : z.reg = x.reg := hframe .reg (by decide)
    have hlistedz : listedRecords z = listedRecords s ++ [admittedAs p] := by
      rw [← hlistedx]; exact listedRecords_of_lists (by rw [hoz, hox]; rfl) hregz
    have hconfz : z.conf = s.conf := (congrArg (·.getD Configured.blank) (hframe .cfg (by decide))).trans hconfx
    have hweigh := weighChangeover_admitted hoz hopen hd hlistedz rfl hconfz
    have htake := hraises (.inr hopen) hlt (by
      rw [Bool.eq_false_iff, Ne, hrefused]
      rintro (h | ⟨_, _, h⟩)
      · simp [hdeg] at h
      · exact h hstart)
    rw [hweigh] at htake
    obtain ⟨hexec, hanswered, hopening, hdemands⟩ := hanswer htake rfl
    have hattention : (z.links.get .control).attention = ⟨true, (s.links.get .control).attention.causes.add .leafGroup⟩ := by
      rw [← hcontrolx]
      simp only [PerLink.get]
      rw [hport]
      rfl
    refine ⟨_, hexec, ?_, hanswered, hopening, ?_, ?_, ?_, fun horigin => ?_, hdemands, hend (unchangedBut_trans
      (unchangedBut_mono (by simp) hframe) (unchangedBut_mono (by simp) (setOpening_frame _ z))) (by simp)⟩
    · rw [putReply_reg, deriveDemands_reg, ← hregx, ← hregz]; rfl
    · rw [putReply_leaf, deriveDemands_leaf, ← hleafx]; exact hstarted
    · rw [putReply_attention, deriveDemands_links]
      exact congrArg Attention.raised hattention
    · rw [putReply_attention, deriveDemands_links]
      refine (congrArg (fun a => a.causes.leafGroup) hattention).trans ?_
      simp [CauseSet.add]
    · rw [putReply_attention, deriveDemands_links, ← htoldx, horigin]
      exact congrArg LinkPort.attention (hframe .harbourPort (by decide))

end Sys2Proof.Machine

/-! MARK PASSED and the changeover dwell (O29). -/

namespace Sys2Proof.Machine

open Sys2Proof

variable {s t u v w : State} {l : Link} {kind n : Byte} {body : List Byte} {p : Passage} {o : Opening} {d : Direction}

/-! ## What the changeover weighed changes (R47, R48, R50) -/

theorem weighedDwell_eq (d : Direction) (o : Opening) (s : State) : weighedDwell d o s =
    if activeIn d s = true ∨ admittedIn (otherDirection d) s = false then none
    else some (o.changeover.getD (s.conf.changeoverDwell * 1000)) := by
  unfold weighedDwell
  cases o.changeover <;> cases activeIn d s <;> cases admittedIn (otherDirection d) s <;> rfl

theorem weighChangeover_opening (ho : s.seq.opening = some o) (hst : o.state = .open) (hd : o.served = some d) :
    (weighChangeover s).seq.opening = some { o with
      changeover := if activeIn d s = true ∨ admittedIn (otherDirection d) s = false then none
        else some (o.changeover.getD (s.conf.changeoverDwell * 1000)) } := by
  rw [weighChangeover_open ho hst hd, raiseControlIf_seq, ← weighedDwell_eq]
  rfl

theorem raiseControlIf_control {b : Bool} {P : Prop} [Decidable P] (h : b = true ↔ P) (cause : AttentionCause) (s : State) :
    (raiseControlIf b cause s).links.control = { s.links.control with
      attention := if P then ⟨true, s.links.control.attention.causes.add cause⟩ else s.links.control.attention } := by
  unfold raiseControlIf
  by_cases hP : P
  · rw [if_pos (h.mpr hP), if_pos hP]; rfl
  · rw [if_neg fun hb => hP (h.mp hb), if_neg hP]

theorem weighChangeover_control (ho : s.seq.opening = some o) (hst : o.state = .open) (hd : o.served = some d) :
    (weighChangeover s).links.control = { s.links.control with
      attention := if activeIn d s = false ∧ activeIn (otherDirection d) s = false then
        ⟨true, s.links.control.attention.causes.add .opening⟩ else s.links.control.attention } := by
  rw [weighChangeover_open ho hst hd]
  exact raiseControlIf_control (P := activeIn d s = false ∧ activeIn (otherDirection d) s = false) (by simp) .opening _

theorem weighChangeover_frame (s : State) : unchangedBut [.controlPort, .seq] s (weighChangeover s) := by
  by_cases hserving : ∃ o d, s.seq.opening = some o ∧ o.state = .open ∧ o.served = some d
  · obtain ⟨o, d, ho, hst, hd⟩ := hserving
    rw [weighChangeover_open ho hst hd]
    refine unchangedBut_trans (t := setOpening (some { o with changeover := weighedDwell d o s }) s)
      (unchangedBut_mono (by simp) (setOpening_frame _ s)) ?_
    unfold raiseControlIf
    split
    · exact unchangedBut_mono (by simp) (raiseControl_frame _ _)
    · exact unchangedBut_refl _ _
  · rw [weighChangeover_of_not_serving fun o ho hst => ?_]
    · exact unchangedBut_refl _ s
    · exact Option.eq_none_iff_forall_ne_some.mpr fun d hd => hserving ⟨o, d, ho, hst, hd⟩

theorem activeIn_of_lists (h : listedRecords t = listedRecords s) (e : Direction) : activeIn e t = activeIn e s := by
  rw [activeIn, activeIn, h]

theorem admittedIn_of_lists (h : listedRecords t = listedRecords s) (e : Direction) : admittedIn e t = admittedIn e s := by
  rw [admittedIn, admittedIn, h]

theorem moveRecord_control (p : Passage) (st : PassageState) (s : State) :
    ((moveRecord (some .control) p st s).links.get .control).attention = (s.links.get .control).attention := by
  unfold moveRecord
  by_cases h : p.origin = .control
  · simp [notifyOrigin, h]
  · exact notifyOrigin_attention_ne (Ne.symm h) _

theorem moveRecord_frame (r : Option Link) (p : Passage) (st : PassageState) (s : State) :
    unchangedBut [.controlPort, .harbourPort, .reg] s (moveRecord r p st s) := by
  intro x hx; cases x <;> simp_all [Part.same, moveRecord]

/-! ## MARK PASSED and the expiry of the dwell -/

theorem takeMark_taken (ha : s.sup.mode = .attended) (hn : n ≠ 0) (hfind : findPassage n.toNat s.reg = some p)
    (hst : p.state = .cleared) :
    takeMark l [n] s = accept [] (deriveDemands (weighChangeover (moveRecord (some l) p .completed s))) := by
  have hn' : ¬n = 0#8 := hn
  simp [takeMark, attended, ha, hn', hfind, hst]

theorem takeMark_wrongState (ha : s.sup.mode = .attended) (hn : n ≠ 0) (hfind : findPassage n.toNat s.reg = some p)
    (hst : p.state ≠ .cleared) : takeMark l [n] s = refuse .wrongState s := by
  have hn' : ¬n = 0#8 := hn
  simp [takeMark, attended, ha, hn', hfind, hst]

theorem changeoverDwellExpiry_serving {ms : Nat} (ho : s.seq.opening = some o) (hst : o.state = .open) (hd : o.served = some d)
    (hms : o.changeover = some ms) : exec .changeoverDwellExpiry s = .next (deriveDemands (weighChangeover
      (setOpening (some { o with served := some (otherDirection d), changeover := none }) s))) := by
  obtain ⟨st, recovery, list, target, served, changeover, extending⟩ := o
  obtain rfl : st = .open := hst
  obtain rfl : served = some d := hd
  obtain rfl : changeover = some ms := hms
  change execChangeoverDwellExpiry s = _
  simp only [execChangeoverDwellExpiry, ho]

theorem otherDirection_otherDirection (d : Direction) : otherDirection (otherDirection d) = d := by cases d <;> rfl

/-- The record of MARK PASSED, completed and the changeover weighed. -/
theorem markPassed_completes {p : Passage} (hr : readyFor .control s) (ha : s.sup.mode = .attended) (hn : n ≠ 0)
    (hfind : findPassage n.toNat s.reg = some p) (hst : p.state = .cleared) : ∃ t, exec (.markPassed .control [n]) s = .next t
      ∧ t.reg = { s.reg with
          records := s.reg.records.map (fun q => if q.number = n.toNat then { q with state := .completed } else q) }
      ∧ answered .control 0x22#8 .ok [] s t ∧ admittedList t = admittedList s ∧ demandsStand t
      ∧ (∀ o d, s.seq.opening = some o → o.state = .open → o.served = some d →
          t.seq.opening = some { o with
            changeover := if activeIn d t = true ∨ admittedIn (otherDirection d) t = false then none
              else some (o.changeover.getD (s.conf.changeoverDwell * 1000)) }
          ∧ (t.links.get .control).attention =
            (if activeIn d t = false ∧ activeIn (otherDirection d) t = false then
              ⟨true, s.links.control.attention.causes.add .opening⟩ else s.links.control.attention))
      ∧ t.sup = { framedSup .control s with dark := t.sup.dark }
      ∧ unchangedBut [.controlPort, .harbourPort, .reg, .seq, .lamp, .display, .sup] s t := by
  let w := takenIn .control 0x22#8 s
  let x := moveRecord (some .control) p .completed w
  have hframe : unchangedBut [.controlPort, .harbourPort, .reg] w x := moveRecord_frame _ p _ w
  have hconf : x.conf = s.conf := (congrArg (·.getD Configured.blank) (hframe .cfg (by decide))).trans (takenIn_conf .control 0x22#8 s)
  have hseq : x.seq = s.seq := (hframe .seq (by decide)).trans (takenIn_seq .control 0x22#8 s)
  obtain ⟨hexec, hanswered⟩ := exec_accepted (c := .markPassed .control [n]) rfl rfl (by decide) hr rfl
    (takeMark_taken (s := w) (by simpa [w] using ha) hn (by simpa [w] using hfind) hst)
  refine ⟨_, hexec, ?reg, hanswered, ?list, demandsStand_putReply (demandsStand_deriveDemands _), fun o d ho hst' hd => ?serving, ?sup,
    putReply_frame_of_mem (unchangedBut_trans (unchangedBut_mono (by simp) hframe) (unchangedBut_trans
      (unchangedBut_mono (by simp) (weighChangeover_frame x)) (unchangedBut_mono (by simp) (deriveDemands_frame _)))) (by simp [portPart])⟩
  case reg =>
    rw [putReply_reg, deriveDemands_reg, weighChangeover_reg, moveRecord_reg, takenIn_reg, (findPassage_mem hfind).2]
    rfl
  case list =>
    refine (admittedList_congr (congrArg Sequencer.opening (putReply_seq ..))).trans ((admittedList_congr (deriveDemands_seq_opening _)).trans ?_)
    rw [weighChangeover_admittedList]
    exact admittedList_congr (congrArg Sequencer.opening hseq)
  case serving =>
    have hox : x.seq.opening = some o := by rw [hseq]; exact ho
    have hweighed := weighChangeover_opening hox hst' hd
    let t := putReply .control 0x22#8 .ok [] (deriveDemands (weighChangeover x))
    have hopening : t.seq.opening = (weighChangeover x).seq.opening := by
      rw [putReply_seq, deriveDemands_seq_opening]
    have hlisted : listedRecords t = listedRecords x :=
      listedRecords_of_lists (by rw [hopening, hweighed, hox]; rfl) (by simp [t])
    have hactive := activeIn_of_lists hlisted
    refine ⟨?_, ?_⟩
    · rw [hactive d, admittedIn_of_lists hlisted, ← hconf]
      exact hopening.trans hweighed
    · have hport := weighChangeover_control hox hst' hd
      have hold : x.links.control.attention = s.links.control.attention :=
        (moveRecord_control p .completed w).trans (takenIn_attention .control 0x22#8 s .control)
      rw [hactive d, hactive (otherDirection d), putReply_attention, deriveDemands_links, ← hold]
      exact congrArg LinkPort.attention hport
  case sup =>
    have hsup : (weighChangeover x).sup = framedSup .control s :=
      ((weighChangeover_frame x .sup (by decide)).trans (hframe .sup (by decide))).trans (takenIn_sup .control 0x22#8 s)
    rw [putReply_sup, ← hsup]
    exact deriveDemands_sup_darkAlone _

/-- Settles O29: MARK PASSED by the state of its record, and the served direction switched before the dwell is weighed. -/
theorem markPassedAndChangeover : Obligations.MarkPassedAndChangeover := by
  refine ⟨fun n p s hr ha hn hfind => ⟨fun hst => ?_, markPassed_completes hr ha hn hfind⟩, fun o d ms s ho hst hd hms => ?_⟩
  · exact exec_refused (c := .markPassed .control [n]) rfl rfl hr rfl
      (takeMark_wrongState (by simpa using ha) hn (by simpa using hfind) hst)
  · let x := setOpening (some { o with served := some (otherDirection d), changeover := none }) s
    have hlisted : listedRecords x = listedRecords s := listedRecords_of_lists (by simp [x, setOpening, ho]) rfl
    have hactive := activeIn_of_lists hlisted
    have hweighed := weighChangeover_opening (s := x) rfl hst rfl
    have hport := weighChangeover_control (s := x) rfl hst rfl
    refine ⟨_, changeoverDwellExpiry_serving ho hst hd hms, ?opening, ?control, ?clearance, demandsStand_deriveDemands _, ?sup,
      unchangedBut_trans (unchangedBut_mono (by simp) (setOpening_frame _ s)) (unchangedBut_trans
        (unchangedBut_mono (by simp) (weighChangeover_frame x)) (unchangedBut_mono (by simp) (deriveDemands_frame _)))⟩
    case opening =>
      rw [deriveDemands_seq_opening]
      refine hweighed.trans ?_
      rw [hactive, admittedIn_of_lists hlisted, otherDirection_otherDirection]
      cases activeIn (otherDirection d) s <;> cases admittedIn d s <;> rfl
    case control =>
      rw [deriveDemands_links]
      refine hport.trans ?_
      rw [hactive, hactive, otherDirection_otherDirection]
      simp only [and_comm]
      rfl
    case clearance => simp [setOpening]
    case sup =>
      have hsup : (weighChangeover x).sup = s.sup := weighChangeover_frame x .sup (by decide)
      rw [← hsup]
      exact deriveDemands_sup_darkAlone _

end Sys2Proof.Machine

/-! What a PASS demand stands for, and what a head displays of a demand (O32). -/

namespace Sys2Proof.Machine

open Sys2Proof

variable {s : State} {d : Direction} {o : Opening} {a b : Aspect} {h : HeadHealth} {x : Shown}

/-! ## The PASS row (R58) -/

theorem passRow_iff (d : Direction) (o : Opening) (s : State) : passRow d o s = true ↔
    o.state = .open ∧ o.changeover = none ∧ o.served = some d
      ∧ (∃ p ∈ listedRecords s, p.state = .cleared ∧ p.direction = d)
      ∧ (s.leaf.group.state = .heldOpen ∨ (s.leaf.group.state = .raising ∧ o.extending = true))
      ∧ (∀ p ∈ listedRecords s, p.state = .cleared → p.direction = d → p.clearance ≤ s.seq.clearance) := by
  simp only [passRow, groupAdmitsPassage, isCleared, Bool.and_eq_true, and_assoc]
  simp only [beq_iff_eq, Option.isNone_iff_eq_none, Bool.not_eq_true', List.isEmpty_eq_false_iff_exists_mem, List.mem_filter,
    Bool.and_eq_true, Bool.or_eq_true, List.all_eq_true, decide_eq_true_eq, and_imp]

theorem demandFor_pass (h : demandFor d s = .pass) :
    (s.sup.mode = .attended ∨ (s.sup.mode = .unattended ∧ s.conf.signalPolicy = .hold))
      ∧ ∃ o, s.seq.opening = some o ∧ passRow d o s = true := by
  unfold demandFor at h
  split at h
  · cases h
  next hsetup =>
    split at h
    · cases h
    next hrestrict =>
      refine ⟨?_, ?_⟩
      · cases hmode : s.sup.mode with
        | setup => exact absurd hmode hsetup
        | attended => exact .inl rfl
        | unattended =>
          refine .inr ⟨rfl, ?_⟩
          cases hp : s.conf.signalPolicy with
          | hold => rfl
          | restrict => exact absurd ⟨hmode, hp⟩ hrestrict
      · split at h
        next o ho =>
          refine ⟨o, ho, ?_⟩
          split at h
          next hpass => exact hpass
          next => split at h <;> cases h
        next => cases h

/-- One direction is served at a time, so one head at most is asked for PASS. -/
theorem passRow_other (h : passRow d o s = true) : passRow (otherDirection d) o s = false := by
  obtain ⟨_, _, hserved, _⟩ := (passRow_iff d o s).mp h
  refine Bool.eq_false_iff.mpr fun hother => ?_
  obtain ⟨_, _, hserved', _⟩ := (passRow_iff _ o s).mp hother
  rw [hserved] at hserved'
  cases d <;> simp [otherDirection] at hserved'

/-! ## The walk from a demand (R165, R166) -/

/-- Whether a head's health lets it show an aspect (R165). -/
def canShow (h : HeadHealth) : Aspect → Bool
  | .pass => h.greenUp && h.greenLow
  | .standBy => h.redUp && h.greenUp
  | .noPassage => h.redUp && h.redLow
  | .redSingle => h.redUp || h.redLow
  | .dark => true

/-- What a head displays of a demand: the first aspect from it on, in the order of the fallback chain, that the head can show. -/
def firstShown (a : Aspect) (h : HeadHealth) (x : Shown) : Prop :=
  a.code ≤ x.aspect.code ∧ canShow h x.aspect = true
    ∧ (∀ b, a.code ≤ b.code → b.code < x.aspect.code → canShow h b = false)
    ∧ x.singleRed = if x.aspect = .redSingle then some (if h.redUp then .redUp else .redLow) else none

theorem firstShown_itself (hshow : canShow h a = true) (hred : a ≠ .redSingle) : firstShown a h ⟨a, none⟩ :=
  ⟨le_refl _, hshow, fun _ hle hlt => absurd hlt (not_lt.mpr hle), (if_neg hred).symm⟩

theorem Aspect.code_injective (hcode : a.code = b.code) : a = b := by
  revert hcode
  cases a <;> cases b <;> decide

/-- A head that cannot show an aspect displays what it displays of the next one. -/
theorem firstShown_next (hcannot : canShow h a = false) (hnext : b.code = a.code + 1) (hx : firstShown b h x) : firstShown a h x := by
  obtain ⟨hle, hshow, hbetween, hred⟩ := hx
  refine ⟨by omega, hshow, fun c hac hcx => ?_, hred⟩
  rcases Nat.eq_or_lt_of_le hac with heq | hlt
  · rw [← Aspect.code_injective heq]; exact hcannot
  · exact hbetween c (by omega) hcx

theorem walkRedSingle_first (h : HeadHealth) : firstShown .redSingle h (walkRedSingle h) := by
  unfold walkRedSingle
  split_ifs with hup hlow
  · exact ⟨le_refl _, by simp [canShow, hup], fun _ hle hlt => absurd hlt (not_lt.mpr hle), by simp [hup]⟩
  · exact ⟨le_refl _, by simp [canShow, hlow], fun _ hle hlt => absurd hlt (not_lt.mpr hle), by simp [hup]⟩
  · exact firstShown_next (b := .dark) (by simp [canShow, hup, hlow]) rfl (firstShown_itself rfl (by decide))

theorem walkNoPassage_first (h : HeadHealth) : firstShown .noPassage h (walkNoPassage h) := by
  unfold walkNoPassage
  split_ifs with hred
  · exact firstShown_itself hred (by decide)
  · exact firstShown_next (Bool.eq_false_iff.mpr hred) rfl (walkRedSingle_first h)

theorem walkStandBy_first (h : HeadHealth) : firstShown .standBy h (walkStandBy h) := by
  unfold walkStandBy
  split_ifs with hmixed
  · exact firstShown_itself hmixed (by decide)
  · exact firstShown_next (Bool.eq_false_iff.mpr hmixed) rfl (walkNoPassage_first h)

theorem walk_first (a : Aspect) (h : HeadHealth) : firstShown a h (walk a h) := by
  cases a with
  | pass =>
    simp only [walk]
    split_ifs with hgreen
    · exact firstShown_itself hgreen (by decide)
    · exact firstShown_next (Bool.eq_false_iff.mpr hgreen) rfl (walkStandBy_first h)
  | standBy => exact walkStandBy_first h
  | noPassage => exact walkNoPassage_first h
  | redSingle => exact walkRedSingle_first h
  | dark => exact firstShown_itself rfl (by decide)

/-- Settles O32: the PASS row of R58 read off the demand, and the walk as the first aspect that the head can show. -/
theorem passOnlyForACoveredVessel : Obligations.PassOnlyForACoveredVessel := by
  refine ⟨fun d s hpass => ?_, fun a h => ?_⟩
  · obtain ⟨hmode, o, ho, hrow⟩ := demandFor_pass hpass
    obtain ⟨hst, hchange, hserved, hvessel, hgroup, hcovered⟩ := (passRow_iff d o s).mp hrow
    refine ⟨hmode, o, ho, hst, hchange, hserved, hgroup, hvessel, hcovered, fun hother => ?_⟩
    obtain ⟨_, o', ho', hrow'⟩ := demandFor_pass hother
    obtain rfl := Option.some.inj (ho.symm.trans ho')
    rw [passRow_other hrow] at hrow'
    cases hrow'
  · intro shown x
    have hshown : shown = canShow h := by funext y; cases y <;> rfl
    rw [hshown]
    exact walk_first a h

end Sys2Proof.Machine

/-! SET DIM LEVEL, and the channel assignments that no change of demand touches (O51). -/

namespace Sys2Proof.Machine

open Sys2Proof

variable {s t : State} {l : Link} {u v w : LampUnit} {group level : Byte}

/-! ## Dim levels and assignments stand (R146, R162) -/

/-- Two lamp units agree on the dim levels and on the function of every channel. -/
def sameAssignments (u v : LampUnit) : Prop :=
  v.dimRoad = u.dimRoad ∧ v.dimShipping = u.dimShipping ∧ ∀ i : ChannelId, (v.channels[i]).function = (u.channels[i]).function

theorem sameAssignments.refl (u : LampUnit) : sameAssignments u u := ⟨rfl, rfl, fun _ => rfl⟩

theorem sameAssignments.trans (h : sameAssignments u v) (h' : sameAssignments v w) : sameAssignments u w :=
  ⟨h'.1.trans h.1, h'.2.1.trans h.2.1, fun i => (h'.2.2 i).trans (h.2.2 i)⟩

theorem giveDemand_function (d : ChannelDemand) (c : Channel) : (giveDemand d c).function = c.function := by
  unfold giveDemand; split <;> rfl

theorem sameAssignments_giveDemands (f : FunctionId → Option ChannelDemand) (u : LampUnit) :
    sameAssignments u (giveDemands f u) := by
  refine ⟨rfl, rfl, fun i => ?_⟩
  simp only [giveDemands, Fin.getElem_fin, tabMap_getElem]
  split
  next => rfl
  next => split <;> simp only [giveDemand_function]

theorem sameAssignments_handRoadLight (p : RoadLight) (s : State) : sameAssignments s.lamp (handRoadLight p s).lamp := by
  unfold handRoadLight
  split
  · exact .refl _
  · exact sameAssignments_giveDemands _ _

theorem sameAssignments_setClosureState (q : Bool) (st : ClosureState) (s : State) :
    sameAssignments s.lamp (setClosureState q st s).lamp := by
  have h := sameAssignments_handRoadLight (roadLightOf st) (s.withClosure { s.closure with state := st })
  unfold setClosureState
  simp only
  split <;> simpa using h

theorem sameAssignments_testWarning (q : Bool) (s : State) : sameAssignments s.lamp (testWarning q s).lamp := by
  unfold testWarning
  split
  · split
    · rw [commandEach_lamp]; exact sameAssignments_setClosureState ..
    · exact sameAssignments_setClosureState false .closureHeld (holdFields .noEntryArm .entryLowering s)
  · exact .refl _

theorem sameAssignments_redsProven (fs : List FunctionId) (s : State) : sameAssignments s.lamp (redsProven fs s).lamp := by
  unfold redsProven
  split
  · exact sameAssignments_testWarning _ _
  · exact .refl _

theorem sameAssignments_endFlashHalf (s : State) : sameAssignments s.lamp (endFlashHalf s).lamp := by
  unfold endFlashHalf
  split
  next second _ _ =>
    split
    · exact .refl _
    · refine sameAssignments.trans (v := { s.lamp with
        channels := tabMap (channelAtHalfEnd (phaseOfHalf second)) s.lamp.channels, flash := .running (!second) 0 })
        ⟨rfl, rfl, fun i => ?_⟩ (sameAssignments_redsProven _ (s.withLamp _))
      simp only [Fin.getElem_fin, tabMap_getElem]
      rfl
  next => exact .refl _
  next => exact .refl _

/-- The on-time that a period start gives an assigned channel (R146). -/
theorem onTime_atPeriod (c : Configured) (u : LampUnit) (i : ChannelId) {f : FunctionId} (hf : (u.channels[i]).function = some f) :
    ((lampsAtPeriod c u).channels[i]).onTime = onTimeInUse (if isRoadFunction f then u.dimRoad else u.dimShipping) c.blanking := by
  have hch : (lampsAtPeriod c u).channels[i] = channelAtPeriod c u (currentPhase (flashAtPeriod u)) u.channels[i] := by
    simp only [lampsAtPeriod, Fin.getElem_fin, tabMap_getElem]
  rw [hch]
  simp only [channelAtPeriod, hf, Option.isSome_some, if_true, dimOf]

/-- A period start with the pulse clock running: the half that is full has ended before it (log entry 37). -/
theorem pulsePeriodStart_running (h : s.lamp.pulseClock ≠ none) : exec .pulsePeriodStart s =
    .next ((endFlashHalf s).withLamp (lampsAtPeriod (endFlashHalf s).conf (endFlashHalf s).lamp)) := by
  have hrun : lampsRun s = true := Option.isSome_iff_ne_none.mpr h
  change execPulsePeriodStart s = _
  simp only [execPulsePeriodStart, hrun, if_true]

/-! ## SET DIM LEVEL (R149) -/

/-- A dim level in its group. -/
def dimmed (group level : Byte) (u : LampUnit) : LampUnit :=
  if group = 0 then { u with dimRoad := level.toNat } else { u with dimShipping := level.toNat }

theorem dimmed_level {f : FunctionId} (hf : isRoadFunction f = (group == 0)) (u : LampUnit) :
    (if isRoadFunction f then (dimmed group level u).dimRoad else (dimmed group level u).dimShipping) = level.toNat := by
  by_cases h : group = 0
  · have hroad : isRoadFunction f = true := by rw [hf, h]; rfl
    simp only [dimmed, if_pos h, hroad, if_true]
  · have hship : isRoadFunction f = false := hf.trans (beq_eq_false_iff_ne.mpr h)
    simp only [dimmed, if_neg h, hship, Bool.false_eq_true, if_false]

theorem dimmed_others (group level : Byte) (u : LampUnit) :
    (dimmed group level u).channels = u.channels ∧ (dimmed group level u).pulseClock = u.pulseClock := by
  unfold dimmed; split <;> exact ⟨rfl, rfl⟩

theorem takeSetDim_taken (ha : s.sup.mode = .attended) (hg : group.toNat ≤ 1) (hlow : 10 ≤ level.toNat) (hhigh : level.toNat ≤ 100) :
    takeSetDim [group, level] s = accept (dimReply s.conf level.toNat) (s.withLamp (dimmed group level s.lamp)) := by
  have hrange : ¬(level.toNat < 10 || 100 < level.toNat) = true := by simp; omega
  have hgroup : group ≠ 0 → group = 1 := fun h => by
    have : group.toNat ≠ 0 := fun h0 => h (BitVec.eq_of_toNat_eq h0)
    exact BitVec.eq_of_toNat_eq (by simp; omega)
  simp only [takeSetDim, attended, ha, beq_self_eq_true, Bool.not_true, Bool.false_eq_true, if_false, if_neg hrange, dimmed]
  by_cases h : group = 0
  · rw [if_pos h, if_pos h]
  · rw [if_neg h, if_neg h, if_pos (hgroup h)]

theorem takeSetDim_badField (ha : s.sup.mode = .attended) (h : 1 < group.toNat ∨ level.toNat < 10 ∨ 100 < level.toNat) :
    takeSetDim [group, level] s = refuse .badField s := by
  simp only [takeSetDim, attended, ha, beq_self_eq_true, Bool.not_true, Bool.false_eq_true, if_false]
  split
  next => rfl
  next hrange =>
    have hgroup : 1 < group.toNat := h.resolve_right fun h' => hrange (by simpa using h')
    have h0 : group ≠ 0 := fun heq => by simp [heq] at hgroup
    have h1 : group ≠ 1 := fun heq => by simp [heq] at hgroup
    rw [if_neg h0, if_neg h1]

/-- Settles O51: the level in its group, and the on-time that the next period start gives the group's channels. -/
theorem setDimLevelTakesTheNextPeriod : Obligations.SetDimLevelTakesTheNextPeriod := by
  intro group level s hr ha inUse
  have haw : (takenIn .control 0x42#8 s).sup.mode = .attended := by simpa using ha
  refine ⟨fun hbad => exec_refused (c := .setDimLevel .control [group, level]) rfl rfl hr rfl (takeSetDim_badField haw hbad),
    fun hg hlow hhigh => ?_⟩
  have hbody : dimReply s.conf level.toNat = octets16 (level.toNat * 100) ++ octets16 inUse := rfl
  have htake := takeSetDim_taken (level := level) haw hg hlow hhigh
  rw [takenIn_conf, takenIn_lamp] at htake
  obtain ⟨hexec, honly⟩ := exec_only (c := .setDimLevel .control [group, level]) (changed := [.lamp]) rfl rfl hr rfl htake rfl rfl
    (fun x hx => by cases x <;> simp_all [Part.same])
  refine ⟨_, hexec, by rw [putReply_lamp]; rfl, hbody ▸ honly, fun hclock => ?_⟩
  let t := putReply .control 0x42#8 .ok (dimReply s.conf level.toNat) ((takenIn .control 0x42#8 s).withLamp (dimmed group level s.lamp))
  have hlamp : t.lamp = dimmed group level s.lamp := by rw [putReply_lamp]; rfl
  refine ⟨_, pulsePeriodStart_running (s := t) (by rw [hlamp, (dimmed_others ..).2]; exact hclock), fun i f hf hroad => ?_⟩
  obtain ⟨hroadLevel, hshipLevel, hfunction⟩ := sameAssignments_endFlashHalf t
  have hf' : ((endFlashHalf t).lamp.channels[i]).function = some f := by
    rw [hfunction i, hlamp, (dimmed_others ..).1]; exact hf
  have hconf : (endFlashHalf t).conf = s.conf := by
    simp only [State.conf, endFlashHalf_cfg, t, putReply_cfg]
    exact takenIn_conf .control 0x42#8 s
  rw [State.withLamp_lamp, onTime_atPeriod _ _ _ hf', hroadLevel, hshipLevel, hlamp, dimmed_level hroad, hconf]
  rfl

end Sys2Proof.Machine

/-! REVERT TO SETUP (O53). -/

namespace Sys2Proof.Machine

open Sys2Proof

variable {s t : State} {l : Link}

theorem takeRevert_taken (ha : s.sup.mode = .attended)
    (h : s.seq.opening = none ∧ s.closure.state = .roadOpen ∧ s.leaf.group.state = .stowed) :
    takeRevert [] s = accept [0#8] (revertState s) := by
  obtain ⟨ho, hroad, hgroup⟩ := h
  simp [takeRevert, attended, ha, ho, hroad, hgroup, Mode.code, octet]

theorem takeRevert_interlock (ha : s.sup.mode = .attended)
    (h : ¬(s.seq.opening = none ∧ s.closure.state = .roadOpen ∧ s.leaf.group.state = .stowed)) :
    takeRevert [] s = refuse .interlock s := by
  have hcond : (s.seq.opening.isSome || s.closure.state != .roadOpen || s.leaf.group.state != .stowed) = true := by
    by_contra hno
    simp only [Bool.or_eq_true, not_or, Bool.not_eq_true, Option.isSome_eq_false_iff, Option.isNone_iff_eq_none, bne_eq_false_iff_eq] at hno
    exact h ⟨hno.1.1, hno.1.2, hno.2⟩
  simp only [takeRevert, attended, ha, beq_self_eq_true, Bool.not_true, Bool.false_eq_true, if_false, if_pos hcond]

theorem revertState_frame (s : State) : unchangedBut [.reg, .seq, .leaf, .closure, .arms, .zones, .loop, .stations, .lamp,
    .display, .sup, .store] s (revertState s) := by
  intro x hx; cases x <;> simp_all [Part.same, revertState]

theorem reverted_functionHealthy (f : FunctionId) (u : LampUnit) : functionHealthy f u.reverted = false := by
  simp only [functionHealthy, LampUnit.reverted, Fin.getElem_fin, tabMap_getElem]

theorem reverted_channel (i : ChannelId) (u : LampUnit) :
    u.reverted.channels[i] = .cleared (u.channels[i]).function (u.channels[i]).partialSelectTwo := by
  simp only [LampUnit.reverted, Fin.getElem_fin, tabMap_getElem]

/-- Settles O53: the refusal, and what `revertState` puts in each block. -/
theorem revertToSetupKeepsTheImage : Obligations.RevertToSetupKeepsTheImage := by
  intro s hr ha allowed
  have haw : (takenIn .control 0x53#8 s).sup.mode = .attended := by simpa using ha
  refine ⟨fun hno => exec_refused (c := .revertToSetup .control []) rfl rfl hr rfl (takeRevert_interlock haw (by simpa [allowed] using hno)),
    fun hyes => ?_⟩
  let w := takenIn .control 0x53#8 s
  obtain ⟨hexec, hanswered⟩ := exec_accepted (c := .revertToSetup .control []) rfl rfl (by decide) hr rfl
    (takeRevert_taken haw (by simpa [allowed] using hyes))
  have hleaf : w.leaf = s.leaf := takenIn_leaf ..
  have hlamp : w.lamp = s.lamp := takenIn_lamp ..
  have hzones : w.zones = s.zones := takenIn_zones ..
  refine ⟨_, hexec, hanswered, ?attention, ?sup, ?fault, ?reg, ?opening, ?demand, ?group, ?timer, ?stop, fun d => ?drive, fun k => ?lock,
    ?closure, fun a => ?arm, fun z => ?zone, ?held, ?turn, ?scan, fun a => ?station, fun i => ?channel, fun f => ?health, ?clock,
    ?display, ?store, ?cfg, putReply_frame_of_mem (unchangedBut_mono (by simp) (revertState_frame w)) (by simp [portPart])⟩
  case attention => rw [putReply_attention]; exact takenIn_attention .control 0x53#8 s .control
  case sup => rw [putReply_sup]; rfl
  case fault => rw [putReply_sup]; rfl
  case reg => rw [putReply_reg]; rfl
  case opening => rw [putReply_seq]; rfl
  case demand => rw [putReply_seq]; rfl
  case group => rw [putReply_leaf]; rfl
  case timer => rw [putReply_leaf]; rfl
  case stop => rw [putReply_leaf, ← hleaf]; rfl
  case drive => rw [putReply_leaf]; cases d <;> rfl
  case lock =>
    rw [putReply_leaf, ← hleaf]
    simp [revertState, resetLeaf, Lock.cleared, w]
  case closure => rw [putReply_closure]; rfl
  case arm => rw [arm_congr (putReply_arms ..)]; simp [State.arm, revertState]
  case zone => rw [putReply_zones, ← hzones]; simp [revertState, resetZone, w]
  case held => rw [putReply_loop]; rfl
  case turn => rw [putReply_loop]; rfl
  case scan => rw [putReply_loop]; rfl
  case station =>
    rw [station_congr (putReply_stations ..)]
    simp [State.station, revertState, Station.cleared]
  case channel =>
    rw [putReply_lamp, ← hlamp]
    have hch : (revertState w).lamp.channels[i] = .cleared (w.lamp.channels[i]).function (w.lamp.channels[i]).partialSelectTwo :=
      reverted_channel i w.lamp
    rw [hch]
    exact ⟨rfl, rfl, rfl, fun k => by cases k <;> rfl⟩
  case health => rw [putReply_lamp]; exact reverted_functionHealthy f w.lamp
  case clock => rw [putReply_lamp]; rfl
  case display => rw [putReply_display]; rfl
  case store => rw [putReply_store, ← takenIn_store .control 0x53#8 s]; rfl
  case cfg => rw [putReply_cfg]; exact takenIn_frame .control 0x53#8 s .cfg (by decide)

end Sys2Proof.Machine

/-! Health derived again, and the accepted commit (O56). -/

namespace Sys2Proof.Machine

open Sys2Proof

variable {s t : State} {l : Link} {u : LampUnit}

/-! ## Every function's health derived again (R154) -/

theorem functionIndex_injective : Function.Injective functionIndex :=
  Function.LeftInverse.injective (g := fun i => allFunctions.getD i.val .wRedA) fun f => by cases f <;> rfl

/-- A function record with its health derived from the channels (R145). -/
def derivedRecord (u : LampUnit) (f : FunctionId) (r : FunctionRecord) : FunctionRecord := { r with healthy := functionHealthFrom f u }

theorem derivedRecords_get (u : LampUnit) (fs : List FunctionId) (v : Vector FunctionRecord 14) (f : FunctionId) :
    (fs.foldl (fun v f => tabModify (functionIndex f) (derivedRecord u f) v) v)[functionIndex f] =
      if f ∈ fs then derivedRecord u f v[functionIndex f] else v[functionIndex f] := by
  induction fs generalizing v with
  | nil => simp
  | cons g fs ih =>
    rw [List.foldl_cons, ih]
    by_cases hfg : f = g
    · subst hfg
      rw [tabModify_self, if_pos List.mem_cons_self]
      split <;> rfl
    · rw [tabModify_ne _ _ _ _ fun h => hfg (functionIndex_injective h)]
      simp [hfg]

theorem derivedFunctions_get (u : LampUnit) (f : FunctionId) :
    (derivedFunctions u)[functionIndex f] = derivedRecord u f u.functions[functionIndex f] := by
  refine (derivedRecords_get u allFunctions u.functions f).trans (if_pos ?_)
  cases f <;> decide

/-- A unit with every health derived again. -/
def derivedUnit (u : LampUnit) : LampUnit := { u with functions := derivedFunctions u }

theorem functionHealthy_derived (f : FunctionId) (u : LampUnit) : functionHealthy f (derivedUnit u) = functionHealthFrom f u := by
  simp only [functionHealthy, derivedUnit, derivedFunctions_get, derivedRecord]

theorem functionHealthFrom_derived (f : FunctionId) (u : LampUnit) : functionHealthFrom f (derivedUnit u) = functionHealthFrom f u := by
  have hchannels : channelsOf f (derivedUnit u) = channelsOf f u := rfl
  have hpolicy : ((derivedUnit u).functions[functionIndex f]).policyAny = (u.functions[functionIndex f]).policyAny := by
    rw [show (derivedUnit u).functions = derivedFunctions u from rfl, derivedFunctions_get]
    rfl
  unfold functionHealthFrom
  rw [hchannels, hpolicy]
  rfl

theorem derivedUnit_follows (f : FunctionId) (u : LampUnit) :
    functionHealthy f (derivedUnit u) = functionHealthFrom f (derivedUnit u) := by
  rw [functionHealthy_derived, functionHealthFrom_derived]

/-! ## The commit accepted (R200) -/

theorem commit_accepted {h b : Byte} (hr : readyFor .control s) (hm : s.sup.mode = .setup)
    (himage : commitFailure s.store.image (h ++ b) = none) :
    exec (.commitConfiguration .control [h, b]) s = .next (acceptCommit (takenIn .control 0x52#8 s)) := by
  let w := takenIn .control 0x52#8 s
  have hmw : w.sup.mode = .setup := by simpa [w] using hm
  have himagew : commitFailure w.store.image (h ++ b) = none := by simpa [w] using himage
  have htake : takeCommit [h, b] w = (acceptCommit w, none) := by
    simp only [takeCommit, inSetup, hmw, beq_self_eq_true, Bool.not_true, Bool.false_eq_true, if_false, himagew]
  obtain ⟨r, hrow, hexec⟩ := exec_request (.commitConfiguration .control [h, b]) .control 0x52#8 [h, b] s rfl
  obtain rfl := Option.some.inj ((show kindRow .control 0x52#8 = some ⟨true, takeCommit⟩ from rfl).symm.trans hrow)
  have hfree : ((restartWatchdog .control s).links.get .control).inHand = none := by simpa using hr.1
  rw [hexec]
  simp only [portRequest, hfree, Option.isSome_none, Bool.false_eq_true, if_false]
  simp only [w, takenIn] at htake
  simp [htake, takenIn]

theorem zoneChange_spanOccupied (became any : Bool) (m : LeafMotion) :
    (m.zoneChange became any).group.spanOccupied = any := by
  unfold LeafMotion.zoneChange
  dsimp only
  split
  · split <;> simp [LeafMotion.updateGroup, LeafMotion.beginStop, LeafMotion.stopTakes, LeafMotion.clearCounts]
    all_goals split <;> rfl
  · rfl

theorem acceptCommit_frame (s : State) : unchangedBut [.reg, .leaf, .zones, .loop, .stations, .lamp, .store, .cfg] s (acceptCommit s) := by
  intro x hx; cases x <;> first | rfl | exact absurd (by decide) hx

theorem acceptCommit_zone (s : State) (z : ZoneId) :
    (acceptCommit s).zones[z] = ⟨(s.zones[z]).input, (s.zones[z]).input, none⟩ := by
  change (tabMap zoneAtCommit s.zones)[z] = _
  simp only [Fin.getElem_fin, tabMap_getElem, zoneAtCommit]

theorem acceptCommit_spanOccupied (s : State) :
    (acceptCommit s).leaf.group.spanOccupied = true ↔ ∃ z : ZoneId, (s.zones[z]).input = true := by
  have hleaf : (acceptCommit s).leaf.group.spanOccupied = anyOccupied (acceptCommit s) := zoneChange_spanOccupied ..
  rw [hleaf, anyOccupied_iff]
  simp only [acceptCommit_zone]

theorem acceptCommit_station (s : State) (a : ArmId) : (acceptCommit s).station a = .cleared (some (addressItem s.store.image a)) := by
  cases a <;> rfl

/-- The lamp unit of the commit is the one built from the image, with every health derived from it (R154, R161). -/
theorem acceptCommit_lamp (s : State) : ∃ u : LampUnit, (acceptCommit s).lamp = derivedUnit u
    ∧ u.channels = tabMap (committedChannel s.store.image) ⟨(List.range 32).toArray, rfl⟩ ∧ u.pulseClock = some Config.pulsePeriodMs
    ∧ u.undervoltage = decide (s.pins.supply < (configuredOf s.store.image).undervoltageThreshold) := ⟨_, rfl, rfl, rfl, rfl⟩

theorem tabMap_range_get {α : Type} (f : Nat → α) (i : ChannelId) :
    (tabMap f (⟨(List.range 32).toArray, rfl⟩ : Vector Nat 32))[i] = f i.val := by
  simp [tabMap]

theorem acceptCommit_channel (s : State) (i : ChannelId) :
    (acceptCommit s).lamp.channels[i] = committedChannel s.store.image i.val := by
  obtain ⟨u, hlamp, hchannels, _⟩ := acceptCommit_lamp s
  rw [hlamp, show (derivedUnit u).channels = u.channels from rfl, hchannels]
  exact tabMap_range_get _ i

/-- Settles O56: what the event that accepts a commit puts in each block. -/
theorem commitStartsTheEvaluation : Obligations.CommitStartsTheEvaluation := by
  intro h b s hr hm himage
  let w := takenIn .control 0x52#8 s
  have himagew : w.store.image = s.store.image := by rw [takenIn_store]
  have hzones : w.zones = s.zones := takenIn_zones ..
  obtain ⟨u, hlamp, hchannels, hclock, hunder⟩ := acceptCommit_lamp w
  refine ⟨_, commit_accepted hr hm himage, ?links, ?store, ?cfg, ?reg, fun a => ?station, fun z => ?zone, ?span, ?loop, fun i => ?channel,
    ?clock, ?undervoltage, fun f => ?health, ?sup, ?frame⟩
  case links =>
    rw [acceptCommit_links]
    exact takenIn_get .control 0x52#8 s
  case store => rw [acceptCommit_store, takenIn_store]
  case cfg => rw [← himagew]; rfl
  case reg => rw [← takenIn_reg .control 0x52#8 s]; rfl
  case station => rw [acceptCommit_station, himagew]; rfl
  case zone => rw [acceptCommit_zone, hzones]
  case span => rw [acceptCommit_spanOccupied, hzones]
  case loop => rw [← himagew]; rfl
  case channel =>
    rw [acceptCommit_channel, himagew]
    exact ⟨rfl, by simp [committedChannel, Channel.cleared], rfl, fun k => by cases k <;> rfl⟩
  case clock => rw [hlamp]; exact hclock
  case undervoltage =>
    rw [hlamp, show (derivedUnit u).undervoltage = u.undervoltage from rfl, hunder, himagew, show w.pins = s.pins from takenIn_frame .control 0x52#8 s .pins (by decide), decide_eq_true_iff]
    rfl
  case health => rw [hlamp]; exact derivedUnit_follows f u
  case sup => rw [acceptCommit_sup]; exact takenIn_sup .control 0x52#8 s
  case frame =>
    exact unchangedBut_trans (unchangedBut_mono (by simp [portPart]) (takenIn_frame .control 0x52#8 s))
      (unchangedBut_mono (by simp) (acceptCommit_frame w))

end Sys2Proof.Machine

/-! A field-loop turn step by step (O47). -/

namespace Sys2Proof.Machine

open Sys2Proof

variable {s t : State} {x : Turn} {a b : ArmId} {c : LoopCommand}

/-! ## The parts of the loop's operations -/

theorem updateArm_frame (a : ArmId) (f : Arm → Arm) (s : State) : unchangedBut [.arms] s (updateArm a f s) := by
  intro p hp; cases p <;> simp_all [Part.same]

theorem updateStation_frame (a : ArmId) (f : Station → Station) (s : State) : unchangedBut [.stations] s (updateStation a f s) := by
  intro p hp; cases p <;> simp_all [Part.same]

theorem setTurn_frame (y : Option Turn) (s : State) : unchangedBut [.loop] s (setTurn y s) := by
  intro p hp; cases p <;> simp_all [Part.same, setTurn]

theorem setTurn_loop (y : Option Turn) (s : State) : (setTurn y s).loop = { s.loop with turn := y } := rfl

/-- A command of the turn in progress counts as refused (R134, R136). -/
theorem commandRefused_fields (x : Turn) (s : State) :
    (commandRefused x s).loop = { s.loop with turn := some { x with step := .reportAddress } }
      ∧ (∀ b, (commandRefused x s).station b = if b = x.station then
          { s.station b with lastSent := x.command.map (fun c => (c, some false)) } else s.station b)
      ∧ unchangedBut [.loop, .stations] s (commandRefused x s) := by
  refine ⟨rfl, fun b => ?_, unchangedBut_trans (unchangedBut_mono (by simp) (updateStation_frame _ _ s))
    (unchangedBut_mono (by simp) (setTurn_frame _ _))⟩
  refine (updateStation_station _ _ s b).trans ?_
  split
  next h => rw [h]
  next => rfl

/-- The slot of a command accepted: emptied, unless it was rewritten since the turn began (R136). -/
def acceptedStation (x : Turn) (r : Station) : Station :=
  { r with lastSent := x.command.map (fun c => (c, some true)), slot := if r.rewritten then r.slot else none }

theorem commandAccepted_eq (hc : x.command = some c) (s : State) : commandAccepted x s =
    armAcknowledged x.station c (setTurn (some { x with step := .reportAddress }) (updateStation x.station (acceptedStation x) s)) := by
  obtain ⟨_, _, _, _, _⟩ := x
  obtain rfl := hc
  rfl

/-- An acknowledgement of the command that the arm's position asks for (R109). -/
theorem armAcknowledged_named {p : ArmPosition} (hp : (s.arm a).commanded = some p) (hc : commandFor p = c) :
    armAcknowledged a c s = updateArm a (fun r =>
      { r with
        acknowledged := true
        reportedSince := r.reportedSince && r.acknowledged
        travelTimer := if s.closure.state = .closureHeld then r.travelTimer else some 0 }) s := by
  simp only [armAcknowledged, hp, if_pos hc]

theorem armAcknowledged_other (h : ∀ p, (s.arm a).commanded = some p → commandFor p ≠ c) : armAcknowledged a c s = s := by
  unfold armAcknowledged
  split
  · rfl
  next p hp => exact if_neg (h p hp)

theorem armAcknowledged_frame (a : ArmId) (c : LoopCommand) (s : State) : unchangedBut [.arms] s (armAcknowledged a c s) := by
  unfold armAcknowledged
  split
  · exact unchangedBut_refl _ _
  · split
    · exact updateArm_frame a _ s
    · exact unchangedBut_refl _ _

theorem armAcknowledged_arm_ne (h : b ≠ a) (c : LoopCommand) (s : State) : (armAcknowledged a c s).arm b = s.arm b := by
  unfold armAcknowledged
  split
  · rfl
  · split
    · rw [updateArm_arm, if_neg h]
    · rfl

/-! ## The events of a turn -/

theorem exec_turnStart (hheld : s.loop.held = false) (hturn : s.loop.turn = none) (hnext : s.loop.next = some a) :
    exec .turnStart s = .next (beginTurn a s) := by
  change execTurnStart s = _
  simp only [execTurnStart, startTurn, hheld, hturn, hnext]

theorem exec_addressAnswer_command (hx : s.loop.turn = some x) (hst : x.step = .commandAddress) (ok : Bool) :
    exec (.addressAnswer ok) s = .next (if ok then setTurn (some { x with step := .commandOctet }) s else commandRefused x s) := by
  change execAddressAnswer ok s = _
  simp only [execAddressAnswer, addressAnswered, hx, hst]

theorem exec_addressAnswer_report (hx : s.loop.turn = some x) (hst : x.step = .reportAddress) (ok : Bool) :
    exec (.addressAnswer ok) s = .next (setTurn (some { x with step := if ok then .stateOctet else .stop }) s) := by
  change execAddressAnswer ok s = _
  simp only [execAddressAnswer, addressAnswered, hx, hst]

theorem exec_commandAnswer (hx : s.loop.turn = some x) (hst : x.step = .commandOctet) (ok : Bool) :
    exec (.commandAnswer ok) s = .next (if ok then commandAccepted x s else commandRefused x s) := by
  change execCommandAnswer ok s = _
  simp only [execCommandAnswer, commandAnswered, hx, hst]

theorem exec_answerWindowTimeout_command (hx : s.loop.turn = some x) (hst : x.step = .commandAddress ∨ x.step = .commandOctet) :
    exec .answerWindowTimeout s = .next (commandRefused x s) := by
  change execAnswerWindowTimeout s = _
  rcases hst with h | h <;> simp only [execAnswerWindowTimeout, windowClosed, hx, h]

theorem exec_answerWindowTimeout_report (hx : s.loop.turn = some x)
    (hst : x.step = .reportAddress ∨ x.step = .stateOctet ∨ x.step = .angleOctet) :
    exec .answerWindowTimeout s = .next (setTurn (some { x with step := .stop }) s) := by
  change execAnswerWindowTimeout s = _
  rcases hst with h | h | h <;> simp only [execAnswerWindowTimeout, windowClosed, hx, h]

theorem exec_reportOctet_state (hx : s.loop.turn = some x) (hst : x.step = .stateOctet) (b : Byte) :
    exec (.reportOctetReceived b) s = .next (setTurn (some { x with step := .angleOctet, stateOctet := some b }) s) := by
  change execReportOctetReceived b s = _
  simp only [execReportOctetReceived, reportOctet, hx, hst]

theorem exec_reportOctet_angle (hx : s.loop.turn = some x) (hst : x.step = .angleOctet) (b : Byte) :
    exec (.reportOctetReceived b) s = .next (setTurn (some { x with step := .stop, angleOctet := some b }) s) := by
  change execReportOctetReceived b s = _
  simp only [execReportOctetReceived, reportOctet, hx, hst]

/-- A turn begun has taken the slot as its command (R133). -/
theorem beginTurn_fields (a : ArmId) (s : State) :
    (beginTurn a s).loop = { s.loop with turn := some ⟨a, (s.station a).slot,
        if (s.station a).slot = none then .reportAddress else .commandAddress, none, none⟩ }
      ∧ (∀ b, (beginTurn a s).station b = if b = a then { s.station a with
          lastSent := (s.station a).slot.map (fun c => (c, none)), rewritten := false } else s.station b)
      ∧ unchangedBut [.loop, .stations] s (beginTurn a s) := by
  refine ⟨?_, fun b => updateStation_station _ _ s b, unchangedBut_trans (unchangedBut_mono (by simp) (updateStation_frame _ _ s))
    (unchangedBut_mono (by simp) (setTurn_frame _ _))⟩
  simp only [beginTurn, setTurn_loop, updateStation_loop]
  cases (s.station a).slot <;> rfl

theorem addressOctet_command (n : Nat) : addressOctet n false = octet (2 * n) := by simp [addressOctet, Nat.mul_comm]

theorem addressOctet_report (n : Nat) : addressOctet n true = octet (2 * n + 1) := by simp [addressOctet, Nat.mul_comm]

theorem loopOctet_turn (hx : s.loop.turn = some x) : loopOctet s = octetSent x s := by
  simp only [loopOctet, hx, Option.bind_some]

/-- An accepted command empties the slot and acknowledges the arm it was meant for, and no other (R136, R109). -/
theorem commandAccepted_fields (hc : x.command = some c) (s : State) :
    (commandAccepted x s).loop = { s.loop with turn := some { x with step := .reportAddress } }
      ∧ (∀ b, (commandAccepted x s).station b = if b = x.station then { s.station b with
          lastSent := some (c, some true)
          slot := if (s.station b).rewritten = true then (s.station b).slot else none } else s.station b)
      ∧ (∀ b, b ≠ x.station → (commandAccepted x s).arm b = s.arm b)
      ∧ ((∃ p, (s.arm x.station).commanded = some p ∧ commandFor p = c) → ((commandAccepted x s).arm x.station).acknowledged = true
        ∧ (s.closure.state ≠ .closureHeld → ((commandAccepted x s).arm x.station).travelTimer = some 0))
      ∧ ((∀ p, (s.arm x.station).commanded = some p → commandFor p ≠ c) → (commandAccepted x s).arms = s.arms)
      ∧ unchangedBut [.arms, .loop, .stations] s (commandAccepted x s) := by
  let w := setTurn (some { x with step := .reportAddress }) (updateStation x.station (acceptedStation x) s)
  have hframe : unchangedBut [.loop, .stations] s w := unchangedBut_trans (unchangedBut_mono (by simp) (updateStation_frame _ _ s))
    (unchangedBut_mono (by simp) (setTurn_frame _ _))
  have hack := armAcknowledged_frame x.station c w
  have harms : w.arms = s.arms := hframe .arms (by decide)
  rw [commandAccepted_eq hc s]
  refine ⟨(hack .loop (by decide)).trans rfl, fun b => ?station, fun b hb => ?other, fun ⟨p, hp, hpc⟩ => ?named, fun hother => ?stands,
    unchangedBut_trans (unchangedBut_mono (by simp) hframe) (unchangedBut_mono (by simp) hack)⟩
  case station =>
    rw [station_congr (hack .stations (by decide))]
    refine (updateStation_station _ _ s b).trans ?_
    split
    next h => simp only [h, acceptedStation, hc, Option.map_some]
    next => rfl
  case other => rw [armAcknowledged_arm_ne hb]; exact arm_congr harms b
  case named =>
    rw [armAcknowledged_named (s := w) (by rw [arm_congr harms]; exact hp) hpc, updateArm_arm, if_pos rfl]
    exact ⟨rfl, fun hheld => if_neg hheld⟩
  case stands =>
    rw [armAcknowledged_other (s := w) (by rw [arm_congr harms]; exact hother)]
    exact harms

/-- Settles O47: each event of a turn by the step that the turn stands at. -/
theorem turnStepByStep : Obligations.TurnStepByStep := by
  intro s
  refine ⟨fun a hheld hturn hnext => ⟨_, exec_turnStart hheld hturn hnext, beginTurn_fields a s⟩, fun x hx => ?_⟩
  intro address
  refine ⟨?octet, fun hst => by rw [answerGiven, hst], fun hst => by rw [answerGiven, hst], ?_⟩
  case octet =>
    rw [loopOctet_turn hx]
    unfold octetSent
    cases x.step with
    | commandAddress => simp only [addressOctet_command]; rfl
    | commandOctet =>
      cases x.command with
      | none => rfl
      | some c => cases c <;> rfl
    | reportAddress => simp only [addressOctet_report]; rfl
    | stateOctet => rfl
    | angleOctet => rfl
    | stop => rfl
  intro goesTo refused
  have hgoes (y : TurnStep) : goesTo y (setTurn (some { x with step := y }) s)
      ∧ unchangedBut [.loop] s (setTurn (some { x with step := y }) s) := ⟨rfl, setTurn_frame _ s⟩
  have hrefused : refused (commandRefused x s) := commandRefused_fields x s
  refine ⟨fun hst => ?address, fun hst => ?command, fun hst => ?report, fun hst b => ?state, fun hst b => ?angle, fun hst => ?timeout⟩
  case address =>
    exact ⟨⟨_, exec_addressAnswer_command hx hst true, hgoes _⟩, ⟨_, exec_addressAnswer_command hx hst false, hrefused⟩,
      ⟨_, exec_answerWindowTimeout_command hx (.inl hst), hrefused⟩⟩
  case command =>
    exact ⟨⟨_, exec_commandAnswer hx hst false, hrefused⟩, ⟨_, exec_answerWindowTimeout_command hx (.inr hst), hrefused⟩,
      fun c hc => ⟨_, exec_commandAnswer hx hst true, commandAccepted_fields hc s⟩⟩
  case report =>
    exact ⟨⟨_, exec_addressAnswer_report hx hst true, hgoes _⟩, ⟨_, exec_addressAnswer_report hx hst false, hgoes _⟩⟩
  case state => exact ⟨_, exec_reportOctet_state hx hst b, rfl, setTurn_frame _ s⟩
  case angle => exact ⟨_, exec_reportOctet_angle hx hst b, rfl, setTurn_frame _ s⟩
  case timeout => exact ⟨_, exec_answerWindowTimeout_report hx hst, hgoes _⟩

end Sys2Proof.Machine

/-! Records moved one after another, and the standing conditions of R111: what BEGIN OPENING, LOWER BRIDGE and ABORT OPENING
make of the list and of the road. -/

namespace Sys2Proof.Machine

open Sys2Proof

variable {s t u w : State} {l : Link} {p : Passage} {o : Opening} {st : PassageState} {f : Passage → Opening → Opening} {a : ArmId}

/-! ## Records moved for the control link, one after another (R24, R25) -/

/-- A record moved for the control link, with what that does to the opening: an admission or a return step (R24). -/
def moveListed (st : PassageState) (f : Passage → Opening → Opening) (s : State) (p : Passage) : State :=
  updateOpening (f p) (moveRecord (some .control) p st s)

theorem admitStep_moveListed (p : Passage) (s : State) : admitStep (some .control) p s =
    moveListed .admitted (fun p o => { o with list := o.list ++ [p.number] }) s p := rfl

theorem returnStep_moveListed (p : Passage) (s : State) : returnStep (some .control) p s =
    moveListed .waiting (fun p o => { o with list := o.list.filter (fun n => n != p.number) }) s p := rfl

theorem moveRecord_own (p : Passage) (st : PassageState) (s : State) :
    (moveRecord (some .control) p st s).links.control = s.links.control := by
  unfold moveRecord notifyOrigin
  split
  · rfl
  next h =>
    have horigin : p.origin = .harbour := by cases ho : p.origin <;> simp_all
    rw [horigin]
    rfl

theorem moveRecord_harbour (p : Passage) (st : PassageState) (s : State) :
    ((moveRecord (some .control) p st s).links.get .harbour).attention = if p.origin = .harbour then
      ⟨true, s.links.harbour.attention.causes.add .passageRecord⟩ else s.links.harbour.attention := by
  split
  next h =>
    have htold := notifyOrigin_told .control p (s.withReg (changePassage p.number (fun q => { q with state := st }) s.reg))
    rw [h] at htold
    refine htold.trans ?_
    simp only [toldAttention, h, reduceCtorEq, if_false]
    rfl
  next h => exact notifyOrigin_attention_ne (Ne.symm h) _

theorem moveListed_frame (st : PassageState) (f : Passage → Opening → Opening) (s : State) (p : Passage) :
    unchangedBut [.harbourPort, .reg, .seq] s (moveListed st f s p) := by
  intro q hq
  cases q
  case controlPort => exact moveRecord_own p st s
  all_goals simp_all [Part.same, moveListed, moveRecord]

theorem movedEach_frame (st : PassageState) (f : Passage → Opening → Opening) (ps : List Passage) (s : State) :
    unchangedBut [.harbourPort, .reg, .seq] s (ps.foldl (moveListed st f) s) := by
  induction ps generalizing s with
  | nil => exact unchangedBut_refl _ _
  | cons p ps ih => exact unchangedBut_trans (moveListed_frame st f s p) (ih _)

theorem movedEach_reg (st : PassageState) (f : Passage → Opening → Opening) (ps : List Passage) (s : State) :
    (ps.foldl (moveListed st f) s).reg = { s.reg with
      records := s.reg.records.map (fun q => if q.number ∈ ps.map (·.number) then { q with state := st } else q) } := by
  induction ps generalizing s with
  | nil => simp
  | cons p ps ih =>
    have hstep : (moveListed st f s p).reg = changePassage p.number (fun q => { q with state := st }) s.reg := by
      simp [moveListed]
    rw [List.foldl_cons, ih, hstep]
    simp only [changePassage, List.map_map]
    congr 1
    refine List.map_congr_left fun q _ => ?_
    by_cases hq : q.number = p.number
    · simp only [Function.comp_apply, if_pos hq, if_pos (show q.number ∈ (p :: ps).map (·.number) by simp [hq])]
      split <;> rfl
    · simp [hq]

theorem movedEach_opening (st : PassageState) (f : Passage → Opening → Opening) (ps : List Passage) (ho : s.seq.opening = some o) :
    (ps.foldl (moveListed st f) s).seq.opening = some (ps.foldl (fun o p => f p o) o) := by
  induction ps generalizing s o with
  | nil => exact ho
  | cons p ps ih => exact ih (by simp [moveListed, updateOpening, setOpening, ho])

theorem movedEach_harbour (st : PassageState) (f : Passage → Opening → Opening) (ps : List Passage) (s : State) :
    ((ps.foldl (moveListed st f) s).links.get .harbour).attention = if ∃ p ∈ ps, p.origin = .harbour then
      ⟨true, s.links.harbour.attention.causes.add .passageRecord⟩ else s.links.harbour.attention := by
  induction ps generalizing s with
  | nil => simp [PerLink.get]
  | cons p ps ih =>
    have hstep : (moveListed st f s p).links.harbour.attention = if p.origin = .harbour then
        ⟨true, s.links.harbour.attention.causes.add .passageRecord⟩ else s.links.harbour.attention := moveRecord_harbour p st s
    rw [List.foldl_cons, ih, hstep]
    by_cases hp : p.origin = .harbour <;> simp [hp, CauseSet.add_add]

/-! ## The standing conditions where an arm stands LOST or LOCAL (R111) -/

theorem latchArm_frame (k : ArmLatch) (a : ArmId) (s : State) : unchangedBut [.controlPort, .arms] s (latchArm k a s) := by
  unfold latchArm
  split
  · exact unchangedBut_refl _ _
  · exact unchangedBut_trans (unchangedBut_mono (by simp) (updateArm_frame a _ s)) (unchangedBut_mono (by simp) (raiseControl_frame _ _))

/-- Two arm records that differ in their latches alone. -/
def sameButLatches (r r' : Arm) : Prop := r' = { r with latches := r'.latches }

theorem sameButLatches.trans {r r' r'' : Arm} (h : sameButLatches r r') (h' : sameButLatches r' r'') : sameButLatches r r'' := by
  rw [sameButLatches, h', h]

theorem latchArm_arm (k : ArmLatch) (a : ArmId) (s : State) (b : ArmId) : sameButLatches (s.arm b) ((latchArm k a s).arm b) := by
  unfold latchArm
  split
  · rfl
  · rw [arm_congr (raiseAttention_arms ..), updateArm_arm]
    split
    next h => rw [h]; rfl
    next => rfl

theorem latchEach_fields (k : ArmLatch) (arms : List ArmId) (s : State) :
    unchangedBut [.controlPort, .arms] s (arms.foldl (fun t a => latchArm k a t) s)
      ∧ ∀ b, sameButLatches (s.arm b) ((arms.foldl (fun t a => latchArm k a t) s).arm b) := by
  induction arms generalizing s with
  | nil => exact ⟨unchangedBut_refl _ _, fun _ => rfl⟩
  | cons a arms ih =>
    obtain ⟨hframe, harm⟩ := ih (latchArm k a s)
    exact ⟨unchangedBut_trans (latchArm_frame k a s) hframe, fun b => (latchArm_arm k a s b).trans (harm b)⟩

/-- An in-service arm stands LOST or LOCAL. -/
theorem standingArms_of_fault (h : ¬noStandingFault s) : lostArms s ≠ [] ∨ localArms s ≠ [] := by
  by_contra hnone
  push Not at hnone
  refine h fun a hin => ⟨?_, fun hlocal => ?_⟩
  · refine Bool.eq_false_iff.mpr fun hlost => ?_
    have hmem : a ∈ lostArms s := List.mem_filter.mpr ⟨mem_ringOrder a, by simp [hin, hlost]⟩
    simp [hnone.1] at hmem
  · have hmem : a ∈ localArms s := List.mem_filter.mpr ⟨mem_ringOrder a, by simp [hin, hlocal]⟩
    simp [hnone.2] at hmem

/-- A standing condition holds the closure as a holdable state is entered; of two causes one is chosen (R111, log entry 2). -/
theorem standingCheck_holds (hfault : ¬noStandingFault s) (hhold : s.closure.state.holdable = true) :
    ∃ cause u, (cause = .armLost ∨ cause = .armLocal) ∧ standingCheck s = holdWith cause s.closure.state u
      ∧ unchangedBut [.freeCount, .controlPort, .arms] s u ∧ ∀ b, sameButLatches (s.arm b) (u.arm b) := by
  let t := (localArms s).foldl (fun t a => latchArm .localControl a t) ((lostArms s).foldl (fun t a => latchArm .lost a t) s)
  obtain ⟨hframe, harm⟩ := latchEach_fields .lost (lostArms s) s
  obtain ⟨hframe', harm'⟩ := latchEach_fields .localControl (localArms s) ((lostArms s).foldl (fun t a => latchArm .lost a t) s)
  have hframet : unchangedBut [.freeCount, .controlPort, .arms] s t :=
    unchangedBut_mono (by simp) (unchangedBut_trans hframe hframe')
  have harmt (b : ArmId) : sameButLatches (s.arm b) (t.arm b) := (harm b).trans (harm' b)
  have hclosure : t.closure = s.closure := hframet .closure (by decide)
  have hheld (cause : HeldCause) : holdClosure cause t = holdWith cause s.closure.state t := by
    rw [holdClosure_held (by rw [hclosure]; exact hhold), hclosure]
  have hchosen (cause : HeldCause) : holdClosure cause (countChoice t) = holdWith cause s.closure.state (countChoice t) := by
    have hclosure' : (countChoice t).closure = s.closure := (countChoice_closure t).trans hclosure
    rw [holdClosure_held (by rw [hclosure']; exact hhold), hclosure']
  have hcount : unchangedBut [.freeCount] t (countChoice t) := by intro q hq; cases q <;> simp_all [Part.same]
  unfold standingCheck
  simp only
  split
  next hlost hlocal =>
    rcases standingArms_of_fault hfault with h | h
    · exact absurd (List.isEmpty_iff.mp hlost) h
    · exact absurd (List.isEmpty_iff.mp hlocal) h
  next => exact ⟨.armLost, t, .inl rfl, hheld _, hframet, harmt⟩
  next => exact ⟨.armLocal, t, .inr rfl, hheld _, hframet, harmt⟩
  next =>
    refine ⟨_, countChoice t, ?_, hchosen _, unchangedBut_trans hframet (unchangedBut_mono (by simp) hcount), fun b => ?_⟩
    · split <;> simp
    · rw [arm_congr (countChoice_arms t)]; exact harmt b

end Sys2Proof.Machine

/-! BEGIN OPENING (O26). -/

namespace Sys2Proof.Machine

open Sys2Proof

variable {s t u w : State} {l : Link} {p : Passage} {o : Opening} {n : Byte} {a : ArmId} {d : Direction} {ps : List Passage}

/-! ## The first WAITING records admitted (R34) -/

theorem findPassage_of_nodup {r : Register} (h : (r.records.map (·.number)).Nodup) (hp : p ∈ r.records) :
    findPassage p.number r = some p := by
  cases hf : findPassage p.number r with
  | none => exact absurd (List.find?_eq_none.mp hf p hp) (by simp)
  | some q =>
    obtain ⟨hq, hnum⟩ := findPassage_mem hf
    exact congrArg some (List.inj_on_of_nodup_map h hq hp hnum)

/-- The admitted list after admissions: their numbers at its end, in order (R24). -/
theorem admitEach_list (ps : List Passage) (o : Opening) :
    ps.foldl (fun o p => ({ o with list := o.list ++ [p.number] } : Opening)) o = { o with list := o.list ++ ps.map (·.number) } := by
  induction ps generalizing o with
  | nil => simp
  | cons p ps ih => rw [List.foldl_cons, ih]; simp

/-- The opening as it begins, before its records are admitted (R34). -/
def begun : Opening := ⟨.closingRoad, false, [], 0, none, none, false⟩

theorem admitFirst_opening (k : Nat) (ho : s.seq.opening = some begun) :
    (admitFirst (some .control) k s).seq.opening = some { begun with list := (firstWaiting k s).map (·.number) } := by
  have h := movedEach_opening .admitted (fun p o => { o with list := o.list ++ [p.number] }) (firstWaiting k s) ho
  rw [admitEach_list] at h
  exact h

theorem admitFirst_reg (k : Nat) (s : State) (hdistinct : (s.reg.records.map (·.number)).Nodup) :
    (admitFirst (some .control) k s).reg = { s.reg with
      records := s.reg.records.map (fun p => if p ∈ firstWaiting k s then { p with state := .admitted } else p) } := by
  refine (movedEach_reg .admitted (fun p o => { o with list := o.list ++ [p.number] }) (firstWaiting k s) s).trans ?_
  refine congrArg (fun records : List Passage => ({ s.reg with records := records } : Register)) (List.map_congr_left fun q hq => ?_)
  have hiff : q.number ∈ (firstWaiting k s).map (·.number) ↔ q ∈ firstWaiting k s := by
    refine ⟨fun h => ?_, List.mem_map_of_mem⟩
    obtain ⟨p, hp, hnum⟩ := List.mem_map.mp h
    rwa [← List.inj_on_of_nodup_map hdistinct (firstWaiting_mem hp).1 hq hnum]
  simp only [hiff]

theorem admitFirst_frame (k : Nat) (s : State) : unchangedBut [.harbourPort, .reg, .seq] s (admitFirst (some .control) k s) :=
  movedEach_frame .admitted (fun p o => { o with list := o.list ++ [p.number] }) (firstWaiting k s) s

theorem admitFirst_harbour (k : Nat) (s : State) :
    ((admitFirst (some .control) k s).links.get .harbour).attention = if ∃ p ∈ firstWaiting k s, p.origin = .harbour then
      ⟨true, s.links.harbour.attention.causes.add .passageRecord⟩ else s.links.harbour.attention :=
  movedEach_harbour .admitted (fun p o => { o with list := o.list ++ [p.number] }) (firstWaiting k s) s

theorem admitFirst_listed (k : Nat) (ho : s.seq.opening = some begun) (hdistinct : (s.reg.records.map (·.number)).Nodup) :
    listedRecords (admitFirst (some .control) k s) = (firstWaiting k s).map admittedAs := by
  have hreg : (admitFirst (some .control) k s).reg.records.map (·.number) = s.reg.records.map (·.number) := by
    rw [admitFirst_reg k s hdistinct, List.map_map]
    refine List.map_congr_left fun q _ => ?_
    simp only [Function.comp_apply]
    split <;> rfl
  have hfind (p : Passage) (hp : p ∈ firstWaiting k s) :
      findPassage p.number (admitFirst (some .control) k s).reg = some (admittedAs p) := by
    refine findPassage_of_nodup (p := admittedAs p) (hreg ▸ hdistinct) ?_
    rw [admitFirst_reg k s hdistinct]
    exact List.mem_map.mpr ⟨p, (firstWaiting_mem hp).1, by rw [if_pos hp]; rfl⟩
  simp only [listedRecords, admitFirst_opening k ho, List.filterMap_map]
  exact (List.filterMap_congr hfind).trans (congrFun List.filterMap_eq_map _)

/-- The target of an opening that lists records just admitted: the largest of their required angles with the margin (R30). -/
theorem formedTarget_admitted (h : listedRecords s = ps.map admittedAs) (hne : ps ≠ []) :
    formedTarget s = withMargin s.conf ((ps.map (·.angle)).foldl max 0) := by
  have hactive : (listedRecords s).filter isActive = ps.map admittedAs := by
    rw [h, List.filter_eq_self]
    intro q hq
    obtain ⟨p, _, rfl⟩ := List.mem_map.mp hq
    simp [isActive, isAdmitted, admittedAs]
  have hangles : (ps.map admittedAs).map (·.angle) = ps.map (·.angle) := by rw [List.map_map]; rfl
  unfold formedTarget
  rw [hactive]
  split
  next hnil => exact absurd (List.map_eq_nil_iff.mp hnil) hne
  next => rw [hangles]; rfl

theorem activeIn_admitted (h : listedRecords s = ps.map admittedAs) (d : Direction) :
    activeIn d s = true ↔ ∃ p ∈ ps, p.direction = d := by
  simp [activeIn, h, isActive, isAdmitted, admittedAs]

theorem demandFor_closing_iff (hm : s.sup.mode = .attended) (ho : s.seq.opening = some o) (hst : o.state = .closingRoad) (d : Direction) :
    demandFor d s = if activeIn d s = true then .standBy else .noPassage := by
  simp [demandFor, hm, ho, passRow, standByRow, hst]

/-! ## The close request (R113) -/

/-- The records of a closing as it starts, before the closure enters PREWARN_AMBER (R113). -/
def closeFields (s : State) : State :=
  (s.withArms (tabMap (fun a => { a with latches := .none, retryCount := 0 }) s.arms)).withClosure { s.closure with
    redSeen := .none, override := false, redTimeExpired := false, confirmation := false, closeReported := false
    phaseTimer := some (s.conf.amberTime * 1000) }

theorem closeRequest_open (h : s.closure.state = .roadOpen) (q : Bool) :
    closeRequest q s = standingCheck (setClosureState q .prewarnAmber (closeFields s)) := if_pos (.inl h)

theorem closeFields_frame (s : State) : unchangedBut [.closure, .arms] s (closeFields s) := by
  intro x hx; cases x <;> simp_all [Part.same, closeFields]

theorem closeFields_arm (s : State) (a : ArmId) : (closeFields s).arm a = { s.arm a with latches := .none, retryCount := 0 } :=
  arms_mapped _ s a

/-- A closing started on request of the control link (R113). -/
theorem closing_started (h : s.closure.state = .roadOpen) : ∃ x, x = setClosureState true .prewarnAmber (closeFields s)
    ∧ closeRequest true s = standingCheck x
    ∧ x.closure = { s.closure with
        state := .prewarnAmber, redSeen := .none, override := false, redTimeExpired := false, confirmation := false
        closeReported := false, phaseTimer := some (s.conf.amberTime * 1000) }
    ∧ x.display.road = .amber ∧ (∀ a, x.arm a = { s.arm a with latches := .none, retryCount := 0 })
    ∧ unchangedBut [.closure, .arms, .lamp, .display] s x := by
  refine ⟨_, rfl, closeRequest_open h true, by simp [closeFields], by simp [roadLightOf], fun a => ?_, ?_⟩
  · rw [arm_congr (setClosureState_arms ..)]; exact closeFields_arm s a
  · refine unchangedBut_trans (unchangedBut_mono (by simp) (closeFields_frame s))
      (unchangedBut_mono (by simp) (setClosureState_quiet_frame ?_))
    simp [closeFields, h]

theorem closing_clear (h : s.closure.state = .roadOpen) (hclear : noStandingFault s) :
    (closeRequest true s).closure = { s.closure with
        state := .prewarnAmber, redSeen := .none, override := false, redTimeExpired := false, confirmation := false
        closeReported := false, phaseTimer := some (s.conf.amberTime * 1000) }
      ∧ (closeRequest true s).display.road = .amber
      ∧ (∀ a, (closeRequest true s).arm a = { s.arm a with latches := .none, retryCount := 0 })
      ∧ unchangedBut [.closure, .arms, .lamp, .display] s (closeRequest true s) := by
  obtain ⟨x, _, hcheck, hclosure, hroad, harm, hframe⟩ := closing_started h
  have hclearx : noStandingFault x := noStandingFault_of_arms hclear fun a => by rw [harm]; exact ⟨rfl, rfl, rfl⟩
  rw [hcheck, standingCheck_clear hclearx]
  exact ⟨hclosure, hroad, harm, hframe⟩

theorem closing_held (h : s.closure.state = .roadOpen) (hfault : ¬noStandingFault s) : ∃ cause,
    (cause = .armLost ∨ cause = .armLocal) ∧ (closeRequest true s).closure.state = .closureHeld
      ∧ (closeRequest true s).closure.heldIn = some .prewarnAmber ∧ (closeRequest true s).closure.heldCause = some cause
      ∧ (closeRequest true s).closure.phaseTimer = none ∧ (closeRequest true s).display.road = .red
      ∧ (closeRequest true s).sup.closureHeld = true ∧ (closeRequest true s).links.control.attention.raised = true
      ∧ (∀ a, ((closeRequest true s).arm a).retryCount = 0 ∧ ((closeRequest true s).arm a).commanded = (s.arm a).commanded)
      ∧ unchangedBut [.freeCount, .controlPort, .closure, .arms, .lamp, .display, .sup] s (closeRequest true s) := by
  obtain ⟨x, _, hcheck, hclosure, _, harm, hframe⟩ := closing_started h
  have hstate : x.closure.state = .prewarnAmber := by rw [hclosure]
  have hfaultx : ¬noStandingFault x := fun hclear => hfault (noStandingFault_of_arms hclear fun a => by rw [harm]; exact ⟨rfl, rfl, rfl⟩)
  obtain ⟨cause, u, hcause, hheld, hframeu, harmu⟩ := standingCheck_holds hfaultx (by rw [hstate]; rfl)
  have hclosureu : u.closure = x.closure := hframeu .closure (by decide)
  obtain ⟨hc, harmh, hsup, hred, hraised, _⟩ :=
    holdWith_held (s := u) (cause := cause) (heldIn := .prewarnAmber) (by rw [hclosureu, hstate]; decide)
  rw [hcheck, hheld, hstate]
  refine ⟨cause, hcause, by rw [hc], by rw [hc], by rw [hc], by rw [hc], hred, by rw [hsup], hraised, fun a => ?_, ?_⟩
  · rw [holdWith_arm, harmu a, harm a]
    exact ⟨rfl, rfl⟩
  · exact unchangedBut_trans (unchangedBut_mono (by simp) hframe) (unchangedBut_trans (unchangedBut_mono (by simp) hframeu)
      (unchangedBut_mono (by simp) (holdWith_frame _ _ _)))

/-! ## BEGIN OPENING past its refusals -/

/-- The opening begun with its records admitted and its target formed, before the road is asked to close (R34). -/
def beginAdmitted (k : Nat) (s : State) : State := formTarget (admitFirst (some .control) k (setOpening (some begun) s))

theorem beginAdmitted_frame (k : Nat) (s : State) : unchangedBut [.harbourPort, .reg, .seq] s (beginAdmitted k s) :=
  unchangedBut_trans (unchangedBut_mono (by simp) (setOpening_frame _ s))
    (unchangedBut_trans (admitFirst_frame k _) (unchangedBut_mono (by simp) (formTarget_frame _)))

theorem firstWaiting_ne_nil {k : Nat} (hk : k ≠ 0) (h : ∃ p ∈ s.reg.records, p.state = .waiting) : firstWaiting k s ≠ [] := by
  obtain ⟨p, hp, hst⟩ := h
  have hmem : p ∈ (queueOrder s.reg.records).filter (fun p => p.state == .waiting) :=
    List.mem_filter.mpr ⟨(queueOrder_perm _).mem_iff.mpr hp, by simp [hst]⟩
  exact fun hnil => (List.take_eq_nil_iff.mp hnil).elim hk (List.ne_nil_of_mem hmem)

theorem beginAdmitted_listed (k : Nat) (hdistinct : (s.reg.records.map (·.number)).Nodup) :
    listedRecords (beginAdmitted k s) = (firstWaiting k s).map admittedAs := by
  have hopening := admitFirst_opening k (s := setOpening (some begun) s) rfl
  refine Eq.trans (listedRecords_of_lists ?_ (formTarget_reg _)) (admitFirst_listed k (s := setOpening (some begun) s) rfl hdistinct)
  rw [beginAdmitted, formTarget_opening hopening rfl, hopening]
  rfl

theorem beginAdmitted_opening {k : Nat} (hk : k ≠ 0) (hwait : ∃ p ∈ s.reg.records, p.state = .waiting)
    (hdistinct : (s.reg.records.map (·.number)).Nodup) : (beginAdmitted k s).seq.opening =
      some { begun with
        list := (firstWaiting k s).map (·.number)
        target := withMargin s.conf (((firstWaiting k s).map (·.angle)).foldl max 0) } := by
  have hopening := admitFirst_opening k (s := setOpening (some begun) s) rfl
  have htarget := formedTarget_admitted (admitFirst_listed k (s := setOpening (some begun) s) rfl hdistinct) (firstWaiting_ne_nil hk hwait)
  have hconf : (admitFirst (some .control) k (setOpening (some begun) s)).conf = s.conf :=
    congrArg (·.getD Configured.blank) (admitFirst_frame k (setOpening (some begun) s) .cfg (by decide))
  rw [beginAdmitted, formTarget_opening hopening rfl, htarget, hconf]
  rfl

theorem takeBegin_taken (ha : s.sup.mode = .attended) (hlow : 1 ≤ n.toNat) (hhigh : n.toNat ≤ 8) (ho : s.seq.opening = none)
    (hgroup : s.leaf.group.state = .stowed) (hroad : s.closure.state = .roadOpen) (hspan : anyOccupied s = false)
    (hwait : ∃ p ∈ s.reg.records, p.state = .waiting) (hdistinct : (s.reg.records.map (·.number)).Nodup) :
    takeBegin .control [n] s = accept
      (octet (firstWaiting n.toNat s).length :: (firstWaiting n.toNat s).map (fun p => octet p.number))
      (deriveDemands (closeRequest true (beginAdmitted n.toNat s))) := by
  have hn : ¬n = 0#8 := by rintro rfl; simp at hlow
  have hfits : ¬8 < n.toNat := by omega
  have hsome : (s.reg.records.all fun p => p.state != .waiting) = false := by
    obtain ⟨p, hp, hst⟩ := hwait
    exact List.all_eq_false.mpr ⟨p, hp, by simp [hst]⟩
  have hopening := beginAdmitted_opening (k := n.toNat) (by omega) hwait hdistinct
  have hlist : ((beginAdmitted n.toNat s).seq.opening.map (·.list)).getD [] = (firstWaiting n.toNat s).map (·.number) := by
    rw [hopening]; rfl
  have htaken : takeBegin .control [n] s = accept
      (octet (((beginAdmitted n.toNat s).seq.opening.map (·.list)).getD []).length
        :: (((beginAdmitted n.toNat s).seq.opening.map (·.list)).getD []).map octet)
      (deriveDemands (closeRequest true (beginAdmitted n.toNat s))) := by
    simp [takeBegin, attended, ha, hn, hfits, ho, hgroup, hroad, hspan, hsome]
    rfl
  rw [htaken, hlist, List.length_map, List.map_map]
  rfl

/-- Settles O26: the records admitted, the target they ask for, and the closing as it starts or is held at once. -/
theorem beginOpensAndClosesTheRoad : Obligations.BeginOpensAndClosesTheRoad := by
  intro n s hr ha hlow hhigh ho hgroup hroad hspan hwait hdistinct first
  let w := takenIn .control 0x20#8 s
  let x := beginAdmitted n.toNat w
  have hspanw : anyOccupied w = false := by
    rw [Bool.eq_false_iff, Ne, anyOccupied_iff] at hspan ⊢
    simpa [w] using hspan
  obtain ⟨hexec, hanswered⟩ := exec_accepted (c := .beginOpening .control [n]) rfl rfl (by decide) hr rfl
    (takeBegin_taken (s := w) (by simpa [w] using ha) hlow hhigh (by simpa [w] using ho) (by simpa [w] using hgroup)
      (by simpa [w] using hroad) hspanw (by simpa [w] using hwait) (by simpa [w] using hdistinct))
  have hfirst : firstWaiting n.toNat w = first := by simp [firstWaiting, w, first]
  have hframex : unchangedBut [.controlPort, .harbourPort, .reg, .seq, .sup] s x :=
    unchangedBut_trans (unchangedBut_mono (by simp [portPart]) (takenIn_frame .control 0x20#8 s))
      (unchangedBut_mono (by simp) (beginAdmitted_frame _ w))
  have hconfw : w.conf = s.conf := takenIn_conf _ _ _
  have hconfx : x.conf = s.conf := congrArg (·.getD Configured.blank) (hframex .cfg (by decide))
  have hclosurex : x.closure = s.closure := hframex .closure (by decide)
  have harmx (a : ArmId) : x.arm a = s.arm a := arm_congr (hframex .arms (by decide)) a
  have hroadx : x.closure.state = .roadOpen := by rw [hclosurex]; exact hroad
  have hclear : noStandingFault x ↔ noStandingFault s :=
    ⟨fun h => noStandingFault_of_arms h fun a => by rw [harmx]; exact ⟨rfl, rfl, rfl⟩,
      fun h => noStandingFault_of_arms h fun a => by rw [harmx]; exact ⟨rfl, rfl, rfl⟩⟩
  have hlistedx : listedRecords x = first.map admittedAs := by
    rw [← hfirst]; exact beginAdmitted_listed _ (by simpa [w] using hdistinct)
  have hopeningx := beginAdmitted_opening (s := w) (k := n.toNat) (by omega) (by simpa [w] using hwait) (by simpa [w] using hdistinct)
  rw [hfirst, hconfw] at hopeningx
  rw [hfirst] at hexec hanswered
  let z := closeRequest true x
  have hframez : unchangedBut [.freeCount, .controlPort, .closure, .arms, .lamp, .display, .sup] x z := by
    by_cases h : noStandingFault x
    · obtain ⟨_, _, _, hframe⟩ := closing_clear hroadx h
      exact unchangedBut_mono (by simp) hframe
    · obtain ⟨_, _, _, _, _, _, _, _, _, _, hframe⟩ := closing_held hroadx h
      exact hframe
  let t := putReply .control 0x20#8 .ok (octet first.length :: first.map fun p => octet p.number) (deriveDemands z)
  have hopening : t.seq.opening = x.seq.opening := by
    rw [putReply_seq, deriveDemands_seq_opening, closeRequest_seq]
  have hlisted : listedRecords t = first.map admittedAs :=
    (listedRecords_of_lists (by rw [hopening]) (by simp [t, z])).trans hlistedx
  have hdemands : demandsStand t := demandsStand_putReply (demandsStand_deriveDemands _)
  have hmode : t.sup.mode = .attended := by
    rw [putReply_sup, deriveDemands_sup_mode, closeRequest_sup_mode, show x.sup = w.sup from beginAdmitted_frame _ w .sup (by decide)]
    simpa [w] using ha
  refine ⟨t, hexec, ?reg, hopening.trans hopeningx, fun d => ?demand, hanswered, ?harbour, fun a => ?arm, fun h => ?started, fun h => ?held,
    ?frame⟩
  case reg =>
    rw [putReply_reg, deriveDemands_reg, closeRequest_reg, show x.reg = _ from formTarget_reg _,
      admitFirst_reg _ (setOpening (some begun) w) (by simpa [setOpening, w] using hdistinct)]
    rw [show firstWaiting n.toNat (setOpening (some begun) w) = first from hfirst,
      show (setOpening (some begun) w).reg = s.reg from takenIn_reg .control 0x20#8 s]
  case demand =>
    rw [hdemands d, demandFor_closing_iff hmode (hopening.trans hopeningx) rfl]
    simp only [activeIn_admitted hlisted]
  case harbour =>
    have hport : z.links.harbour = x.links.harbour := hframez .harbourPort (by decide)
    have hadmit := admitFirst_harbour n.toNat (setOpening (some begun) w)
    rw [show firstWaiting n.toNat (setOpening (some begun) w) = first from hfirst] at hadmit
    have hold : (setOpening (some begun) w).links.harbour = s.links.harbour := takenIn_frame .control 0x20#8 s .harbourPort (by decide)
    have hform : x.links = (admitFirst (some .control) n.toNat (setOpening (some begun) w)).links := formTarget_links _
    rw [hold, ← hform] at hadmit
    rw [putReply_attention, deriveDemands_links]
    exact (congrArg LinkPort.attention hport).trans hadmit
  case arm =>
    rw [arm_congr ((putReply_arms ..).trans (deriveDemands_arms _)), ← harmx a]
    by_cases h : noStandingFault x
    · obtain ⟨_, _, harm, _⟩ := closing_clear hroadx h
      rw [harm a]
      exact ⟨rfl, rfl⟩
    · obtain ⟨_, _, _, _, _, _, _, _, _, harm, _⟩ := closing_held hroadx h
      exact harm a
  case started =>
    obtain ⟨hclosure, hamber, harm, hframe⟩ := closing_clear hroadx (hclear.mpr h)
    refine ⟨?_, ?_, fun a => ?_, ?_, ?_⟩
    · rw [putReply_closure, deriveDemands_closure, hclosure, hclosurex, hconfx]
    · rw [putReply_display, deriveDemands_road]; exact hamber
    · rw [arm_congr ((putReply_arms ..).trans (deriveDemands_arms _)), harm a]
    · rw [putReply_attention, deriveDemands_links]
      have hport : z.links.control = w.links.control :=
        (hframe .controlPort (by decide)).trans (beginAdmitted_frame _ w .controlPort (by decide))
      exact (congrArg LinkPort.attention hport).trans (takenIn_attention .control 0x20#8 s .control)
    · have hsup : z.sup = framedSup .control s := ((hframe .sup (by decide)).trans
        (beginAdmitted_frame _ w .sup (by decide))).trans (takenIn_sup .control 0x20#8 s)
      rw [putReply_sup, ← hsup]
      exact deriveDemands_sup_darkAlone z
  case held =>
    obtain ⟨cause, hcause, hstate, hin, hbecause, htimer, hred, hsup, hraised, _⟩ := closing_held hroadx fun h' => h (hclear.mp h')
    rw [putReply_closure, deriveDemands_closure, putReply_display, deriveDemands_road, putReply_sup, deriveDemands_sup_closureHeld,
      putReply_attention, deriveDemands_links]
    exact ⟨hstate, hin, by rw [hbecause]; exact hcause.imp (congrArg some) (congrArg some), htimer, hred, hsup, hraised⟩
  case frame =>
    refine unchangedBut_trans (unchangedBut_mono (by simp) hframex) (unchangedBut_trans (unchangedBut_mono (by simp) hframez)
      (unchangedBut_trans (unchangedBut_mono (by simp) (deriveDemands_frame z)) ?_))
    exact unchangedBut_mono (by simp [portPart]) (updatePort_frame .control _ _ : unchangedBut [portPart .control] (deriveDemands z) t)

end Sys2Proof.Machine

/-! LOWER BRIDGE and ABORT OPENING (O30). -/

namespace Sys2Proof.Machine

open Sys2Proof

variable {s t u w : State} {l : Link} {p : Passage} {o : Opening} {n : Byte} {a : ArmId} {ps : List Passage} {m : LeafMotion}

/-! ## The admitted records returned (R24, R38, R39) -/

/-- The admitted list after return steps: without their numbers (R24). -/
theorem returnEach_list (ps : List Passage) (o : Opening) :
    ps.foldl (fun o p => ({ o with list := o.list.filter (fun n => n != p.number) } : Opening)) o =
      { o with list := o.list.filter (fun m => !(ps.map (·.number)).contains m) } := by
  induction ps generalizing o with
  | nil => simp
  | cons p ps ih =>
    have hlist : (o.list.filter fun n => n != p.number).filter (fun m => !(ps.map (·.number)).contains m) =
        o.list.filter fun m => !((p :: ps).map (·.number)).contains m := by
      rw [List.filter_filter]
      refine List.filter_congr fun m _ => ?_
      by_cases h : m = p.number <;> simp [h]
    rw [List.foldl_cons, ih, hlist]

/-- The numbers of the ADMITTED records of the list. -/
def admittedNumbers (s : State) : List Nat := (admittedRecords s).map (·.number)

theorem returnAll_opens (ho : s.seq.opening = some o) : (returnAll (some .control) s).seq.opening =
    some { o with list := o.list.filter (fun m => !(admittedNumbers s).contains m) } := by
  have h := movedEach_opening .waiting (fun p o => { o with list := o.list.filter (fun n => n != p.number) }) (admittedRecords s) ho
  rw [returnEach_list] at h
  exact h

theorem returnAll_reg (s : State) : (returnAll (some .control) s).reg = { s.reg with
    records := s.reg.records.map (fun q => if q.number ∈ admittedNumbers s then { q with state := .waiting } else q) } :=
  movedEach_reg .waiting (fun p o => { o with list := o.list.filter (fun n => n != p.number) }) (admittedRecords s) s

theorem returnAll_frame (s : State) : unchangedBut [.harbourPort, .reg, .seq] s (returnAll (some .control) s) :=
  movedEach_frame .waiting (fun p o => { o with list := o.list.filter (fun n => n != p.number) }) (admittedRecords s) s

theorem returnAll_harbour (s : State) :
    ((returnAll (some .control) s).links.get .harbour).attention = if ∃ p ∈ admittedRecords s, p.origin = .harbour then
      ⟨true, s.links.harbour.attention.causes.add .passageRecord⟩ else s.links.harbour.attention :=
  movedEach_harbour .waiting (fun p o => { o with list := o.list.filter (fun n => n != p.number) }) (admittedRecords s) s

theorem admittedRecords_congr (ho : t.seq.opening = s.seq.opening) (hr : t.reg = s.reg) : admittedRecords t = admittedRecords s := by
  rw [admittedRecords, admittedRecords, listedRecords_of_lists (by rw [ho]) hr]

theorem any_cleared_false (h : ∀ p ∈ listedRecords s, p.state ≠ .cleared) : (listedRecords s).any isCleared = false := by
  rw [List.any_eq_false]
  intro p hp
  simpa [isCleared] using h p hp

/-- The opening as its records return, with `f` applied to it. -/
def returnedWith (f : Opening → Opening) (s : State) : State := updateOpening f (returnAll (some .control) s)

theorem returnedWith_frame (f : Opening → Opening) (s : State) : unchangedBut [.harbourPort, .reg, .seq] s (returnedWith f s) :=
  unchangedBut_trans (returnAll_frame s) (unchangedBut_mono (by simp) (updateOpening_frame f _))

theorem returnedWith_opening (f : Opening → Opening) (ho : s.seq.opening = some o) : (returnedWith f s).seq.opening =
    some (f { o with list := o.list.filter (fun m => !(admittedNumbers s).contains m) }) :=
  updateOpening_opening f (returnAll_opens ho)

theorem returnedWith_clearance (f : Opening → Opening) (s : State) : (returnedWith f s).seq.clearance = s.seq.clearance := by
  simp [returnedWith]

/-! ## The leaves asked to lower (R86) -/

theorem lower_down (hst : m.group.state = .heldOpen ∨ m.group.state = .halted) (hseated : bothSeated m = false) :
    m.lower = (m.setTarget 0).motionStart .lowering := by
  rcases hst with h | h <;> simp [LeafMotion.lower, h, hseated]

theorem lower_stops (hst : m.group.state = .raising ∨ m.group.state = .settling) : m.lower = (m.setTarget 0).beginStop none true := by
  rcases hst with h | h <;> simp [LeafMotion.lower, h]

theorem lowerRefused_down (hst : s.leaf.group.state = .heldOpen ∨ s.leaf.group.state = .halted) (hseated : bothSeated s.leaf = false)
    (hstart : startable s) : lowerRefused (roadIsClosed s) s.leaf = false := by
  have hnot := (startRefused_iff s).mpr hstart
  rcases hst with h | h <;> simp [lowerRefused, h, hseated, hnot]

theorem deriveDemand_stands {d : Direction} (h : s.seq.demand.get d = demandFor d s) : deriveDemand d s = s := if_pos h

theorem deriveDemands_stand (h : demandsStand s) : deriveDemands s = s := by
  rw [deriveDemands, deriveDemand_stands (h .seaward), deriveDemand_stands (h .landward)]

/-- The group asked to lower with the records returned, and its start reported: what LOWER BRIDGE and ABORT OPENING share. -/
theorem beginLowering_moves (ho : s.seq.opening = some o) (hquiet : reportsQuietly s.leaf.lower.group.state)
    (hchanged : s.leaf.lower.group.state ≠ s.leaf.group.state) :
    (beginLowering .control s).leaf = s.leaf.lower ∧ (beginLowering .control s).seq.opening =
        some (loweringFields { o with list := o.list.filter (fun m => !(admittedNumbers s).contains m) })
      ∧ (beginLowering .control s).reg = (returnAll (some .control) s).reg
      ∧ (beginLowering .control s).links.harbour = (returnAll (some .control) s).links.harbour
      ∧ groupReportedWith [.harbourPort, .reg] [.leafGroup] s (beginLowering .control s) := by
  let x := returnedWith loweringFields s
  have hframe : unchangedBut [.harbourPort, .reg, .seq] s x := returnedWith_frame loweringFields s
  have hleaf : x.leaf = s.leaf := hframe .leaf (by decide)
  obtain ⟨hopening, hreport⟩ := applyLeaf_quiet (f := LeafMotion.lower) (s := x) (by rw [hleaf]; exact hquiet)
    (by rw [hleaf]; exact hchanged)
  have ⟨_, _, _, hdemands, hframe'⟩ := hreport
  have heq : beginLowering .control s = applyLeaf LeafMotion.lower x := deriveDemands_stand hdemands
  rw [heq]
  refine ⟨by rw [applyLeaf_leaf, hleaf], hopening.trans (returnedWith_opening _ ho), ?_, ?_, ?_⟩
  · exact (hframe' .reg (by decide)).trans (updateOpening_frame _ _ .reg (by decide))
  · exact (hframe' .harbourPort (by decide)).trans (updateOpening_frame _ _ .harbourPort (by decide))
  · exact groupReported_after (hframe .sup (by decide)) (hframe .controlPort (by decide)) (returnedWith_clearance _ _)
      (unchangedBut_mono (by simp) hframe) hreport

/-! ## The requests past their refusals -/

theorem takeLower_taken (ha : s.sup.mode = .attended) (ho : s.seq.opening = some o)
    (hst : o.state = .open ∨ o.state = .recoveryWait ∨ (o.state = .lifting ∧ s.leaf.group.state = .halted))
    (hcleared : (listedRecords s).any isCleared = false)
    (hgroup : s.leaf.group.state = .heldOpen ∨ s.leaf.group.state = .halted) (hseated : bothSeated s.leaf = false)
    (hstart : startable s) :
    takeLower .control [] s = accept [octet (admittedRecords s).length] (beginLowering .control s) := by
  have hwrong : lowerWrongState s = false := by
    rcases hst with h | h | ⟨h, hg⟩
    · simp [lowerWrongState, openingState, ho, h]
    · simp [lowerWrongState, openingState, ho, h]
    · simp [lowerWrongState, openingState, ho, h, hg]
  have hinterlock : ((s.leaf.group.state != .heldOpen && s.leaf.group.state != .halted) || lowerRefused (roadIsClosed s) s.leaf) = false := by
    rw [lowerRefused_down hgroup hseated hstart]
    rcases hgroup with h | h <;> simp [h]
  simp only [takeLower, attended, ha, beq_self_eq_true, Bool.not_true, Bool.false_eq_true, if_false, hwrong, hcleared, hinterlock]

theorem takeAbort_closing (ha : s.sup.mode = .attended) (ho : s.seq.opening = some o) (hst : o.state = .closingRoad)
    (hrec : o.recovery = false) (hcleared : (listedRecords s).any isCleared = false) :
    takeAbort .control [] s = accept [octet (admittedRecords s).length] (abortClosing .control s) := by
  simp [takeAbort, attended, ha, inRecovery, ho, hrec, openingState, hst, hcleared]

theorem takeAbort_lifting (ha : s.sup.mode = .attended) (ho : s.seq.opening = some o) (hst : o.state = .lifting)
    (hrec : o.recovery = false) (hcleared : (listedRecords s).any isCleared = false)
    (hgroup : s.leaf.group.state = .raising ∨ s.leaf.group.state = .settling) :
    takeAbort .control [] s = accept [octet (admittedRecords s).length] (beginLowering .control s) := by
  rcases hgroup with h | h <;>
    simp [takeAbort, attended, ha, inRecovery, ho, hrec, openingState, hst, hcleared, lowerRefused, h]

/-- The fields of an opening whose road is asked to reopen by ABORT OPENING (R39). -/
def abortFields (o : Opening) : Opening := { o with state := .reopeningRoad, extending := false, target := 0 }

theorem abortClosing_eq (s : State) : abortClosing .control s = deriveDemands (reopenRequest true (returnedWith abortFields s)) := rfl

/-- ABORT OPENING of a road that is closing: the records returned and the reopening as it starts (R39, R121). -/
theorem abortClosing_reopens (ho : s.seq.opening = some o) (ha : s.sup.mode = .attended) (hgroup : s.leaf.group.state = .stowed)
    (hroad : s.closure.state.closing = true ∨ s.closure.state = .closureHeld ∨ s.closure.state = .roadClosed)
    (hfault : noStandingFault s) (hin : ∃ a, (s.arm a).inService = true) : ∃ z, abortClosing .control s = deriveDemands z
      ∧ z.reg = (returnAll (some .control) s).reg ∧ z.links.harbour = (returnAll (some .control) s).links.harbour
      ∧ z.links.control = s.links.control
      ∧ z.seq.opening = some (abortFields { o with list := o.list.filter (fun m => !(admittedNumbers s).contains m) })
      ∧ z.closure = { s.closure with
          state := .roadReopening, phaseTimer := none, clearDwell := .stopped, heldCause := none, heldIn := none }
      ∧ (∀ a, (s.arm a).inService = true → commandedNow .up a z) ∧ z.display.road = .red
      ∧ unchangedBut [.controlPort, .harbourPort, .reg, .seq, .closure, .arms, .stations, .lamp, .display, .sup] s z := by
  let x := returnedWith abortFields s
  have hframex : unchangedBut [.harbourPort, .reg, .seq] s x := returnedWith_frame abortFields s
  have hclosurex : x.closure = s.closure := hframex .closure (by decide)
  have hleafx : x.leaf = s.leaf := hframex .leaf (by decide)
  have hsupx : x.sup = s.sup := hframex .sup (by decide)
  have harmx (a : ArmId) : x.arm a = s.arm a := arm_congr (hframex .arms (by decide)) a
  have hmay : mayCommand .up x := mayCommand_up (.inl (by rw [hleafx]; exact hgroup)) _
  have hasked : ((x.closure.state.closing || x.closure.state == .closureHeld || x.closure.state == .roadClosed)
      && x.leaf.group.state == .stowed) = true := by
    rw [hclosurex, hleafx, hgroup]
    rcases hroad with h | h | h <;> simp [h]
  have hreopen : reopenRequest true x = reopened true x := by
    obtain ⟨a, ha'⟩ := hin
    rw [reopenRequest, if_pos hasked, if_neg (by simp [hsupx, ha])]
    exact startReopen_reopened (noStandingFault_of_arms hfault fun a => by rw [harmx]; exact ⟨rfl, rfl, rfl⟩)
      ⟨a, by rw [harmx]; exact ha'⟩ hmay true
  have hframez : unchangedBut [.controlPort, .closure, .arms, .stations, .lamp, .display, .sup] x (reopened true x) := reopened_frame true x
  obtain ⟨hstarted, hcommanded, _, hred⟩ := reopened_started hmay true
  refine ⟨reopened true x, by rw [abortClosing_eq, hreopen], ?_, ?_, ?_, ?_, by rw [hstarted, hclosurex], fun a hin' => ?_, hred,
    unchangedBut_trans (unchangedBut_mono (by simp) hframex) (unchangedBut_mono (by simp) hframez)⟩
  · exact (hframez .reg (by decide)).trans (updateOpening_frame _ _ .reg (by decide))
  · exact (hframez .harbourPort (by decide)).trans (updateOpening_frame _ _ .harbourPort (by decide))
  · rw [reopened_quiet_links]
    exact hframex .controlPort (by decide)
  · rw [show (reopened true x).seq = x.seq from hframez .seq (by decide)]
    exact returnedWith_opening abortFields ho
  · exact (hcommanded a (by rw [harmx]; exact hin')).1

/-- Settles O30: the records returned, then the leaves asked down, or the road asked to reopen. -/
theorem lowerAndAbortReturnTheRecords : Obligations.LowerAndAbortReturnTheRecords := by
  intro o s hr ha ho hdistinct hnodup hcleared back returned lowering
  have hlistedw (kind : Byte) : listedRecords (takenIn .control kind s) = listedRecords s :=
    listedRecords_of_lists (by simp) (by simp)
  have hback (kind : Byte) : admittedRecords (takenIn .control kind s) = admittedRecords s := by
    rw [admittedRecords, admittedRecords, hlistedw]
  have hnumbers (kind : Byte) : admittedNumbers (takenIn .control kind s) = back := by rw [admittedNumbers, hback]
  have hnone (kind : Byte) : (listedRecords (takenIn .control kind s)).any isCleared = false := by
    rw [hlistedw]; exact any_cleared_false hcleared
  have hreturned {kind : Byte} {z : State} {b : List Byte} (hreg : z.reg = (returnAll (some .control) (takenIn .control kind s)).reg)
      (hlist : admittedList z = o.list.filter (fun m => !back.contains m))
      (hport : z.links.harbour = (returnAll (some .control) (takenIn .control kind s)).links.harbour) :
      returned (putReply .control kind .ok b z) := by
    refine ⟨?_, (admittedList_congr (congrArg Sequencer.opening (putReply_seq ..))).trans hlist, ?_⟩
    · rw [putReply_reg, hreg, returnAll_reg, hnumbers, takenIn_reg]
    · have h := returnAll_harbour (takenIn .control kind s)
      rw [hback, show (takenIn .control kind s).links.harbour = s.links.harbour from takenIn_frame .control kind s .harbourPort (by decide)] at h
      rw [putReply_attention]
      exact (congrArg LinkPort.attention hport).trans h
  -- the group moves: the leaves start down, or stop with a lower pending
  have hmoving (kind : Byte) (hquiet : reportsQuietly s.leaf.lower.group.state) (hchanged : s.leaf.lower.group.state ≠ s.leaf.group.state) :
      let t := putReply .control kind .ok [octet back.length] (beginLowering .control (takenIn .control kind s))
      returned t ∧ t.seq.opening = some lowering ∧ t.leaf = s.leaf.lower
        ∧ answeredMoving kind [octet back.length] [.harbourPort, .reg] s t := by
    have hleaf : (takenIn .control kind s).leaf = s.leaf := takenIn_leaf _ _ _
    obtain ⟨hleaf', hopening, hreg, hport, hreport⟩ := beginLowering_moves (s := takenIn .control kind s) (o := o) (by simpa using ho)
      (by rw [hleaf]; exact hquiet) (by rw [hleaf]; exact hchanged)
    rw [hnumbers] at hopening
    refine ⟨hreturned hreg ?_ hport, ?_, ?_, answeredMoving_with hr _ hreport⟩
    · simp only [admittedList, hopening, loweringFields]
    · rw [putReply_seq]; exact hopening
    · rw [putReply_leaf, hleaf', hleaf]
  have hlength (kind : Byte) : [octet (admittedRecords (takenIn .control kind s)).length] = [octet back.length] := by
    rw [hback]; simp [back]
  refine ⟨fun hst hgroup hseated hestop hspan hroad hlocks => ?lower, fun hst hrec hgroup hroad hfault hin => ?abort,
    fun hst hrec hgroup => ?stop⟩
  case lower =>
    have hstart : startable s := ⟨hestop, hspan, hroad⟩
    have hstarted : startedMotion .lowering 0 s.leaf s.leaf.lower := by
      rw [lower_down hgroup hseated]
      exact startedMotion_congr rfl rfl rfl rfl (motionStart_started (m := s.leaf.setTarget 0) hlocks rfl)
    have htake : takeLower .control [] (takenIn .control 0x23#8 s) =
        accept [octet back.length] (beginLowering .control (takenIn .control 0x23#8 s)) := by
      rw [← hlength 0x23#8]
      exact takeLower_taken (by simpa using ha) (by simpa using ho) (by simpa using hst) (hnone _) (by simpa using hgroup)
        (by simpa using hseated) (by simpa [startable] using hstart)
    obtain ⟨hback', hopening, hleaf, hanswered⟩ := hmoving 0x23#8 (by rw [hstarted.1]; simp [reportsQuietly])
      (by rw [hstarted.1]; rcases hgroup with h | h <;> simp [h])
    exact ⟨_, (exec_accepted (c := .lowerBridge .control []) rfl rfl (by decide) hr rfl htake).1, hback', hopening,
      hleaf ▸ hstarted, hanswered⟩
  case stop =>
    have hleaf : s.leaf.lower = (s.leaf.setTarget 0).beginStop none true := lower_stops hgroup
    have htake : takeAbort .control [] (takenIn .control 0x24#8 s) =
        accept [octet back.length] (beginLowering .control (takenIn .control 0x24#8 s)) := by
      rw [← hlength 0x24#8]
      exact takeAbort_lifting (by simpa using ha) (by simpa using ho) hst hrec (hnone _) (by simpa using hgroup)
    have hstopping : s.leaf.lower.group.state = .stopping := by rw [hleaf]; rfl
    obtain ⟨hback', hopening, hleaf', hanswered⟩ := hmoving 0x24#8 (by rw [hstopping]; simp [reportsQuietly])
      (by rw [hstopping]; rcases hgroup with h | h <;> simp [h])
    refine ⟨_, (exec_accepted (c := .abortOpening .control []) rfl rfl (by decide) hr rfl htake).1, hback', hopening, ?_, hanswered⟩
    rw [hleaf', hleaf]
    rfl
  case abort =>
    obtain ⟨z, hz, hreg, hharbour, hcontrol, hopening, hclosure, hcommanded, hred, hframe⟩ :=
      abortClosing_reopens (s := takenIn .control 0x24#8 s) (o := o) (by simpa using ho) (by simpa using ha) (by simpa using hgroup)
        (by simpa using hroad)
        (noStandingFault_of_arms hfault fun a => by rw [arm_congr (takenIn_arms ..)]; exact ⟨rfl, rfl, rfl⟩)
        (by simpa [State.arm] using hin)
    have htake : takeAbort .control [] (takenIn .control 0x24#8 s) = accept [octet back.length] (deriveDemands z) := by
      rw [← hlength 0x24#8, ← hz]
      exact takeAbort_closing (by simpa using ha) (by simpa using ho) hst hrec (hnone _)
    obtain ⟨hexec, hanswered⟩ := exec_accepted (c := .abortOpening .control []) rfl rfl (by decide) hr rfl htake
    rw [hnumbers] at hopening
    refine ⟨_, hexec, hreturned ?reg ?list ?port, ?opening, ?closure, fun a hin' => ?arm, ?road,
      demandsStand_putReply (demandsStand_deriveDemands _), hanswered, ?control, ?frame⟩
    case reg => rw [deriveDemands_reg]; exact hreg
    case list => simp only [admittedList, deriveDemands_seq_opening, hopening, abortFields]
    case port => rw [deriveDemands_links]; exact hharbour
    case opening => rw [putReply_seq, deriveDemands_seq_opening]; exact hopening
    case closure => rw [putReply_closure, deriveDemands_closure, hclosure, takenIn_closure]
    case arm =>
      have h := hcommanded a (by rw [arm_congr (takenIn_arms ..)]; exact hin')
      exact (commandedNow_congr (arm_congr ((putReply_arms ..).trans (deriveDemands_arms _)) a)
        (station_congr ((putReply_stations ..).trans (deriveDemands_stations _)) a)).mpr h
    case road => rw [putReply_display, deriveDemands_road]; exact hred
    case control =>
      rw [putReply_attention, deriveDemands_links]
      exact (congrArg LinkPort.attention hcontrol).trans (takenIn_attention .control 0x24#8 s .control)
    case frame =>
      exact putReply_frame_of_mem (unchangedBut_trans hframe (unchangedBut_mono (by simp) (deriveDemands_frame z))) (by simp [portPart])

end Sys2Proof.Machine

/-! Zone inputs, debounces, and what a changed zone does (O42). -/

namespace Sys2Proof.Machine

open Sys2Proof

variable {s t u w : State} {m : LeafMotion} {became any : Bool} {z : ZoneId}

/-! ## A zone's new state at the leaves (R98) -/

/-- The leaf records told whether the span is occupied. -/
def LeafMotion.spanTold (any : Bool) (m : LeafMotion) : LeafMotion := { m with group := { m.group with spanOccupied := any } }

theorem zoneChange_stands (h : became = false ∨ m.group.state.profileRuns = false) : m.zoneChange became any = m.spanTold any := by
  have hstate : (m.updateGroup fun g => { g with spanOccupied := any }).group.state = m.group.state := rfl
  unfold LeafMotion.zoneChange
  dsimp only
  split
  next hb =>
    have hruns : m.group.state.profileRuns = false := h.resolve_left (by simp [hb])
    split <;> first | rfl | (rename_i hst; rw [hstate] at hst; simp [hst, GroupState.profileRuns] at hruns)
  next => rfl

theorem zoneChange_stops (hst : m.group.state = .raising ∨ m.group.state = .settling ∨ m.group.state = .lowering
    ∨ m.group.state = .seating) : m.zoneChange true any = (m.spanTold any).beginStop (some .spanIntrusion) false := by
  have hstate : (m.updateGroup fun g => { g with spanOccupied := any }).group.state = m.group.state := rfl
  rcases hst with h | h | h | h <;> simp only [LeafMotion.zoneChange, hstate, h, if_true] <;> rfl

theorem zoneChange_stopping (hst : m.group.state = .stopping) :
    m.zoneChange true any = (m.spanTold any).stopTakes .spanIntrusion := by
  have hstate : (m.updateGroup fun g => { g with spanOccupied := any }).group.state = m.group.state := rfl
  simp only [LeafMotion.zoneChange, hstate, hst, if_true]
  rfl

theorem stopTakes_fields (cause : TripCause) (m : LeafMotion) : (m.stopTakes cause).group.state = m.group.state
    ∧ (m.stopTakes cause).group.cause = some (m.group.cause.getD cause) ∧ (m.stopTakes cause).group.target = m.group.target
    ∧ (m.stopTakes cause).drives = m.drives ∧ (m.stopTakes cause).locks = m.locks := by
  unfold LeafMotion.stopTakes LeafMotion.updateGroup
  cases hc : m.group.cause <;> simp [hc]

/-- The states of a group that a zone's new state can stop, apart from a stop under way. -/
theorem profileRuns_iff (st : GroupState) : st.profileRuns = true ↔
    (st = .raising ∨ st = .settling ∨ st = .lowering ∨ st = .seating) ∨ st = .stopping := by
  cases st <;> simp [GroupState.profileRuns]

/-- What a zone's new state leaves of the leaf records, and the stop it may begin (R98). -/
theorem zoneChange_fields (became any : Bool) (m : LeafMotion) :
    ((m.zoneChange became any).group.state = m.group.state ∨ (m.zoneChange became any).group.state = .stopping)
      ∧ (m.zoneChange became any).drives = m.drives ∧ (m.zoneChange became any).locks = m.locks
      ∧ (m.zoneChange became any).group.target = m.group.target := by
  by_cases hstands : became = false ∨ m.group.state.profileRuns = false
  · rw [zoneChange_stands hstands]; exact ⟨.inl rfl, rfl, rfl, rfl⟩
  · push Not at hstands
    obtain ⟨hb, hruns⟩ := hstands
    obtain rfl : became = true := by simpa using hb
    rcases (profileRuns_iff _).mp (by simpa using hruns) with h | h
    · rw [zoneChange_stops h]; exact ⟨.inr rfl, rfl, rfl, rfl⟩
    · obtain ⟨hstate, _, htarget, hdrives, hlocks⟩ := stopTakes_fields .spanIntrusion (m.spanTold any)
      rw [zoneChange_stopping h]
      exact ⟨.inl hstate, hdrives, hlocks, htarget⟩

/-! ## A zone's new state at the closure (R118, R119) -/

theorem closureZone_clearing (h : s.closure.state = .spanClearing) (occupied : Bool) : closureZone occupied s =
    s.withClosure { s.closure with
      clearDwell := if occupied = true then .stopped
        else if anyOccupied s = true then s.closure.clearDwell else .running (s.conf.clearDwell * 1000)
      confirmation := if occupied = true then false else s.closure.confirmation } := by
  unfold closureZone
  split
  case h_1 =>
    cases occupied with
    | true => rfl
    | false =>
      by_cases hany : anyOccupied s = true
      · simp only [hany, if_true]; rfl
      · simp only [hany]; rfl
  all_goals simp_all

theorem closureZone_intruded (h : s.closure.state = .exitLowering) : closureZone true s =
    commandEach .up exitArms (setClosureState false .spanClearing
      (s.withClosure { s.closure with clearDwell := .stopped, confirmation := false })) := by
  simp only [closureZone, h, if_true]

theorem closureZone_stands (h : s.closure.state ≠ .spanClearing) {occupied : Bool}
    (h' : s.closure.state ≠ .exitLowering ∨ occupied = false) : closureZone occupied s = s := by
  unfold closureZone
  split
  next hst => exact absurd hst h
  next hst => exact if_neg (by simp [h'.resolve_left (not_not.mpr hst)])
  all_goals rfl

theorem closureZone_frame (occupied : Bool) (s : State) :
    unchangedBut [.controlPort, .closure, .arms, .stations, .lamp, .display] s (closureZone occupied s) := by
  by_cases hclearing : s.closure.state = .spanClearing
  · rw [closureZone_clearing hclearing]; exact unchangedBut_mono (by simp) (withClosure_frame _ s)
  · by_cases hexit : s.closure.state = .exitLowering ∧ occupied = true
    · obtain ⟨hst, rfl⟩ := hexit
      rw [closureZone_intruded hst]
      exact unchangedBut_trans (unchangedBut_mono (by simp) (withClosure_frame _ s)) (unchangedBut_trans
        (unchangedBut_mono (by simp) (setClosureState_unheld_frame (by simp [hst]) _)) (unchangedBut_mono (by simp) (commandEach_frame _ _ _)))
    · rw [closureZone_stands hclearing ((not_and_or.mp hexit).imp_right Bool.eq_false_iff.mpr)]
      exact unchangedBut_refl _ _

/-- What the closure's part of a zone's new state makes of the closing sequence (R118, R119). -/
theorem closureZone_fields (occupied : Bool) (s : State) :
    (s.closure.state = .spanClearing → (closureZone occupied s).closure = { s.closure with
        clearDwell := if occupied = true then .stopped
          else if anyOccupied s = true then s.closure.clearDwell else .running (s.conf.clearDwell * 1000)
        confirmation := if occupied = true then false else s.closure.confirmation })
      ∧ (s.closure.state = .exitLowering → occupied = true → (closureZone occupied s).closure = { s.closure with
          state := .spanClearing, clearDwell := .stopped, confirmation := false }
        ∧ ((s.leaf.group.state = .stowed ∨ s.leaf.group.state = .inactive) → commandedOnly .up exitArms s (closureZone occupied s))
        ∧ (s.leaf.group.state ≠ .stowed → s.leaf.group.state ≠ .inactive →
            (closureZone occupied s).arms = s.arms ∧ (closureZone occupied s).stations = s.stations))
      ∧ (s.closure.state ≠ .spanClearing → (s.closure.state ≠ .exitLowering ∨ occupied = false) →
        (closureZone occupied s).closure = s.closure ∧ (closureZone occupied s).arms = s.arms
          ∧ (closureZone occupied s).stations = s.stations) := by
  refine ⟨fun h => by rw [closureZone_clearing h]; rfl, fun h hocc => ?intruded, fun h h' => by
    rw [closureZone_stands h h']; exact ⟨rfl, rfl, rfl⟩⟩
  obtain rfl := hocc
  let x := setClosureState false .spanClearing (s.withClosure { s.closure with clearDwell := .stopped, confirmation := false })
  have hframe : unchangedBut [.controlPort, .closure, .lamp, .display] s x :=
    unchangedBut_trans (unchangedBut_mono (by simp) (withClosure_frame _ s))
      (unchangedBut_mono (by simp) (setClosureState_unheld_frame (by simp [h]) _))
  have hleaf : x.leaf = s.leaf := hframe .leaf (by decide)
  have harms : x.arms = s.arms := hframe .arms (by decide)
  have hstations : x.stations = s.stations := hframe .stations (by decide)
  rw [closureZone_intruded h]
  refine ⟨by rw [commandEach_closure]; simp, fun hdown => ?_, fun hstowed hinactive => ?_⟩
  · exact commandedOnly_congr ⟨harms.symm, hstations.symm⟩ ⟨rfl, rfl⟩
      (commandEach_only (mayCommand_up (by rw [hleaf]; exact hdown) _) exitArms)
  · have hnot : raiseAllowed x = false := by simp [raiseAllowed, hleaf, hstowed, hinactive]
    rw [commandEach_of_not_allowed hnot]
    exact ⟨harms, hstations⟩

/-! ## The zone's events -/

theorem zones_modified (z : ZoneId) (f : Zone → Zone) (s : State) (y : ZoneId) :
    (tabModify z f s.zones)[y] = if y = z then f s.zones[z] else s.zones[y] := by
  split
  next h => subst h; exact tabModify_self _ _ _
  next h => exact tabModify_ne _ _ _ _ h

theorem withZones_frame (v : Vector Zone 4) (s : State) : unchangedBut [.zones] s (s.withZones v) := by
  intro q hq; cases q <;> simp_all [Part.same]

/-- A group that keeps its state reports nothing, and one that begins its stop reports the change alone (R103). -/
theorem applyLeaf_zone_frame (became any : Bool) (s : State) :
    unchangedBut [.controlPort, .seq, .leaf, .lamp, .display, .sup] s (applyLeaf (LeafMotion.zoneChange became any) s) := by
  by_cases hsame : (s.leaf.zoneChange became any).group.state = s.leaf.group.state
  · rw [applyLeaf_same hsame]; exact unchangedBut_mono (by simp) (withLeaf_frame _ _)
  · obtain ⟨hstate, _⟩ := zoneChange_fields became any s.leaf
    obtain ⟨_, _, _, _, _, hframe⟩ := applyLeaf_quiet (f := LeafMotion.zoneChange became any) (s := s)
      (by rw [hstate.resolve_left hsame]; simp [reportsQuietly]) hsame
    exact hframe

/-- The zone of an expired debounce as it stands before its state is compared with its input. -/
def debounced (z : ZoneId) (s : State) : State := s.withZones (tabModify z (fun r => { r with debounce := none }) s.zones)

/-- The zone of an expired debounce in the state of its input (R112). -/
def zoneMatched (z : ZoneId) (s : State) : State :=
  (debounced z s).withZones (tabModify z (fun r => { r with occupied := (s.zones[z]).input }) (debounced z s).zones)

theorem zoneMatched_zone (z : ZoneId) (s : State) (y : ZoneId) : (zoneMatched z s).zones[y] = if y = z then
    { s.zones[z] with occupied := (s.zones[z]).input, debounce := none } else s.zones[y] := by
  refine (zones_modified z _ (debounced z s) y).trans ?_
  simp only [debounced, State.withZones_zones, zones_modified, if_true]
  split <;> rfl

theorem zoneMatched_frame (z : ZoneId) (s : State) : unchangedBut [.zones] s (zoneMatched z s) :=
  unchangedBut_trans (withZones_frame _ s) (withZones_frame _ _)

theorem debounceExpired_same {ms : Nat} (hms : (s.zones[z]).debounce = some ms) (h : (s.zones[z]).input = (s.zones[z]).occupied) :
    debounceExpired z s = debounced z s := by
  have hz : (debounced z s).zones[z] = { s.zones[z] with debounce := none } := (zones_modified z _ s z).trans (if_pos rfl)
  have hsame : ((debounced z s).zones[z]).input = ((debounced z s).zones[z]).occupied := by rw [hz]; exact h
  unfold debounceExpired
  rw [hms]
  exact if_pos hsame

theorem debounceExpired_changed {ms : Nat} (hms : (s.zones[z]).debounce = some ms) (h : (s.zones[z]).input ≠ (s.zones[z]).occupied) :
    debounceExpired z s = applyLeaf (LeafMotion.zoneChange (s.zones[z]).input (anyOccupied (zoneMatched z s)))
      (closureZone (s.zones[z]).input (zoneMatched z s)) := by
  have hz : (debounced z s).zones[z] = { s.zones[z] with debounce := none } := (zones_modified z _ s z).trans (if_pos rfl)
  have hdiff : ((debounced z s).zones[z]).input ≠ ((debounced z s).zones[z]).occupied := by rw [hz]; exact h
  have hinput : ((debounced z s).zones[z]).input = (s.zones[z]).input := by rw [hz]
  unfold debounceExpired
  rw [hms]
  refine (if_neg hdiff).trans ?_
  simp only [zoneChanges, ← debounced.eq_def, hinput]
  rfl

theorem anyOccupied_matched (z : ZoneId) (s : State) : anyOccupied (zoneMatched z s) = false ↔
    (s.zones[z]).input = false ∧ ∀ y : ZoneId, y ≠ z → (s.zones[y]).occupied = false := by
  rw [Bool.eq_false_iff, Ne, anyOccupied_iff]
  push Not
  simp only [zoneMatched_zone]
  refine ⟨fun h => ⟨?_, fun y hy => ?_⟩, fun ⟨hz, hrest⟩ y => ?_⟩
  · simpa using h z
  · simpa [hy] using h y
  · by_cases hy : y = z
    · rw [if_pos hy]; exact Bool.eq_false_iff.mp hz
    · rw [if_neg hy]; exact Bool.eq_false_iff.mp (hrest y hy)

/-- Settles O42: the zone in the state of its input, then the closure's part and the leaves'. -/
theorem zonesStopAndHoldTheSpan : Obligations.ZonesStopAndHoldTheSpan := by
  intro z s
  refine ⟨fun active => ⟨_, rfl, fun y => ?input, ?inputFrame⟩, fun ms hms => ?_⟩
  case input =>
    unfold zoneInput
    split
    next h => exact (if_neg fun hc => hc.2 h).symm
    next h =>
      refine (zones_modified z _ s y).trans ?_
      by_cases hy : y = z
      · exact (if_pos hy).trans (if_pos ⟨hy, h⟩).symm
      · exact (if_neg hy).trans (if_neg fun hc => hy hc.1).symm
  case inputFrame =>
    unfold zoneInput
    split
    · exact unchangedBut_refl _ _
    · exact withZones_frame _ s
  intro occupied zonesAfter clear
  refine ⟨fun hsame => ⟨_, congrArg Host.Outcome.next (debounceExpired_same hms hsame), fun y => ?_, withZones_frame _ s⟩,
    fun hdiff => ⟨_, congrArg Host.Outcome.next (debounceExpired_changed hms hdiff), ?_⟩⟩
  · refine (zones_modified z _ s y).trans ?_
    rw [hsame]
  let w := zoneMatched z s
  let v := closureZone occupied w
  let any := anyOccupied w
  let t := applyLeaf (LeafMotion.zoneChange occupied any) v
  have hframew : unchangedBut [.zones] s w := zoneMatched_frame z s
  have hframev : unchangedBut [.controlPort, .closure, .arms, .stations, .lamp, .display] w v := closureZone_frame occupied w
  have hframet : unchangedBut [.controlPort, .seq, .leaf, .lamp, .display, .sup] v t := applyLeaf_zone_frame occupied any v
  have hleafv : v.leaf = s.leaf := (hframev .leaf (by decide)).trans (hframew .leaf (by decide))
  have hleaf : t.leaf = s.leaf.zoneChange occupied any := by rw [applyLeaf_leaf, hleafv]
  have hspan : t.leaf.group.spanOccupied = any := by rw [hleaf, zoneChange_spanOccupied]
  have hclosure : t.closure = v.closure := hframet .closure (by decide)
  have harms : t.arms = v.arms := hframet .arms (by decide)
  have hstations : t.stations = v.stations := hframet .stations (by decide)
  have hclosurew : w.closure = s.closure := hframew .closure (by decide)
  have hleafw : w.leaf = s.leaf := hframew .leaf (by decide)
  have harmsw : w.arms = s.arms := hframew .arms (by decide)
  have hstationsw : w.stations = s.stations := hframew .stations (by decide)
  have hconfw : w.conf = s.conf := congrArg (·.getD Configured.blank) (hframew .cfg (by decide))
  obtain ⟨_, hdrives, hlocks, htarget⟩ := zoneChange_fields occupied any s.leaf
  obtain ⟨hclearing, hintruded, hstands⟩ := closureZone_fields occupied w
  rw [hclosurew, hleafw, harmsw, hstationsw] at *
  refine ⟨fun y => ?zones, ?clear, by rw [hleaf, hdrives], by rw [hleaf, hlocks], by rw [hleaf, htarget], fun hocc hmoving => ?stops,
    fun hocc hstopping => ?stopping, fun hquiet => ?quiet, fun hst => ?clearing, fun hst hocc => ?intruded, fun hst hst' => ?stands, ?frame⟩
  case zones =>
    rw [show t.zones = w.zones from (hframet .zones (by decide)).trans (hframev .zones (by decide))]
    exact zoneMatched_zone z s y
  case clear => rw [hspan]; exact anyOccupied_matched z s
  case stops =>
    rw [hleaf, hocc, zoneChange_stops hmoving]
    exact ⟨rfl, rfl, rfl⟩
  case stopping =>
    obtain ⟨hstate, hcause, _⟩ := stopTakes_fields .spanIntrusion (s.leaf.spanTold any)
    rw [hleaf, hocc, zoneChange_stopping hstopping]
    exact ⟨hstate.trans hstopping, hcause⟩
  case quiet =>
    rw [hspan, hleaf, zoneChange_stands hquiet]
    rfl
  case clearing => rw [hclosure, hclearing hst, hspan, hconfw]
  case intruded =>
    obtain ⟨hc, hup, hstay⟩ := hintruded hst hocc
    refine ⟨hclosure.trans hc, fun hdown => ?_, fun h h' => ?_⟩
    · exact commandedOnly_congr ⟨harmsw.symm, hstationsw.symm⟩ ⟨harms, hstations⟩ (hup hdown)
    · obtain ⟨ha, hs⟩ := hstay h h'
      exact ⟨harms.trans ha, hstations.trans hs⟩
  case stands =>
    obtain ⟨hc, ha, hs⟩ := hstands hst hst'
    exact ⟨hclosure.trans hc, harms.trans ha, hstations.trans hs⟩
  case frame =>
    exact unchangedBut_trans (unchangedBut_mono (by simp) hframew) (unchangedBut_trans (unchangedBut_mono (by simp) hframev)
      (unchangedBut_mono (by simp) hframet))

end Sys2Proof.Machine

/-! A report at the arm record: the turn that brings it, the record it leaves, and what the groups' evaluation keeps of every
record (the layer of O45, O46, O48 and O57). -/

namespace Sys2Proof.Machine

open Sys2Proof

variable {s t u v w : State} {a b : ArmId} {st : ArmReport} {p : ArmPosition} {arms : List ArmId} {m : LeafMotion} {r : Arm} {q : Bool}

/-! ## What the closing sequence keeps of the arm records and of the attention (R109, R127) -/

/-- What no command, no hold and no change of the closure state touches: what the arms have reported, their service and their
latches, whether their stations stand LOST, and the attention already raised. -/
structure KeepsReports (s t : State) : Prop where
  arm : ∀ a, (t.arm a).inService = (s.arm a).inService ∧ (t.arm a).reported = (s.arm a).reported ∧ (t.arm a).angle = (s.arm a).angle
    ∧ (t.arm a).lost = (s.arm a).lost ∧ (t.arm a).latches = (s.arm a).latches ∧ (t.arm a).retryCount = (s.arm a).retryCount
  station : ∀ a, (t.station a).misses = (s.station a).misses ∧ (t.station a).lost = (s.station a).lost
  raised : s.links.control.attention.raised = true → t.links.control.attention.raised = true
  latched : s.links.control.attention.causes.armLatch = true → t.links.control.attention.causes.armLatch = true
  told : s.links.control.attention.causes.closure = true → t.links.control.attention.causes.closure = true

theorem KeepsReports.refl (s : State) : KeepsReports s s := ⟨fun _ => ⟨rfl, rfl, rfl, rfl, rfl, rfl⟩, fun _ => ⟨rfl, rfl⟩, id, id, id⟩

theorem KeepsReports.trans (h : KeepsReports s t) (h' : KeepsReports t u) : KeepsReports s u where
  arm a := by
    obtain ⟨h1, h2, h3, h4, h5, h6⟩ := h.arm a
    obtain ⟨g1, g2, g3, g4, g5, g6⟩ := h'.arm a
    exact ⟨g1.trans h1, g2.trans h2, g3.trans h3, g4.trans h4, g5.trans h5, g6.trans h6⟩
  station a := by
    obtain ⟨h1, h2⟩ := h.station a
    obtain ⟨g1, g2⟩ := h'.station a
    exact ⟨g1.trans h1, g2.trans h2⟩
  raised := h'.raised ∘ h.raised
  latched := h'.latched ∘ h.latched
  told := h'.told ∘ h.told

theorem keepsReports_of_parts (ha : t.arms = s.arms) (hs : t.stations = s.stations) (hl : t.links.control = s.links.control) :
    KeepsReports s t where
  arm a := by rw [arm_congr ha]; exact ⟨rfl, rfl, rfl, rfl, rfl, rfl⟩
  station a := by rw [station_congr hs]; exact ⟨rfl, rfl⟩
  raised := by rw [hl]; exact id
  latched := by rw [hl]; exact id
  told := by rw [hl]; exact id

theorem keepsReports_raiseAttention (l : Link) (c : AttentionCause) (s : State) : KeepsReports s (raiseAttention l c s) where
  arm a := by rw [arm_congr (raiseAttention_arms ..)]; exact ⟨rfl, rfl, rfl, rfl, rfl, rfl⟩
  station a := by rw [station_congr (raiseAttention_stations ..)]; exact ⟨rfl, rfl⟩
  raised := by cases l <;> intro h <;> simp [raiseAttention, updatePort, PerLink.set, PerLink.get, h]
  latched := by cases l <;> cases c <;> intro h <;> simp [raiseAttention, updatePort, PerLink.set, PerLink.get, CauseSet.add, h]
  told := by cases l <;> cases c <;> intro h <;> simp [raiseAttention, updatePort, PerLink.set, PerLink.get, CauseSet.add, h]

theorem keepsReports_raiseControlIf (b : Bool) (c : AttentionCause) (s : State) : KeepsReports s (raiseControlIf b c s) := by
  unfold raiseControlIf
  split
  · exact keepsReports_raiseAttention _ _ _
  · exact .refl _

theorem keepsReports_setClosureState (q : Bool) (c : ClosureState) (s : State) : KeepsReports s (setClosureState q c s) := by
  have h := keepsReports_raiseControlIf (!q && s.closure.state != c) .closure s
  have hlinks := setClosureState_links q c s
  exact ⟨fun a => by rw [arm_congr (setClosureState_arms ..)]; exact ⟨rfl, rfl, rfl, rfl, rfl, rfl⟩,
    fun a => by rw [station_congr (setClosureState_stations ..)]; exact ⟨rfl, rfl⟩,
    by rw [hlinks]; exact h.raised, by rw [hlinks]; exact h.latched, by rw [hlinks]; exact h.told⟩

theorem keepsReports_holdWith (cause : HeldCause) (heldIn : ClosureState) (s : State) : KeepsReports s (holdWith cause heldIn s) := by
  have h := keepsReports_setClosureState false .closureHeld (holdFields cause heldIn s)
  refine ⟨fun a => ?_, fun a => ?_, h.raised, h.latched, h.told⟩
  · rw [holdWith_arm]; exact ⟨rfl, rfl, rfl, rfl, rfl, rfl⟩
  · rw [station_congr (holdWith_frame cause heldIn s .stations (by decide))]; exact ⟨rfl, rfl⟩

theorem keepsReports_holdClosure (cause : HeldCause) (s : State) : KeepsReports s (holdClosure cause s) := by
  unfold holdClosure
  split
  · exact keepsReports_holdWith _ _ _
  · exact .refl _

theorem keepsReports_commandArm (p : ArmPosition) (a : ArmId) (s : State) : KeepsReports s (commandArm p a s) := by
  rcases commandArm_cases p a s with ⟨h, _, _⟩ | ⟨_, hframe⟩
  · rw [h]; exact .refl _
  · refine ⟨fun b => ?_, fun b => ?_, ?_, ?_, ?_⟩
    · unfold commandArm
      split
      · exact ⟨rfl, rfl, rfl, rfl, rfl, rfl⟩
      · rw [arm_congr (writeSlot_arms ..), updateArm_arm]
        split
        next h => subst h; exact ⟨rfl, rfl, rfl, rfl, rfl, rfl⟩
        next => exact ⟨rfl, rfl, rfl, rfl, rfl, rfl⟩
    · unfold commandArm
      split
      · exact ⟨rfl, rfl⟩
      · rw [writeSlot, updateStation_station]
        split
        next h => subst h; exact ⟨rfl, rfl⟩
        next => exact ⟨rfl, rfl⟩
    · rw [show (commandArm p a s).links.control = s.links.control from hframe .controlPort (by decide)]; exact id
    · rw [show (commandArm p a s).links.control = s.links.control from hframe .controlPort (by decide)]; exact id
    · rw [show (commandArm p a s).links.control = s.links.control from hframe .controlPort (by decide)]; exact id

theorem keepsReports_commandEach (p : ArmPosition) (arms : List ArmId) (s : State) : KeepsReports s (commandEach p arms s) := by
  induction arms generalizing s with
  | nil => exact .refl _
  | cons a arms ih =>
    rw [commandEach_cons]
    refine KeepsReports.trans ?_ (ih _)
    unfold commandInService
    split
    · exact keepsReports_commandArm _ _ _
    · exact .refl _

theorem keepsReports_deriveDemands (s : State) : KeepsReports s (deriveDemands s) :=
  keepsReports_of_parts (deriveDemands_arms s) (deriveDemands_stations s) (by rw [deriveDemands_links])

theorem keepsReports_setOpening (o : Option Opening) (s : State) : KeepsReports s (setOpening o s) := keepsReports_of_parts rfl rfl rfl

theorem keepsReports_enterOpening (st : OpeningState) (s : State) : KeepsReports s (enterOpening st s) :=
  (keepsReports_setOpening _ s).trans (keepsReports_raiseAttention _ _ _)

theorem keepsReports_weighChangeover (s : State) : KeepsReports s (weighChangeover s) := by
  by_cases hserving : ∃ o d, s.seq.opening = some o ∧ o.state = .open ∧ o.served = some d
  · obtain ⟨o, d, ho, hst, hd⟩ := hserving
    rw [weighChangeover_open ho hst hd]
    exact (keepsReports_setOpening _ s).trans (keepsReports_raiseControlIf _ _ _)
  · rw [weighChangeover_of_not_serving fun o ho hst => ?_]
    · exact .refl _
    · exact Option.eq_none_iff_forall_ne_some.mpr fun d hd => hserving ⟨o, d, ho, hst, hd⟩

theorem keepsReports_heldOpenReport (s : State) : KeepsReports s (heldOpenReport s) := by
  unfold heldOpenReport
  split
  · exact (keepsReports_setOpening _ s).trans ((keepsReports_enterOpening _ _).trans (keepsReports_weighChangeover _))
  · exact keepsReports_setOpening _ s
  · exact .refl _

theorem keepsReports_stoppedReport (s : State) : KeepsReports s (stoppedReport s) := by
  unfold stoppedReport
  split
  · exact keepsReports_setOpening _ s
  · exact .refl _

/-- A report of the group but for that of STOWED, which asks for the reopening of the road (R51, R103). -/
theorem keepsReports_groupReport (h : s.leaf.group.state ≠ .stowed) : KeepsReports s (groupReport s) := by
  refine (keepsReports_raiseAttention .control .leafGroup s).trans (KeepsReports.trans ?_ (keepsReports_deriveDemands _))
  have hstate : (raiseAttention .control .leafGroup s).leaf.group.state = s.leaf.group.state := rfl
  split
  · exact keepsReports_heldOpenReport _
  next hst => exact absurd (hstate ▸ hst) h
  · exact keepsReports_stoppedReport _
  · exact keepsReports_stoppedReport _
  all_goals exact .refl _

theorem keepsReports_applyLeaf {f : LeafMotion → LeafMotion}
    (h : (f s.leaf).group.state = s.leaf.group.state ∨ (f s.leaf).group.state ≠ .stowed) : KeepsReports s (applyLeaf f s) := by
  by_cases hsame : (f s.leaf).group.state = s.leaf.group.state
  · rw [applyLeaf_same hsame]; exact keepsReports_of_parts rfl rfl rfl
  · rw [applyLeaf_of_changed hsame]
    refine KeepsReports.trans (t := handGroupTripped ((f s.leaf).group.state == .tripped) (s.withLeaf (f s.leaf)))
      (keepsReports_of_parts (by simp) (by simp) (by simp)) (keepsReports_groupReport ?_)
    simpa using h.resolve_left hsame

/-! ## What follows ROAD_CLOSED and ROAD_OPEN (R41, R52) -/

theorem trip_not_stowed (cause : TripCause) (h : m.group.state ≠ .stowed) : (m.trip cause).group.state ≠ .stowed := by
  unfold LeafMotion.trip
  split
  · exact h
  · split <;> simp [LeafMotion.updateGroup]

theorem motionStart_not_stowed {st : GroupState} (hst : st ≠ .stowed) (h : m.group.state ≠ .stowed) :
    (m.motionStart st).group.state ≠ .stowed := by
  unfold LeafMotion.motionStart
  split
  · exact hst
  · exact trip_not_stowed _ h

theorem enterUnlocking_not_stowed (m : LeafMotion) : m.enterUnlocking.group.state ≠ .stowed := by
  unfold LeafMotion.enterUnlocking LeafMotion.finishUnlocking
  dsimp only
  split
  · unfold LeafMotion.unlocked
    dsimp only
    split
    · simp [LeafMotion.halt, LeafMotion.enter, LeafMotion.updateGroup]
    · exact motionStart_not_stowed (by simp) (by simp [LeafMotion.removeCommands, LeafMotion.enter, LeafMotion.updateGroup])
  · simp [LeafMotion.enter, LeafMotion.updateGroup]

theorem raise_not_stowed (target : Nat) (m : LeafMotion) :
    (m.raise target).group.state = m.group.state ∨ (m.raise target).group.state ≠ .stowed := by
  unfold LeafMotion.raise
  split
  next => exact .inr (enterUnlocking_not_stowed _)
  next h => exact .inr (motionStart_not_stowed (by simp) (by simp [LeafMotion.setTarget, LeafMotion.updateGroup, h]))
  all_goals exact .inl rfl

theorem keepsReports_startLift (s : State) : KeepsReports s (startLift s) := by
  unfold startLift
  split
  · exact keepsReports_raiseAttention _ _ _
  · exact (keepsReports_enterOpening .lifting s).trans (keepsReports_applyLeaf (raise_not_stowed _ _))

theorem keepsReports_roadClosedReport (s : State) : KeepsReports s (roadClosedReport s) := by
  unfold roadClosedReport
  split
  · split
    · exact (keepsReports_enterOpening _ s).trans (keepsReports_deriveDemands _)
    · split
      · exact .refl _
      · exact keepsReports_startLift s
  · exact .refl _

theorem keepsReports_withClosure (c : Closure) (s : State) : KeepsReports s (s.withClosure c) := keepsReports_of_parts rfl rfl rfl

theorem keepsReports_enterRoadClosed (q : Bool) (s : State) : KeepsReports s (enterRoadClosed q s) := by
  refine (keepsReports_setClosureState q .roadClosed s).trans ?_
  simp only [enterRoadClosed]
  split
  · exact .refl _
  · exact (keepsReports_withClosure _ _).trans (keepsReports_roadClosedReport _)

theorem keepsReports_roadOpenReport (s : State) : KeepsReports s (roadOpenReport s) := by
  unfold roadOpenReport
  split
  · exact (keepsReports_setOpening none s).trans ((keepsReports_raiseAttention _ _ _).trans (keepsReports_deriveDemands _))
  · exact .refl _

theorem keepsReports_finishReopening (q : Bool) (s : State) : KeepsReports s (finishReopening q s) := by
  unfold finishReopening
  split
  · exact (keepsReports_withClosure _ s).trans ((keepsReports_setClosureState _ _ _).trans (keepsReports_roadOpenReport _))
  · exact .refl _

theorem keepsReports_enterExitLowering (q : Bool) (s : State) : KeepsReports s (enterExitLowering q s) := by
  unfold enterExitLowering
  split
  · exact (keepsReports_setClosureState _ _ s).trans (keepsReports_commandEach _ _ _)
  · exact keepsReports_holdWith _ _ _

/-- The groups evaluated: no report, no latch and no attention goes with it (R117 to R121). -/
theorem keepsReports_evaluateGroups (q : Bool) (s : State) : KeepsReports s (evaluateGroups q s) := by
  by_cases h : awaitsGroups s.closure.state
  · rcases h with h | h | h | h
    · rw [evaluateGroups_entryLowering h]
      split_ifs
      · exact keepsReports_holdClosure _ _
      · exact (keepsReports_withClosure _ s).trans (keepsReports_setClosureState _ _ _)
      · exact .refl _
    · rw [evaluateGroups_spanClearing h]
      split_ifs
      · exact keepsReports_holdClosure _ _
      · exact keepsReports_enterExitLowering _ _
      · exact .refl _
    · rw [evaluateGroups_exitLowering h]
      split_ifs
      · exact keepsReports_holdClosure _ _
      · exact keepsReports_holdClosure _ _
      · exact keepsReports_enterRoadClosed _ _
      · exact .refl _
    · rw [evaluateGroups_roadReopening h]
      exact keepsReports_finishReopening _ _
  · rw [evaluateGroups_other h]
    exact .refl _

/-! ## The arm record after a report (R109, R137) -/

/-- What a report leaves of an arm record but its travel timer: the report itself, and that it has come since the
acknowledgement (R109). -/
theorem withReport_fields (timed : Bool) (st : ArmReport) (angle : Nat) (r : Arm) :
    Arm.withReport timed st angle r =
      { r with
        reported := st, angle := angle, lost := false, reportedSince := r.acknowledged
        travelTimer := (Arm.withReport timed st angle r).travelTimer } := by
  unfold Arm.withReport
  dsimp only
  split
  · rfl
  · split <;> rfl

/-- An arm that reports the position it has acknowledged is in position, and its travel timer stops (R109). -/
theorem withReport_arrived (timed : Bool) (angle : Nat) (hin : r.inService = true) (hcmd : r.commanded = some p)
    (hack : r.acknowledged = true) (hmatch : reportMatches p st = true) :
    armIsAt p (Arm.withReport timed st angle r) = true ∧ (Arm.withReport timed st angle r).travelTimer = none := by
  have hpos : armInPosition { r with reported := st, angle := angle, lost := false, reportedSince := r.acknowledged } = true := by
    simp [armInPosition, hcmd, hin, hack, hmatch]
  have hrec : Arm.withReport timed st angle r =
      { r with reported := st, angle := angle, lost := false, reportedSince := r.acknowledged, travelTimer := none } := by
    unfold Arm.withReport
    exact if_pos hpos
  rw [hrec]
  refine ⟨?_, rfl⟩
  simp [armIsAt, armInPosition, hcmd, hin, hack, hmatch]

/-- An arm that reports anything else is in no position (R109). -/
theorem withReport_elsewhere (timed : Bool) (angle : Nat) (h : ∀ p, reportMatches p st = false) :
    armInPosition (Arm.withReport timed st angle r) = false := by
  rw [withReport_fields]
  unfold armInPosition
  dsimp only
  split
  · simp [h]
  · rfl

end Sys2Proof.Machine

/-! The end of a turn with a whole report, the arms' latches, and the timers of the arms (O45). -/

namespace Sys2Proof.Machine

open Sys2Proof

variable {s t u v w : State} {a b : ArmId} {st : ArmReport} {p : ArmPosition} {arms : List ArmId} {m : LeafMotion} {r : Arm} {q : Bool}
  {k : ArmLatch} {cause : HeldCause} {x : Turn}

/-! ## The turn that brings a report (R134, R137, R141) -/

/-- The station record of a good turn: no misses, PRESENT (R137). -/
def heardStation (r : Station) : Station := { r with misses := 0, lost := false }

/-- A good turn over, before its report reaches the arm record (R137). -/
def heard (a : ArmId) (s : State) : State := updateStation a heardStation (setTurn none s)

/-- The loop after a turn of a scan past the first (R132, R141). -/
def dueLoop (a : ArmId) (period : Nat) (l : Loop) : Loop :=
  { l with
    next := match nextInRing a with
      | some b => some b
      | none => if l.scanTimer = none then some .wEntry1 else none
    scanTimer := if nextInRing a = none ∧ l.scanTimer = none then some period else l.scanTimer }

theorem afterTurn_later (hfirst : s.loop.firstScan = false) (a : ArmId) :
    afterTurn a s = s.withLoop (dueLoop a s.conf.scanPeriod s.loop) := by
  obtain ⟨pending, freeCount, pins, links, reg, seq, leaf, closure, arms, zones, ⟨held, next, turn, scanTimer, firstScan⟩, rest⟩ := s
  obtain rfl : firstScan = false := hfirst
  cases hnext : nextInRing a with
  | some b => simp only [afterTurn, hnext, dueLoop]; simp
  | none => cases scanTimer <;> simp only [afterTurn, hnext, dueLoop, beginScan] <;> simp <;> rfl

theorem withLoop_frame (l : Loop) (s : State) : unchangedBut [.loop] s (s.withLoop l) := by
  intro y hy; cases y <;> simp_all [Part.same]

theorem heard_frame (a : ArmId) (s : State) : unchangedBut [.loop, .stations] s (heard a s) :=
  unchangedBut_trans (unchangedBut_mono (by simp) (setTurn_frame none s)) (unchangedBut_mono (by simp) (updateStation_frame _ _ _))

theorem turnEnd_good {b c : Byte} (hx : s.loop.turn = some x) (hst : x.step = .stop) (hb : x.stateOctet = some b)
    (hc : x.angleOctet = some c) :
    exec .turnEnd s = .next (afterTurn x.station (armReported x.station (reportOf b) (reportAngleOf c) (heard x.station s))) := by
  change execTurnEnd s = _
  rw [execTurnEnd, endTurn_some hx, if_pos hst]
  simp only [turnOutcome, hb, hc, goodTurn]
  rfl

/-- A report that arrives past the first scan reaches the arm record, and then the next turn is due. -/
theorem turnEnd_report (h : reportArrives a st s) : ∃ angle t, exec .turnEnd s = .next t
    ∧ (∃ l, t = (armReported a st angle (heard a s)).withLoop l) := by
  obtain ⟨hfirst, x, b, c, hx, hst, rfl, hb, hc, rfl⟩ := h
  refine ⟨reportAngleOf c, _, turnEnd_good hx hst hb hc, _, afterTurn_later ?_ _⟩
  rw [armReported_loop]
  exact hfirst

/-! ## The parts of a report at the arm record (R109 to R111) -/

/-- The arm record replaced by what the report says (R137). -/
def armRecorded (a : ArmId) (st : ArmReport) (angle : Nat) (s : State) : State :=
  updateArm a (Arm.withReport s.closure.state.timesDeparture st angle) s

theorem armRecorded_arm (a : ArmId) (st : ArmReport) (angle : Nat) (s : State) (b : ArmId) : (armRecorded a st angle s).arm b =
    if b = a then Arm.withReport s.closure.state.timesDeparture st angle (s.arm a) else s.arm b := updateArm_arm _ _ _ _

theorem armRecorded_frame (a : ArmId) (st : ArmReport) (angle : Nat) (s : State) : unchangedBut [.arms] s (armRecorded a st angle s) :=
  updateArm_frame _ _ s

/-- A departure from DOWN in ROAD_CLOSED (R120). -/
def departed (a : ArmId) (st : ArmReport) (s : State) : State :=
  if s.closure.state = .roadClosed ∧ (s.arm a).inService = true ∧ st ≠ .down then setDegraded s else s

theorem departed_elsewhere (h : s.closure.state ≠ .roadClosed) (a : ArmId) (st : ArmReport) : departed a st s = s :=
  if_neg fun hc => h hc.1

/-- What an OBSTRUCTED report does beside the record (R110). -/
def obstructionTaken (a : ArmId) (s : State) : State := if obstructionCounts a s then obstruction a s else s

theorem armReported_obstructed (a : ArmId) (angle : Nat) (s : State) : armReported a .obstructed angle s =
    evaluateGroups false (obstructionTaken a (departed a .obstructed (armRecorded a .obstructed angle s))) := rfl

theorem armReported_local (a : ArmId) (angle : Nat) (s : State) : armReported a .localControl angle s =
    evaluateGroups false (localReport a (departed a .localControl (armRecorded a .localControl angle s))) := rfl

theorem armReported_plain (hlocal : st ≠ .localControl) (hobst : st ≠ .obstructed) (a : ArmId) (angle : Nat) (s : State) :
    armReported a st angle s = evaluateGroups false (departed a st (armRecorded a st angle s)) := by
  cases st
  case localControl => exact absurd rfl hlocal
  case obstructed => exact absurd rfl hobst
  all_goals rfl

/-! ## Latches, and what an arm fault does to the closure (R108, R111, R120) -/

theorem ArmLatches.add_of_get {l : ArmLatches} (h : l.get k = true) : l.add k = l := by
  obtain ⟨travel, obstruction, lost, localControl⟩ := l
  cases k <;> simp [ArmLatches.get] at h <;> simp [ArmLatches.add, h]

theorem latchArm_latched (k : ArmLatch) (a : ArmId) (s : State) (b : ArmId) : (latchArm k a s).arm b =
    if b = a then { s.arm a with latches := (s.arm a).latches.add k } else s.arm b := by
  unfold latchArm
  split
  next h =>
    split
    next hb => rw [hb, ArmLatches.add_of_get h]
    next => rfl
  next => rw [arm_congr (raiseAttention_arms ..), updateArm_arm]

theorem latchArm_raises (h : (s.arm a).latches.get k = false) : (latchArm k a s).links.control.attention.raised = true
    ∧ (latchArm k a s).links.control.attention.causes.armLatch = true := by
  rw [latchArm, if_neg (by simp [h])]
  exact ⟨rfl, rfl⟩

theorem setDegraded_closure (s : State) : (setDegraded s).closure = { s.closure with degraded := true } := by
  unfold setDegraded
  split
  next h => rw [← h]
  next => rfl

theorem setDegraded_frame (s : State) : unchangedBut [.controlPort, .closure] s (setDegraded s) := by
  unfold setDegraded
  split
  · exact unchangedBut_refl _ _
  · exact unchangedBut_trans (unchangedBut_mono (by simp) (withClosure_frame _ s)) (unchangedBut_mono (by simp) (raiseControl_frame _ _))

theorem keepsReports_setDegraded (s : State) : KeepsReports s (setDegraded s) := by
  unfold setDegraded
  split
  · exact .refl _
  · exact (keepsReports_withClosure _ s).trans (keepsReports_raiseAttention _ _ _)

theorem armFault_closed (h : s.closure.state = .roadClosed) (cause : HeldCause) : armFault cause s = setDegraded s := if_pos h

theorem armFault_holds (h : s.closure.state.holdable = true) (cause : HeldCause) :
    armFault cause s = holdWith cause s.closure.state s := by
  rw [armFault, if_neg (fun hc => by simp [hc, ClosureState.holdable, ClosureState.closing] at h), holdClosure_held h]

theorem armFault_other (h : s.closure.state ≠ .roadClosed) (h' : s.closure.state.holdable = false) (cause : HeldCause) :
    armFault cause s = s := by rw [armFault, if_neg h, holdClosure_of_not_holdable h']

/-- A closing state or ROAD_REOPENING can be held; the rest but ROAD_CLOSED can neither be held nor degraded (R123). -/
theorem holdable_iff (c : ClosureState) : c.holdable = true ↔ c.closing = true ∨ c = .roadReopening := by
  simp [ClosureState.holdable]

theorem not_holdable_of_rest {c : ClosureState} (h : c = .inactive ∨ c = .roadUncertain ∨ c = .roadOpen ∨ c = .closureHeld) :
    c ≠ .roadClosed ∧ c.holdable = false := by
  rcases h with rfl | rfl | rfl | rfl <;> exact ⟨by decide, rfl⟩

theorem armFault_frame (cause : HeldCause) (s : State) :
    unchangedBut [.controlPort, .closure, .arms, .lamp, .display, .sup] s (armFault cause s) := by
  unfold armFault
  split
  · exact unchangedBut_mono (by simp) (setDegraded_frame s)
  · unfold holdClosure
    split
    · exact holdWith_frame _ _ s
    · exact unchangedBut_refl _ _

theorem keepsReports_armFault (cause : HeldCause) (s : State) : KeepsReports s (armFault cause s) := by
  unfold armFault
  split
  · exact keepsReports_setDegraded s
  · exact keepsReports_holdClosure _ s

/-- An arm fault leaves the command of every arm, and starts no timer (R123). -/
theorem armFault_arm (cause : HeldCause) (s : State) (b : ArmId) : (armFault cause s).arm b = s.arm b
    ∨ (armFault cause s).arm b = { s.arm b with travelTimer := none, retryDwell := none } := by
  unfold armFault
  split
  · exact .inl (arm_congr (setDegraded_arms s) b)
  · unfold holdClosure
    split
    · exact .inr (holdWith_arm ..)
    · exact .inl rfl

end Sys2Proof.Machine

/-! The timers of an arm, and the reports OBSTRUCTED and LOCAL (O45). -/

namespace Sys2Proof.Machine

open Sys2Proof

variable {s t u v w : State} {a b : ArmId} {st : ArmReport} {p : ArmPosition} {k : ArmLatch} {cause : HeldCause} {arms : List ArmId}

/-! ## The retry dwell and the travel timer run out (R109, R110) -/

theorem retryExpired_running {ms : Nat} (h : (s.arm a).retryDwell = some ms) : retryExpired a s =
    commandArm .down a (updateArm a (fun r => { r with retryDwell := none, retryCount := r.retryCount + 1 }) s) := by
  simp only [retryExpired, h]

theorem travelExpired_running {ms : Nat} (h : (s.arm a).travelTimer = some ms) : travelExpired a s =
    armFault .travelTimeout (latchArm .travelTimeout a (updateArm a (fun r => { r with travelTimer := none }) s)) := by
  simp only [travelExpired, h]

/-- A fault that holds the closure where it stands (R123). -/
theorem heldNow_armFault (hclosure : t.closure = s.closure) (h : s.closure.state.closing = true ∨ s.closure.state = .roadReopening)
    (cause : HeldCause) : heldNow cause s.closure.state s (armFault cause t) := by
  have hheld : t.closure.state ≠ .closureHeld := by
    rw [hclosure]
    rintro heq
    rcases h with h | h <;> simp [heq, ClosureState.closing] at h
  obtain ⟨hc, harm, hsup, hroad, hraised, hcause⟩ := holdWith_held (s := t) (cause := cause) (heldIn := t.closure.state) hheld
  rw [armFault_holds (by rw [hclosure]; exact (holdable_iff _).mpr h)]
  rw [hclosure] at *
  exact ⟨hc, harm, hsup, hroad, hraised, hcause⟩

theorem retry_commands (a : ArmId) (ms : Nat) (h : (s.arm a).retryDwell = some ms) : ∃ t, exec (.retryDwellExpiry a) s = .next t
    ∧ commandedNow .down a t ∧ (t.arm a).retryDwell = none ∧ (t.arm a).retryCount = (s.arm a).retryCount + 1
    ∧ (∀ b, b ≠ a → t.arm b = s.arm b ∧ t.station b = s.station b) ∧ unchangedBut [.arms, .stations] s t := by
  let x := updateArm a (fun r => { r with retryDwell := none, retryCount := r.retryCount + 1 }) s
  have harm (b : ArmId) : (commandArm .down a x).arm b = if b = a then armCommanded .down (x.arm a) else x.arm b :=
    commandArm_arm (mayCommand_down x) a b
  have hx (b : ArmId) : x.arm b = if b = a then { s.arm a with retryDwell := none, retryCount := (s.arm a).retryCount + 1 } else s.arm b :=
    updateArm_arm _ _ _ _
  refine ⟨_, congrArg Host.Outcome.next (retryExpired_running h), ?_, ?_, ?_, fun b hb => ⟨?_, ?_⟩,
    unchangedBut_trans (unchangedBut_mono (by simp) (updateArm_frame a _ s)) (commandArm_frame .down a x)⟩
  · refine ⟨?_, ?_, ?_, commandArm_slot (mayCommand_down x) a⟩ <;> rw [harm, if_pos rfl] <;> rfl
  · rw [harm, if_pos rfl, hx, if_pos rfl]; rfl
  · rw [harm, if_pos rfl, hx, if_pos rfl]; rfl
  · rw [harm, if_neg hb, hx, if_neg hb]
  · rw [commandArm_station_ne (mayCommand_down x) hb, station_congr (updateArm_stations ..)]

theorem travel_faults (a : ArmId) (ms : Nat) (h : (s.arm a).travelTimer = some ms) : ∃ t, exec (.travelTimerExpiry a) s = .next t
    ∧ (t.arm a).travelTimer = none ∧ (t.arm a).latches = { (s.arm a).latches with travelTimeout := true }
    ∧ (t.arm a).commanded = (s.arm a).commanded
    ∧ ((s.arm a).latches.travelTimeout = false → (t.links.get .control).attention.raised = true
      ∧ (t.links.get .control).attention.causes.armLatch = true)
    ∧ ((s.closure.state.closing = true ∨ s.closure.state = .roadReopening) → heldNow .travelTimeout s.closure.state s t)
    ∧ (s.closure.state = .roadClosed → t.closure = { s.closure with degraded := true })
    ∧ ((s.closure.state = .inactive ∨ s.closure.state = .roadUncertain ∨ s.closure.state = .roadOpen
        ∨ s.closure.state = .closureHeld) → t.closure = s.closure)
    ∧ unchangedBut [.controlPort, .closure, .arms, .lamp, .display, .sup] s t := by
  let x := updateArm a (fun r => { r with travelTimer := none }) s
  let y := latchArm .travelTimeout a x
  have hx : x.arm a = { s.arm a with travelTimer := none } := (updateArm_arm _ _ _ _).trans (if_pos rfl)
  have hy : y.arm a = { s.arm a with travelTimer := none, latches := { (s.arm a).latches with travelTimeout := true } } := by
    rw [latchArm_latched, if_pos rfl, hx]; rfl
  have hframe : unchangedBut [.controlPort, .arms] s y :=
    unchangedBut_trans (unchangedBut_mono (by simp) (updateArm_frame a _ s)) (latchArm_frame .travelTimeout a x)
  have hclosure : y.closure = s.closure := hframe .closure (by decide)
  have hkeeps := keepsReports_armFault .travelTimeout y
  have harm : ((armFault .travelTimeout y).arm a).travelTimer = none ∧ ((armFault .travelTimeout y).arm a).commanded = (s.arm a).commanded := by
    rcases armFault_arm .travelTimeout y a with h' | h' <;> rw [h', hy] <;> exact ⟨rfl, rfl⟩
  obtain ⟨_, _, _, _, hlatches, _⟩ := hkeeps.arm a
  refine ⟨_, congrArg Host.Outcome.next (travelExpired_running h), harm.1, by rw [hlatches, hy], harm.2, fun hnew => ?_,
    fun hst => heldNow_armFault hclosure hst _, fun hst => ?_, fun hst => ?_,
    unchangedBut_trans (unchangedBut_mono (by simp) hframe) (armFault_frame _ y)⟩
  · obtain ⟨hraised, hcause⟩ := latchArm_raises (s := x) (a := a) (k := .travelTimeout) (by rw [hx]; exact hnew)
    exact ⟨hkeeps.raised hraised, hkeeps.latched hcause⟩
  · rw [armFault_closed (by rw [hclosure]; exact hst), setDegraded_closure, hclosure]
  · obtain ⟨hne, hhold⟩ := not_holdable_of_rest hst
    rw [armFault_other (by rw [hclosure]; exact hne) (by rw [hclosure]; exact hhold), hclosure]

/-! ## The report OBSTRUCTED (R110) -/

/-- A state in which an arm that is not DOWN is still awaited. -/
def awaitedDown (a : ArmId) (c : ClosureState) : Prop :=
  c = .exitLowering ∨ ((c = .entryLowering ∨ c = .spanClearing) ∧ isEntryArm a = true)

theorem hasEntryArms_of_service (h : ∀ a, (t.arm a).inService = (s.arm a).inService) : hasEntryArms t = hasEntryArms s := by
  simp only [hasEntryArms, h]

theorem hasExitArms_of_service (h : ∀ a, (t.arm a).inService = (s.arm a).inService) : hasExitArms t = hasExitArms s := by
  simp only [hasExitArms, h]

theorem not_armsAt (hmem : a ∈ arms) (hin : (s.arm a).inService = true) (hpos : armIsAt p (s.arm a) = false) :
    armsAt p arms s = false := List.all_eq_false.mpr ⟨a, hmem, by simp [hin, hpos]⟩

/-- The groups stand while an in-service arm that they await is not in position (R117 to R119). -/
theorem evaluateGroups_waits (hst : awaitedDown a s.closure.state) (hentry : hasEntryArms s = true) (hexit : hasExitArms s = true)
    (hin : (s.arm a).inService = true) (hpos : armIsAt .down (s.arm a) = false) (q : Bool) : evaluateGroups q s = s := by
  rcases hst with h | ⟨h, harm⟩
  · rw [evaluateGroups_exitLowering h, hentry, hexit, not_armsAt (mem_ringOrder a) hin hpos]
    rfl
  · have hnot : armsAt .down entryArms s = false := not_armsAt (by simpa [isEntryArm] using harm) hin hpos
    rcases h with h | h
    · rw [evaluateGroups_entryLowering h, hentry, hnot]
      rfl
    · refine evaluateGroups_unproved h hentry ?_ q
      rw [Bool.eq_false_iff, Ne, spanProvedClear_iff, hnot]
      simp

theorem awaitedDown_holdable (h : awaitedDown a s.closure.state) : s.closure.state.closing = true ∧ s.closure.state ≠ .roadClosed := by
  rcases h with h | ⟨h | h, _⟩ <;> rw [h] <;> exact ⟨rfl, by decide⟩

/-- The record of an arm that reports OBSTRUCTED: in no position, with its dwell, its count and its latches standing. -/
theorem obstructedRecord_arm (a : ArmId) (angle : Nat) (s : State) :
    armIsAt .down ((armRecorded a .obstructed angle s).arm a) = false
      ∧ ((armRecorded a .obstructed angle s).arm a).retryDwell = (s.arm a).retryDwell
      ∧ ((armRecorded a .obstructed angle s).arm a).retryCount = (s.arm a).retryCount
      ∧ ((armRecorded a .obstructed angle s).arm a).latches = (s.arm a).latches
      ∧ ((armRecorded a .obstructed angle s).arm a).commanded = (s.arm a).commanded := by
  rw [armRecorded_arm, if_pos rfl]
  have helse := withReport_elsewhere (r := s.arm a) (st := .obstructed) s.closure.state.timesDeparture angle fun p => by cases p <;> rfl
  refine ⟨by simp [armIsAt, helse], ?_⟩
  rw [withReport_fields]
  exact ⟨rfl, rfl, rfl, rfl⟩

theorem armRecorded_service (a : ArmId) (st : ArmReport) (angle : Nat) (s : State) (b : ArmId) :
    ((armRecorded a st angle s).arm b).inService = (s.arm b).inService := by
  rw [armRecorded_arm]
  split
  next h => rw [withReport_fields, h]
  next => rfl

theorem obstructionCounts_iff (a : ArmId) (s : State) : obstructionCounts a s = true ↔ (s.arm a).inService = true
    ∧ (s.arm a).commanded = some .down ∧ (s.arm a).retryDwell = none
    ∧ (s.closure.state = .entryLowering ∨ s.closure.state = .spanClearing ∨ s.closure.state = .exitLowering) := by
  simp [obstructionCounts, and_assoc, or_assoc]

/-- An OBSTRUCTED report of an awaited arm: what stands before its retry dwell, its count and the closure are looked at. -/
theorem obstructed_arrives (h : reportArrives a .obstructed s) (hst : awaitedDown a s.closure.state) :
    ∃ x l, exec .turnEnd s = .next ((evaluateGroups false (obstructionTaken a x)).withLoop l)
      ∧ unchangedBut [.arms, .loop, .stations] s x ∧ armIsAt .down (x.arm a) = false ∧ (∀ b, (x.arm b).inService = (s.arm b).inService)
      ∧ (x.arm a).retryDwell = (s.arm a).retryDwell ∧ (x.arm a).retryCount = (s.arm a).retryCount
      ∧ (x.arm a).latches = (s.arm a).latches ∧ (x.arm a).commanded = (s.arm a).commanded := by
  obtain ⟨angle, _, hexec, l, rfl⟩ := turnEnd_report h
  let w := heard a s
  have hframe : unchangedBut [.loop, .stations] s w := heard_frame a s
  have harms : w.arms = s.arms := hframe .arms (by decide)
  have hclosure : w.closure = s.closure := hframe .closure (by decide)
  have hdeparted : departed a .obstructed (armRecorded a .obstructed angle w) = armRecorded a .obstructed angle w :=
    departed_elsewhere (by
      rw [show (armRecorded a .obstructed angle w).closure = w.closure from armRecorded_frame a _ angle w .closure (by decide), hclosure]
      exact (awaitedDown_holdable hst).2) a .obstructed
  obtain ⟨hpos, hdwell, hcount, hlatches, hcmd⟩ := obstructedRecord_arm a angle w
  rw [armReported_obstructed, hdeparted] at hexec
  rw [arm_congr harms] at hdwell hcount hlatches hcmd
  exact ⟨_, l, hexec, unchangedBut_trans (unchangedBut_mono (by simp) hframe)
    (unchangedBut_mono (by simp) (armRecorded_frame a _ angle w)), hpos,
    fun b => (armRecorded_service a _ angle w b).trans (by rw [arm_congr harms]), hdwell, hcount, hlatches, hcmd⟩

/-- An OBSTRUCTED report that starts a retry (R110). -/
theorem obstruction_retries (h : (s.arm a).retryCount < s.conf.retryLimit) : obstruction a s =
    pulseFault (updateArm a (fun r => { r with travelTimer := none, retryDwell := some (s.conf.retryDwell * 1000) }) s) := if_pos h

theorem obstruction_holds (h : s.conf.retryLimit ≤ (s.arm a).retryCount) : obstruction a s =
    holdClosure .obstructionLimit (latchArm .obstructionLimit a s) := if_neg (by omega)

theorem pulseFault_frame (s : State) : unchangedBut [.sup] s (pulseFault s) := by
  intro y hy; cases y <;> simp_all [Part.same]

/-- A hold that a report brings ends the evaluation: a held closure awaits no group. -/
theorem evaluateGroups_held (h : s.closure.state = .closureHeld) (q : Bool) : evaluateGroups q s = s :=
  evaluateGroups_other (by rw [h]; simp [awaitsGroups]) q

theorem obstructed_report (harrives : reportArrives a .obstructed s) (hin : (s.arm a).inService = true)
    (hcmd : (s.arm a).commanded = some .down) (hentry : hasEntryArms s = true) (hexit : hasExitArms s = true)
    (hst : awaitedDown a s.closure.state) :
    ((s.arm a).retryDwell = none → (s.arm a).retryCount < s.conf.retryLimit → ∃ t, exec .turnEnd s = .next t
      ∧ (t.arm a).retryDwell = some (s.conf.retryDwell * 1000) ∧ (t.arm a).travelTimer = none
      ∧ (t.arm a).retryCount = (s.arm a).retryCount ∧ t.closure = s.closure
      ∧ t.sup = { s.sup with pulseTimer := some 200 } ∧ unchangedBut [.arms, .loop, .stations, .sup] s t)
    ∧ ((s.arm a).retryDwell = none → s.conf.retryLimit ≤ (s.arm a).retryCount → ∃ t, exec .turnEnd s = .next t
      ∧ (t.arm a).latches = { (s.arm a).latches with obstructionLimit := true } ∧ heldNow .obstructionLimit s.closure.state s t
      ∧ ((s.arm a).latches.obstructionLimit = false → t.links.control.attention.raised = true
        ∧ t.links.control.attention.causes.armLatch = true)
      ∧ unchangedBut [.controlPort, .closure, .arms, .loop, .stations, .lamp, .display, .sup] s t)
    ∧ (∀ w, (s.arm a).retryDwell = some w → ∃ t, exec .turnEnd s = .next t ∧ (t.arm a).retryDwell = some w
      ∧ (t.arm a).retryCount = (s.arm a).retryCount ∧ t.closure = s.closure
      ∧ unchangedBut [.arms, .loop, .stations] s t) := by
  obtain ⟨x, l, hexec, hframe, hpos, hservice, hdwell, hcount, hlatches, hcmdx⟩ := obstructed_arrives harrives hst
  have hclosure : x.closure = s.closure := hframe .closure (by decide)
  have hconf : x.conf = s.conf := congrArg (·.getD Configured.blank) (hframe .cfg (by decide))
  have hcounts : obstructionCounts a x = true ↔ (s.arm a).retryDwell = none := by
    rw [obstructionCounts_iff, hservice, hcmdx, hdwell, hclosure]
    refine ⟨fun ⟨_, _, h, _⟩ => h, fun h => ⟨hin, hcmd, h, ?_⟩⟩
    rcases hst with h' | ⟨h' | h', _⟩ <;> simp [h']
  have hwaits {y : State} (hy : y.closure = s.closure) (hservice' : ∀ b, (y.arm b).inService = (s.arm b).inService)
      (hpos' : armIsAt .down (y.arm a) = false) : evaluateGroups false y = y :=
    evaluateGroups_waits (a := a) (by rw [hy]; exact hst) ((hasEntryArms_of_service hservice').trans hentry)
      ((hasExitArms_of_service hservice').trans hexit) ((hservice' a).trans hin) hpos' false
  refine ⟨fun hnone hlimit => ?retries, fun hnone hlimit => ?holds, fun ms hms => ?runs⟩
  case retries =>
    let y := updateArm a (fun r => { r with travelTimer := none, retryDwell := some (x.conf.retryDwell * 1000) }) x
    have hy (b : ArmId) : y.arm b = if b = a then { x.arm a with travelTimer := none, retryDwell := some (x.conf.retryDwell * 1000) } else x.arm b :=
      updateArm_arm _ _ _ _
    have htaken : obstructionTaken a x = pulseFault y := by
      rw [obstructionTaken, if_pos (hcounts.mpr hnone), obstruction_retries (by rw [hcount, hconf]; exact hlimit)]
    have hstay : evaluateGroups false (pulseFault y) = pulseFault y := by
      refine hwaits hclosure (fun b => ?_) ?_
      · rw [arm_congr (pulseFault_arms y), hy]
        split
        next hb => rw [hb]; exact hservice a
        next => exact hservice b
      · rw [arm_congr (pulseFault_arms y), hy, if_pos rfl]
        simp only [armIsAt, armInPosition] at hpos ⊢
        exact hpos
    have hsup : x.sup = s.sup := hframe .sup (by decide)
    rw [htaken, hstay] at hexec
    refine ⟨_, hexec, ?_, ?_, ?_, hclosure, ?_, ?_⟩
    · refine (congrArg Arm.retryDwell ((hy a).trans (if_pos rfl))).trans ?_
      rw [hconf]
    · exact congrArg Arm.travelTimer ((hy a).trans (if_pos rfl))
    · exact (congrArg Arm.retryCount ((hy a).trans (if_pos rfl))).trans hcount
    · rw [← hsup]; rfl
    · exact unchangedBut_trans (unchangedBut_mono (by simp) hframe) (unchangedBut_trans (unchangedBut_mono (by simp) (updateArm_frame a _ x))
        (unchangedBut_trans (unchangedBut_mono (by simp) (pulseFault_frame y)) (unchangedBut_mono (by simp) (withLoop_frame l _))))
  case holds =>
    let y := latchArm .obstructionLimit a x
    have hframey : unchangedBut [.controlPort, .arms] x y := latchArm_frame .obstructionLimit a x
    have hclosurey : y.closure = s.closure := (hframey .closure (by decide)).trans hclosure
    obtain ⟨hclosing, hroad⟩ := awaitedDown_holdable hst
    have hhold : holdClosure .obstructionLimit y = armFault .obstructionLimit y := by rw [armFault, if_neg (by rw [hclosurey]; exact hroad)]
    have hheld := heldNow_armFault hclosurey (.inl hclosing) .obstructionLimit
    have hstay : evaluateGroups false (armFault .obstructionLimit y) = armFault .obstructionLimit y :=
      evaluateGroups_held (by rw [hheld.1]) false
    have htaken : obstructionTaken a x = armFault .obstructionLimit y := by
      rw [obstructionTaken, if_pos (hcounts.mpr hnone), obstruction_holds (by rw [hcount, hconf]; exact hlimit), hhold]
    have hkeeps := keepsReports_armFault .obstructionLimit y
    obtain ⟨_, _, _, _, hlatchesy, _⟩ := hkeeps.arm a
    rw [htaken, hstay] at hexec
    refine ⟨_, hexec, ?_, hheld, fun hnew => ?_, ?_⟩
    · refine hlatchesy.trans ?_
      rw [latchArm_latched, if_pos rfl, hlatches]
      rfl
    · obtain ⟨hraised, hcause⟩ := latchArm_raises (s := x) (a := a) (k := .obstructionLimit) (by rw [hlatches]; exact hnew)
      exact ⟨hkeeps.raised hraised, hkeeps.latched hcause⟩
    · exact unchangedBut_trans (unchangedBut_mono (by simp) hframe) (unchangedBut_trans (unchangedBut_mono (by simp) hframey)
        (unchangedBut_trans (unchangedBut_mono (by simp) (armFault_frame _ y)) (unchangedBut_mono (by simp) (withLoop_frame l _))))
  case runs =>
    have htaken : obstructionTaken a x = x := if_neg (by rw [hcounts, hms]; simp)
    rw [htaken, hwaits hclosure hservice hpos] at hexec
    exact ⟨_, hexec, hdwell.trans hms, hcount, hclosure,
      unchangedBut_trans hframe (unchangedBut_mono (by simp) (withLoop_frame l _))⟩

/-! ## The report LOCAL (R111) -/

theorem departed_frame (a : ArmId) (st : ArmReport) (s : State) : unchangedBut [.controlPort, .closure] s (departed a st s) := by
  unfold departed
  split
  · exact setDegraded_frame s
  · exact unchangedBut_refl _ _

theorem departed_closure (a : ArmId) (st : ArmReport) (s : State) : (departed a st s).closure = s.closure
    ∨ s.closure.state = .roadClosed ∧ (s.arm a).inService = true ∧ (departed a st s).closure = { s.closure with degraded := true } := by
  unfold departed
  split
  next h => exact .inr ⟨h.1, h.2.1, setDegraded_closure s⟩
  next => exact .inl rfl

theorem local_report (harrives : reportArrives a .localControl s) : ∃ t, exec .turnEnd s = .next t
    ∧ (t.arm a).latches = { (s.arm a).latches with localControl := true }
    ∧ ((s.arm a).latches.localControl = false → t.links.control.attention.raised = true
      ∧ t.links.control.attention.causes.armLatch = true)
    ∧ ((s.arm a).inService = true → (s.closure.state.closing = true ∨ s.closure.state = .roadReopening) →
      heldNow .armLocal s.closure.state s t
        ∧ unchangedBut [.controlPort, .closure, .arms, .loop, .stations, .lamp, .display, .sup] s t)
    ∧ ((s.arm a).inService = true → s.closure.state = .roadClosed → t.closure = { s.closure with degraded := true })
    ∧ ((s.closure.state = .inactive ∨ s.closure.state = .roadUncertain ∨ s.closure.state = .roadOpen
        ∨ s.closure.state = .closureHeld) → t.closure = s.closure
        ∧ unchangedBut [.controlPort, .closure, .arms, .loop, .stations, .lamp, .display, .sup] s t) := by
  obtain ⟨angle, _, hexec, l, rfl⟩ := turnEnd_report harrives
  let w := armRecorded a .localControl angle (heard a s)
  let x := departed a .localControl w
  let y := latchArm .localControl a x
  let z := localReport a x
  have hframew : unchangedBut [.arms, .loop, .stations] s w := unchangedBut_trans (unchangedBut_mono (by simp) (heard_frame a s))
    (unchangedBut_mono (by simp) (armRecorded_frame a _ angle _))
  have hframex : unchangedBut [.controlPort, .closure, .arms, .loop, .stations] s x :=
    unchangedBut_trans (unchangedBut_mono (by simp) hframew) (unchangedBut_mono (by simp) (departed_frame a _ w))
  have hframey : unchangedBut [.controlPort, .closure, .arms, .loop, .stations] s y :=
    unchangedBut_trans hframex (unchangedBut_mono (by simp) (latchArm_frame .localControl a x))
  have hclosurew : w.closure = s.closure := hframew .closure (by decide)
  have hclosurey : y.closure = x.closure := latchArm_frame .localControl a x .closure (by decide)
  have hxa : x.arm a = w.arm a := arm_congr (departed_frame a _ w .arms (by decide)) a
  have hheard : (heard a s).arm a = s.arm a := arm_congr (heard_frame a s .arms (by decide)) a
  have hwa : (w.arm a).latches = (s.arm a).latches ∧ (w.arm a).inService = (s.arm a).inService := by
    have hrec := armRecorded_arm a .localControl angle (heard a s) a
    rw [if_pos rfl, withReport_fields, hheard] at hrec
    rw [show w.arm a = _ from hrec]
    exact ⟨rfl, rfl⟩
  have hya : y.arm a = { x.arm a with latches := (x.arm a).latches.add .localControl } := (latchArm_latched _ _ _ _).trans (if_pos rfl)
  have hservice : (y.arm a).inService = (s.arm a).inService := by rw [hya, hxa]; exact hwa.2
  have hz : z = if (y.arm a).inService then armFault .armLocal y else y := rfl
  have hkeepsz : KeepsReports y z := by
    rw [hz]
    split
    · exact keepsReports_armFault _ _
    · exact .refl _
  have hframez : unchangedBut [.controlPort, .closure, .arms, .loop, .stations, .lamp, .display, .sup] s z := by
    refine unchangedBut_trans (unchangedBut_mono (by simp) hframey) ?_
    rw [hz]
    split
    · exact unchangedBut_mono (by simp) (armFault_frame _ y)
    · exact unchangedBut_refl _ _
  have hkeeps : KeepsReports y (evaluateGroups false z) := hkeepsz.trans (keepsReports_evaluateGroups false z)
  have hloop (u : State) : unchangedBut [.controlPort, .closure, .arms, .loop, .stations, .lamp, .display, .sup] u (u.withLoop l) :=
    unchangedBut_mono (by simp) (withLoop_frame l u)
  refine ⟨_, hexec, ?latches, fun hnew => ?latched, fun hin hst => ?held, fun hin hst => ?degraded, fun hst => ?stands⟩
  case latches =>
    obtain ⟨_, _, _, _, hlatches, _⟩ := hkeeps.arm a
    refine hlatches.trans ?_
    rw [hya, hxa, hwa.1]
    rfl
  case latched =>
    obtain ⟨hraised, hcause⟩ := latchArm_raises (s := x) (a := a) (k := .localControl) (by rw [hxa, hwa.1]; exact hnew)
    exact ⟨hkeeps.raised hraised, hkeeps.latched hcause⟩
  case held =>
    have hclosure : y.closure = s.closure := by
      rw [hclosurey, ← hclosurew]
      exact congrArg State.closure (departed_elsewhere (by
        rw [hclosurew]
        rintro heq
        rcases hst with h | h <;> simp [heq, ClosureState.closing] at h) a .localControl)
    have hheld := heldNow_armFault hclosure hst .armLocal
    have hzf : z = armFault .armLocal y := by rw [hz, hservice, hin]; rfl
    have hstay : evaluateGroups false z = z := by rw [hzf]; exact evaluateGroups_held (by rw [hheld.1]) false
    rw [armReported_local, show evaluateGroups false (localReport a x) = z from hstay]
    refine ⟨?_, unchangedBut_trans hframez (hloop z)⟩
    rw [hzf]
    exact hheld
  case degraded =>
    have hdegraded : x.closure = { s.closure with degraded := true } := by
      have hin' : (w.arm a).inService = true := hwa.2.trans hin
      rw [← hclosurew]
      exact (congrArg State.closure (if_pos ⟨by rw [hclosurew]; exact hst, hin', by decide⟩)).trans (setDegraded_closure w)
    have hzf : z = setDegraded y := by
      rw [hz, hservice, hin, if_pos rfl, armFault_closed (by rw [hclosurey, hdegraded]; exact hst)]
    have hclosurez : z.closure = { s.closure with degraded := true } := by
      rw [hzf, setDegraded_closure, hclosurey, hdegraded]
    have hstay : evaluateGroups false z = z := evaluateGroups_other (by rw [hclosurez]; simp [awaitsGroups, hst]) false
    rw [armReported_local, show evaluateGroups false (localReport a x) = z from hstay]
    exact hclosurez
  case stands =>
    obtain ⟨hne, hhold⟩ := not_holdable_of_rest hst
    have hclosurex : x.closure = s.closure := by
      rw [← hclosurew]
      exact congrArg State.closure (departed_elsewhere (by rw [hclosurew]; exact hne) a .localControl)
    have hzy : z = y := by
      rw [hz]
      split
      · exact armFault_other (by rw [hclosurey, hclosurex]; exact hne) (by rw [hclosurey, hclosurex]; exact hhold) _
      · rfl
    have hclosurez : z.closure = s.closure := by rw [hzy, hclosurey, hclosurex]
    have hstay : evaluateGroups false z = z := evaluateGroups_other (by
      rw [hclosurez]
      rcases hst with h | h | h | h <;> simp [awaitsGroups, h]) false
    rw [armReported_local, show evaluateGroups false (localReport a x) = z from hstay]
    exact ⟨hclosurez, unchangedBut_trans hframez (hloop z)⟩

/-- Settles O45: the two timers, and the two reports that they answer to. -/
theorem armTimersRunOut : Obligations.ArmTimersRunOut := by
  intro a ms s
  refine ⟨fun h => retry_commands a ms h, fun h => ?travel, ?reports⟩
  case travel =>
    obtain ⟨t, hexec, htimer, hlatches, hcmd, hlatched, hheld, hdegraded, hstands, hframe⟩ := travel_faults a ms h
    refine ⟨t, hexec, htimer, hlatches, hcmd, hlatched, fun hst => ?_, hdegraded, hstands, hframe⟩
    obtain ⟨hc, harm, hsup, hroad, _⟩ := hheld hst
    exact ⟨hc, harm, hsup, hroad⟩
  case reports =>
    intro held latched reports
    have hheld {cause : HeldCause} {t : State} (h : heldNow cause s.closure.state s t) : held cause t := by
      obtain ⟨hc, harm, hsup, hroad, _⟩ := h
      exact ⟨hc, harm, hsup, hroad⟩
    refine ⟨fun harrives hin hcmd hentry hexit hst => ?_, fun harrives => ?_⟩
    · obtain ⟨hretries, hholds, hruns⟩ := obstructed_report harrives hin hcmd hentry hexit hst
      refine ⟨hretries, fun hnone hlimit => ?_, hruns⟩
      obtain ⟨t, hexec, hlatches, hnow, hlatched, hframe⟩ := hholds hnone hlimit
      exact ⟨t, hexec, hlatches, hheld hnow, hlatched, hframe⟩
    · obtain ⟨t, hexec, hlatches, hlatched, hnow, hdegraded, hstands⟩ := local_report harrives
      refine ⟨t, hexec, hlatches, hlatched, fun hin hst => ?_, hdegraded, hstands⟩
      obtain ⟨h, hframe⟩ := hnow hin hst
      exact ⟨hheld h, hframe⟩

end Sys2Proof.Machine

/-! What the sequencer makes of the group's reports, of ROAD_CLOSED and of ROAD_OPEN: the layer of O46, O48, O52 and O57. -/

namespace Sys2Proof.Machine

open Sys2Proof

variable {s t u v w : State} {o : Opening} {q : Bool}

/-! ## What a report reaches (R59, R103, R181) -/

/-- What a report of the group, of ROAD_CLOSED or of ROAD_OPEN may change: the control line, the sequencer, the leaves, what the
heads show and the supervisor's copies, but never the road lights. -/
structure Reports (s t : State) : Prop where
  frame : unchangedBut [.controlPort, .seq, .leaf, .lamp, .display, .sup] s t
  road : t.display.road = s.display.road

theorem Reports.refl (s : State) : Reports s s := ⟨unchangedBut_refl _ _, rfl⟩

theorem Reports.trans (h : Reports s t) (h' : Reports t u) : Reports s u := ⟨unchangedBut_trans h.frame h'.frame, h'.road.trans h.road⟩

theorem reports_of_frame (h : unchangedBut [.controlPort, .seq, .leaf] s t) : Reports s t :=
  ⟨unchangedBut_mono (by simp) h, congrArg Display.road (h .display (by decide))⟩

theorem reports_raiseControl (c : AttentionCause) (s : State) : Reports s (raiseAttention .control c s) :=
  reports_of_frame (unchangedBut_mono (by simp) (raiseControl_frame c s))

theorem reports_setOpening (o : Option Opening) (s : State) : Reports s (setOpening o s) :=
  reports_of_frame (unchangedBut_mono (by simp) (setOpening_frame o s))

theorem reports_enterOpening (st : OpeningState) (s : State) : Reports s (enterOpening st s) :=
  (reports_setOpening _ s).trans (reports_raiseControl _ _)

theorem reports_deriveDemands (s : State) : Reports s (deriveDemands s) :=
  ⟨unchangedBut_mono (by simp) (deriveDemands_frame s), deriveDemands_road s⟩

theorem reports_heldOpenReport (s : State) : Reports s (heldOpenReport s) := by
  unfold heldOpenReport
  split
  · exact (reports_setOpening _ s).trans ((reports_enterOpening _ _).trans
      (reports_of_frame (unchangedBut_mono (by simp) (weighChangeover_frame _))))
  · exact reports_setOpening _ s
  · exact .refl s

theorem reports_stoppedReport (s : State) : Reports s (stoppedReport s) := by
  unfold stoppedReport
  split
  · exact reports_setOpening _ s
  · exact .refl s

/-- A report of the group but for that of STOWED, which asks for the reopening of the road (R51, R103). -/
theorem reports_groupReport (h : s.leaf.group.state ≠ .stowed) : Reports s (groupReport s) := by
  refine (reports_raiseControl .leafGroup s).trans (Reports.trans ?_ (reports_deriveDemands _))
  have hstate : (raiseAttention .control .leafGroup s).leaf.group.state = s.leaf.group.state := rfl
  split
  · exact reports_heldOpenReport _
  next hst => exact absurd (hstate ▸ hst) h
  · exact reports_stoppedReport _
  · exact reports_stoppedReport _
  all_goals exact .refl _

theorem reports_withLeaf (m : LeafMotion) (s : State) : Reports s (s.withLeaf m) :=
  reports_of_frame (unchangedBut_mono (by simp) (withLeaf_frame m s))

theorem reports_handGroupTripped (b : Bool) (s : State) : Reports s (handGroupTripped b s) := by
  refine ⟨fun p hp => ?_, by simp⟩
  cases p <;> simp_all [Part.same]

theorem reports_applyLeaf {f : LeafMotion → LeafMotion}
    (h : (f s.leaf).group.state = s.leaf.group.state ∨ (f s.leaf).group.state ≠ .stowed) : Reports s (applyLeaf f s) := by
  by_cases hsame : (f s.leaf).group.state = s.leaf.group.state
  · rw [applyLeaf_same hsame]; exact reports_withLeaf _ s
  · rw [applyLeaf_of_changed hsame]
    refine (reports_withLeaf (f s.leaf) s).trans ((reports_handGroupTripped _ _).trans (reports_groupReport ?_))
    simpa using h.resolve_left hsame

theorem reports_startLift (s : State) : Reports s (startLift s) := by
  unfold startLift
  split
  · exact reports_raiseControl _ s
  · exact (reports_enterOpening .lifting s).trans (reports_applyLeaf (raise_not_stowed _ _))

theorem reports_roadClosedReport (s : State) : Reports s (roadClosedReport s) := by
  unfold roadClosedReport
  split
  · split
    · exact (reports_enterOpening _ s).trans (reports_deriveDemands _)
    · split
      · exact .refl s
      · exact reports_startLift s
  · exact .refl s

theorem roadOpenReport_frame (s : State) : unchangedBut [.controlPort, .seq, .lamp, .display, .sup] s (roadOpenReport s) := by
  unfold roadOpenReport
  split
  · exact unchangedBut_trans (unchangedBut_mono (by simp) (setOpening_frame none s)) (unchangedBut_trans
      (unchangedBut_mono (by simp) (raiseControl_frame _ _)) (unchangedBut_mono (by simp) (deriveDemands_frame _)))
  · exact unchangedBut_refl _ s

/-! ## The lift (R41, R42) -/

theorem raiseRefused_of (h : s.leaf.group.emergencyStop = true ∨ s.leaf.group.spanOccupied = true
    ∨ (s.leaf.group.state ≠ .stowed ∧ s.leaf.group.state ≠ .heldOpen)) (closed : Bool) : raiseRefused closed s.leaf = true := by
  have hstart : s.leaf.group.emergencyStop = true ∨ s.leaf.group.spanOccupied = true → startRefused closed s.leaf = true := by
    rintro (h | h) <;> simp [startRefused, h]
  unfold raiseRefused
  split
  next hst => exact hstart (h.imp_right fun h => h.resolve_right fun h => h.1 hst)
  next hst => exact hstart (h.imp_right fun h => h.resolve_right fun h => h.2 hst)
  all_goals rfl

/-- A lift that is refused leaves the opening and raises the control line (R42). -/
theorem startLift_refused (h : s.leaf.group.emergencyStop = true ∨ s.leaf.group.spanOccupied = true
    ∨ (s.leaf.group.state ≠ .stowed ∧ s.leaf.group.state ≠ .heldOpen)) : startLift s = raiseAttention .control .opening s :=
  if_pos (raiseRefused_of h _)

/-- A lift that is taken from STOWED behind a closed road (R41, R84, R88). -/
theorem startLift_started (ho : s.seq.opening = some o) (hclosed : s.closure.state = .roadClosed) (h : liftReady s) :
    liftStarted o s (startLift s) ∧ demandsStand (startLift s) ∧ (startLift s).sup = { s.sup with
      groupTripped := false, dark := (startLift s).sup.dark } := by
  obtain ⟨hst, hestop, hspan, htable, hlocks⟩ := h
  let x := enterOpening .lifting s
  have hxleaf : x.leaf = s.leaf := rfl
  have hnot : raiseRefused (roadIsClosed s) s.leaf = false := raiseRefused_stowed hst ⟨hestop, hspan, hclosed⟩
  have hlift : startLift s = applyLeaf (LeafMotion.raise o.target) x := by
    rw [startLift, if_neg (by simp [hnot])]
    simp only [openingTarget, ho]
    rfl
  have hraise : x.leaf.raise o.target = (s.leaf.setTarget o.target).enterUnlocking := by rw [hxleaf, raise_stowed hst]
  obtain ⟨hgroup, hcommands, hdrives⟩ :=
    enterUnlocking_fields (m := s.leaf.setTarget o.target) (htable.locksIdle (by simp [hst])) hlocks
  obtain ⟨hopening, hsup, _, _, hdemands, _⟩ := applyLeaf_quiet (f := LeafMotion.raise o.target) (s := x)
    (by rw [hraise, hgroup]; simp [reportsQuietly]) (by rw [hraise, hgroup, hxleaf, hst]; simp)
  rw [hlift]
  refine ⟨⟨?_, ?_, ?_, ?_⟩, hdemands, ?_⟩
  · rw [hopening]
    simp [x, enterOpening, enterOpeningQuietly, updateOpening, setOpening, ho]
  · rw [applyLeaf_leaf, hraise, hgroup]; rfl
  · rw [applyLeaf_leaf, hraise]; exact hcommands
  · rw [applyLeaf_leaf, hraise, hdrives]; rfl
  · refine hsup.trans ?_
    rw [applyLeaf_leaf, hraise, hgroup]
    rfl

/-! ## ROAD_CLOSED and ROAD_OPEN (R41, R52, R119, R121) -/

theorem roadClosedTaken_of_parts (hopening : t.seq.opening = s.seq.opening) (hleaf : t.leaf = s.leaf) (hmode : t.sup.mode = s.sup.mode)
    (h : roadClosedTaken t u) : roadClosedTaken s u := by
  simpa only [roadClosedTaken, liftReady, liftStarted, hopening, hleaf, hmode] using h

/-- The report of ROAD_CLOSED is taken (R41, R56, R57). -/
theorem roadClosedReport_taken (hclosed : s.closure.state = .roadClosed) : roadClosedTaken s (roadClosedReport s) := by
  refine ⟨fun hstands => ?stands, fun o ho hst => ⟨fun hrec => ?recovery, fun hrec hmode hready => ?lifts, fun hrec hmode href => ?refused⟩⟩
  case stands =>
    have heq : roadClosedReport s = s := by
      unfold roadClosedReport
      split
      next h =>
        obtain ⟨o, ho, hst⟩ := openingState_eq_some h
        obtain hne | ⟨hrec, hmode⟩ := hstands o ho
        · exact absurd hst hne
        · simp [inRecovery, ho, hrec, hmode]
      next => rfl
    rw [heq]
    exact ⟨rfl, rfl⟩
  all_goals have hstate : openingState s = some .closingRoad := by simp [openingState, ho, hst]
  case recovery =>
    have heq : roadClosedReport s = deriveDemands (enterOpening .recoveryWait s) := by simp [roadClosedReport, hstate, inRecovery, ho, hrec]
    rw [heq]
    refine ⟨?_, by simp [enterOpening], demandsStand_deriveDemands _⟩
    simp [enterOpening, enterOpeningQuietly, updateOpening, setOpening, ho]
  all_goals have heq : roadClosedReport s = startLift s := by simp [roadClosedReport, hstate, inRecovery, ho, hrec, hmode]
  case lifts =>
    obtain ⟨hlift, hdemands, _⟩ := startLift_started ho hclosed hready
    rw [heq]
    exact ⟨hlift, hdemands⟩
  case refused =>
    rw [heq, startLift_refused href]
    exact ⟨rfl, rfl, rfl⟩

/-- The closure as it enters ROAD_CLOSED, before the report (R119). -/
def roadClosing (q : Bool) (s : State) : State :=
  (setClosureState q .roadClosed s).withClosure { s.closure with state := .roadClosed, closeReported := true }

theorem enterRoadClosed_reports (h : s.closure.closeReported = false) (q : Bool) :
    enterRoadClosed q s = roadClosedReport (roadClosing q s) := by
  simp [enterRoadClosed, roadClosing, h]

theorem roadClosing_frame (hne : s.closure.state ≠ .closureHeld) (q : Bool) :
    unchangedBut [.controlPort, .closure, .lamp, .display] s (roadClosing q s) :=
  unchangedBut_trans (setClosureState_unheld_frame (iff_of_false hne (by simp)) q) (unchangedBut_mono (by simp) (withClosure_frame _ _))

/-- ROAD_CLOSED entered from EXIT_LOWERING, and the report taken (R41, R119). -/
theorem enterRoadClosed_taken (hst : s.closure.state = .exitLowering) (hreport : s.closure.closeReported = false) (q : Bool) :
    let t := enterRoadClosed q s
    t.closure = { s.closure with state := .roadClosed, closeReported := true } ∧ t.arms = s.arms ∧ t.display.road = .red
      ∧ (q = false → t.links.control.attention.raised = true ∧ t.links.control.attention.causes.closure = true)
      ∧ roadClosedTaken s t ∧ unchangedBut [.controlPort, .seq, .leaf, .closure, .lamp, .display, .sup] s t := by
  intro t
  let x := roadClosing q s
  have ht : t = roadClosedReport x := enterRoadClosed_reports hreport q
  have hreports : Reports x t := ht ▸ reports_roadClosedReport x
  have hkeeps : KeepsReports x t := ht ▸ keepsReports_roadClosedReport x
  have hframe := roadClosing_frame (by rw [hst]; simp) q
  refine ⟨hreports.frame .closure (by decide), ?_, hreports.road.trans (by simp [x, roadClosing, roadLightOf]), fun hloud => ?_, ?_,
    unchangedBut_trans (unchangedBut_mono (by simp) hframe) (unchangedBut_mono (by simp) hreports.frame)⟩
  · exact (hreports.frame .arms (by decide)).trans (hframe .arms (by decide))
  · subst hloud
    have hlinks : x.links = (raiseAttention .control .closure s).links := setClosureState_loud_links (by simp [hst])
    exact ⟨hkeeps.raised (by rw [hlinks]; rfl), hkeeps.told (by rw [hlinks]; rfl)⟩
  · rw [ht]
    exact roadClosedTaken_of_parts (congrArg Sequencer.opening (hframe .seq (by decide))) (hframe .leaf (by decide))
      (congrArg Supervisor.mode (hframe .sup (by decide))) (roadClosedReport_taken rfl)

/-- The closure as it enters ROAD_OPEN, before the report (R121). -/
def roadOpening (q : Bool) (s : State) : State := setClosureState q .roadOpen
  (s.withClosure { s.closure with degraded := false, override := false, redSeen := .none, confirmation := false })

/-- A reopening completed from ROAD_REOPENING, and the opening that asked for it ended (R52, R121). -/
theorem finishReopening_opened (hst : s.closure.state = .roadReopening) (harms : armsAt .up ringOrder s = true) (q : Bool) :
    let t := finishReopening q s
    roadOpened s t ∧ t.arms = s.arms
      ∧ (q = false → t.links.control.attention.raised = true ∧ t.links.control.attention.causes.closure = true)
      ∧ unchangedBut [.controlPort, .seq, .closure, .lamp, .display, .sup] s t := by
  intro t
  let x := roadOpening q s
  have ht : t = roadOpenReport x := if_pos ⟨hst, harms⟩
  have hframex : unchangedBut [.controlPort, .closure, .lamp, .display] s x := unchangedBut_trans
    (unchangedBut_mono (by simp) (withClosure_frame _ s))
    (setClosureState_unheld_frame (iff_of_false (by simp [hst]) (by simp)) q)
  have hseq : x.seq = s.seq := hframex .seq (by decide)
  have hframe : unchangedBut [.controlPort, .seq, .lamp, .display, .sup] x t := ht ▸ roadOpenReport_frame x
  have hkeeps : KeepsReports x t := ht ▸ keepsReports_roadOpenReport x
  have hroad : x.display.road = .off := by simp [x, roadOpening, roadLightOf]
  have hclosure : x.closure = { s.closure with
      state := .roadOpen, degraded := false, override := false, redSeen := .none, confirmation := false } := by
    simp [x, roadOpening]
  refine ⟨⟨(hframe .closure (by decide)).trans hclosure, ?road, fun hstands => ?stands, fun ⟨o, ho, hending⟩ => ?ends⟩,
    (hframe .arms (by decide)).trans (hframex .arms (by decide)), fun hloud => ?told,
    unchangedBut_trans (unchangedBut_mono (by simp) hframex) (unchangedBut_mono (by simp) hframe)⟩
  case told =>
    subst hloud
    have hlinks : x.links = (raiseAttention .control .closure s).links := setClosureState_loud_links (by simp [hst])
    exact ⟨hkeeps.raised (by rw [hlinks]; rfl), hkeeps.told (by rw [hlinks]; rfl)⟩
  case road =>
    rw [ht]
    unfold roadOpenReport
    split
    · simp [raiseAttention, setOpening, hroad]
    · exact hroad
  case stands =>
    have hnot : openingState x ≠ some .reopeningRoad := fun h => by
      obtain ⟨o, ho, hst⟩ := openingState_eq_some h
      exact hstands o (hseq ▸ ho) hst
    rw [ht, roadOpenReport, if_neg hnot, hseq]
  case ends =>
    have hstate : openingState x = some .reopeningRoad := by simp [openingState, hseq, ho, hending]
    have heq : t = deriveDemands (raiseAttention .control .opening (setOpening none x)) := by rw [ht, roadOpenReport, if_pos hstate]
    rw [heq]
    refine ⟨by simp [raiseAttention, setOpening], demandsStand_deriveDemands _, ?_, ?_⟩
    · rw [deriveDemands_links]; rfl
    · rw [deriveDemands_links]; rfl

end Sys2Proof.Machine

/-! The end of a turn, what its report makes of the road, and the scans (O48). -/

namespace Sys2Proof.Machine

open Sys2Proof

variable {s t u v w : State} {a b : ArmId} {st : ArmReport} {p : ArmPosition} {arms : List ArmId} {q : Bool} {x : Turn}

/-! ## What a report keeps once it stands in the arm record -/

/-- What an arm is known to report, what its station's turns have come to, and the attention already raised, stand. -/
structure KeepsHeard (s t : State) : Prop where
  arm : ∀ a, (t.arm a).reported = (s.arm a).reported ∧ (t.arm a).angle = (s.arm a).angle ∧ (t.arm a).lost = (s.arm a).lost
  station : ∀ a, (t.station a).misses = (s.station a).misses ∧ (t.station a).lost = (s.station a).lost
  raised : s.links.control.attention.raised = true → t.links.control.attention.raised = true
  told : s.links.control.attention.causes.closure = true → t.links.control.attention.causes.closure = true

theorem KeepsReports.heard (h : KeepsReports s t) : KeepsHeard s t where
  arm a := by
    obtain ⟨_, hreported, hangle, hlost, _⟩ := h.arm a
    exact ⟨hreported, hangle, hlost⟩
  station := h.station
  raised := h.raised
  told := h.told

theorem KeepsHeard.trans (h : KeepsHeard s t) (h' : KeepsHeard t u) : KeepsHeard s u where
  arm a := by
    obtain ⟨h1, h2, h3⟩ := h.arm a
    obtain ⟨g1, g2, g3⟩ := h'.arm a
    exact ⟨g1.trans h1, g2.trans h2, g3.trans h3⟩
  station a := by
    obtain ⟨h1, h2⟩ := h.station a
    obtain ⟨g1, g2⟩ := h'.station a
    exact ⟨g1.trans h1, g2.trans h2⟩
  raised := h'.raised ∘ h.raised
  told := h'.told ∘ h.told

theorem keepsHeard_updateArm {f : Arm → Arm} (a : ArmId) (s : State)
    (h : ∀ r, (f r).reported = r.reported ∧ (f r).angle = r.angle ∧ (f r).lost = r.lost) : KeepsHeard s (updateArm a f s) where
  arm b := by
    rw [updateArm_arm]
    split
    next hb => rw [hb]; exact h _
    next => exact ⟨rfl, rfl, rfl⟩
  station b := by rw [station_congr (updateArm_stations ..)]; exact ⟨rfl, rfl⟩
  raised := by rw [updateArm_links]; exact id
  told := by rw [updateArm_links]; exact id

theorem keepsHeard_latchArm (k : ArmLatch) (a : ArmId) (s : State) : KeepsHeard s (latchArm k a s) := by
  unfold latchArm
  split
  · exact (KeepsReports.refl s).heard
  · exact KeepsHeard.trans (keepsHeard_updateArm a s fun r => by exact ⟨rfl, rfl, rfl⟩) (keepsReports_raiseAttention _ _ _).heard

theorem keepsReports_pulseFault (s : State) : KeepsReports s (pulseFault s) := keepsReports_of_parts rfl rfl rfl

theorem keepsHeard_obstructionTaken (a : ArmId) (s : State) : KeepsHeard s (obstructionTaken a s) := by
  unfold obstructionTaken obstruction
  split_ifs
  · exact KeepsHeard.trans (keepsHeard_updateArm a s fun r => by exact ⟨rfl, rfl, rfl⟩) (keepsReports_pulseFault _).heard
  · exact (keepsHeard_latchArm _ _ _).trans (keepsReports_holdClosure _ _).heard
  · exact (KeepsReports.refl s).heard

theorem keepsHeard_localReport (a : ArmId) (s : State) : KeepsHeard s (localReport a s) := by
  refine (keepsHeard_latchArm .localControl a s).trans ?_
  simp only [localReport]
  split
  · exact (keepsReports_armFault _ _).heard
  · exact (KeepsReports.refl _).heard

/-- What a report does beside the record and a departure from DOWN (R110, R111). -/
def reportTaken (a : ArmId) (st : ArmReport) (s : State) : State :=
  match st with
  | .localControl => localReport a s
  | .obstructed => obstructionTaken a s
  | .up | .down | .lowering | .raising | .fault | .unknown => s

theorem armReported_eq (a : ArmId) (st : ArmReport) (angle : Nat) (s : State) : armReported a st angle s =
    evaluateGroups false (reportTaken a st (departed a st (armRecorded a st angle s))) := by
  cases st <;> rfl

theorem keepsHeard_reportTaken (a : ArmId) (st : ArmReport) (s : State) : KeepsHeard s (reportTaken a st s) := by
  cases st
  case localControl => exact keepsHeard_localReport a s
  case obstructed => exact keepsHeard_obstructionTaken a s
  all_goals exact (KeepsReports.refl s).heard

theorem keepsHeard_departed (a : ArmId) (st : ArmReport) (s : State) : KeepsHeard s (departed a st s) := by
  unfold departed
  split
  · exact (keepsReports_setDegraded s).heard
  · exact (KeepsReports.refl s).heard

/-- Past the arm record a report touches neither the records of reports nor the attention already raised. -/
theorem keepsHeard_armReported (a : ArmId) (st : ArmReport) (angle : Nat) (s : State) :
    KeepsHeard (armRecorded a st angle s) (armReported a st angle s) := by
  rw [armReported_eq]
  exact (keepsHeard_departed a st _).trans ((keepsHeard_reportTaken a st _).trans (keepsReports_evaluateGroups false _).heard)

theorem setDegraded_degraded (h : s.closure.degraded = true) : setDegraded s = s := if_pos h

/-- With the road open, or closed and known to be degraded by what is no DOWN, a report only latches (R110, R111, R120). -/
theorem reportTaken_latches (h : s.closure.state = .roadOpen ∨ s.closure.state = .roadClosed ∧ (st ≠ .down → s.closure.degraded = true)) :
    unchangedBut [.controlPort, .arms] s (reportTaken a st s) := by
  cases st
  case localControl =>
    let y := latchArm .localControl a s
    have hframe : unchangedBut [.controlPort, .arms] s y := latchArm_frame .localControl a s
    have hclosure : y.closure = s.closure := hframe .closure (by decide)
    have hfault : armFault .armLocal y = y := by
      rcases h with h | ⟨h, hdegraded⟩
      · obtain ⟨hne, hhold⟩ := not_holdable_of_rest (.inr (.inr (.inl h)))
        exact armFault_other (by rw [hclosure]; exact hne) (by rw [hclosure]; exact hhold) _
      · rw [armFault_closed (by rw [hclosure]; exact h), setDegraded_degraded (by rw [hclosure]; exact hdegraded (by decide))]
    have heq : reportTaken a .localControl s = y := by
      change (if (y.arm a).inService then armFault .armLocal y else y) = y
      rw [hfault, ite_self]
    rw [heq]
    exact hframe
  case obstructed =>
    have hnot : obstructionCounts a s = false := by
      rw [Bool.eq_false_iff, Ne, obstructionCounts_iff]
      rcases h with h | ⟨h, _⟩ <;> simp [h]
    change unchangedBut _ s (obstructionTaken a s)
    rw [obstructionTaken, if_neg (by simp [hnot])]
    exact unchangedBut_refl _ _
  all_goals exact unchangedBut_refl _ _

/-- What no report and no loss reaches. -/
theorem armReported_outer (a : ArmId) (st : ArmReport) (angle : Nat) (s : State) :
    unchangedBut [.freeCount, .controlPort, .harbourPort, .reg, .seq, .leaf, .closure, .arms, .loop, .stations, .lamp, .display, .sup]
      s (armReported a st angle s) := by
  intro y hy; cases y <;> simp_all [Part.same]

theorem armLost_outer (a : ArmId) (s : State) :
    unchangedBut [.freeCount, .controlPort, .harbourPort, .reg, .seq, .leaf, .closure, .arms, .loop, .stations, .lamp, .display, .sup]
      s (armLost a s) := by
  intro y hy; cases y <;> simp_all [Part.same]

/-! ## A good turn (R137) -/

theorem updateStation_stations_eq (a : ArmId) (f : Station → Station) (s : State) :
    (updateStation a f s).stations = s.stations.set (armIndex a) ((updateStation a f s).station a) := by
  rw [updateStation_station, if_pos rfl]
  rfl

theorem good_turn {b c : Byte} (hx : s.loop.turn = some x) (hst : x.step = .stop) (hfirst : s.loop.firstScan = false)
    (hb : x.stateOctet = some b) (hc : x.angleOctet = some c) :
    let a := x.station
    ∃ t, exec .turnEnd s = .next t ∧ t.loop = dueLoop a s.conf.scanPeriod { s.loop with turn := none }
      ∧ (t.station a).misses = 0 ∧ (t.station a).lost = false
      ∧ (t.arm a).reported = reportOf b ∧ (t.arm a).angle = min c.toNat 90 ∧ (t.arm a).lost = false
      ∧ (s.closure.state = .roadOpen → t.closure = s.closure ∧ t.stations = s.stations.set (armIndex a) (t.station a))
      ∧ unchangedBut [.freeCount, .controlPort, .harbourPort, .reg, .seq, .leaf, .closure, .arms, .loop, .stations, .lamp,
          .display, .sup] s t := by
  intro a
  let y := heard a s
  let r := armReported a (reportOf b) (reportAngleOf c) y
  have hloop : r.loop = { s.loop with turn := none } := armReported_loop ..
  have hconf : r.conf = s.conf := congrArg (·.getD Configured.blank) (armReported_cfg a (reportOf b) (reportAngleOf c) y)
  have hexec := turnEnd_good hx hst hb hc
  rw [afterTurn_later (hloop ▸ hfirst)] at hexec
  have hkeeps := keepsHeard_armReported a (reportOf b) (reportAngleOf c) y
  have hrec := armRecorded_arm a (reportOf b) (reportAngleOf c) y a
  rw [if_pos rfl, withReport_fields] at hrec
  have hstation (z : ArmId) : (armRecorded a (reportOf b) (reportAngleOf c) y).station z = y.station z :=
    station_congr (armRecorded_frame a _ _ y .stations (by decide)) z
  have hystation : y.station a = heardStation ((setTurn none s).station a) := (updateStation_station _ _ _ _).trans (if_pos rfl)
  obtain ⟨hreported, hangle, hlost⟩ := hkeeps.arm a
  obtain ⟨hmisses, hpresent⟩ := hkeeps.station a
  rw [hrec] at hreported hangle hlost
  rw [hstation, hystation] at hmisses hpresent
  refine ⟨_, hexec, ?loop, hmisses, hpresent, hreported, hangle, hlost, fun hopen => ?roadOpen, ?frame⟩
  case loop => rw [← hloop, ← hconf]; rfl
  case roadOpen =>
    let z := armRecorded a (reportOf b) (reportAngleOf c) y
    have hz : z.closure = s.closure := (armRecorded_frame a _ _ y .closure (by decide)).trans (heard_frame a s .closure (by decide))
    have hr : unchangedBut [.controlPort, .arms] z r := by
      have hdeparted : departed a (reportOf b) z = z := departed_elsewhere (by rw [hz, hopen]; decide) _ _
      have htaken : unchangedBut [.controlPort, .arms] z (reportTaken a (reportOf b) z) := reportTaken_latches (.inl (by rw [hz]; exact hopen))
      have heq : r = reportTaken a (reportOf b) z := by
        change armReported _ _ _ _ = _
        rw [armReported_eq, hdeparted]
        exact evaluateGroups_other (by rw [htaken .closure (by decide), hz, hopen]; simp [awaitsGroups]) false
      rw [heq]
      exact htaken
    have hstations : r.stations = y.stations := (hr .stations (by decide)).trans (armRecorded_frame a _ _ y .stations (by decide))
    refine ⟨(hr .closure (by decide)).trans hz, ?_⟩
    change r.stations = s.stations.set (armIndex a) (r.station a)
    rw [station_congr hstations, hstations]
    exact updateStation_stations_eq a heardStation (setTurn none s)
  case frame =>
    exact unchangedBut_trans (unchangedBut_mono (by simp) (heard_frame a s)) (unchangedBut_trans (armReported_outer a _ _ y)
      (unchangedBut_mono (by simp) (withLoop_frame _ r)))

/-! ## A missed turn (R138) -/

theorem turnEnd_missed (hx : s.loop.turn = some x) (hst : x.step = .stop) (h : x.stateOctet = none ∨ x.angleOctet = none) :
    exec .turnEnd s = .next (afterTurn x.station (missedTurn x.station (setTurn none s))) := by
  change execTurnEnd s = _
  rw [execTurnEnd, endTurn_some hx, if_pos hst]
  obtain ⟨station, step, command, state, angle⟩ := x
  rcases h with h | h
  · obtain rfl : state = none := h
    rfl
  · obtain rfl : angle = none := h
    cases state <;> rfl

/-- The arm of a station that is declared LOST, before its loss reaches the closure (R111, R138). -/
def lostArm (a : ArmId) (s : State) : State :=
  latchArm .lost a (updateArm a (fun r => { r with lost := true, reported := .unknown }) s)

theorem lostArm_frame (a : ArmId) (s : State) : unchangedBut [.controlPort, .arms] s (lostArm a s) :=
  unchangedBut_trans (unchangedBut_mono (by simp) (updateArm_frame a _ s)) (latchArm_frame .lost a _)

theorem lostArm_arm (a : ArmId) (s : State) : (lostArm a s).arm a =
    { s.arm a with lost := true, reported := .unknown, latches := (s.arm a).latches.add .lost } := by
  rw [lostArm, latchArm_latched, if_pos rfl, updateArm_arm, if_pos rfl]

theorem armLost_eq (a : ArmId) (s : State) : armLost a s = evaluateGroups false
    (if ((lostArm a s).arm a).inService then armFault .armLost (lostArm a s) else lostArm a s) := rfl

theorem lost_reaches (a : ArmId) (s : State) : let t := armLost a s
    (t.station a).lost = (s.station a).lost ∧ (t.station a).misses = (s.station a).misses
      ∧ (t.arm a).lost = true ∧ (t.arm a).reported = .unknown ∧ (t.arm a).latches.lost = true
      ∧ ((s.arm a).latches.lost = false → t.links.control.attention.raised = true)
      ∧ ((s.arm a).inService = true → (s.closure.state.closing = true ∨ s.closure.state = .roadReopening) →
        heldNow .armLost s.closure.state s t)
      ∧ ((s.arm a).inService = true → s.closure.state = .roadClosed → t.closure = { s.closure with degraded := true }) := by
  intro t
  let y := lostArm a s
  let z := if (y.arm a).inService then armFault .armLost y else y
  have ht : t = evaluateGroups false z := armLost_eq a s
  have hframe : unchangedBut [.controlPort, .arms] s y := lostArm_frame a s
  have hclosure : y.closure = s.closure := hframe .closure (by decide)
  have harm : y.arm a = { s.arm a with lost := true, reported := .unknown, latches := (s.arm a).latches.add .lost } := lostArm_arm a s
  have hservice : (y.arm a).inService = (s.arm a).inService := by rw [harm]
  have hfaulted (hin : (s.arm a).inService = true) : z = armFault .armLost y := if_pos (hservice.trans hin)
  have hkeeps : KeepsReports y t := by
    rw [ht]
    refine KeepsReports.trans (t := z) ?_ (keepsReports_evaluateGroups false z)
    simp only [z]
    split
    · exact keepsReports_armFault _ _
    · exact .refl _
  obtain ⟨_, hreported, _, hlost, hlatches, _⟩ := hkeeps.arm a
  obtain ⟨hmisses, hstation⟩ := hkeeps.station a
  rw [harm] at hreported hlost hlatches
  rw [station_congr (hframe .stations (by decide))] at hmisses hstation
  refine ⟨hstation, hmisses, hlost, hreported, by rw [hlatches]; rfl, fun hnew => ?raised, fun hin hst => ?held, fun hin hst => ?degraded⟩
  case raised =>
    refine hkeeps.raised (latchArm_raises ?_).1
    rw [updateArm_arm, if_pos rfl]
    exact hnew
  case held =>
    have hheld := heldNow_armFault hclosure hst .armLost
    rw [ht, hfaulted hin, evaluateGroups_held (by rw [hheld.1])]
    exact hheld
  case degraded =>
    have hz : z.closure = { s.closure with degraded := true } := by
      rw [hfaulted hin, armFault_closed (by rw [hclosure]; exact hst), setDegraded_closure, hclosure]
    rw [ht, evaluateGroups_other (by rw [hz]; simp [awaitsGroups, hst]), hz]

theorem missed_turn (hx : s.loop.turn = some x) (hst : x.step = .stop) (hfirst : s.loop.firstScan = false)
    (h : x.stateOctet = none ∨ x.angleOctet = none) :
    let a := x.station
    let due (t : State) : Prop := t.loop = dueLoop a s.conf.scanPeriod { s.loop with turn := none }
    ((s.station a).lost = true → ∃ t, exec .turnEnd s = .next t ∧ due t ∧ unchangedBut [.loop] s t)
    ∧ ((s.station a).lost = false → (s.station a).misses < 2 → ∃ t, exec .turnEnd s = .next t ∧ due t
      ∧ (∀ b, t.station b = if b = a then { s.station a with misses := (s.station a).misses + 1 } else s.station b)
      ∧ unchangedBut [.loop, .stations] s t)
    ∧ ((s.station a).lost = false → 2 ≤ (s.station a).misses → ∃ t, exec .turnEnd s = .next t ∧ due t
      ∧ (t.station a).lost = true ∧ (t.station a).misses = 3
      ∧ (t.arm a).lost = true ∧ (t.arm a).reported = .unknown ∧ (t.arm a).latches.lost = true
      ∧ ((s.arm a).latches.lost = false → (t.links.get .control).attention.raised = true)
      ∧ ((s.arm a).inService = true → (s.closure.state.closing = true ∨ s.closure.state = .roadReopening) →
        heldNow .armLost s.closure.state s t)
      ∧ ((s.arm a).inService = true → s.closure.state = .roadClosed → t.closure = { s.closure with degraded := true })
      ∧ unchangedBut [.freeCount, .controlPort, .harbourPort, .reg, .seq, .leaf, .closure, .arms, .loop, .stations,
          .lamp, .display, .sup] s t) := by
  intro a due
  let y := setTurn none s
  have hexec := turnEnd_missed hx hst h
  have hframe : unchangedBut [.loop] s y := setTurn_frame none s
  have hstation : (y.station a) = s.station a := rfl
  have hafter {z : State} (hloop : z.loop = y.loop) (hcfg : z.cfg = y.cfg) :
      afterTurn a z = z.withLoop (dueLoop a s.conf.scanPeriod { s.loop with turn := none }) := by
    rw [afterTurn_later (by rw [hloop]; exact hfirst), hloop, show z.conf = s.conf from congrArg (·.getD Configured.blank) hcfg]
    rfl
  refine ⟨fun hlost => ?known, fun hpresent hmisses => ?counted, fun hpresent hmisses => ?declared⟩
  case known =>
    rw [show missedTurn x.station y = y from if_pos hlost, hafter rfl rfl] at hexec
    exact ⟨_, hexec, rfl, unchangedBut_trans hframe (withLoop_frame _ y)⟩
  case counted =>
    let z := updateStation a (fun r => { r with misses := r.misses + 1 }) y
    have hmissed : missedTurn x.station y = z := by
      rw [missedTurn, if_neg (by rw [hstation, hpresent]; simp), if_neg (by rw [hstation]; omega)]
    rw [hmissed, hafter (updateStation_loop ..) (updateStation_cfg ..)] at hexec
    exact ⟨_, hexec, rfl, fun b => updateStation_station _ _ _ _, unchangedBut_trans (unchangedBut_mono (by simp) hframe)
      (unchangedBut_trans (unchangedBut_mono (by simp) (updateStation_frame a _ y)) (unchangedBut_mono (by simp) (withLoop_frame _ z)))⟩
  case declared =>
    let z := updateStation a (fun r => { r with misses := 3, lost := true }) y
    have hz : z.station a = { s.station a with misses := 3, lost := true } := (updateStation_station _ _ _ _).trans (if_pos rfl)
    have hmissed : missedTurn x.station y = armLost a z := by
      rw [missedTurn, if_neg (by rw [hstation, hpresent]; simp), if_pos (by rw [hstation]; exact hmisses)]
    rw [hmissed, hafter ((armLost_loop a z).trans (updateStation_loop ..)) ((armLost_cfg a z).trans (updateStation_cfg ..))] at hexec
    obtain ⟨hstations, hcount, hlost, hreported, hlatch, hraised, hheld, hdegraded⟩ := lost_reaches a z
    rw [hz] at hstations hcount
    exact ⟨_, hexec, rfl, hstations, hcount, hlost, hreported, hlatch, hraised, hheld, hdegraded,
      unchangedBut_trans (unchangedBut_mono (by simp) hframe) (unchangedBut_trans (unchangedBut_mono (by simp) (updateStation_frame a _ y))
        (unchangedBut_trans (armLost_outer a z) (unchangedBut_mono (by simp) (withLoop_frame _ _))))⟩

/-! ## What a report makes of the road (R117 to R121) -/

/-- An awaited arm reports the position it has been commanded to: what the groups then see. -/
theorem arrived (harrives : reportArrives a st s) (hawaits : awaits p a s) (hmatch : reportMatches p st = true)
    (hst : st ≠ .localControl ∧ st ≠ .obstructed) (hroad : s.closure.state ≠ .roadClosed) :
    ∃ w l, exec .turnEnd s = .next ((evaluateGroups false w).withLoop l) ∧ unchangedBut [.arms, .loop, .stations] s w
      ∧ armIsAt p (w.arm a) = true ∧ (w.arm a).travelTimer = none
      ∧ (∀ b, (w.arm b).inService = (s.arm b).inService) ∧ (∀ arms, othersAt p a arms s → armsAt p arms w = true) := by
  obtain ⟨angle, _, hexec, l, rfl⟩ := turnEnd_report harrives
  obtain ⟨hin, hcmd, hack⟩ := hawaits
  let y := heard a s
  let w := armRecorded a st angle y
  have hframe : unchangedBut [.arms, .loop, .stations] s w := unchangedBut_trans (unchangedBut_mono (by simp) (heard_frame a s))
    (unchangedBut_mono (by simp) (armRecorded_frame a st angle y))
  have hdeparted : departed a st w = w := departed_elsewhere (by rw [hframe .closure (by decide)]; exact hroad) _ _
  have harm (b : ArmId) : w.arm b = if b = a then Arm.withReport y.closure.state.timesDeparture st angle (s.arm a) else s.arm b :=
    armRecorded_arm a st angle y b
  have hservice (b : ArmId) : (w.arm b).inService = (s.arm b).inService := armRecorded_service a st angle y b
  obtain ⟨hat, htimer⟩ := withReport_arrived y.closure.state.timesDeparture angle hin hcmd hack hmatch
  rw [armReported_plain hst.1 hst.2, hdeparted] at hexec
  refine ⟨w, l, hexec, hframe, by rw [harm, if_pos rfl]; exact hat, by rw [harm, if_pos rfl]; exact htimer, hservice, fun arms hothers => ?_⟩
  refine List.all_eq_true.mpr fun b hb => ?_
  rw [hservice, harm]
  split
  next => simp [hat]
  next hne =>
    by_cases hb' : (s.arm b).inService = true
    · simp [hothers b hb hne hb']
    · simp [hb']

theorem enterSpanClearing_entered (hst : s.closure.state = .entryLowering) (q : Bool) : let t := enterSpanClearing q s
    t.closure = { s.closure with
        state := .spanClearing, confirmation := false
        clearDwell := if anyOccupied s = true then .stopped else .running (s.conf.clearDwell * 1000) }
      ∧ t.display.road = .red ∧ t.links = (setClosureState q .spanClearing s).links
      ∧ unchangedBut [.controlPort, .closure, .lamp, .display] s t := by
  intro t
  let x := restartClearDwell s
  have hx : x.closure.state = .entryLowering := hst
  refine ⟨by simp [t, enterSpanClearing, restartClearDwell], by simp [t, enterSpanClearing, roadLightOf], ?_, ?_⟩
  · exact (setClosureState_links q .spanClearing x).trans ((setClosureState_links q .spanClearing s).trans (by rw [hx, hst]; cases q <;> rfl)).symm
  · exact unchangedBut_trans (unchangedBut_mono (by simp) (withClosure_frame _ s))
      (setClosureState_unheld_frame (iff_of_false (show x.closure.state ≠ .closureHeld by rw [hx]; decide) (by simp)) q)

theorem entry_arms_down (harrives : reportArrives a .down s) (hawaits : awaits .down a s) (hst : s.closure.state = .entryLowering)
    (hentry : hasEntryArms s = true) (hothers : othersAt .down a entryArms s) : ∃ t, exec .turnEnd s = .next t
      ∧ t.closure = { s.closure with
          state := .spanClearing, confirmation := false
          clearDwell := if anyOccupied s = true then .stopped else .running (s.conf.clearDwell * 1000) }
      ∧ (t.arm a).travelTimer = none ∧ armIsAt .down (t.arm a) = true ∧ t.display.road = .red
      ∧ (t.links.get .control).attention = ⟨true, s.links.control.attention.causes.add .closure⟩
      ∧ unchangedBut [.controlPort, .closure, .arms, .loop, .stations, .lamp, .display] s t := by
  obtain ⟨w, l, hexec, hframe, hat, htimer, hservice, harms⟩ := arrived harrives hawaits rfl (by decide) (by rw [hst]; decide)
  have hclosure : w.closure = s.closure := hframe .closure (by decide)
  have hlinks : w.links.control = s.links.control := hframe .controlPort (by decide)
  have hconf : w.conf = s.conf := congrArg (·.getD Configured.blank) (hframe .cfg (by decide))
  have hzones : anyOccupied w = anyOccupied s := by simp only [anyOccupied, show w.zones = s.zones from hframe .zones (by decide)]
  have hw : w.closure.state = .entryLowering := by rw [hclosure]; exact hst
  rw [evaluateGroups_entryLowering hw, hasEntryArms_of_service hservice, hentry, harms _ hothers] at hexec
  obtain ⟨hc, hroad, hattention, hframe'⟩ := enterSpanClearing_entered hw false
  have harm : (enterSpanClearing false w).arm a = w.arm a := arm_congr (hframe' .arms (by decide)) a
  rw [hclosure, hzones, hconf] at hc
  rw [setClosureState_loud_links (by rw [hw]; decide)] at hattention
  refine ⟨_, hexec, hc, ?_, ?_, hroad, ?_, ?_⟩
  · exact (congrArg Arm.travelTimer harm).trans htimer
  · exact (congrArg (armIsAt .down) harm).trans hat
  · rw [← hlinks]
    exact congrArg (fun x : PerLink LinkPort => x.control.attention) hattention
  · exact unchangedBut_trans (unchangedBut_mono (by simp) hframe) (unchangedBut_trans (unchangedBut_mono (by simp) hframe')
      (unchangedBut_mono (by simp) (withLoop_frame l _)))

theorem all_arms_down (harrives : reportArrives a .down s) (hawaits : awaits .down a s) (hst : s.closure.state = .exitLowering)
    (hreport : s.closure.closeReported = false) (hentry : hasEntryArms s = true) (hexit : hasExitArms s = true)
    (hothers : othersAt .down a ringOrder s) : ∃ t, exec .turnEnd s = .next t
      ∧ t.closure = { s.closure with state := .roadClosed, closeReported := true }
      ∧ (t.arm a).travelTimer = none ∧ armIsAt .down (t.arm a) = true ∧ t.display.road = .red
      ∧ t.links.control.attention.raised = true ∧ t.links.control.attention.causes.closure = true
      ∧ roadClosedTaken s t
      ∧ unchangedBut [.controlPort, .seq, .leaf, .closure, .arms, .loop, .stations, .lamp, .display, .sup] s t := by
  obtain ⟨w, l, hexec, hframe, hat, htimer, hservice, harms⟩ := arrived harrives hawaits rfl (by decide) (by rw [hst]; decide)
  have hclosure : w.closure = s.closure := hframe .closure (by decide)
  have hw : w.closure.state = .exitLowering := by rw [hclosure]; exact hst
  rw [evaluateGroups_exitLowering hw, hasEntryArms_of_service hservice, hasExitArms_of_service hservice, hentry, hexit,
    harms _ hothers] at hexec
  obtain ⟨hc, harm, hroad, htold, htaken, hframe'⟩ := enterRoadClosed_taken hw (by rw [hclosure]; exact hreport) false
  obtain ⟨hraised, htold⟩ := htold rfl
  rw [hclosure] at hc
  have harm : (enterRoadClosed false w).arm a = w.arm a := arm_congr harm a
  refine ⟨_, hexec, hc, ?_, ?_, hroad, hraised, htold, ?_, ?_⟩
  · exact (congrArg Arm.travelTimer harm).trans htimer
  · exact (congrArg (armIsAt .down) harm).trans hat
  · exact roadClosedTaken_of_parts (congrArg Sequencer.opening (hframe .seq (by decide))) (hframe .leaf (by decide))
      (congrArg Supervisor.mode (hframe .sup (by decide))) htaken
  · exact unchangedBut_trans (unchangedBut_mono (by simp) hframe) (unchangedBut_trans (unchangedBut_mono (by simp) hframe')
      (unchangedBut_mono (by simp) (withLoop_frame l _)))

theorem all_arms_up (harrives : reportArrives a .up s) (hawaits : awaits .up a s) (hst : s.closure.state = .roadReopening)
    (hothers : othersAt .up a ringOrder s) : ∃ t, exec .turnEnd s = .next t
      ∧ roadOpened s t ∧ t.links.control.attention.raised = true ∧ t.links.control.attention.causes.closure = true
      ∧ unchangedBut [.controlPort, .seq, .closure, .arms, .loop, .stations, .lamp, .display, .sup] s t := by
  obtain ⟨w, l, hexec, hframe, _, _, _, harms⟩ := arrived harrives hawaits rfl (by decide) (by rw [hst]; decide)
  have hclosure : w.closure = s.closure := hframe .closure (by decide)
  have hseq : w.seq = s.seq := hframe .seq (by decide)
  have hw : w.closure.state = .roadReopening := by rw [hclosure]; exact hst
  rw [evaluateGroups_roadReopening hw] at hexec
  obtain ⟨hopened, _, htold, hframe'⟩ := finishReopening_opened hw (harms _ hothers) false
  obtain ⟨hraised, htold⟩ := htold rfl
  refine ⟨_, hexec, ?_, hraised, htold, ?_⟩
  · simp only [roadOpened, hclosure, hseq] at hopened
    exact hopened
  · exact unchangedBut_trans (unchangedBut_mono (by simp) hframe) (unchangedBut_trans (unchangedBut_mono (by simp) hframe')
      (unchangedBut_mono (by simp) (withLoop_frame l _)))

/-- A report with the road closed: what is no DOWN degrades the closure (R120). -/
theorem report_closed (harrives : reportArrives a st s) (hst : s.closure.state = .roadClosed) (hin : (s.arm a).inService = true) :
    ∃ t, exec .turnEnd s = .next t ∧ t.closure = { s.closure with degraded := s.closure.degraded || decide (st ≠ .down) }
      ∧ (st ≠ .down → s.closure.degraded = false → t.links.control.attention.raised = true
        ∧ t.links.control.attention.causes.closure = true)
      ∧ unchangedBut [.controlPort, .closure, .arms, .loop, .stations] s t := by
  obtain ⟨angle, _, hexec, l, rfl⟩ := turnEnd_report harrives
  let y := heard a s
  let w := armRecorded a st angle y
  let x := departed a st w
  let z := reportTaken a st x
  have hframew : unchangedBut [.arms, .loop, .stations] s w := unchangedBut_trans (unchangedBut_mono (by simp) (heard_frame a s))
    (unchangedBut_mono (by simp) (armRecorded_frame a st angle y))
  have hclosurew : w.closure = s.closure := hframew .closure (by decide)
  have hinw : (w.arm a).inService = true := (armRecorded_service a st angle y a).trans hin
  have hleaves (h : st ≠ .down) : x = setDegraded w := if_pos ⟨by rw [hclosurew]; exact hst, hinw, h⟩
  have hclosurex : x.closure = { s.closure with degraded := s.closure.degraded || decide (st ≠ .down) } := by
    by_cases h : st = .down
    · rw [show x = w from if_neg fun hc => hc.2.2 h, hclosurew]
      simp [h]
    · rw [hleaves h, setDegraded_closure, hclosurew]
      simp [h]
  have hframez : unchangedBut [.controlPort, .arms] x z :=
    reportTaken_latches (.inr ⟨by rw [hclosurex]; exact hst, fun h => by rw [hclosurex]; simp [h]⟩)
  have hclosurez : z.closure = { s.closure with degraded := s.closure.degraded || decide (st ≠ .down) } :=
    (hframez .closure (by decide)).trans hclosurex
  rw [armReported_eq, show evaluateGroups false (reportTaken a st (departed a st (armRecorded a st angle (heard a s)))) = z from
    evaluateGroups_other (by rw [hclosurez]; simp [awaitsGroups, hst]) false] at hexec
  refine ⟨_, hexec, hclosurez, fun hleft hnot => ?_, ?_⟩
  · have hkeeps := keepsHeard_reportTaken a st x
    have hraises : x.links.control.attention.raised = true ∧ x.links.control.attention.causes.closure = true := by
      rw [hleaves hleft, setDegraded, if_neg (by rw [hclosurew, hnot]; simp)]
      exact ⟨rfl, rfl⟩
    exact ⟨hkeeps.raised hraises.1, hkeeps.told hraises.2⟩
  · exact unchangedBut_trans (unchangedBut_mono (by simp) hframew) (unchangedBut_trans (unchangedBut_mono (by simp) (departed_frame a st w))
      (unchangedBut_trans (unchangedBut_mono (by simp) hframez) (unchangedBut_mono (by simp) (withLoop_frame l z))))

theorem scan_expires {ms : Nat} (h : s.loop.scanTimer = some ms) : ∃ t, exec .scanTimerExpiry s = .next t
    ∧ t.loop = (if s.loop.next = none ∧ s.loop.turn = none then
        { s.loop with next := some .wEntry1, scanTimer := some s.conf.scanPeriod } else { s.loop with scanTimer := none })
    ∧ unchangedBut [.loop] s t := by
  have heq : scanExpired s = s.withLoop (if s.loop.next = none ∧ s.loop.turn = none then
      { s.loop with next := some .wEntry1, scanTimer := some s.conf.scanPeriod } else { s.loop with scanTimer := none }) := by
    simp only [scanExpired, h]
    by_cases hidle : s.loop.next = none ∧ s.loop.turn = none
    · rw [if_pos hidle]; exact if_pos hidle
    · rw [if_neg hidle]; exact if_neg hidle
  exact ⟨_, congrArg Host.Outcome.next heq, rfl, withLoop_frame _ s⟩

/-- Settles O48: a good turn and a missed one, what a report makes of the road, and the scan timer. -/
theorem turnEndsAndScansFollow : Obligations.TurnEndsAndScansFollow := by
  intro s
  refine ⟨fun x hx hst hfirst => ⟨fun b c hb hc => ?_, fun h => ?_⟩, fun a harrives hawaits => ⟨?_, ?_⟩,
    fun a st harrives hst hin => report_closed harrives hst hin,
    fun a harrives hawaits hst hothers => all_arms_up harrives hawaits hst hothers, fun ms h => scan_expires h⟩
  · exact good_turn hx hst hfirst hb hc
  · exact missed_turn hx hst hfirst h
  · exact fun hst _ hentry hothers => entry_arms_down harrives hawaits hst hentry hothers
  · exact fun hst hreport hentry hexit hothers => all_arms_down harrives hawaits hst hreport hentry hexit hothers

end Sys2Proof.Machine

/-! The watchdog's expiry, RESUME, and the FAULT pulse (O52). -/

namespace Sys2Proof.Machine

open Sys2Proof

variable {s t u : State} {o : Opening} {q : Bool}

/-! ## The watchdog and the FAULT line (R176, R181, R182) -/

theorem demandFor_restricted (hmode : s.sup.mode = .unattended) (hpolicy : s.conf.signalPolicy = .restrict) (d : Direction) :
    demandFor d s = .noPassage := by simp [demandFor, hmode, hpolicy]

theorem faultLine_unattended {v : Supervisor} (h : v.mode = .unattended) : faultLine v = true := by simp [faultLine, faultHeld, h]

theorem faultLine_held_iff (v : Supervisor) : faultLine { v with pulseTimer := none } = true ↔ v.groupTripped = true ∨ v.closureHeld = true
    ∨ (∃ d, v.dark.get d = true) ∨ v.mode = .unattended := by
  have hdark : (∃ d, v.dark.get d = true) ↔ v.dark.seaward = true ∨ v.dark.landward = true :=
    ⟨fun ⟨d, hd⟩ => by cases d; exacts [.inl hd, .inr hd], fun h => h.elim (fun h => ⟨.seaward, h⟩) fun h => ⟨.landward, h⟩⟩
  rw [hdark]
  simp [faultLine, faultHeld, or_assoc]

theorem watchdog_expires {ms : Nat} (hmode : s.sup.mode = .attended) (hrun : s.sup.watchdog = some ms) :
    ∃ t, exec .watchdogExpiry s = .next t
      ∧ t.sup = { s.sup with mode := .unattended, watchdog := none, dark := t.sup.dark } ∧ faultLine t.sup = true
      ∧ t.links.control = { s.links.control with attention := ⟨true, s.links.control.attention.causes.add .mode⟩ }
      ∧ t.seq.opening = s.seq.opening ∧ demandsStand t
      ∧ (s.conf.signalPolicy = .restrict → t.seq.demand = ⟨.noPassage, .noPassage⟩)
      ∧ unchangedBut [.controlPort, .seq, .lamp, .display, .sup] s t := by
  let x := raiseAttention .control .mode (s.withSup { s.sup with mode := .unattended, watchdog := none })
  let t := deriveDemands x
  have hexec : exec .watchdogExpiry s = .next t := by
    change execWatchdogExpiry s = _
    simp only [execWatchdogExpiry, hmode, hrun]
    rfl
  have hsup : t.sup = { s.sup with mode := .unattended, watchdog := none, dark := t.sup.dark } := deriveDemands_sup_darkAlone x
  have hdemands : demandsStand t := demandsStand_deriveDemands x
  refine ⟨t, hexec, hsup, faultLine_unattended (by rw [hsup]), ?_, deriveDemands_seq_opening x, hdemands, fun hpolicy => ?_, ?_⟩
  · rw [show t.links = x.links from deriveDemands_links x]; rfl
  · have hrestricted (d : Direction) : t.seq.demand.get d = .noPassage := (hdemands d).trans
      (demandFor_restricted (by rw [hsup]) ((congrArg (·.getD Configured.blank) (deriveDemands_cfg x) : t.conf = s.conf) ▸ hpolicy) d)
    exact congrArg₂ PerHead.mk (hrestricted .seaward) (hrestricted .landward)
  · refine unchangedBut_trans (fun p hp => ?_) (unchangedBut_mono (by simp) (deriveDemands_frame x))
    cases p <;> simp_all [Part.same, x, raiseAttention, updatePort, PerLink.set]

theorem watchdog_stopped (h : s.sup.mode ≠ .attended ∨ s.sup.watchdog = none) : exec .watchdogExpiry s = .next s := by
  change execWatchdogExpiry s = _
  unfold execWatchdogExpiry
  split
  next hmode hrun => simp [hmode, hrun] at h
  next => rfl

/-! ## RESUME (R178) -/

/-- RESUME taken in hand, with the device ATTENDED again and the watchdog at its full time. -/
def resuming (s : State) : State :=
  let w := takenIn .control 0x50#8 s
  w.withSup { w.sup with mode := .attended, watchdog := some (w.conf.watchdogTime * 1000) }

/-- RESUME before its reply: what the sequencer and the closure take up again. -/
def resumedBoth (s : State) : State := deriveDemands (resumeReopen (resumeOpening (resuming s)))

/-- What every RESUME that is taken comes to. -/
def resumed (s t : State) : Prop := answered .control 0x50#8 .ok [1#8] s t ∧ demandsStand t ∧ t.sup.mode = .attended
  ∧ t.sup.watchdog = some (s.conf.watchdogTime * 1000)

theorem resuming_frame (s : State) : unchangedBut [.controlPort, .sup] s (resuming s) :=
  unchangedBut_trans (unchangedBut_mono (by simp [portPart]) (takenIn_frame .control 0x50#8 s)) fun p hp => by
    cases p <;> first | rfl | simp at hp

theorem resuming_arm (s : State) (a : ArmId) : (resuming s).arm a = s.arm a := arm_congr (resuming_frame s .arms (by decide)) a

theorem resuming_noStandingFault (h : noStandingFault s) : noStandingFault (resuming s) :=
  noStandingFault_of_arms h fun a => by rw [resuming_arm]; exact ⟨rfl, rfl, rfl⟩

theorem resuming_attention (s : State) : (resuming s).links.control.attention = s.links.control.attention :=
  takenIn_attention .control 0x50#8 s .control

theorem resumeOpening_sup_mode (s : State) : (resumeOpening s).sup.mode = s.sup.mode := by
  unfold resumeOpening; (repeat' split) <;> simp

theorem resumeOpening_sup_watchdog (s : State) : (resumeOpening s).sup.watchdog = s.sup.watchdog := by
  unfold resumeOpening; (repeat' split) <;> simp

theorem resume_taken (hr : readyFor .control s) (hm : s.sup.mode = .unattended) :
    exec (.resume .control []) s = .next (putReply .control 0x50#8 .ok [1#8] (resumedBoth s))
      ∧ resumed s (putReply .control 0x50#8 .ok [1#8] (resumedBoth s)) := by
  have htake : takeResume [] (takenIn .control 0x50#8 s) = accept [1#8] (resumedBoth s) := by
    have hmode : (takenIn .control 0x50#8 s).sup.mode = .unattended := by simpa using hm
    simp only [takeResume, hmode]
    rfl
  obtain ⟨hexec, hanswered⟩ := exec_accepted (c := .resume .control []) rfl rfl (by decide) hr rfl htake
  have hconf : (takenIn .control 0x50#8 s).conf = s.conf := congrArg (Option.getD · Configured.blank) (takenIn_frame .control 0x50#8 s .cfg (by decide))
  refine ⟨hexec, hanswered, demandsStand_putReply (demandsStand_deriveDemands _), ?_, ?_⟩
  · rw [putReply_sup, resumedBoth, deriveDemands_sup_mode, resumeReopen_sup_mode, resumeOpening_sup_mode]; rfl
  · rw [putReply_sup, resumedBoth, deriveDemands_sup_watchdog, resumeReopen_sup_watchdog, resumeOpening_sup_watchdog, ← hconf]; rfl

theorem resumeReopen_idle (h : s.closure.reopenPending = false) : resumeReopen s = s := by simp [resumeReopen, h]

/-- An opening that waits for no lift and no reopening stands at RESUME (R57). -/
theorem resumeOpening_idle (h : ∀ o, s.seq.opening = some o → o.state ≠ .closingRoad ∧ o.state ≠ .lowering) : resumeOpening s = s := by
  unfold resumeOpening
  split
  · rfl
  next o ho => simp [(h o ho).1, (h o ho).2]

theorem resumeOpening_lift (ho : s.seq.opening = some o) (hst : o.state = .closingRoad) (hrec : o.recovery = false)
    (hclosed : s.closure.state = .roadClosed) : resumeOpening s = startLift s := by
  simp [resumeOpening, ho, hst, hrec, roadIsClosed, hclosed]

theorem resumeOpening_reopen (ho : s.seq.opening = some o) (hst : o.state = .lowering) (hgroup : s.leaf.group.state = .stowed) :
    resumeOpening s = reopenRequest false (enterOpening .reopeningRoad s) := by
  simp [resumeOpening, ho, hst, hgroup]

/-- A reopen request from a closing or closed road with leaves stowed, in ATTENDED (R121). -/
theorem reopenRequest_reopened (ha : s.sup.mode = .attended) (hgroup : s.leaf.group.state = .stowed)
    (hroad : s.closure.state.closing = true ∨ s.closure.state = .closureHeld ∨ s.closure.state = .roadClosed)
    (hfault : noStandingFault s) (hin : ∃ a, (s.arm a).inService = true) (q : Bool) : reopenRequest q s = reopened q s := by
  have hasked : ((s.closure.state.closing || s.closure.state == .closureHeld || s.closure.state == .roadClosed)
      && s.leaf.group.state == .stowed) = true := by
    rw [hgroup]
    rcases hroad with h | h | h <;> simp [h]
  rw [reopenRequest, if_pos hasked, if_neg (by simp [ha])]
  exact startReopen_reopened hfault hin (mayCommand_up (.inl hgroup) _) q

theorem resume_idle (hr : readyFor .control s) (hm : s.sup.mode = .unattended) (hpending : s.closure.reopenPending = false)
    (ho : ∀ o, s.seq.opening = some o → o.state ≠ .closingRoad ∧ o.state ≠ .lowering) :
    ∃ t, exec (.resume .control []) s = .next t ∧ resumed s t ∧ t.seq.opening = s.seq.opening
      ∧ (t.links.get .control).attention = (s.links.get .control).attention
      ∧ unchangedBut [.controlPort, .seq, .lamp, .display, .sup] s t := by
  obtain ⟨hexec, hresumed⟩ := resume_taken hr hm
  have hframe := resuming_frame s
  have hseq : (resuming s).seq = s.seq := hframe .seq (by decide)
  have hboth : resumedBoth s = deriveDemands (resuming s) := by
    rw [resumedBoth, resumeOpening_idle (by rw [hseq]; exact ho),
      resumeReopen_idle (by rw [show (resuming s).closure = s.closure from hframe .closure (by decide)]; exact hpending)]
  rw [hboth] at hexec hresumed
  refine ⟨_, hexec, hresumed, ?_, ?_, ?_⟩
  · rw [putReply_seq, deriveDemands_seq_opening, hseq]
  · rw [putReply_attention, deriveDemands_links]
    exact resuming_attention s
  · exact unchangedBut_trans (unchangedBut_mono (by simp) hframe) (unchangedBut_trans (unchangedBut_mono (by simp) (deriveDemands_frame _))
      (unchangedBut_mono (by simp [portPart]) (updatePort_frame .control _ _)))

/-- The lift that ROAD_CLOSED found waiting, started or refused (R42, R57). -/
theorem resume_lift (hr : readyFor .control s) (hm : s.sup.mode = .unattended) (hpending : s.closure.reopenPending = false)
    (ho : s.seq.opening = some o) (hst : o.state = .closingRoad) (hrec : o.recovery = false) (hclosed : s.closure.state = .roadClosed) :
    (liftReady s → ∃ t, exec (.resume .control []) s = .next t ∧ resumed s t ∧ liftStarted o s t)
    ∧ ((s.leaf.group.emergencyStop = true ∨ s.leaf.group.spanOccupied = true) → ∃ t,
      exec (.resume .control []) s = .next t ∧ resumed s t ∧ t.seq.opening = some o ∧ t.leaf = s.leaf
        ∧ (t.links.get .control).attention = ⟨true, s.links.control.attention.causes.add .opening⟩) := by
  obtain ⟨hexec, hresumed⟩ := resume_taken hr hm
  let x := resuming s
  have hframe : unchangedBut [.controlPort, .sup] s x := resuming_frame s
  have hleaf : x.leaf = s.leaf := hframe .leaf (by decide)
  have hclosure : x.closure = s.closure := hframe .closure (by decide)
  have hox : x.seq.opening = some o := (congrArg Sequencer.opening (hframe .seq (by decide))).trans ho
  have hclosedx : x.closure.state = .roadClosed := by rw [hclosure]; exact hclosed
  have hboth : resumedBoth s = deriveDemands (startLift x) := by
    rw [resumedBoth, resumeOpening_lift hox hst hrec hclosedx, resumeReopen_idle]
    rw [show (startLift x).closure = x.closure from (reports_startLift x).frame .closure (by decide), hclosure]
    exact hpending
  rw [hboth] at hexec hresumed
  refine ⟨fun hready => ⟨_, hexec, hresumed, ?_⟩, fun href => ⟨_, hexec, hresumed, ?_⟩⟩
  · obtain ⟨⟨hopening, hgroup, hcommands, hdrives⟩, hdemands, _⟩ := startLift_started hox hclosedx (by simpa only [liftReady, hleaf] using hready)
    rw [deriveDemands_stand hdemands]
    rw [hleaf] at hgroup hdrives
    refine ⟨?_, ?_, ?_, ?_⟩
    · rw [putReply_seq, hopening]
    · rw [putReply_leaf, hgroup]
    · rw [putReply_leaf]; exact hcommands
    · rw [putReply_leaf, hdrives]
  · rw [startLift_refused (by rw [hleaf]; exact href.imp_right .inl)]
    refine ⟨?_, ?_, ?_⟩
    · rw [putReply_seq, deriveDemands_seq_opening]; exact hox
    · rw [putReply_leaf, deriveDemands_leaf]; exact hleaf
    · rw [putReply_attention, deriveDemands_links, ← resuming_attention s]
      rfl

/-- The reopening that was pending, started (R121). -/
theorem resume_pending (hr : readyFor .control s) (hm : s.sup.mode = .unattended) (hgroup : s.leaf.group.state = .stowed)
    (hfault : noStandingFault s) (hin : ∃ a, (s.arm a).inService = true) (hpending : s.closure.reopenPending = true)
    (ho : ∀ o, s.seq.opening = some o → o.state ≠ .closingRoad ∧ o.state ≠ .lowering) :
    ∃ t, exec (.resume .control []) s = .next t ∧ resumed s t ∧ t.seq.opening = s.seq.opening ∧ t.leaf = s.leaf
      ∧ reopeningStarted { s with closure := { s.closure with reopenPending := false } } t := by
  obtain ⟨hexec, hresumed⟩ := resume_taken hr hm
  obtain ⟨a, hin⟩ := hin
  let x := resuming s
  let y := x.withClosure { x.closure with reopenPending := false }
  have hframe : unchangedBut [.controlPort, .sup] s x := resuming_frame s
  have hframey : unchangedBut [.controlPort, .closure, .sup] s y :=
    unchangedBut_trans (unchangedBut_mono (by simp) hframe) (unchangedBut_mono (by simp) (withClosure_frame _ x))
  have hclosure : x.closure = s.closure := hframe .closure (by decide)
  have hleaf : y.leaf = s.leaf := hframey .leaf (by decide)
  have harm (b : ArmId) : y.arm b = s.arm b := arm_congr (hframey .arms (by decide)) b
  have hmay : mayCommand .up y := mayCommand_up (.inl (by rw [hleaf]; exact hgroup)) _
  have hstart : startReopen false y = reopened false y := startReopen_reopened
    (noStandingFault_of_arms hfault fun b => by rw [harm]; exact ⟨rfl, rfl, rfl⟩) ⟨a, by rw [harm]; exact hin⟩ hmay false
  have hboth : resumedBoth s = deriveDemands (reopened false y) := by
    rw [resumedBoth, resumeOpening_idle (by rw [show (resuming s).seq = s.seq from hframe .seq (by decide)]; exact ho), ← hstart,
      resumeReopen, if_pos (by rw [show (resuming s).closure = s.closure from hclosure]; exact hpending)]
    exact congrArg deriveDemands (if_pos (by exact hleaf ▸ hgroup))
  rw [hboth] at hexec hresumed
  have hframer : unchangedBut [.controlPort, .closure, .arms, .stations, .lamp, .display, .sup] y (reopened false y) := reopened_frame false y
  refine ⟨_, hexec, hresumed, ?_, ?_, reopeningStarted_congr ?_ ?_ ?_ ?_ ?_ ?_ ?_ (reopened_started hmay false)⟩
  · rw [putReply_seq, deriveDemands_seq_opening, hframer .seq (by decide)]
    exact congrArg Sequencer.opening (hframey .seq (by decide))
  · rw [putReply_leaf, deriveDemands_leaf, hframer .leaf (by decide), hleaf]
  · change _ = { x.closure with reopenPending := false }
    rw [hclosure]
  · exact (hframey .arms (by decide)).symm
  · exact (hframey .stations (by decide)).symm
  · rw [putReply_closure, deriveDemands_closure]
  · rw [putReply_arms, deriveDemands_arms]
  · rw [putReply_stations, deriveDemands_stations]
  · rw [putReply_display, deriveDemands_road]

/-- An opening in LOWERING that found the leaves stowed while UNATTENDED goes on to the reopening (R51, R57). -/
theorem resume_lowered (hr : readyFor .control s) (hm : s.sup.mode = .unattended) (hgroup : s.leaf.group.state = .stowed)
    (hfault : noStandingFault s) (hin : ∃ a, (s.arm a).inService = true) (hpending : s.closure.reopenPending = false)
    (hclosed : s.closure.state = .roadClosed) (ho : s.seq.opening = some o) (hst : o.state = .lowering) :
    ∃ t, exec (.resume .control []) s = .next t ∧ resumed s t
      ∧ t.seq.opening = some { o with state := .reopeningRoad } ∧ t.leaf = s.leaf ∧ reopeningStarted s t
      ∧ (t.links.get .control).attention.raised = true ∧ (t.links.get .control).attention.causes.opening = true := by
  obtain ⟨hexec, hresumed⟩ := resume_taken hr hm
  obtain ⟨a, hin⟩ := hin
  let x := resuming s
  let y := enterOpening .reopeningRoad x
  have hframe : unchangedBut [.controlPort, .sup] s x := resuming_frame s
  have hreports : unchangedBut [.controlPort, .seq] x y := unchangedBut_trans
    (unchangedBut_mono (by simp) (setOpening_frame _ x)) (unchangedBut_mono (by simp) (raiseControl_frame _ _))
  have hframey : unchangedBut [.controlPort, .seq, .sup] s y :=
    unchangedBut_trans (unchangedBut_mono (by simp) hframe) (unchangedBut_mono (by simp) hreports)
  have hclosure : y.closure = s.closure := hframey .closure (by decide)
  have hleaf : y.leaf = s.leaf := hframey .leaf (by decide)
  have hox : x.seq.opening = some o := (congrArg Sequencer.opening (hframe .seq (by decide))).trans ho
  have harm (b : ArmId) : y.arm b = s.arm b := arm_congr (hframey .arms (by decide)) b
  have hmay : mayCommand .up y := mayCommand_up (.inl (by rw [hleaf]; exact hgroup)) _
  have hreopen : resumeOpening x = reopened false y := by
    rw [resumeOpening_reopen hox hst (by rw [show x.leaf = s.leaf from hframe .leaf (by decide)]; exact hgroup)]
    exact reopenRequest_reopened rfl (by rw [← hgroup]; exact congrArg (·.group.state) hleaf)
      (.inr (.inr ((congrArg Closure.state hclosure).trans hclosed)))
      (noStandingFault_of_arms hfault fun b => by rw [← harm]; exact ⟨rfl, rfl, rfl⟩) ⟨a, (congrArg Arm.inService (harm a)).trans hin⟩ false
  have hstarted : reopeningStarted y (reopened false y) := reopened_started hmay false
  have hboth : resumedBoth s = deriveDemands (reopened false y) := by
    rw [resumedBoth, show resumeOpening (resuming s) = _ from hreopen, resumeReopen_idle]
    rw [hstarted.1, hclosure]
    exact hpending
  rw [hboth] at hexec hresumed
  have hframer : unchangedBut [.controlPort, .closure, .arms, .stations, .lamp, .display, .sup] y (reopened false y) := reopened_frame false y
  have hlinks : (reopened false y).links = (raiseAttention .control .closure y).links :=
    reopened_loud_links (by rw [hclosure, hclosed]; decide)
  refine ⟨_, hexec, hresumed, ?_, ?_, reopeningStarted_congr ?_ ?_ ?_ ?_ ?_ ?_ ?_ hstarted, ?_, ?_⟩
  · rw [putReply_seq, deriveDemands_seq_opening, hframer .seq (by decide)]
    simp [y, enterOpening, enterOpeningQuietly, updateOpening, setOpening, hox]
  · rw [putReply_leaf, deriveDemands_leaf, hframer .leaf (by decide), hleaf]
  · exact hclosure.symm
  · exact (hframey .arms (by decide)).symm
  · exact (hframey .stations (by decide)).symm
  · rw [putReply_closure, deriveDemands_closure]
  · rw [putReply_arms, deriveDemands_arms]
  · rw [putReply_stations, deriveDemands_stations]
  · rw [putReply_display, deriveDemands_road]
  · rw [putReply_attention, deriveDemands_links, hlinks]; rfl
  · rw [putReply_attention, deriveDemands_links, hlinks]; rfl

/-- Settles O52: the watchdog, the FAULT pulse, and RESUME by what it finds waiting. -/
theorem unattendedAndResumed : Obligations.UnattendedAndResumed := by
  intro s
  refine ⟨fun ms hmode hrun => watchdog_expires hmode hrun, watchdog_stopped, ⟨_, rfl, rfl, faultLine_held_iff s.sup, ?_⟩,
    fun hr hm => ⟨⟨_, resume_taken hr hm⟩, fun hpending ho => resume_idle hr hm hpending ho,
      fun o hpending ho hst hrec hclosed => resume_lift hr hm hpending ho hst hrec hclosed,
      fun hgroup hfault hin => ⟨fun hpending ho => resume_pending hr hm hgroup hfault hin hpending ho,
        fun hpending hclosed o ho hst => resume_lowered hr hm hgroup hfault hin hpending hclosed ho hst⟩⟩⟩
  intro p hp
  cases p <;> simp_all [Part.same]

end Sys2Proof.Machine

/-! The end of the first scan, which completes the start-up evaluation (O57). -/

namespace Sys2Proof.Machine

open Sys2Proof

variable {s t u y : State} {a : ArmId} {st : ArmReport} {q : Bool} {m : LeafMotion} {x : Turn}

/-! ## The last turn's own report (R111, R137) -/

/-- With the road neither closed nor under way, only a report of LOCAL does anything beside the record: it latches (R111). -/
theorem reportTaken_rest (h : s.closure.state = .inactive ∨ s.closure.state = .roadUncertain ∨ s.closure.state = .roadOpen
    ∨ s.closure.state = .closureHeld) : reportTaken a st s = if st = .localControl then latchArm .localControl a s else s := by
  obtain ⟨hne, hhold⟩ := not_holdable_of_rest h
  cases st
  case localControl =>
    let v := latchArm .localControl a s
    have hclosure : v.closure = s.closure := latchArm_frame .localControl a s .closure (by decide)
    change (if (v.arm a).inService then armFault .armLocal v else v) = v
    rw [armFault_other (by rw [hclosure]; exact hne) (by rw [hclosure]; exact hhold), ite_self]
  case obstructed =>
    have hnot : obstructionCounts a s = false := by
      rw [Bool.eq_false_iff, Ne, obstructionCounts_iff]
      rcases h with h | h | h | h <;> simp [h]
    exact if_neg (by simp [hnot])
  all_goals rfl

theorem latchArm_control (k : ArmLatch) (a : ArmId) (s : State) : (latchArm k a s).links.control =
    { s.links.control with attention := if (s.arm a).latches.get k = false then
        ⟨true, s.links.control.attention.causes.add .armLatch⟩ else s.links.control.attention } := by
  unfold latchArm
  split
  next h => simp [h]
  next h => rw [if_pos (by simpa using h)]; rfl

/-- The first scan's last report, taken while the road is INACTIVE: the record, and the latch of a report of LOCAL (log entry 29). -/
theorem scanned (h : s.closure.state = .inactive) (a : ArmId) (st : ArmReport) (angle : Nat) :
    let r := armReported a st angle (heard a s)
    (∀ b, (r.arm b).inService = (s.arm b).inService ∧ (r.arm b).reported = if b = a then st else (s.arm b).reported)
      ∧ r.links.control = { s.links.control with
          attention := if st = .localControl ∧ (s.arm a).latches.localControl = false then
              ⟨true, s.links.control.attention.causes.add .armLatch⟩
            else s.links.control.attention }
      ∧ unchangedBut [.controlPort, .arms, .loop, .stations] s r := by
  intro r
  let w := armRecorded a st angle (heard a s)
  have hframe : unchangedBut [.arms, .loop, .stations] s w := unchangedBut_trans (unchangedBut_mono (by simp) (heard_frame a s))
    (unchangedBut_mono (by simp) (armRecorded_frame a st angle _))
  have hclosure : w.closure = s.closure := hframe .closure (by decide)
  have hlinks : w.links.control = s.links.control := hframe .controlPort (by decide)
  have hrest : w.closure.state = .inactive := by rw [hclosure]; exact h
  have hdeparted : departed a st w = w := departed_elsewhere (by rw [hrest]; decide) a st
  have hr : r = if st = .localControl then latchArm .localControl a w else w := by
    have htaken := reportTaken_rest (a := a) (st := st) (.inl hrest)
    rw [← htaken]
    change armReported _ _ _ _ = _
    rw [armReported_eq, hdeparted]
    refine evaluateGroups_other ?_ false
    rw [show reportTaken a st (armRecorded a st angle (heard a s)) = _ from htaken]
    split
    · rw [latchArm_frame .localControl a w .closure (by decide), hrest]; simp [awaitsGroups]
    · rw [show (armRecorded a st angle (heard a s)).closure.state = _ from hrest]; simp [awaitsGroups]
  have hlatched (b : ArmId) : (r.arm b).inService = (w.arm b).inService ∧ (r.arm b).reported = (w.arm b).reported := by
    rw [hr]
    split
    · rw [latchArm_latched]
      split
      next hb => rw [hb]; exact ⟨rfl, rfl⟩
      next => exact ⟨rfl, rfl⟩
    · exact ⟨rfl, rfl⟩
  have hrecord (b : ArmId) : (w.arm b).inService = (s.arm b).inService ∧ (w.arm b).reported = (if b = a then st else (s.arm b).reported)
      ∧ (w.arm b).latches = (s.arm b).latches := by
    rw [show w.arm b = _ from armRecorded_arm a st angle (heard a s) b]
    split
    next hb => rw [withReport_fields, hb]; exact ⟨rfl, rfl, rfl⟩
    next => exact ⟨rfl, rfl, rfl⟩
  refine ⟨fun b => ⟨(hlatched b).1.trans (hrecord b).1, (hlatched b).2.trans (hrecord b).2.1⟩, ?_, ?_⟩
  · rw [hr]
    by_cases hst : st = .localControl
    · rw [if_pos hst, latchArm_control, hlinks, (hrecord a).2.2]
      simp only [hst, true_and]
      rfl
    · rw [if_neg hst, if_neg (fun hc => hst hc.1), hlinks]
  · rw [hr]
    split
    · exact unchangedBut_trans (unchangedBut_mono (by simp) hframe) (unchangedBut_mono (by simp) (latchArm_frame .localControl a w))
    · exact unchangedBut_mono (by simp) hframe

/-! ## The leaves evaluated (R105) -/

/-- The leaves lie seated by their counts, behind locks all proved DRIVEN (R105). -/
def evaluatesStowed (c : Configured) (counts : PerDrive (BitVec 24)) (m : LeafMotion) : Prop :=
  let fine (d : DriveId) : Int := fineAngle (c.drives.get d) (counts.get d).toNat
  ((fine .wn + fine .ws) / 2).natAbs ≤ c.seatedWindow ∧ ((fine .en + fine .es) / 2).natAbs ≤ c.seatedWindow
    ∧ ∀ k, (m.locks.get k).drivenSwitch = true ∧ (m.locks.get k).withdrawnSwitch = false

theorem lockState_uncommanded_driven (k : Lock) : lockState { k.uncommanded with unproven := false } = .driven ↔
    k.drivenSwitch = true ∧ k.withdrawnSwitch = false := by
  obtain ⟨command, driven, withdrawn, timer, unproven⟩ := k
  cases driven <;> cases withdrawn <;> simp [lockState, Lock.uncommanded]

theorem evaluate_seated (c : Configured) (counts : PerDrive (BitVec 24)) (m : LeafMotion) :
    (m.evaluate c counts).west.seated = isSeated c (leafAngle (fineAngle c.drives.wn counts.wn.toNat) (fineAngle c.drives.ws counts.ws.toNat))
    ∧ (m.evaluate c counts).east.seated = isSeated c (leafAngle (fineAngle c.drives.en counts.en.toNat) (fineAngle c.drives.es counts.es.toNat)) :=
  ⟨rfl, rfl⟩

theorem evaluate_stowed_iff (c : Configured) (counts : PerDrive (BitVec 24)) (m : LeafMotion) :
    (m.evaluate c counts).group.state = .stowed ↔ evaluatesStowed c counts m := by
  have hstate : (m.evaluate c counts).group.state =
      if bothSeated (m.evaluate c counts) && allLocks .driven (m.evaluate c counts) then .stowed else .halted := rfl
  have hseated : bothSeated (m.evaluate c counts) = true ↔
      ((fineAngle c.drives.wn counts.wn.toNat + fineAngle c.drives.ws counts.ws.toNat) / 2).natAbs ≤ c.seatedWindow
      ∧ ((fineAngle c.drives.en counts.en.toNat + fineAngle c.drives.es counts.es.toNat) / 2).natAbs ≤ c.seatedWindow := by
    obtain ⟨hwest, heast⟩ := evaluate_seated c counts m
    rw [bothSeated, hwest, heast, Bool.and_eq_true, isSeated, isSeated, decide_eq_true_iff, decide_eq_true_iff]
    rfl
  have hlocks : allLocks .driven (m.evaluate c counts) = true ↔ ∀ k, (m.locks.get k).drivenSwitch = true ∧ (m.locks.get k).withdrawnSwitch = false := by
    have heach : allLocks .driven (m.evaluate c counts) = true ↔
        ∀ k, lockState { (m.locks.get k).uncommanded with unproven := false } = .driven := by
      simp only [allLocks, Bool.and_eq_true, beq_iff_eq]
      exact ⟨fun ⟨⟨hw, he⟩, hc⟩ k => by cases k; exacts [hw, he, hc], fun h => ⟨⟨h .westTail, h .eastTail⟩, h .centre⟩⟩
    simp only [heach, lockState_uncommanded_driven]
  rw [hstate]
  split
  next h =>
    rw [Bool.and_eq_true, hseated, hlocks] at h
    exact iff_of_true rfl ⟨h.1.1, h.1.2, h.2⟩
  next h =>
    rw [Bool.and_eq_true, hseated, hlocks] at h
    exact iff_of_false (by decide) fun ⟨hw, he, hk⟩ => h ⟨⟨hw, he⟩, hk⟩

theorem evaluate_drives (c : Configured) (counts : PerDrive (BitVec 24)) (m : LeafMotion) (d : DriveId) :
    ((m.evaluate c counts).drives.get d).fine = fineAngle (c.drives.get d) (counts.get d).toNat
      ∧ ((m.evaluate c counts).drives.get d).brakeReleased = false := by
  cases d <;> exact ⟨rfl, rfl⟩

/-! ## The road and the opening evaluated (R55, R130) -/

theorem armIndex_surjective (i : Fin 8) : ∃ a, armIndex a = i := by
  fin_cases i
  exacts [⟨.wEntry1, rfl⟩, ⟨.wEntry2, rfl⟩, ⟨.wExit1, rfl⟩, ⟨.wExit2, rfl⟩, ⟨.eEntry1, rfl⟩, ⟨.eEntry2, rfl⟩, ⟨.eExit1, rfl⟩,
    ⟨.eExit2, rfl⟩]

theorem allReportUp_iff (s : State) : allReportUp s = true ↔ ∀ a, (s.arm a).inService = true → (s.arm a).reported = .up := by
  simp only [allReportUp, List.all_eq_true, Bool.or_eq_true, Bool.not_eq_true', beq_iff_eq]
  refine ⟨fun h a hin => (h (s.arm a) (by simp [State.arm])).resolve_left (by simp [hin]), fun h r hr => ?_⟩
  obtain ⟨i, hi, rfl⟩ := List.getElem_of_mem hr
  obtain ⟨a, ha⟩ := armIndex_surjective ⟨i, by simpa using hi⟩
  have hget : s.arms.toList[i] = s.arm a := by simp [State.arm, ha]
  rw [hget]
  cases hin : (s.arm a).inService
  · exact .inl rfl
  · exact .inr (h a hin)

/-- A close request from a road that stands open, or whose state is not known: the closing goes on or is held at once (R113). -/
theorem closeRequest_enters (h : s.closure.state = .roadOpen ∨ s.closure.state = .roadUncertain) (q : Bool) :
    (closeRequest q s).closure.state = .prewarnAmber
      ∨ (closeRequest q s).closure.state = .closureHeld ∧ (closeRequest q s).closure.heldIn = some .prewarnAmber := by
  let w := setClosureState q .prewarnAmber (closeFields s)
  have hreq : closeRequest q s = standingCheck w := if_pos h
  have hstate : w.closure.state = .prewarnAmber := by simp [w]
  rw [hreq]
  by_cases hfault : noStandingFault w
  · rw [standingCheck_clear hfault]
    exact .inl hstate
  · obtain ⟨cause, v, _, hheld, hframe, _⟩ := standingCheck_holds hfault (by rw [hstate]; rfl)
    have hv : v.closure.state ≠ .closureHeld := by rw [hframe .closure (by decide), hstate]; decide
    rw [hheld, (holdWith_held hv).1, hstate]
    exact .inr ⟨rfl, rfl⟩

theorem groupReport_closure_none (h : s.seq.opening = none) : (groupReport s).closure = s.closure := by
  have hstate : openingState (raiseAttention .control .leafGroup s) = none := by simp [openingState, h]
  by_cases hst : s.leaf.group.state = .stowed
  · rw [groupReport, deriveDemands_closure]
    simp [hst, stowedReport, hstate]
  · exact (reports_groupReport hst).frame .closure (by decide)

theorem applyLeaf_closure_none {f : LeafMotion → LeafMotion} (h : s.seq.opening = none) : (applyLeaf f s).closure = s.closure := by
  unfold applyLeaf afterLeaf
  split
  · rfl
  · rw [groupReport_closure_none (by simpa using h)]; simp

/-! ## The evaluation completed (R195, R201) -/

theorem scanOver_frame (s : State) : unchangedBut [.loop] s (scanOver s) := by
  unfold scanOver
  dsimp only
  split
  · exact unchangedBut_trans (withLoop_frame _ s) (withLoop_frame _ _)
  · exact withLoop_frame _ s

theorem evaluateRoad_state (s : State) : (evaluateRoad s).closure.state = if allReportUp s then .roadOpen else .roadUncertain := by
  simp [evaluateRoad]

theorem evaluateRoad_frame (h : s.closure.state = .inactive) :
    unchangedBut [.controlPort, .closure, .lamp, .display] s (evaluateRoad s) :=
  setClosureState_unheld_frame (iff_of_false (by rw [h]; decide) (by split <;> decide)) false

theorem evaluateRoad_conf (s : State) : (evaluateRoad s).conf = s.conf :=
  congrArg (Option.getD · Configured.blank) (setClosureState_frame false _ s .cfg (by decide))

theorem evaluateMode_closure (s : State) : (evaluateMode s).closure = s.closure := by simp [evaluateMode]

theorem evaluateMode_opening (s : State) : (evaluateMode s).seq.opening = s.seq.opening := by simp [evaluateMode]

/-- What the evaluation makes of the leaves, and of the road and the opening by where the leaves lie (R55, R105, R130). -/
theorem evaluated_outcome (hopening : s.seq.opening = none) (hroad : s.closure.state = .inactive) :
    let t := evaluated s
    t.leaf = s.leaf.evaluate s.conf s.pins.encoders
      ∧ (evaluatesStowed s.conf s.pins.encoders s.leaf → t.seq.opening = none
        ∧ t.closure.state = if allReportUp s then .roadOpen else .roadUncertain)
      ∧ (¬evaluatesStowed s.conf s.pins.encoders s.leaf → t.seq.opening = some recoveryOpening
        ∧ (t.closure.state = .prewarnAmber ∨ (t.closure.state = .closureHeld ∧ t.closure.heldIn = some .prewarnAmber))) := by
  intro t
  let w := evaluateRoad s
  let v := evaluateLeaves w
  have hframe : unchangedBut [.controlPort, .closure, .lamp, .display] s w := evaluateRoad_frame hroad
  have hleafw : w.leaf = s.leaf := hframe .leaf (by decide)
  have hpins : w.pins = s.pins := hframe .pins (by decide)
  have hopeningw : w.seq.opening = none := (congrArg Sequencer.opening (hframe .seq (by decide))).trans hopening
  have hleaf : v.leaf = s.leaf.evaluate s.conf s.pins.encoders := by
    rw [← hleafw, ← hpins, ← evaluateRoad_conf s]
    exact applyLeaf_leaf _ _
  have hclosure : v.closure.state = if allReportUp s then .roadOpen else .roadUncertain :=
    (congrArg Closure.state (applyLeaf_closure_none hopeningw)).trans (evaluateRoad_state s)
  have hopeningv : v.seq.opening = none := applyLeaf_opening_none hopeningw
  have ht : t = evaluateMode (evaluateOpening v) := rfl
  refine ⟨?_, fun hstowed => ?_, fun hnot => ?_⟩
  · rw [show t.leaf = _ from evaluated_leaf s, evaluateRoad_conf, ← hpins, ← hleafw]
  · have hstate : v.leaf.group.state = .stowed := by rw [hleaf]; exact (evaluate_stowed_iff _ _ _).mpr hstowed
    have hstays : evaluateOpening v = v := if_neg (by rw [hstate]; decide)
    rw [ht, hstays, evaluateMode_opening, evaluateMode_closure]
    exact ⟨hopeningv, hclosure⟩
  · have hstate : v.leaf.group.state = .halted := by
      rw [hleaf]
      exact (evaluate_state _ _ _).resolve_left fun h => hnot ((evaluate_stowed_iff _ _ _).mp h)
    have hasked : evaluateOpening v = closeRequest false (raiseAttention .control .opening (setOpening (some recoveryOpening) v)) :=
      if_pos hstate
    rw [ht, hasked, evaluateMode_opening, evaluateMode_closure, closeRequest_seq]
    refine ⟨rfl, closeRequest_enters ?_ false⟩
    change v.closure.state = .roadOpen ∨ v.closure.state = .roadUncertain
    rw [hclosure]
    split
    · exact .inl rfl
    · exact .inr rfl

theorem evaluated_committed (s : State) : (evaluated s).store.state = .committed := by simp [evaluated, evaluateMode]

theorem evaluateOpening_cfg (s : State) : (evaluateOpening s).cfg = s.cfg := by
  unfold evaluateOpening
  split
  · simp
  · rfl

theorem evaluated_watchdog (s : State) : (evaluated s).sup.watchdog = some (s.conf.watchdogTime * 1000) := by
  have hcfg : (evaluateOpening (evaluateLeaves (evaluateRoad s))).cfg = s.cfg := by
    rw [evaluateOpening_cfg, evaluateLeaves, applyLeaf_cfg]
    exact setClosureState_frame false _ s .cfg (by decide)
  have hconf : (evaluateOpening (evaluateLeaves (evaluateRoad s))).conf = s.conf := congrArg (Option.getD · Configured.blank) hcfg
  rw [← hconf, evaluated, evaluateMode, deriveDemands_sup_watchdog]
  rfl

/-- Links that differ in their attention records alone, with the records put back (R195). -/
theorem keepAttention_restores (h : ∀ l, (u.links.get l).core = (s.links.get l).core) : (keepAttention s u).links = s.links := by
  have hport (l : Link) : { u.links.get l with attention := (s.links.get l).attention } = s.links.get l := by
    rw [LinkPort.eq_of_core (h l)]
  exact congrArg₂ PerLink.mk ((keepAttention_control s u).trans (hport .control)) ((keepAttention_harbour s u).trans (hport .harbour))

theorem putReply_port (l : Link) (kind : Byte) (o : OutcomeCode) (body : List Byte) (s : State) :
    unchangedBut [portPart l] s (putReply l kind o body s) := updatePort_frame l _ s

theorem putReply_idle {kind : Byte} {o : OutcomeCode} {body : List Byte} (h : s.links.control.sending = none) :
    (putReply .control kind o body s).links.control = { s.links.control with sending := some ⟨⟨kind, o, false, body⟩, false⟩ } := by
  have hget : (s.links.get .control).sending = none := h
  simp only [putReply, updatePort, hget]
  rfl

/-- The links after the evaluation: as they stood, with the commit's reply handed to the transmitter (R195, R201). -/
theorem completeEvaluation_ports (hidle : s.links.control.sending = none) : (completeEvaluation s).links.control =
      { s.links.control with sending := some ⟨⟨0x52#8, .ok, false, [1#8]⟩, false⟩ }
    ∧ (completeEvaluation s).links.harbour = s.links.harbour := by
  have hkept : (keepAttention s (evaluated s)).links = s.links := keepAttention_restores (evaluated_tables s).ports
  rw [completeEvaluation_eq, putReply_idle (by rw [hkept]; exact hidle), hkept]
  refine ⟨rfl, ?_⟩
  rw [← hkept]
  exact putReply_port _ _ _ _ _ .harbourPort (by decide)

theorem perHead_eq_of_get {p : PerHead Aspect} {x : Aspect} (h : ∀ d, p.get d = x) : p = ⟨x, x⟩ :=
  congrArg₂ PerHead.mk (h .seaward) (h .landward)

/-- Settles O57: the last turn's report, then the five steps of R201. -/
theorem firstScanEndsTheStartUp : Obligations.FirstScanEndsTheStartUp := by
  intro x b c s hx hst hstation hfirst hb hc hopening hgroup hroad hidle
  let r := armReported .eExit2 (reportOf b) (reportAngleOf c) (heard .eExit2 s)
  let y := scanOver r
  obtain ⟨harms, hcontrol, hframer⟩ := scanned hroad .eExit2 (reportOf b) (reportAngleOf c)
  have hexec := turnEnd_good hx hst hb hc
  rw [hstation, afterTurn_first rfl (show (armReported ArmId.eExit2 (reportOf b) (reportAngleOf c) (heard .eExit2 s)).loop.firstScan = true by
    rw [armReported_loop]; exact hfirst)] at hexec
  have hframe : unchangedBut [.controlPort, .arms, .loop, .stations] s y :=
    unchangedBut_trans hframer (unchangedBut_mono (by simp) (scanOver_frame r))
  have hleaf : y.leaf = s.leaf := hframe .leaf (by decide)
  have hpins : y.pins = s.pins := hframe .pins (by decide)
  have hconf : y.conf = s.conf := congrArg (Option.getD · Configured.blank) (hframe .cfg (by decide))
  have hlinks : y.links = r.links := scanOver_links r
  have hup : allReportUp y = true ↔ ∀ a, (s.arm a).inService = true →
      (if a = .eExit2 then reportOf b else (s.arm a).reported) = .up := by
    rw [allReportUp_iff]
    refine forall_congr' fun a => ?_
    obtain ⟨hservice, hreported⟩ := harms a
    rw [arm_congr (scanOver_frame r .arms (by decide)), hservice, hreported]
  obtain ⟨hleaft, hstowed, hnot⟩ := evaluated_outcome (s := y) ((congrArg Sequencer.opening (hframe .seq (by decide))).trans hopening)
    ((congrArg Closure.state (hframe .closure (by decide))).trans hroad)
  obtain ⟨hport, hharbour⟩ := completeEvaluation_ports (s := y) (by rw [hlinks, hcontrol]; exact hidle)
  rw [hconf, hpins, hleaf] at hleaft hstowed hnot
  refine ⟨_, hexec, ?_⟩
  intro up fine stowed
  have hleafEnd : (completeEvaluation y).leaf = (evaluated y).leaf := by rw [completeEvaluation_eq, putReply_leaf, keepAttention_leaf]
  have hseqEnd : (completeEvaluation y).seq = (evaluated y).seq := by rw [completeEvaluation_eq, putReply_seq, keepAttention_seq]
  have hclosureEnd : (completeEvaluation y).closure = (evaluated y).closure := by
    rw [completeEvaluation_eq, putReply_closure, keepAttention_closure]
  refine ⟨?_, ?_, ?_, ?_, ?_, ?_, ?_, ?_, fun h => ?_, fun h => ?_⟩
  · rw [completeEvaluation_eq, putReply_store, keepAttention_store, evaluated_committed]
  · rw [completeEvaluation_eq, putReply_sup, keepAttention_sup, evaluated_mode]
  · rw [completeEvaluation_eq, putReply_sup, keepAttention_sup, evaluated_watchdog, hconf]
  · rw [hport, hlinks, hcontrol]
  · rw [hharbour, hlinks]
    exact hframer .harbourPort (by decide)
  · rw [completeEvaluation_eq, putReply_loop, keepAttention_loop, evaluated_loop, scanOver_firstScan]
  · rw [hleafEnd, hleaft]; rfl
  · intro d
    rw [hleafEnd, hleaft]
    exact evaluate_drives _ _ _ d
  · obtain ⟨hnone, hclosure⟩ := hstowed h
    have hdemand (d : Direction) : (evaluated y).seq.demand.get d = .noPassage := by
      rw [demandsStand_evaluated y d, demandFor, if_neg (by rw [evaluated_mode]; decide), if_neg (by rw [evaluated_mode]; simp), hnone]
    rw [hleafEnd, hseqEnd, hclosureEnd, hleaft, hclosure]
    refine ⟨(evaluate_stowed_iff _ _ _).mpr h, hnone, perHead_eq_of_get hdemand, fun hall => ?_, fun hall => ?_⟩
    · rw [hup.mpr hall]; rfl
    · rw [Bool.eq_false_iff.mpr fun h' => hall (hup.mp h')]; rfl
  · rw [hleafEnd, hseqEnd, hclosureEnd, hleaft]
    exact ⟨(evaluate_state _ _ _).resolve_left fun h' => h ((evaluate_stowed_iff _ _ _).mp h'), hnot h⟩

end Sys2Proof.Machine

/-! ARM SERVICE (the first part of O46). -/

namespace Sys2Proof.Machine

open Sys2Proof

variable {s t u v y : State} {a b : ArmId} {p : ArmPosition} {kind : Byte} {body : List Byte} {cause : HeldCause} {st : ClosureState}
  {o : OutcomeCode}

/-! ## What a reply leaves of a hold, of ROAD_CLOSED and of ROAD_OPEN -/

theorem heldNow_congr (h : t.closure = s.closure) : heldNow cause st t u ↔ heldNow cause st s u := by simp only [heldNow, h]

theorem heldNow_putReply (h : heldNow cause st s u) : heldNow cause st s (putReply .control kind o body u) := by
  obtain ⟨hc, harm, hsup, hroad, hraised, htold⟩ := h
  have hport : (putReply .control kind o body u).links.control.attention = u.links.control.attention :=
    putReply_attention .control kind o body u .control
  refine ⟨by rw [putReply_closure, hc], fun b => ?_, by rw [putReply_sup, hsup], by rw [putReply_display, hroad], ?_, ?_⟩
  · rw [arm_congr (putReply_arms ..)]; exact harm b
  · rw [hport]; exact hraised
  · rw [hport]; exact htold

theorem roadOpened_putReply (h : roadOpened s u) : roadOpened s (putReply .control kind o body u) := by
  obtain ⟨hc, hroad, hstands, hends⟩ := h
  have hport : (putReply .control kind o body u).links.control.attention = u.links.control.attention :=
    putReply_attention .control kind o body u .control
  refine ⟨by rw [putReply_closure, hc], by rw [putReply_display, hroad], fun ho => by rw [putReply_seq]; exact hstands ho, fun ho => ?_⟩
  obtain ⟨hnone, hdemands, hraised, htold⟩ := hends ho
  exact ⟨by rw [putReply_seq]; exact hnone, demandsStand_putReply hdemands, by rw [hport]; exact hraised, by rw [hport]; exact htold⟩

theorem roadClosedTaken_putReply (h : roadClosedTaken s u) : roadClosedTaken s (putReply .control kind o body u) := by
  obtain ⟨hstands, htakes⟩ := h
  have hport : (putReply .control kind o body u).links.control.attention = u.links.control.attention :=
    putReply_attention .control kind o body u .control
  refine ⟨fun ho => by rw [putReply_seq, putReply_leaf]; exact hstands ho, fun o ho hst => ?_⟩
  obtain ⟨hrecovery, hlift, hrefused⟩ := htakes o ho hst
  refine ⟨fun hrec => ?_, fun hrec hmode hready => ?_, fun hrec hmode href => ?_⟩
  · obtain ⟨hopening, hleaf, hdemands⟩ := hrecovery hrec
    exact ⟨by rw [putReply_seq]; exact hopening, by rw [putReply_leaf]; exact hleaf, demandsStand_putReply hdemands⟩
  · obtain ⟨hstarted, hdemands⟩ := hlift hrec hmode hready
    refine ⟨?_, demandsStand_putReply hdemands⟩
    simp only [liftStarted, putReply_seq, putReply_leaf]
    exact hstarted
  · obtain ⟨hopening, hleaf, htold⟩ := hrefused hrec hmode href
    exact ⟨by rw [putReply_seq]; exact hopening, by rw [putReply_leaf]; exact hleaf, by rw [hport]; exact htold⟩

theorem roadOpened_of_parts (hclosure : t.closure = s.closure) (hseq : t.seq = s.seq) (h : roadOpened t u) : roadOpened s u := by
  simpa only [roadOpened, hclosure, hseq] using h

/-! ## An arm taken OUT (R125) -/

/-- An arm's record as it is taken OUT. -/
def outArm (r : Arm) : Arm :=
  { r with inService := false, retryCount := 0, retryDwell := none, travelTimer := none, commanded := none }

/-- The records of an arm taken OUT: its station is told to HALT where the arm was on its way. -/
def takenOut (a : ArmId) (s : State) : State :=
  let x := updateArm a outArm s
  if (s.arm a).commanded.isSome && !armInPosition (s.arm a) then writeSlot a .halt x else x

theorem armOut_eq (h : (s.arm a).inService = true) : armOut a s =
    if (takenOut a s).closure.state = .roadClosed then setDegraded (takenOut a s) else evaluateGroups true (takenOut a s) := if_pos h

theorem writeSlot_frame (a : ArmId) (c : LoopCommand) (s : State) : unchangedBut [.stations] s (writeSlot a c s) := updateStation_frame a _ s

theorem takenOut_frame (a : ArmId) (s : State) : unchangedBut [.arms, .stations] s (takenOut a s) := by
  simp only [takenOut]
  split
  · exact unchangedBut_trans (unchangedBut_mono (by simp) (updateArm_frame a _ s)) (unchangedBut_mono (by simp) (writeSlot_frame a _ _))
  · exact unchangedBut_mono (by simp) (updateArm_frame a _ s)

theorem takenOut_updated (a : ArmId) (s : State) : (takenOut a s).arms = (updateArm a outArm s).arms := by
  simp only [takenOut]
  split
  · exact writeSlot_frame a _ _ .arms (by decide)
  · rfl

theorem takenOut_arms (a : ArmId) (s : State) : (takenOut a s).arms = s.arms.set (armIndex a) (outArm (s.arm a)) := by
  rw [takenOut_updated]
  rfl

theorem takenOut_arm (a : ArmId) (s : State) (b : ArmId) : (takenOut a s).arm b = if b = a then outArm (s.arm a) else s.arm b := by
  rw [arm_congr (takenOut_updated a s), updateArm_arm]

theorem takenOut_station_ne (h : b ≠ a) (s : State) : (takenOut a s).station b = s.station b := by
  simp only [takenOut]
  split
  · rw [writeSlot, updateStation_station, if_neg h, station_congr (updateArm_stations ..)]
  · exact station_congr (updateArm_stations ..) b

theorem takenOut_slot (a : ArmId) (s : State) : ((takenOut a s).station a).slot =
    if (s.arm a).commanded ≠ none ∧ armInPosition (s.arm a) = false then some .halt else (s.station a).slot := by
  have hiff : ((s.arm a).commanded.isSome && !armInPosition (s.arm a)) = true ↔
      (s.arm a).commanded ≠ none ∧ armInPosition (s.arm a) = false := by simp [Option.isSome_iff_ne_none]
  simp only [takenOut, hiff]
  split
  · rw [writeSlot, updateStation_station, if_pos rfl]
  · rw [station_congr (updateArm_stations ..)]

theorem Arm.timers_stopped {r : Arm} (htravel : r.travelTimer = none) (hdwell : r.retryDwell = none) :
    { r with travelTimer := none, retryDwell := none } = r := by
  obtain ⟨inService, commanded, acknowledged, reportedSince, reported, angle, lost, retryCount, retryDwell, travelTimer, latches⟩ := r
  obtain rfl : travelTimer = none := htravel
  obtain rfl : retryDwell = none := hdwell
  rfl

/-- The groups evaluated have nothing to do with an arm that is out of service. -/
theorem evaluateGroups_uninvolved (hin : (s.arm a).inService = false) (htravel : (s.arm a).travelTimer = none)
    (hdwell : (s.arm a).retryDwell = none) (q : Bool) :
    (evaluateGroups q s).arm a = s.arm a ∧ (evaluateGroups q s).station a = s.station a := by
  have hheld (cause : HeldCause) (heldIn : ClosureState) :
      (holdWith cause heldIn s).arm a = s.arm a ∧ (holdWith cause heldIn s).station a = s.station a := by
    rw [holdWith_arm, station_congr (holdWith_frame cause heldIn s .stations (by decide))]
    exact ⟨Arm.timers_stopped htravel hdwell, rfl⟩
  have hhold (cause : HeldCause) : (holdClosure cause s).arm a = s.arm a ∧ (holdClosure cause s).station a = s.station a := by
    unfold holdClosure
    split
    · exact hheld _ _
    · exact ⟨rfl, rfl⟩
  have hset (st : ClosureState) (u : State) (h : u.arms = s.arms ∧ u.stations = s.stations) :
      (setClosureState q st u).arm a = s.arm a ∧ (setClosureState q st u).station a = s.station a :=
    ⟨arm_congr ((setClosureState_arms ..).trans h.1) a, station_congr ((setClosureState_stations ..).trans h.2) a⟩
  by_cases h : awaitsGroups s.closure.state
  · rcases h with h | h | h | h
    · rw [evaluateGroups_entryLowering h]
      split_ifs
      · exact hhold _
      · exact hset .spanClearing (restartClearDwell s) ⟨rfl, rfl⟩
      · exact ⟨rfl, rfl⟩
    · rw [evaluateGroups_spanClearing h]
      split_ifs
      · exact hhold _
      · unfold enterExitLowering
        split
        · have harm := commandEach_arm (mayCommand_down (setClosureState q .exitLowering s)) exitArms a
          have hstation := commandEach_station (mayCommand_down (setClosureState q .exitLowering s)) exitArms a
          obtain ⟨hsarm, hsstation⟩ := hset .exitLowering s ⟨rfl, rfl⟩
          rw [hsarm, if_neg (by simp [hin])] at harm hstation
          exact ⟨harm, hstation.trans hsstation⟩
        · exact hheld _ _
      · exact ⟨rfl, rfl⟩
    · rw [evaluateGroups_exitLowering h]
      split_ifs
      · exact hhold _
      · exact hhold _
      · have hclosed : (enterRoadClosed q s).arms = s.arms ∧ (enterRoadClosed q s).stations = s.stations := by
          simp only [enterRoadClosed]
          split
          · exact ⟨setClosureState_arms .., setClosureState_stations ..⟩
          · have hframe := (reports_roadClosedReport ((setClosureState q .roadClosed s).withClosure
              { (setClosureState q .roadClosed s).closure with closeReported := true })).frame
            exact ⟨(hframe .arms (by decide)).trans (setClosureState_arms ..), (hframe .stations (by decide)).trans (setClosureState_stations ..)⟩
        exact ⟨arm_congr hclosed.1 a, station_congr hclosed.2 a⟩
      · exact ⟨rfl, rfl⟩
    · rw [evaluateGroups_roadReopening h]
      exact ⟨arm_congr (by simp) a, station_congr (by simp) a⟩
  · rw [evaluateGroups_other h]
    exact ⟨rfl, rfl⟩

/-- ARM SERVICE taken in hand, and the arm's records as it is taken OUT. -/
def outTaken (a : ArmId) (s : State) : State := takenOut a (takenIn .control 0x32#8 s)

theorem outTaken_frame (a : ArmId) (s : State) : unchangedBut [.controlPort, .arms, .stations, .sup] s (outTaken a s) :=
  unchangedBut_trans (unchangedBut_mono (by simp [portPart]) (takenIn_frame .control 0x32#8 s))
    (unchangedBut_mono (by simp) (takenOut_frame a _))

theorem outTaken_arms (a : ArmId) (s : State) : (outTaken a s).arms = s.arms.set (armIndex a) (outArm (s.arm a)) := by
  rw [outTaken, takenOut_arms, takenIn_arms, arm_congr (takenIn_arms ..)]

theorem outTaken_arm (a : ArmId) (s : State) (b : ArmId) : (outTaken a s).arm b = if b = a then outArm (s.arm a) else s.arm b := by
  rw [outTaken, takenOut_arm, arm_congr (takenIn_arms ..), arm_congr (takenIn_arms ..)]

theorem outTaken_station_ne (h : b ≠ a) (s : State) : (outTaken a s).station b = s.station b := by
  rw [outTaken, takenOut_station_ne h, station_congr (takenIn_stations ..)]

theorem outTaken_slot (a : ArmId) (s : State) : ((outTaken a s).station a).slot =
    if (s.arm a).commanded ≠ none ∧ armInPosition (s.arm a) = false then some .halt else (s.station a).slot := by
  rw [outTaken, takenOut_slot, arm_congr (takenIn_arms ..), station_congr (takenIn_stations ..)]

theorem outTaken_sup (a : ArmId) (s : State) : (outTaken a s).sup = framedSup .control s :=
  (takenOut_frame a _ .sup (by decide)).trans (takenIn_sup .control 0x32#8 s)

theorem outTaken_links (a : ArmId) (s : State) : (outTaken a s).links = (takenIn .control 0x32#8 s).links :=
  congrArg₂ PerLink.mk (takenOut_frame a _ .controlPort (by decide)) (takenOut_frame a _ .harbourPort (by decide))

theorem takeArmService_out {n : Byte} (hm : s.sup.mode = .attended) (ha : armOf n = some a) :
    takeArmService [n, 0#8] s = accept [] (armOut a s) := by
  simp [takeArmService, attended, hm, ha]

theorem takeArmService_in {n : Byte} (hm : s.sup.mode = .attended) (ha : armOf n = some a) :
    takeArmService [n, 1#8] s = accept [] (armIn a s) := by
  simp [takeArmService, attended, hm, ha]

theorem exec_armOut {n : Byte} (hr : readyFor .control s) (hm : s.sup.mode = .attended) (ha : armOf n = some a)
    (hin : (s.arm a).inService = true) (hu : (if s.closure.state = .roadClosed then setDegraded (outTaken a s)
      else evaluateGroups true (outTaken a s)) = u) :
    exec (.armService .control [n, 0#8]) s = .next (putReply .control 0x32#8 .ok [] u)
      ∧ answered .control 0x32#8 .ok [] s (putReply .control 0x32#8 .ok [] u) := by
  have hclosure : (takenOut a (takenIn .control 0x32#8 s)).closure = s.closure := outTaken_frame a s .closure (by decide)
  have hin' : ((takenIn .control 0x32#8 s).arm a).inService = true := by rw [arm_congr (takenIn_arms ..)]; exact hin
  refine exec_accepted (c := .armService .control [n, 0#8]) rfl rfl (by decide) hr rfl ?_
  change takeArmService [n, 0#8] _ = _
  rw [takeArmService_out (by simpa using hm) ha, armOut_eq hin', hclosure, ← hu]
  rfl

/-- Past its records, an arm taken OUT leaves each other arm and station where the groups stand (R125). -/
theorem out_others (harms : u.arms = (outTaken a s).arms) (hstations : u.stations = (outTaken a s).stations) (x : ArmId) (hx : x ≠ a) :
    (putReply .control 0x32#8 .ok [] u).arm x = s.arm x ∧ (putReply .control 0x32#8 .ok [] u).station x = s.station x := by
  rw [arm_congr (putReply_arms ..), station_congr (putReply_stations ..), arm_congr harms, station_congr hstations, outTaken_arm, if_neg hx,
    outTaken_station_ne hx]
  exact ⟨rfl, rfl⟩

/-- An arm taken OUT with no group awaited (R125). -/
theorem armOut_idle {n : Byte} (hr : readyFor .control s) (hm : s.sup.mode = .attended) (ha : armOf n = some a)
    (hin : (s.arm a).inService = true) (hst : s.closure.state = .roadUncertain ∨ s.closure.state = .roadOpen
      ∨ s.closure.state = .prewarnAmber ∨ s.closure.state = .prewarnRed ∨ s.closure.state = .roadClosed
      ∨ s.closure.state = .closureHeld) : ∃ t, exec (.armService .control [n, 0#8]) s = .next t
        ∧ answered .control 0x32#8 .ok [] s t ∧ t.arm a = outArm (s.arm a)
        ∧ (∀ x, x ≠ a → t.arm x = s.arm x ∧ t.station x = s.station x)
        ∧ (t.station a).slot = (if (s.arm a).commanded ≠ none ∧ armInPosition (s.arm a) = false then some .halt
            else (s.station a).slot)
        ∧ t.closure = { s.closure with degraded := s.closure.degraded || s.closure.state == .roadClosed }
        ∧ unchangedBut [.controlPort, .closure, .arms, .stations, .sup] s t ∧ t.sup = framedSup .control s := by
  let y := outTaken a s
  have hframe : unchangedBut [.controlPort, .arms, .stations, .sup] s y := outTaken_frame a s
  have hclosure : y.closure = s.closure := hframe .closure (by decide)
  obtain ⟨u, hu, hc, hframeu⟩ : ∃ u, (if s.closure.state = .roadClosed then setDegraded y else evaluateGroups true y) = u
      ∧ u.closure = { s.closure with degraded := s.closure.degraded || s.closure.state == .roadClosed }
      ∧ unchangedBut [.controlPort, .closure] y u := by
    refine ⟨_, rfl, ?_⟩
    by_cases hclosed : s.closure.state = .roadClosed
    · rw [if_pos hclosed]
      exact ⟨by rw [setDegraded_closure, hclosure]; simp [hclosed], setDegraded_frame y⟩
    · have hrest : evaluateGroups true y = y := evaluateGroups_other (by
        rw [hclosure]
        rcases hst with h | h | h | h | h | h <;> simp [awaitsGroups, h]) true
      rw [if_neg hclosed, hrest, hclosure]
      refine ⟨?_, unchangedBut_refl _ _⟩
      have hne : (s.closure.state == .roadClosed) = false := by simpa using hclosed
      rw [hne, Bool.or_false]
  have harms : u.arms = y.arms := hframeu .arms (by decide)
  have hstations : u.stations = y.stations := hframeu .stations (by decide)
  obtain ⟨hexec, hanswered⟩ := exec_armOut hr hm ha hin hu
  refine ⟨_, hexec, hanswered, ?_, out_others harms hstations, ?_, by rw [putReply_closure, hc], ?_, ?_⟩
  · rw [arm_congr (putReply_arms ..), arm_congr harms]
    exact (outTaken_arm a s a).trans (if_pos rfl)
  · rw [station_congr (putReply_stations ..), station_congr hstations]
    exact outTaken_slot a s
  · exact unchangedBut_trans (unchangedBut_mono (by simp) hframe) (unchangedBut_trans (unchangedBut_mono (by simp) hframeu)
      (unchangedBut_mono (by simp [portPart]) (putReply_port .control _ _ _ u)))
  · rw [putReply_sup, hframeu .sup (by decide)]
    exact outTaken_sup a s

/-! ## An arm taken OUT while its group is awaited (R117 to R119, R121, R125) -/

/-- The evaluation moves the closure on without a hold. -/
theorem out_moves (hr : readyFor .control s) (hlinks : u.links = (outTaken a s).links) (hsup : u.sup = (outTaken a s).sup) {changed : List Part}
    (hframe : unchangedBut changed (outTaken a s) u) (hmem : Part.arms ∈ changed ∧ Part.stations ∈ changed) :
    onlyAnswered .control 0x32#8 .ok [] changed s (putReply .control 0x32#8 .ok [] u) :=
  onlyAnswered_putReply hr (hlinks.trans (outTaken_links a s)) (hsup.trans (takenOut_frame a _ .sup (by decide)))
    (unchangedBut_trans (unchangedBut_mono (by simp [hmem.1, hmem.2]) (takenOut_frame a _)) hframe)

/-- The groups stand. -/
theorem out_stays (hr : readyFor .control s) (h : evaluateGroups true (outTaken a s) = outTaken a s) :
    let t := putReply .control 0x32#8 .ok [] (evaluateGroups true (outTaken a s))
    t.closure = s.closure ∧ (∀ x, x ≠ a → t.arm x = s.arm x ∧ t.station x = s.station x)
      ∧ onlyAnswered .control 0x32#8 .ok [] [.arms, .stations] s t := by
  rw [h]
  exact ⟨(putReply_closure ..).trans (outTaken_frame a s .closure (by decide)), out_others rfl rfl,
    out_moves hr rfl rfl (unchangedBut_refl _ _) (by simp)⟩

/-- An approach left without an arm holds the closure (R117, R119). -/
theorem out_holds (h : evaluateGroups true (outTaken a s) = holdWith cause st (outTaken a s)) (hne : s.closure.state ≠ .closureHeld) :
    heldNow cause st s (putReply .control 0x32#8 .ok [] (evaluateGroups true (outTaken a s))) := by
  have hclosure : (outTaken a s).closure = s.closure := outTaken_frame a s .closure (by decide)
  rw [h]
  exact heldNow_putReply ((heldNow_congr hclosure).mp (holdWith_held (by rw [hclosure]; exact hne)))

/-- The last entry arm that was awaited goes: SPAN_CLEARING (R117). -/
theorem out_clears (hr : readyFor .control s) (hst : s.closure.state = .entryLowering)
    (h : evaluateGroups true (outTaken a s) = enterSpanClearing true (outTaken a s)) :
    let t := putReply .control 0x32#8 .ok [] (evaluateGroups true (outTaken a s))
    t.closure = { s.closure with
        state := .spanClearing, confirmation := false
        clearDwell := if anyOccupied s = true then .stopped else .running (s.conf.clearDwell * 1000) }
      ∧ (∀ x, x ≠ a → t.arm x = s.arm x ∧ t.station x = s.station x)
      ∧ onlyAnswered .control 0x32#8 .ok [] [.closure, .arms, .stations, .lamp, .display] s t := by
  let y := outTaken a s
  have hframe : unchangedBut [.controlPort, .arms, .stations, .sup] s y := outTaken_frame a s
  have hclosure : y.closure = s.closure := hframe .closure (by decide)
  have hzones : anyOccupied y = anyOccupied s := by simp only [anyOccupied, show y.zones = s.zones from hframe .zones (by decide)]
  have hconf : y.conf = s.conf := congrArg (Option.getD · Configured.blank) (hframe .cfg (by decide))
  obtain ⟨hc, _, hlinks, hframe'⟩ := enterSpanClearing_entered (s := y) (by rw [hclosure]; exact hst) true
  rw [setClosureState_quiet_links] at hlinks
  rw [hclosure, hzones, hconf] at hc
  rw [h]
  refine ⟨(putReply_closure ..).trans hc, out_others (hframe' .arms (by decide)) (hframe' .stations (by decide)),
    out_moves hr hlinks (hframe' .sup (by decide)) (fun p hp => ?_) (by simp)⟩
  by_cases hport : p = .controlPort
  · subst hport
    exact congrArg PerLink.control hlinks
  · exact hframe' p (by simp_all)

/-- The last entry arm that was awaited goes where the span is proved clear: EXIT_LOWERING (R118, R119). -/
theorem out_lowers (hr : readyFor .control s) (hst : s.closure.state = .spanClearing)
    (h : evaluateGroups true (outTaken a s) = commandEach .down exitArms (setClosureState true .exitLowering (outTaken a s))) :
    let t := putReply .control 0x32#8 .ok [] (evaluateGroups true (outTaken a s))
    t.closure = { s.closure with state := .exitLowering }
      ∧ (∀ x, x ≠ a → if isEntryArm x = false ∧ (s.arm x).inService = true then commandedNow .down x t
          else t.arm x = s.arm x ∧ t.station x = s.station x)
      ∧ onlyAnswered .control 0x32#8 .ok [] [.closure, .arms, .stations, .lamp, .display] s t := by
  intro t
  let y := outTaken a s
  let u := commandEach .down exitArms (setClosureState true .exitLowering y)
  have ht : t = putReply .control 0x32#8 .ok [] u := congrArg (putReply .control 0x32#8 .ok []) h
  have hclosure : y.closure = s.closure := outTaken_frame a s .closure (by decide)
  have hheld : (y.closure.state = .closureHeld) ↔ (ClosureState.exitLowering = .closureHeld) := by rw [hclosure, hst]; decide
  have hlinks : u.links = y.links := (commandEach_links ..).trans (setClosureState_quiet_links ..)
  have hframe : unchangedBut [.closure, .arms, .stations, .lamp, .display] y u := loweringEntered_quiet_frame exitArms hheld
  have honly : commandedOnly .down exitArms y u := commandedOnly_entered .exitLowering true exitArms y
  rw [ht]
  refine ⟨?_, fun x hx => ?_, out_moves hr hlinks (hframe .sup (by decide)) hframe (by simp)⟩
  · rw [putReply_closure, commandEach_closure, setClosureState_closure, hclosure]
  · have hexit : x ∈ exitArms ↔ isEntryArm x = false := by cases x <;> decide
    have hx' := honly x
    rw [commandedNow_congr (arm_congr (putReply_arms ..) x) (station_congr (putReply_stations ..) x), arm_congr (putReply_arms ..),
      station_congr (putReply_stations ..)]
    have harm : y.arm x = s.arm x := (outTaken_arm a s x).trans (if_neg hx)
    have hstation : y.station x = s.station x := outTaken_station_ne hx s
    rw [harm, hstation] at hx'
    simpa only [hexit] using hx'

/-- The last arm that was awaited goes: ROAD_CLOSED (R119). -/
theorem out_closes (hst : s.closure.state = .exitLowering) (hreport : s.closure.closeReported = false)
    (h : evaluateGroups true (outTaken a s) = enterRoadClosed true (outTaken a s)) :
    let t := putReply .control 0x32#8 .ok [] (evaluateGroups true (outTaken a s))
    t.closure = { s.closure with state := .roadClosed, closeReported := true }
      ∧ (∀ x, x ≠ a → t.arm x = s.arm x ∧ t.station x = s.station x) ∧ roadClosedTaken s t := by
  have hframe := outTaken_frame a s
  have hclosure : (outTaken a s).closure = s.closure := hframe .closure (by decide)
  obtain ⟨hc, harms, _, _, htaken, hframe'⟩ := enterRoadClosed_taken (s := outTaken a s) (by rw [hclosure]; exact hst)
    (by rw [hclosure]; exact hreport) true
  rw [hclosure] at hc
  rw [h]
  refine ⟨(putReply_closure ..).trans hc, out_others harms (hframe' .stations (by decide)), roadClosedTaken_putReply ?_⟩
  exact roadClosedTaken_of_parts (congrArg Sequencer.opening (hframe .seq (by decide))) (hframe .leaf (by decide))
    ((congrArg Supervisor.mode (outTaken_sup a s)).trans rfl) htaken

/-- The last arm that was awaited UP goes: ROAD_OPEN (R121). -/
theorem out_opens (hst : s.closure.state = .roadReopening) (harms : armsAt .up ringOrder (outTaken a s) = true) :
    let t := putReply .control 0x32#8 .ok [] (evaluateGroups true (outTaken a s))
    roadOpened s t ∧ ∀ x, x ≠ a → t.arm x = s.arm x ∧ t.station x = s.station x := by
  have hframe := outTaken_frame a s
  have hclosure : (outTaken a s).closure = s.closure := hframe .closure (by decide)
  have hst' : (outTaken a s).closure.state = .roadReopening := by rw [hclosure]; exact hst
  obtain ⟨hopened, harms', _, hframe'⟩ := finishReopening_opened hst' harms true
  rw [evaluateGroups_roadReopening hst']
  exact ⟨roadOpened_putReply (roadOpened_of_parts hclosure (hframe .seq (by decide)) hopened),
    out_others harms' (hframe' .stations (by decide))⟩

/-- An arm taken OUT while its group is awaited: its own records, whatever the groups then do (R125). -/
theorem armOut_awaited {n : Byte} (hr : readyFor .control s) (hm : s.sup.mode = .attended) (ha : armOf n = some a)
    (hin : (s.arm a).inService = true) (hne : s.closure.state ≠ .roadClosed) :
    let t := putReply .control 0x32#8 .ok [] (evaluateGroups true (outTaken a s))
    exec (.armService .control [n, 0#8]) s = .next t ∧ answered .control 0x32#8 .ok [] s t ∧ t.arm a = outArm (s.arm a)
      ∧ (t.station a).slot = (if (s.arm a).commanded ≠ none ∧ armInPosition (s.arm a) = false then some .halt
          else (s.station a).slot) := by
  intro t
  obtain ⟨hexec, hanswered⟩ := exec_armOut hr hm ha hin (if_neg hne)
  have hout : (outTaken a s).arm a = outArm (s.arm a) := (outTaken_arm a s a).trans (if_pos rfl)
  obtain ⟨harm, hstation⟩ := evaluateGroups_uninvolved (a := a) (s := outTaken a s) (by rw [hout]; rfl) (by rw [hout]; rfl)
    (by rw [hout]; rfl) true
  refine ⟨hexec, hanswered, ?_, ?_⟩
  · rw [arm_congr (putReply_arms ..), harm, hout]
  · rw [station_congr (putReply_stations ..), hstation, outTaken_slot]

theorem armOut_groups {n : Byte} (hr : readyFor .control s) (hm : s.sup.mode = .attended) (ha : armOf n = some a)
    (hin : (s.arm a).inService = true) (hst : s.closure.state = .entryLowering ∨ s.closure.state = .spanClearing
      ∨ s.closure.state = .exitLowering ∨ s.closure.state = .roadReopening) :
    ∃ t, exec (.armService .control [n, 0#8]) s = .next t
      ∧ answered .control 0x32#8 .ok [] s t ∧ t.arm a = outArm (s.arm a)
      ∧ (t.station a).slot = (if (s.arm a).commanded ≠ none ∧ armInPosition (s.arm a) = false then some .halt
          else (s.station a).slot)
      ∧ let w : State := { s with arms := s.arms.set (armIndex a) (outArm (s.arm a)) }
        let others (t : State) : Prop := ∀ x, x ≠ a → t.arm x = s.arm x ∧ t.station x = s.station x
        let stays : Prop := t.closure = s.closure ∧ others t
          ∧ onlyAnswered .control 0x32#8 .ok [] [.arms, .stations] s t
        let moves : Prop := onlyAnswered .control 0x32#8 .ok [] [.closure, .arms, .stations, .lamp, .display] s t
        (s.closure.state ≠ .roadReopening → hasEntryArms w = false →
          (s.closure.state = .exitLowering → hasExitArms w = true) → heldNow .noEntryArm s.closure.state s t)
        ∧ (s.closure.state = .entryLowering → hasEntryArms w = true →
          (armsAt .down entryArms w = false → stays)
          ∧ (armsAt .down entryArms w = true → t.closure = { s.closure with
              state := .spanClearing, confirmation := false
              clearDwell := if anyOccupied s = true then .stopped else .running (s.conf.clearDwell * 1000) }
            ∧ others t ∧ moves))
        ∧ (s.closure.state = .spanClearing → hasEntryArms w = true →
          let proved : Prop := s.closure.clearDwell = .complete
            ∧ (s.closure.confirmation = true ∨ s.conf.confirmationRequired = false) ∧ armsAt .down entryArms w = true
          (¬proved → stays)
          ∧ (proved → hasExitArms w = true → t.closure = { s.closure with state := .exitLowering }
            ∧ (∀ x, x ≠ a → if isEntryArm x = false ∧ (s.arm x).inService = true then commandedNow .down x t
                else t.arm x = s.arm x ∧ t.station x = s.station x)
            ∧ moves)
          ∧ (proved → hasExitArms w = false → heldNow .noExitArm .exitLowering s t))
        ∧ (s.closure.state = .exitLowering → hasEntryArms w = true →
          (hasExitArms w = false → heldNow .noExitArm .exitLowering s t)
          ∧ (hasExitArms w = true → armsAt .down ringOrder w = false → stays)
          ∧ (hasExitArms w = true → armsAt .down ringOrder w = true → s.closure.closeReported = false →
            t.closure = { s.closure with state := .roadClosed, closeReported := true } ∧ others t
            ∧ roadClosedTaken s t))
        ∧ (s.closure.state = .roadReopening → (armsAt .up ringOrder w = false → stays)
          ∧ (armsAt .up ringOrder w = true → roadOpened s t ∧ others t)) := by
  have hne : s.closure.state ≠ .roadClosed ∧ s.closure.state ≠ .closureHeld := by rcases hst with h | h | h | h <;> rw [h] <;> decide
  obtain ⟨hexec, hanswered, harm, hslot⟩ := armOut_awaited hr hm ha hin hne.1
  refine ⟨_, hexec, hanswered, harm, hslot, ?_⟩
  intro w others stays moves
  let y := outTaken a s
  have hclosure : y.closure = s.closure := outTaken_frame a s .closure (by decide)
  have hconf : y.conf = s.conf := congrArg (Option.getD · Configured.blank) (outTaken_frame a s .cfg (by decide))
  have harms : y.arms = w.arms := outTaken_arms a s
  have hentry : hasEntryArms y = hasEntryArms w := hasEntryArms_congr harms
  have hexit : hasExitArms y = hasExitArms w := hasExitArms_congr harms
  have hat (p : ArmPosition) (arms : List ArmId) : armsAt p arms y = armsAt p arms w := armsAt_congr harms p arms
  refine ⟨fun hopen hnone hone => out_holds ?_ hne.2, fun hst hsome => ⟨fun hdown => out_stays hr ?_, fun hdown => out_clears hr hst ?_⟩,
    fun hst hsome => ?span, fun hst hsome => ⟨fun hnone => out_holds ?_ hne.2, fun hone hdown => out_stays hr ?_,
      fun hone hdown hreport => out_closes hst hreport ?_⟩,
    fun hst => ⟨fun hup => out_stays hr ?_, fun hup => out_opens hst ((hat ..).trans hup)⟩⟩
  · have hhold : holdClosure .noEntryArm y = holdWith .noEntryArm s.closure.state y := by
      rw [holdClosure_held (by rw [hclosure]; rcases hst with h | h | h | h <;> rw [h] <;> rfl), hclosure]
    rw [← hhold]
    rcases hst with h | h | h | h
    · rw [evaluateGroups_entryLowering (hclosure ▸ h), hentry, hnone]; rfl
    · rw [evaluateGroups_spanClearing (hclosure ▸ h), hentry, hnone]; rfl
    · rw [evaluateGroups_exitLowering (hclosure ▸ h), hentry, hnone]; rfl
    · exact absurd h hopen
  · rw [evaluateGroups_entryLowering (hclosure ▸ hst), hentry, hsome, hat, hdown]; rfl
  · rw [evaluateGroups_entryLowering (hclosure ▸ hst), hentry, hsome, hat, hdown]; rfl
  case span =>
    intro proved
    have hproved : spanProvedClear y = true ↔ proved := by rw [spanProvedClear_iff, hclosure, hconf, hat]
    have hst' : y.closure.state = .spanClearing := hclosure ▸ hst
    refine ⟨fun hnot => out_stays hr ?_, fun hp hone => out_lowers hr hst ?_, fun hp hnone => out_holds ?_ hne.2⟩
    · exact evaluateGroups_unproved hst' (hentry.trans hsome) (Bool.eq_false_iff.mpr fun h => hnot (hproved.mp h)) true
    · exact evaluateGroups_proved hst' (hentry.trans hsome) (hexit.trans hone) (hproved.mpr hp) true
    · rw [evaluateGroups_spanClearing hst', hentry, hsome, if_neg (by simp), if_pos (hproved.mpr hp)]
      exact enterExitLowering_holds (hexit.trans hnone) true
  · have hhold : holdClosure .noExitArm y = holdWith .noExitArm .exitLowering y := by
      rw [holdClosure_held (by rw [hclosure, hst]; rfl), hclosure, hst]
    rw [← hhold, evaluateGroups_exitLowering (hclosure ▸ hst), hentry, hsome, hexit, hnone]; rfl
  · rw [evaluateGroups_exitLowering (hclosure ▸ hst), hentry, hsome, hexit, hone, hat, hdown]; rfl
  · rw [evaluateGroups_exitLowering (hclosure ▸ hst), hentry, hsome, hexit, hone, hat, hdown]; rfl
  · rw [evaluateGroups_roadReopening (hclosure ▸ hst), finishReopening, if_neg (by rw [hat, hup]; simp)]

/-! ## An arm brought IN (R125) -/

/-- The position that an arm brought IN has been commanded to, if its group has been. -/
theorem serviceCommand_down (h : s.closure.state = .exitLowering ∨ s.closure.state = .roadClosed
    ∨ ((s.closure.state = .entryLowering ∨ s.closure.state = .spanClearing) ∧ isEntryArm a = true)) :
    serviceCommand s.closure.state (isEntryArm a) = some .down := by
  rcases h with h | h | ⟨h | h, he⟩ <;> simp [serviceCommand, *]

theorem serviceCommand_none (h : s.closure.state = .roadOpen ∨ s.closure.state = .roadUncertain ∨ s.closure.state = .prewarnAmber
    ∨ s.closure.state = .prewarnRed ∨ s.closure.state = .closureHeld
    ∨ ((s.closure.state = .entryLowering ∨ s.closure.state = .spanClearing) ∧ isEntryArm a = false)) :
    serviceCommand s.closure.state (isEntryArm a) = none := by
  rcases h with h | h | h | h | h | ⟨h | h, he⟩ <;> simp [serviceCommand, *]

/-- An arm's record as it is brought IN, before any command. -/
def inArm (r : Arm) : Arm := { r with inService := true, retryCount := 0 }

/-- What an arm brought IN is commanded to, where it is. -/
def broughtIn (a : ArmId) (s : State) : State :=
  match serviceCommand s.closure.state (isEntryArm a) with
  | some p => commandArm p a (updateArm a inArm s)
  | none => updateArm a inArm s

theorem armIn_eq (h : (s.arm a).inService = false) : armIn a s = broughtIn a s := if_neg (by simp [h])

theorem commandArm_now (h : mayCommand p s) (a : ArmId) : commandedNow p a (commandArm p a s) := by
  have harm := commandArm_arm h a a
  rw [if_pos rfl] at harm
  refine ⟨?_, ?_, ?_, commandArm_slot h a⟩ <;> rw [harm] <;> rfl

/-- A command keeps the arm's service and its retry count, and every other arm's records (R109). -/
theorem commandArm_service (p : ArmPosition) (a : ArmId) (s : State) :
    ((commandArm p a s).arm a).inService = (s.arm a).inService ∧ ((commandArm p a s).arm a).retryCount = (s.arm a).retryCount
      ∧ ∀ b, b ≠ a → (commandArm p a s).arm b = s.arm b ∧ (commandArm p a s).station b = s.station b := by
  by_cases h : mayCommand p s
  · have harm := commandArm_arm h a
    refine ⟨?_, ?_, fun b hb => ⟨(harm b).trans (if_neg hb), commandArm_station_ne h hb⟩⟩ <;> rw [harm a, if_pos rfl] <;> rfl
  · obtain ⟨rfl, hnot⟩ : p = .up ∧ raiseAllowed s = false := by simpa [mayCommand] using h
    rw [commandArm_of_not_allowed hnot]
    exact ⟨rfl, rfl, fun _ _ => ⟨rfl, rfl⟩⟩

theorem broughtIn_frame (a : ArmId) (s : State) : unchangedBut [.arms, .stations] s (broughtIn a s) := by
  have hframe : unchangedBut [.arms, .stations] s (updateArm a inArm s) := unchangedBut_mono (by simp) (updateArm_frame a inArm s)
  unfold broughtIn
  split
  · exact unchangedBut_trans hframe (commandArm_frame _ a _)
  · exact hframe

theorem inArm_updated (a : ArmId) (s : State) (b : ArmId) :
    (updateArm a inArm s).arm b = (if b = a then inArm (s.arm a) else s.arm b) ∧ (updateArm a inArm s).station b = s.station b :=
  ⟨updateArm_arm _ _ _ _, station_congr (updateArm_stations ..) b⟩

theorem broughtIn_fields (a : ArmId) (s : State) : ((broughtIn a s).arm a).inService = true ∧ ((broughtIn a s).arm a).retryCount = 0
    ∧ ∀ b, b ≠ a → (broughtIn a s).arm b = s.arm b ∧ (broughtIn a s).station b = s.station b := by
  have hown := (inArm_updated a s a).1
  rw [if_pos rfl] at hown
  have hother (b : ArmId) (hb : b ≠ a) : (updateArm a inArm s).arm b = s.arm b ∧ (updateArm a inArm s).station b = s.station b := by
    obtain ⟨harm, hstation⟩ := inArm_updated a s b
    exact ⟨harm.trans (if_neg hb), hstation⟩
  unfold broughtIn
  split
  next p _ =>
    obtain ⟨hservice, hcount, hothers⟩ := commandArm_service p a (updateArm a inArm s)
    rw [hown] at hservice hcount
    refine ⟨hservice, hcount, fun b hb => ?_⟩
    obtain ⟨harm, hstation⟩ := hothers b hb
    obtain ⟨harm', hstation'⟩ := hother b hb
    exact ⟨harm.trans harm', hstation.trans hstation'⟩
  next =>
    rw [hown]
    exact ⟨rfl, rfl, hother⟩

theorem broughtIn_commanded (h : serviceCommand s.closure.state (isEntryArm a) = some p) (hmay : mayCommand p s) :
    commandedNow p a (broughtIn a s) := by
  simp only [broughtIn, h]
  exact commandArm_now ((mayCommand_congr (updateArm_leaf ..)).mpr hmay) a

theorem broughtIn_uncommanded (h : serviceCommand s.closure.state (isEntryArm a) = none) :
    (broughtIn a s).arm a = inArm (s.arm a) ∧ (broughtIn a s).station a = s.station a := by
  simp only [broughtIn, h]
  exact ⟨(inArm_updated a s a).1.trans (if_pos rfl), (inArm_updated a s a).2⟩

theorem armIn_brings {n : Byte} (hr : readyFor .control s) (hm : s.sup.mode = .attended) (ha : armOf n = some a)
    (hin : (s.arm a).inService = false) : ∃ t, exec (.armService .control [n, 1#8]) s = .next t
      ∧ (∀ x, x ≠ a → t.arm x = s.arm x ∧ t.station x = s.station x)
      ∧ onlyAnswered .control 0x32#8 .ok [] [.arms, .stations] s t
      ∧ (t.arm a).inService = true ∧ (t.arm a).retryCount = 0
      ∧ ((s.closure.state = .exitLowering ∨ s.closure.state = .roadClosed
          ∨ ((s.closure.state = .entryLowering ∨ s.closure.state = .spanClearing) ∧ isEntryArm a = true)) →
        commandedNow .down a t)
      ∧ (s.closure.state = .roadReopening → s.leaf.group.state = .stowed → commandedNow .up a t)
      ∧ ((s.closure.state = .roadOpen ∨ s.closure.state = .roadUncertain ∨ s.closure.state = .prewarnAmber
          ∨ s.closure.state = .prewarnRed ∨ s.closure.state = .closureHeld
          ∨ ((s.closure.state = .entryLowering ∨ s.closure.state = .spanClearing) ∧ isEntryArm a = false)) →
        t.arm a = inArm (s.arm a) ∧ t.station a = s.station a) := by
  let w := takenIn .control 0x32#8 s
  let u := broughtIn a w
  have hclosure : w.closure = s.closure := takenIn_closure ..
  have hleaf : w.leaf = s.leaf := takenIn_leaf ..
  have htake : takeArmService [n, 1#8] w = accept [] u := by
    rw [takeArmService_in (by simpa [w] using hm) ha, armIn_eq (by rw [arm_congr (takenIn_arms ..)]; exact hin)]
  have hframe : unchangedBut [.arms, .stations] w u := broughtIn_frame a w
  obtain ⟨hexec, honly⟩ := exec_only (c := .armService .control [n, 1#8]) rfl rfl hr rfl htake
    (congrArg₂ PerLink.mk (hframe .controlPort (by decide)) (hframe .harbourPort (by decide))) (hframe .sup (by decide)) hframe
  obtain ⟨hservice, hcount, hothers⟩ := broughtIn_fields a w
  let t := putReply .control 0x32#8 .ok [] u
  have harm (b : ArmId) : t.arm b = u.arm b := arm_congr (putReply_arms ..) b
  have hstation (b : ArmId) : t.station b = u.station b := station_congr (putReply_stations ..) b
  have hnow {p : ArmPosition} (h : commandedNow p a u) : commandedNow p a t := (commandedNow_congr (harm a) (hstation a)).mpr h
  refine ⟨t, hexec, fun x hx => ?_, honly, by rw [harm]; exact hservice, by rw [harm]; exact hcount, fun hst => hnow ?_,
    fun hst hstowed => hnow ?_, fun hst => ?_⟩
  · obtain ⟨h1, h2⟩ := hothers x hx
    rw [harm, hstation, h1, h2]
    exact ⟨arm_congr (takenIn_arms ..) x, station_congr (takenIn_stations ..) x⟩
  · exact broughtIn_commanded (serviceCommand_down (by rw [hclosure]; exact hst)) (mayCommand_down w)
  · exact broughtIn_commanded (by rw [hclosure, hst]; rfl) (mayCommand_up (.inl (by rw [hleaf]; exact hstowed)) _)
  · obtain ⟨h1, h2⟩ := broughtIn_uncommanded (serviceCommand_none (s := w) (a := a) (by rw [hclosure]; exact hst))
    rw [harm, hstation, h1, h2]
    exact ⟨congrArg inArm (arm_congr (takenIn_arms ..) a), station_congr (takenIn_stations ..) a⟩

/-- The present setting of an arm changes nothing (R125). -/
theorem armService_present {n setting : Byte} (hr : readyFor .control s)
    (htake : takeArmService [n, setting] (takenIn .control 0x32#8 s) = accept [] (takenIn .control 0x32#8 s)) :
    ∃ t, exec (.armService .control [n, setting]) s = .next t ∧ onlyAnswered .control 0x32#8 .ok [] [] s t := by
  obtain ⟨hexec, honly⟩ := exec_only (c := .armService .control [n, setting]) (changed := []) rfl rfl hr rfl htake rfl rfl
    (unchangedBut_refl _ _)
  exact ⟨_, hexec, honly⟩

theorem armService_out_absent {n : Byte} (hr : readyFor .control s) (hm : s.sup.mode = .attended) (ha : armOf n = some a)
    (hin : (s.arm a).inService = false) : ∃ t, exec (.armService .control [n, 0#8]) s = .next t
      ∧ onlyAnswered .control 0x32#8 .ok [] [] s t := by
  refine armService_present hr ?_
  rw [takeArmService_out (by simpa using hm) ha, armOut, if_neg (by rw [arm_congr (takenIn_arms ..), hin]; simp)]

theorem armService_in_present {n : Byte} (hr : readyFor .control s) (hm : s.sup.mode = .attended) (ha : armOf n = some a)
    (hin : (s.arm a).inService = true) : ∃ t, exec (.armService .control [n, 1#8]) s = .next t
      ∧ onlyAnswered .control 0x32#8 .ok [] [] s t := by
  refine armService_present hr ?_
  rw [takeArmService_in (by simpa using hm) ha, armIn, if_pos (by rw [arm_congr (takenIn_arms ..), hin])]

end Sys2Proof.Machine

/-! CLOSURE RETRY and REOPEN ROAD (the rest of O46). -/

namespace Sys2Proof.Machine

open Sys2Proof

variable {s t u v y : State} {a b : ArmId} {p : ArmPosition} {kind : Byte} {body : List Byte} {cause : HeldCause} {st : ClosureState}
  {k : ArmLatch} {arms : List ArmId}

/-! ## The standing conditions, by what they find (R111) -/

theorem ArmLatches.add_add (l : ArmLatches) (k : ArmLatch) : (l.add k).add k = l.add k := by cases k <;> rfl

theorem latchEach_latched (k : ArmLatch) (arms : List ArmId) (s : State) (b : ArmId) :
    ((arms.foldl (fun t a => latchArm k a t) s).arm b).latches =
      if b ∈ arms then (s.arm b).latches.add k else (s.arm b).latches := by
  induction arms generalizing s with
  | nil => rfl
  | cons a arms ih =>
    rw [List.foldl_cons, ih, latchArm_latched]
    by_cases hb : b = a
    · subst hb
      simp [ArmLatches.add_add]
    · simp [hb]

/-- Every arm found LOST or LOCAL latched, before any hold (R111). -/
def standingLatched (s : State) : State :=
  (localArms s).foldl (fun t a => latchArm .localControl a t) ((lostArms s).foldl (fun t a => latchArm .lost a t) s)

theorem mem_lostArms (s : State) (a : ArmId) : a ∈ lostArms s ↔ (s.arm a).inService = true ∧ (s.arm a).lost = true := by
  simp [lostArms, mem_ringOrder]

theorem mem_localArms (s : State) (a : ArmId) :
    a ∈ localArms s ↔ (s.arm a).inService = true ∧ (s.arm a).reported = .localControl := by
  simp [localArms, mem_ringOrder]

theorem standingLatched_frame (s : State) : unchangedBut [.controlPort, .arms] s (standingLatched s) :=
  unchangedBut_trans (latchEach_fields _ _ _).1 (latchEach_fields _ _ _).1

theorem standingLatched_latches (h : (s.arm b).latches = .none) : ((standingLatched s).arm b).latches = { ArmLatches.none with
    lost := (s.arm b).inService && (s.arm b).lost
    localControl := (s.arm b).inService && (s.arm b).reported == .localControl } := by
  simp only [standingLatched, latchEach_latched, h, mem_lostArms, mem_localArms]
  cases (s.arm b).inService <;> cases (s.arm b).lost <;> cases (s.arm b).reported <;> rfl

theorem countChoice_frame (s : State) : unchangedBut [.freeCount] s (countChoice s) := by
  intro q hq; cases q <;> simp_all [Part.same]

theorem keepsReports_standingCheck (s : State) : KeepsReports (standingLatched s) (standingCheck s) := by
  unfold standingCheck
  simp only
  split
  · exact .refl _
  · exact keepsReports_holdClosure _ _
  · exact keepsReports_holdClosure _ _
  · exact (keepsReports_of_parts (countChoice_arms _) (countChoice_stations _) (by rw [countChoice_links])).trans
      (keepsReports_holdClosure _ _)

/-- One standing condition alone holds the closure with its cause (R111). -/
theorem standingCheck_alone (h : (cause = .armLost ∧ lostArms s ≠ [] ∧ localArms s = [])
    ∨ (cause = .armLocal ∧ lostArms s = [] ∧ localArms s ≠ [])) : standingCheck s = holdClosure cause (standingLatched s) := by
  have hempty {l : List ArmId} (h : l ≠ []) : l.isEmpty = false := by simpa using h
  rcases h with ⟨rfl, hlost, hlocal⟩ | ⟨rfl, hlost, hlocal⟩
  · simp only [standingCheck, standingLatched, hempty hlost, hlocal, List.isEmpty_nil]
  · simp only [standingCheck, standingLatched, hempty hlocal, hlost, List.isEmpty_nil]

/-! ## The held-in state entered again (R124) -/

/-- An arm record after CLOSURE RETRY has cleared its latches and its retry count. -/
def clearedArm (r : Arm) : Arm := { r with latches := .none, retryCount := 0 }

/-- The records of CLOSURE RETRY before the held-in state is entered again. -/
def retryCleared (s : State) : State :=
  (s.withArms (tabMap clearedArm s.arms)).withClosure { s.closure with heldCause := none, heldIn := none }

theorem takeRetry_eq (st : ClosureState) (s : State) :
    takeRetry st s = finishReopening true (standingCheck (reenter st (retryCleared s))) := rfl

theorem retryCleared_arm (s : State) (a : ArmId) : (retryCleared s).arm a = clearedArm (s.arm a) := arms_mapped _ s a

theorem retryCleared_frame (s : State) : unchangedBut [.closure, .arms] s (retryCleared s) :=
  unchangedBut_trans (unchangedBut_mono (by simp) (withArms_frame _ s)) (unchangedBut_mono (by simp) (withClosure_frame _ _))

theorem retryCleared_faults (h : noStandingFault s) : noStandingFault (retryCleared s) :=
  noStandingFault_of_arms h fun a => by rw [retryCleared_arm]; exact ⟨rfl, rfl, rfl⟩

/-- The closure as CLOSURE RETRY enters a held-in state again. -/
def retryClosure (st : ClosureState) (s : State) : Closure :=
  let c := { s.closure with state := st, heldCause := none, heldIn := none }
  match st with
  | .prewarnAmber => { c with redSeen := .none, phaseTimer := some (s.conf.amberTime * 1000) }
  | .prewarnRed => { c with redSeen := .none, redTimeExpired := false, phaseTimer := some (s.conf.redMinimum * 1000) }
  | .spanClearing => { c with
      clearDwell := if anyOccupied s then .stopped else .running (s.conf.clearDwell * 1000)
      confirmation := false }
  | .inactive | .roadUncertain | .roadOpen | .entryLowering | .exitLowering | .roadClosed | .roadReopening | .closureHeld => c

/-- The position to which CLOSURE RETRY commands the arms of a held-in state, and which arms. -/
def retryPosition (st : ClosureState) : ArmPosition := if st = .roadReopening then .up else .down

def retryArms : ClosureState → List ArmId
  | .entryLowering | .spanClearing => entryArms
  | .exitLowering | .roadReopening => ringOrder
  | .inactive | .roadUncertain | .roadOpen | .prewarnAmber | .prewarnRed | .roadClosed | .closureHeld => []

/-- The held-in state as it is entered again, its arms still to be commanded. -/
def retryEntered (st : ClosureState) (s : State) : State :=
  (setClosureState true st (retryCleared s)).withClosure (retryClosure st s)

/-- The held-in state entered again without a hold. -/
def retried (st : ClosureState) (s : State) : State := commandEach (retryPosition st) (retryArms st) (retryEntered st s)

theorem withClosure_self (s : State) : s.withClosure s.closure = s := rfl

theorem retryEntered_plain (h : retryClosure st s = { s.closure with state := st, heldCause := none, heldIn := none }) :
    retryEntered st s = setClosureState true st (retryCleared s) := by
  have hclosure : (setClosureState true st (retryCleared s)).closure = retryClosure st s := by
    rw [setClosureState_closure, h]
    rfl
  rw [retryEntered, ← hclosure, withClosure_self]

theorem reenter_eq (hst : st.holdable = true) (hentry : st = .entryLowering → hasEntryArms s = true)
    (hexit : st = .exitLowering → hasExitArms s = true) : reenter st (retryCleared s) = retried st s := by
  have hservice (x : ArmId) : ((setClosureState true st (retryCleared s)).arm x).inService = (s.arm x).inService := by
    rw [entered_arm, retryCleared_arm]; rfl
  have hentry' (h : st = .entryLowering) : hasEntryArms (setClosureState true st (retryCleared s)) = true :=
    (hasEntryArms_of_service hservice).trans (hentry h)
  have hexit' (h : st = .exitLowering) : hasExitArms (setClosureState true st (retryCleared s)) = true :=
    (hasExitArms_of_service hservice).trans (hexit h)
  have hconf : (setClosureState true st (retryCleared s)).conf = s.conf :=
    congrArg (Option.getD · Configured.blank) ((setClosureState_frame true st _ .cfg (by decide)).trans (retryCleared_frame s .cfg (by decide)))
  cases st
  case prewarnAmber => simp only [reenter, retried, retryEntered, retryClosure, setClosureState_closure, hconf]; rfl
  case prewarnRed => simp only [reenter, retried, retryEntered, retryClosure, setClosureState_closure, hconf]; rfl
  case entryLowering =>
    simp only [reenter, if_pos (hentry' rfl), retried, retryEntered_plain (st := .entryLowering) (s := s) rfl]; rfl
  case spanClearing =>
    have hzones : anyOccupied (setClosureState true .spanClearing (retryCleared s)) = anyOccupied s := by
      simp only [anyOccupied, setClosureState_zones, show (retryCleared s).zones = s.zones from rfl]
    simp only [reenter, restartClearDwell, retried, retryEntered, retryClosure, setClosureState_closure, hconf, hzones]; rfl
  case exitLowering =>
    simp only [reenter, if_pos (hexit' rfl), retried, retryEntered_plain (st := .exitLowering) (s := s) rfl]; rfl
  case roadReopening =>
    simp only [reenter, retried, retryEntered_plain (st := .roadReopening) (s := s) rfl]; rfl
  all_goals simp [ClosureState.holdable, ClosureState.closing] at hst

theorem retried_closure (st : ClosureState) (s : State) : (retried st s).closure = retryClosure st s := commandEach_closure ..

theorem retryClosure_state (st : ClosureState) (s : State) : (retryClosure st s).state = st ∧ (retryClosure st s).heldCause = none
    ∧ (retryClosure st s).heldIn = none := by cases st <;> exact ⟨rfl, rfl, rfl⟩

theorem retried_links (st : ClosureState) (s : State) : (retried st s).links = s.links := by
  rw [retried, commandEach_links]
  exact setClosureState_quiet_links st (retryCleared s)

theorem retried_road (st : ClosureState) (s : State) : (retried st s).display.road = roadLightOf st := by simp [retried, retryEntered]

theorem retried_frame (st : ClosureState) (s : State) :
    unchangedBut [.controlPort, .closure, .arms, .stations, .lamp, .display, .sup] s (retried st s) :=
  unchangedBut_trans (unchangedBut_mono (by simp) (retryCleared_frame s)) (unchangedBut_trans
    (unchangedBut_mono (by simp) (setClosureState_frame true st _)) (unchangedBut_trans
      (unchangedBut_mono (by simp) (withClosure_frame _ _)) (unchangedBut_mono (by simp) (commandEach_frame _ _ _))))

theorem setClosureState_released (h : s.closure.state = .closureHeld) (hst : st ≠ .closureHeld) (q : Bool) :
    (setClosureState q st s).sup = { s.sup with closureHeld := false } := by
  have hne : ((ClosureState.closureHeld == .closureHeld) = (st == .closureHeld)) = False := by simpa using hst
  have hfalse : (st == .closureHeld) = false := by simpa using hst
  simp only [setClosureState, h, hfalse]
  cases q <;> simp [handClosureHeld, h, hst]

theorem retried_sup (hheld : s.closure.state = .closureHeld) (hst : st ≠ .closureHeld) :
    (retried st s).sup = { s.sup with closureHeld := false } := by
  rw [retried, commandEach_sup]
  exact setClosureState_released (s := retryCleared s) hheld hst true

theorem retryEntered_arm (st : ClosureState) (s : State) (x : ArmId) : (retryEntered st s).arm x = clearedArm (s.arm x) :=
  (entered_arm true st (retryCleared s) x).trans (retryCleared_arm s x)

theorem retryEntered_station (st : ClosureState) (s : State) (x : ArmId) : (retryEntered st s).station x = s.station x :=
  station_congr (setClosureState_stations ..) x

/-- The arms after the held-in state has been entered again (R124). -/
theorem retried_commanded (h : mayCommand (retryPosition st) s) (x : ArmId) :
    if x ∈ retryArms st ∧ (s.arm x).inService = true then
      commandedNow (retryPosition st) x (retried st s) ∧ ((retried st s).arm x).latches = .none ∧ ((retried st s).arm x).retryCount = 0
    else (retried st s).arm x = clearedArm (s.arm x) ∧ (retried st s).station x = s.station x := by
  have hleaf : (retryEntered st s).leaf = s.leaf := (setClosureState_leaf ..).trans rfl
  have hmay : mayCommand (retryPosition st) (retryEntered st s) := (mayCommand_congr hleaf).mpr h
  have harm := commandEach_arm hmay (retryArms st) x
  have honly := commandEach_only hmay (retryArms st) x
  have hservice : ((retryEntered st s).arm x).inService = (s.arm x).inService := by rw [retryEntered_arm]; rfl
  rw [hservice] at harm honly
  split
  next hmem =>
    rw [if_pos hmem] at harm honly
    rw [retryEntered_arm] at harm
    exact ⟨honly, by rw [retried, harm]; rfl, by rw [retried, harm]; rfl⟩
  next hmem =>
    rw [if_neg hmem] at honly
    rw [retryEntered_arm, retryEntered_station] at honly
    exact honly

/-- What the arms report, and that no latch is left, when the standing conditions are checked (R111, R124). -/
theorem retried_reports (st : ClosureState) (s : State) (x : ArmId) : ((retried st s).arm x).inService = (s.arm x).inService
    ∧ ((retried st s).arm x).lost = (s.arm x).lost ∧ ((retried st s).arm x).reported = (s.arm x).reported
    ∧ ((retried st s).arm x).latches = .none := by
  obtain ⟨hservice, hreported, _, hlost, hlatches, _⟩ := (keepsReports_commandEach (retryPosition st) (retryArms st) (retryEntered st s)).arm x
  rw [retryEntered_arm] at hservice hreported hlost hlatches
  exact ⟨hservice, hlost, hreported, hlatches⟩

theorem retried_faults (h : noStandingFault s) (st : ClosureState) : noStandingFault (retried st s) :=
  noStandingFault_of_arms h fun a => by
    obtain ⟨hservice, hlost, hreported, _⟩ := retried_reports st s a
    exact ⟨hservice, hlost, hreported⟩

theorem finishReopening_elsewhere (h : s.closure.state ≠ .roadReopening) (q : Bool) : finishReopening q s = s := if_neg fun hc => h hc.1

/-- CLOSURE RETRY with no arm LOST or LOCAL and no approach left without an arm: the held-in state is entered again. -/
theorem takeRetry_enters (hst : st.holdable = true) (hfault : noStandingFault s) (hentry : st = .entryLowering → hasEntryArms s = true)
    (hexit : st = .exitLowering → hasExitArms s = true)
    (hgoes : st = .roadReopening → s.leaf.group.state = .stowed ∧ ∃ x, (s.arm x).inService = true) : takeRetry st s = retried st s := by
  rw [takeRetry_eq, reenter_eq hst hentry hexit, standingCheck_clear (retried_faults hfault st)]
  by_cases hreopen : st = .roadReopening
  · obtain ⟨hstowed, x, hin⟩ := hgoes hreopen
    subst hreopen
    have hleaf : (retryEntered .roadReopening s).leaf = s.leaf := (setClosureState_leaf ..).trans rfl
    have hnot : armsAt .up ringOrder (retried .roadReopening s) = false :=
      not_armsAt_commanded (p := .up) (mayCommand_up (.inl (by rw [hleaf]; exact hstowed)) _) (mem_ringOrder x)
        (by rw [retryEntered_arm]; exact hin)
    exact if_neg fun hc => by simp [hnot] at hc
  · exact finishReopening_elsewhere (by rw [retried_closure, (retryClosure_state st s).1]; exact hreopen) true

/-- CLOSURE RETRY of a lowering that has no arm on an approach: the closure is held again (R124). -/
theorem takeRetry_holds (hfault : noStandingFault s)
    (h : (st = .entryLowering ∧ cause = .noEntryArm ∧ hasEntryArms s = false) ∨ (st = .exitLowering ∧ cause = .noExitArm ∧ hasExitArms s = false)) :
    heldNow cause st s (takeRetry st s)
      ∧ (∀ x, (takeRetry st s).arm x = { clearedArm (s.arm x) with travelTimer := none, retryDwell := none })
      ∧ (takeRetry st s).stations = s.stations := by
  let x := setClosureState true st (retryCleared s)
  have hxstate : x.closure.state = st := by simp [x]
  have hservice (b : ArmId) : (x.arm b).inService = (s.arm b).inService := by rw [entered_arm, retryCleared_arm]; rfl
  have hhold : st.holdable = true := by rcases h with ⟨rfl, _⟩ | ⟨rfl, _⟩ <;> rfl
  have hne : x.closure.state ≠ .closureHeld := by rw [hxstate]; rcases h with ⟨rfl, _⟩ | ⟨rfl, _⟩ <;> decide
  have hreenter : reenter st (retryCleared s) = holdWith cause st x := by
    have hheld : holdClosure cause x = holdWith cause st x := by rw [holdClosure_held (by rw [hxstate]; exact hhold), hxstate]
    rw [← hheld]
    rcases h with ⟨rfl, rfl, hnone⟩ | ⟨rfl, rfl, hnone⟩
    · exact if_neg (by rw [show hasEntryArms x = false from (hasEntryArms_of_service hservice).trans hnone]; simp)
    · exact if_neg (by rw [show hasExitArms x = false from (hasExitArms_of_service hservice).trans hnone]; simp)
  have hheld := holdWith_held (cause := cause) (heldIn := st) hne
  have harm (b : ArmId) : (holdWith cause st x).arm b = { clearedArm (s.arm b) with travelTimer := none, retryDwell := none } := by
    rw [holdWith_arm, entered_arm, retryCleared_arm]
  have hfaults : noStandingFault (holdWith cause st x) := noStandingFault_of_arms hfault fun b => by rw [harm]; exact ⟨rfl, rfl, rfl⟩
  have heq : takeRetry st s = holdWith cause st x := by
    rw [takeRetry_eq, hreenter, standingCheck_clear hfaults, finishReopening_elsewhere (by rw [hheld.1]; simp)]
  obtain ⟨hc, htimers, hsup, hroad, hraised, htold⟩ := hheld
  rw [heq]
  refine ⟨⟨?_, htimers, hsup, hroad, hraised, htold⟩, harm, ?_⟩
  · rw [hc, setClosureState_closure]
    rfl
  · exact (holdWith_frame cause st x .stations (by decide)).trans (setClosureState_stations ..)

/-- CLOSURE RETRY of a reopening without arms: the road opens at once (R121, R124). -/
theorem takeRetry_opens (hout : ∀ x, (s.arm x).inService = false) :
    roadOpened { s with closure := { s.closure with heldCause := none, heldIn := none } } (takeRetry .roadReopening s)
      ∧ ∀ x, (takeRetry .roadReopening s).arm x = clearedArm (s.arm x) ∧ (takeRetry .roadReopening s).station x = s.station x := by
  have hfault : noStandingFault s := fun a hin => by rw [hout a] at hin; exact absurd hin (by decide)
  let y := retried .roadReopening s
  have hstands (x : ArmId) : y.arm x = clearedArm (s.arm x) ∧ y.station x = s.station x := by
    have hnone : ∀ (arms : List ArmId) (u : State), (∀ x, (u.arm x).inService = false) → commandEach .up arms u = u := by
      intro arms
      induction arms with
      | nil => exact fun _ _ => rfl
      | cons a arms ih =>
        intro u hu
        have hstep : commandInService .up u a = u := by rw [commandInService, hu a]; rfl
        rw [commandEach_cons, hstep, ih u hu]
    have heq : y = retryEntered .roadReopening s :=
      hnone ringOrder (retryEntered .roadReopening s) fun x => by rw [retryEntered_arm]; exact hout x
    rw [heq]
    exact ⟨retryEntered_arm _ s x, retryEntered_station _ s x⟩
  have hclosure : y.closure = { s.closure with state := .roadReopening, heldCause := none, heldIn := none } := retried_closure _ s
  have hst : y.closure.state = .roadReopening := by rw [hclosure]
  have harms : armsAt .up ringOrder y = true := List.all_eq_true.mpr fun x _ => by
    rw [(hstands x).1]
    simp [clearedArm, hout x]
  have heq : takeRetry .roadReopening s = finishReopening true y := by
    rw [takeRetry_eq, reenter_eq rfl (by simp) (by simp), standingCheck_clear (retried_faults hfault .roadReopening)]
  obtain ⟨hopened, harms', _, hframe⟩ := finishReopening_opened hst harms true
  rw [heq]
  refine ⟨?_, fun x => ?_⟩
  · obtain ⟨hc, hroad, hstandsO, hends⟩ := hopened
    have hseq : y.seq = s.seq := retried_frame .roadReopening s .seq (by decide)
    rw [hseq] at hstandsO hends
    exact ⟨by rw [hc, hclosure], hroad, hstandsO, hends⟩
  · rw [arm_congr harms', station_congr (hframe .stations (by decide))]
    exact hstands x

/-- An arm still LOST or LOCAL holds the closure again, and is latched again (R111, R124). -/
theorem takeRetry_again (hst : st.holdable = true) (hentry : st = .entryLowering → hasEntryArms s = true)
    (hexit : st = .exitLowering → hasExitArms s = true) : let z := takeRetry st s
    let again (cause : HeldCause) : Prop := z.closure.state = .closureHeld ∧ z.closure.heldCause = some cause
      ∧ z.closure.heldIn = some st ∧ z.sup.closureHeld = true ∧ z.links.control.attention.raised = true
    let lost : Prop := ∃ x, (s.arm x).inService = true ∧ (s.arm x).lost = true
    let isLocal : Prop := ∃ x, (s.arm x).inService = true ∧ (s.arm x).reported = .localControl
    (lost → ¬isLocal → again .armLost) ∧ (isLocal → ¬lost → again .armLocal)
      ∧ ∀ x, (z.arm x).latches = { ArmLatches.none with
          lost := (s.arm x).inService && (s.arm x).lost
          localControl := (s.arm x).inService && (s.arm x).reported == .localControl } := by
  intro z again lost isLocal
  let y := retried st s
  have hz : z = finishReopening true (standingCheck y) := by
    change takeRetry st s = _
    rw [takeRetry_eq, reenter_eq hst hentry hexit]
  have hlost : lostArms y ≠ [] ↔ lost := by
    refine ⟨fun h => ?_, fun ⟨x, hin, hx⟩ => ?_⟩
    · obtain ⟨x, hx⟩ := List.exists_mem_of_ne_nil _ h
      obtain ⟨hservice, hl, _, _⟩ := retried_reports st s x
      exact ⟨x, by rwa [mem_lostArms, hservice, hl] at hx⟩
    · obtain ⟨hservice, hl, _, _⟩ := retried_reports st s x
      exact List.ne_nil_of_mem ((mem_lostArms y x).mpr ⟨hservice.trans hin, hl.trans hx⟩)
  have hlocal : localArms y ≠ [] ↔ isLocal := by
    refine ⟨fun h => ?_, fun ⟨x, hin, hx⟩ => ?_⟩
    · obtain ⟨x, hx⟩ := List.exists_mem_of_ne_nil _ h
      obtain ⟨hservice, _, hr, _⟩ := retried_reports st s x
      exact ⟨x, by rwa [mem_localArms, hservice, hr] at hx⟩
    · obtain ⟨hservice, _, hr, _⟩ := retried_reports st s x
      exact List.ne_nil_of_mem ((mem_localArms y x).mpr ⟨hservice.trans hin, hr.trans hx⟩)
  have hagain {cause : HeldCause} (h : (cause = .armLost ∧ lostArms y ≠ [] ∧ localArms y = [])
      ∨ (cause = .armLocal ∧ lostArms y = [] ∧ localArms y ≠ [])) : again cause := by
    have hstate : (standingLatched y).closure.state = st := by
      rw [standingLatched_frame y .closure (by decide), retried_closure, (retryClosure_state st s).1]
    have hheld := holdWith_held (s := standingLatched y) (cause := cause) (heldIn := st) (by
      rw [hstate]; rintro rfl; simp [ClosureState.holdable, ClosureState.closing] at hst)
    have hzh : z = holdWith cause st (standingLatched y) := by
      rw [hz, standingCheck_alone h, holdClosure_held (by rw [hstate]; exact hst), hstate,
        finishReopening_elsewhere (by rw [hheld.1]; simp)]
    obtain ⟨hc, _, hsup, _, hraised, _⟩ := hheld
    change z.closure.state = _ ∧ z.closure.heldCause = _ ∧ z.closure.heldIn = _ ∧ z.sup.closureHeld = _ ∧ z.links.control.attention.raised = _
    rw [hzh, hc]
    exact ⟨rfl, rfl, rfl, hsup, hraised⟩
  refine ⟨fun hl hnot => hagain (.inl ⟨rfl, hlost.mpr hl, ?_⟩), fun hl hnot => hagain (.inr ⟨rfl, ?_, hlocal.mpr hl⟩), fun x => ?_⟩
  · by_contra hc; exact hnot (hlocal.mp hc)
  · by_contra hc; exact hnot (hlost.mp hc)
  · obtain ⟨_, _, _, _, hlatches, _⟩ := ((keepsReports_standingCheck y).trans (keepsReports_finishReopening true _)).arm x
    obtain ⟨hservice, hl, hr, hnone⟩ := retried_reports st s x
    rw [hz, hlatches, standingLatched_latches hnone, hservice, hl, hr]

/-! ## CLOSURE RETRY and REOPEN ROAD answered (R122, R124) -/

theorem exec_retry (hr : readyFor .control s) (hm : s.sup.mode = .attended) (hheld : s.closure.state = .closureHeld)
    (hin : s.closure.heldIn = some st) : let t := putReply .control 0x33#8 .ok [] (takeRetry st (takenIn .control 0x33#8 s))
    exec (.closureRetry .control []) s = .next t ∧ answered .control 0x33#8 .ok [] s t := by
  refine exec_accepted (c := .closureRetry .control []) rfl rfl (by decide) hr rfl ?_
  have hclosure : (takenIn .control 0x33#8 s).closure = s.closure := takenIn_closure ..
  change takeClosureRetry [] _ = _
  simp [takeClosureRetry, attended, hm, hheld, hin]

theorem retryClosure_takenIn (st : ClosureState) (s : State) : retryClosure st (takenIn .control 0x33#8 s) = retryClosure st s := by
  have hframe := takenIn_frame .control 0x33#8 s
  have hclosure : (takenIn .control 0x33#8 s).closure = s.closure := hframe .closure (by decide)
  have hconf : (takenIn .control 0x33#8 s).conf = s.conf := congrArg (Option.getD · Configured.blank) (hframe .cfg (by decide))
  have hzones : anyOccupied (takenIn .control 0x33#8 s) = anyOccupied s := by
    simp only [anyOccupied, show (takenIn .control 0x33#8 s).zones = s.zones from hframe .zones (by decide)]
  simp only [retryClosure, hclosure, hconf, hzones]

/-- The held-in state entered again, as the request's answer leaves it (R124). -/
theorem retry_entered (hheld : s.closure.state = .closureHeld) (hst : st ≠ .closureHeld) :
    let t := putReply .control 0x33#8 .ok [] (retried st (takenIn .control 0x33#8 s))
    t.closure = retryClosure st s ∧ (t.links.get .control).attention = (s.links.get .control).attention
      ∧ t.sup = { framedSup .control s with closureHeld := false } ∧ t.display.road = roadLightOf st
      ∧ unchangedBut [.controlPort, .closure, .arms, .stations, .lamp, .display, .sup] s t := by
  let w := takenIn .control 0x33#8 s
  refine ⟨?_, ?_, ?_, ?_, putReply_frame_of_mem (retried_frame st w) (by simp [portPart])⟩
  · rw [putReply_closure, retried_closure, retryClosure_takenIn]
  · rw [putReply_attention, retried_links]
    exact takenIn_attention .control 0x33#8 s .control
  · rw [putReply_sup, retried_sup (by rw [takenIn_closure]; exact hheld) hst, takenIn_sup]
  · rw [putReply_display, retried_road]

theorem retry_commanded (h : mayCommand (retryPosition st) s) (x : ArmId) :
    let t := putReply .control 0x33#8 .ok [] (retried st (takenIn .control 0x33#8 s))
    if x ∈ retryArms st ∧ (s.arm x).inService = true then
      commandedNow (retryPosition st) x t ∧ (t.arm x).latches = .none ∧ (t.arm x).retryCount = 0
    else t.arm x = clearedArm (s.arm x) ∧ t.station x = s.station x := by
  intro t
  let w := takenIn .control 0x33#8 s
  have harm : t.arm x = (retried st w).arm x := arm_congr (putReply_arms ..) x
  have hstation : t.station x = (retried st w).station x := station_congr (putReply_stations ..) x
  have hcommanded := retried_commanded (s := w) ((mayCommand_congr (takenIn_leaf ..)).mpr h) x
  rw [← commandedNow_congr harm hstation, ← harm, ← hstation, arm_congr (takenIn_arms ..), station_congr (takenIn_stations ..)] at hcommanded
  exact hcommanded

/-- A prewarning entered again has commanded no arm (R124). -/
theorem retry_prewarns (hr : readyFor .control s) (hm : s.sup.mode = .attended) (hheld : s.closure.state = .closureHeld)
    (hfault : noStandingFault s) (hst : st = .prewarnAmber ∨ st = .prewarnRed) (hin : s.closure.heldIn = some st) :
    ∃ t, exec (.closureRetry .control []) s = .next t ∧ answered .control 0x33#8 .ok [] s t
      ∧ t.closure = retryClosure st s ∧ (∀ a, t.arm a = clearedArm (s.arm a))
      ∧ (t.links.get .control).attention = (s.links.get .control).attention
      ∧ t.sup = { framedSup .control s with closureHeld := false } ∧ t.display.road = roadLightOf st
      ∧ unchangedBut [.controlPort, .closure, .arms, .lamp, .display, .sup] s t := by
  obtain ⟨hexec, hanswered⟩ := exec_retry hr hm hheld hin
  have hnone : retryArms st = [] := by rcases hst with rfl | rfl <;> rfl
  have hhold : st.holdable = true := by rcases hst with rfl | rfl <;> rfl
  have hne : st ≠ .closureHeld ∧ st ≠ .entryLowering ∧ st ≠ .exitLowering ∧ st ≠ .roadReopening := by
    rcases hst with rfl | rfl <;> decide
  have henters : takeRetry st (takenIn .control 0x33#8 s) = retried st (takenIn .control 0x33#8 s) :=
    takeRetry_enters hhold (noStandingFault_of_arms hfault fun a => by rw [arm_congr (takenIn_arms ..)]; exact ⟨rfl, rfl, rfl⟩)
      (fun h => absurd h hne.2.1) (fun h => absurd h hne.2.2.1) fun h => absurd h hne.2.2.2
  rw [henters] at hexec hanswered
  obtain ⟨hclosure, hattention, hsup, hroad, hframe⟩ := retry_entered hheld hne.1
  have hplain (x : ArmId) := retry_commanded (s := s) (st := st) (by
    have hdown : retryPosition st = .down := if_neg hne.2.2.2
    rw [hdown]; exact mayCommand_down s) x
  simp only [hnone, List.not_mem_nil, false_and, if_false] at hplain
  refine ⟨_, hexec, hanswered, hclosure, fun a => (hplain a).1, hattention, hsup, hroad, fun p hp => ?_⟩
  by_cases hstations : p = .stations
  · subst hstations
    refine (putReply_stations ..).trans ?_
    have hbase : (retried st (takenIn .control 0x33#8 s)).stations = (retryEntered st (takenIn .control 0x33#8 s)).stations := by
      rw [retried, hnone]; rfl
    rw [hbase]
    exact ((setClosureState_stations ..).trans (retryCleared_frame _ .stations (by decide))).trans (takenIn_stations ..)
  · exact hframe p (by simp_all)

theorem reopen_starts (hr : readyFor .control s) (hm : s.sup.mode = .attended) (hst : s.closure.state = .roadUncertain)
    (hgroup : s.leaf.group.state = .stowed) (hopening : s.seq.opening = none) (hfault : noStandingFault s)
    (hin : ∃ a, (s.arm a).inService = true) : ∃ t, exec (.reopenRoad .control []) s = .next t ∧ reopeningStarted s t
      ∧ onlyAnswered .control 0x34#8 .ok [] [.closure, .arms, .stations, .lamp, .display] s t := by
  obtain ⟨a, hin⟩ := hin
  let w := takenIn .control 0x34#8 s
  have hclosure : w.closure = s.closure := takenIn_closure ..
  have hleaf : w.leaf = s.leaf := takenIn_leaf ..
  have harm (b : ArmId) : w.arm b = s.arm b := arm_congr (takenIn_arms ..) b
  have hmay : mayCommand .up w := mayCommand_up (.inl (by rw [hleaf]; exact hgroup)) _
  have hreopen : startReopen true w = reopened true w := startReopen_reopened
    (noStandingFault_of_arms hfault fun b => by rw [harm]; exact ⟨rfl, rfl, rfl⟩) ⟨a, by rw [harm]; exact hin⟩ hmay true
  have hheld : w.closure.state ≠ .closureHeld := by rw [hclosure, hst]; decide
  have htake : takeReopenRoad [] w = accept [] (reopened true w) := by
    have hmode : w.sup.mode = .attended := by simpa [w] using hm
    have ho : w.seq.opening = none := by simpa [w] using hopening
    simp [takeReopenRoad, attended, hmode, hclosure, hst, hleaf, hgroup, ho, hreopen]
  have hframe := reopened_quiet_frame hheld
  obtain ⟨hexec, honly⟩ := exec_only (c := .reopenRoad .control []) rfl rfl hr rfl htake (reopened_quiet_links w)
    (hframe .sup (by decide)) hframe
  refine ⟨_, hexec, reopeningStarted_congr hclosure.symm (takenIn_arms ..).symm (takenIn_stations ..).symm (putReply_closure ..)
    (putReply_arms ..) (putReply_stations ..) (congrArg Display.road (putReply_display ..)) (reopened_started hmay true), honly⟩

/-- CLOSURE RETRY by the state that the closure was held in, and by what still stands in its way (R124). -/
theorem retry_general (hr : readyFor .control s) (hm : s.sup.mode = .attended) (hheld : s.closure.state = .closureHeld)
    (hin : s.closure.heldIn = some st) (hst : st.holdable = true) :
    let cleared (x : ArmId) : Arm := clearedArm (s.arm x)
    let commanded (p : ArmPosition) (arms : List ArmId) (t : State) : Prop := ∀ x,
      if x ∈ arms ∧ (s.arm x).inService = true then
        commandedNow p x t ∧ (t.arm x).latches = .none ∧ (t.arm x).retryCount = 0
      else t.arm x = cleared x ∧ t.station x = s.station x
    let stood (t : State) : Prop := (∀ x, t.arm x = { cleared x with travelTimer := none, retryDwell := none })
      ∧ t.stations = s.stations
    let entered (c : Closure) (t : State) : Prop :=
      t.closure = { c with state := st, heldCause := none, heldIn := none }
        ∧ (t.links.get .control).attention = (s.links.get .control).attention
        ∧ t.sup = { framedSup .control s with closureHeld := false } ∧ t.display.road = .red
        ∧ unchangedBut [.controlPort, .closure, .arms, .stations, .lamp, .display, .sup] s t
    ∃ t, exec (.closureRetry .control []) s = .next t ∧ answered .control 0x33#8 .ok [] s t
      ∧ (noStandingFault s → st = .entryLowering →
        (hasEntryArms s = true → entered s.closure t ∧ commanded .down entryArms t)
        ∧ (hasEntryArms s = false → heldNow .noEntryArm st s t ∧ stood t))
      ∧ (noStandingFault s → st = .spanClearing → commanded .down entryArms t ∧ entered { s.closure with
          clearDwell := if anyOccupied s = true then .stopped else .running (s.conf.clearDwell * 1000)
          confirmation := false } t)
      ∧ (noStandingFault s → st = .exitLowering →
        (hasExitArms s = true → entered s.closure t ∧ commanded .down ringOrder t)
        ∧ (hasExitArms s = false → heldNow .noExitArm st s t ∧ stood t))
      ∧ (noStandingFault s → st = .roadReopening → s.leaf.group.state = .stowed →
        ((∃ x, (s.arm x).inService = true) → entered s.closure t ∧ commanded .up ringOrder t)
        ∧ ((∀ x, (s.arm x).inService = false) → commanded .up [] t
          ∧ roadOpened { s with closure := { s.closure with heldCause := none, heldIn := none } } t))
      ∧ ((st = .entryLowering → hasEntryArms s = true) → (st = .exitLowering → hasExitArms s = true) →
        let again (cause : HeldCause) : Prop := t.closure.state = .closureHeld ∧ t.closure.heldCause = some cause
          ∧ t.closure.heldIn = some st ∧ t.sup.closureHeld = true ∧ t.links.control.attention.raised = true
        let lost : Prop := ∃ x, (s.arm x).inService = true ∧ (s.arm x).lost = true
        let isLocal : Prop := ∃ x, (s.arm x).inService = true ∧ (s.arm x).reported = .localControl
        (lost → ¬isLocal → again .armLost) ∧ (isLocal → ¬lost → again .armLocal)
        ∧ ∀ x, (t.arm x).latches = { ArmLatches.none with
            lost := (s.arm x).inService && (s.arm x).lost
            localControl := (s.arm x).inService && (s.arm x).reported == .localControl }) := by
  intro cleared commanded stood entered
  obtain ⟨hexec, hanswered⟩ := exec_retry hr hm hheld hin
  let w := takenIn .control 0x33#8 s
  let z := takeRetry st w
  let t := putReply .control 0x33#8 .ok [] z
  have hwarm (x : ArmId) : w.arm x = s.arm x := arm_congr (takenIn_arms ..) x
  have hclosure : w.closure = s.closure := takenIn_closure ..
  have hwfault (h : noStandingFault s) : noStandingFault w := noStandingFault_of_arms h fun a => by rw [hwarm]; exact ⟨rfl, rfl, rfl⟩
  have hwentry : hasEntryArms w = hasEntryArms s := hasEntryArms_congr (takenIn_arms ..)
  have hwexit : hasExitArms w = hasExitArms s := hasExitArms_congr (takenIn_arms ..)
  have hne : st ≠ .closureHeld := by rintro rfl; simp [ClosureState.holdable, ClosureState.closing] at hst
  have henters (h : z = retried st w) (hred : roadLightOf st = .red) (c : Closure)
      (hc : retryClosure st s = { c with state := st, heldCause := none, heldIn := none }) : entered c t := by
    obtain ⟨h1, h2, h3, h4, h5⟩ := retry_entered hheld hne
    rw [show t = putReply .control 0x33#8 .ok [] (retried st w) from congrArg (putReply .control 0x33#8 .ok []) h]
    exact ⟨h1.trans hc, h2, h3, h4.trans hred, h5⟩
  have hcommands (h : z = retried st w) (hmay : mayCommand (retryPosition st) s) : commanded (retryPosition st) (retryArms st) t := by
    rw [show t = putReply .control 0x33#8 .ok [] (retried st w) from congrArg (putReply .control 0x33#8 .ok []) h]
    exact retry_commanded hmay
  have hholds {cause : HeldCause} (hfault : noStandingFault s) (h : (st = .entryLowering ∧ cause = .noEntryArm ∧ hasEntryArms s = false)
      ∨ (st = .exitLowering ∧ cause = .noExitArm ∧ hasExitArms s = false)) : heldNow cause st s t ∧ stood t := by
    obtain ⟨hnow, harms, hstations⟩ := takeRetry_holds (s := w) (cause := cause) (hwfault hfault) (by rw [hwentry, hwexit]; exact h)
    refine ⟨heldNow_putReply ((heldNow_congr hclosure).mp hnow), fun x => ?_, ?_⟩
    · rw [arm_congr (putReply_arms ..), show z.arm x = _ from harms x, hwarm]
    · exact (putReply_stations ..).trans (hstations.trans (takenIn_stations ..))
  refine ⟨t, hexec, hanswered, fun hfault h => ⟨fun hsome => ?_, fun hnone => hholds hfault (.inl ⟨h, rfl, hnone⟩)⟩, fun hfault h => ?_,
    fun hfault h => ⟨fun hsome => ?_, fun hnone => hholds hfault (.inr ⟨h, rfl, hnone⟩)⟩,
    fun hfault h hstowed => ⟨fun hsome => ?_, fun hout => ?_⟩, fun hentry hexit => ?_⟩
  · subst h
    have hz : z = retried .entryLowering w := takeRetry_enters rfl (hwfault hfault) (fun _ => hwentry.trans hsome) (by simp) (by simp)
    exact ⟨henters hz rfl s.closure rfl, hcommands hz (mayCommand_down s)⟩
  · subst h
    have hz : z = retried .spanClearing w := takeRetry_enters rfl (hwfault hfault) (by simp) (by simp) (by simp)
    exact ⟨hcommands hz (mayCommand_down s), henters hz rfl _ rfl⟩
  · subst h
    have hz : z = retried .exitLowering w := takeRetry_enters rfl (hwfault hfault) (by simp) (fun _ => hwexit.trans hsome) (by simp)
    exact ⟨henters hz rfl s.closure rfl, hcommands hz (mayCommand_down s)⟩
  · subst h
    have hz : z = retried .roadReopening w := takeRetry_enters rfl (hwfault hfault) (by simp) (by simp) fun _ =>
      ⟨by rw [show w.leaf = s.leaf from takenIn_leaf ..]; exact hstowed, by simpa only [hwarm] using hsome⟩
    exact ⟨henters hz rfl s.closure rfl, hcommands hz (mayCommand_up (.inl hstowed) _)⟩
  · subst h
    obtain ⟨hopened, hstands⟩ := takeRetry_opens (s := w) (fun x => by rw [hwarm]; exact hout x)
    refine ⟨fun x => ?_, roadOpened_putReply (roadOpened_of_parts
      (t := { w with closure := { w.closure with heldCause := none, heldIn := none } }) ?_ (takenIn_seq .control 0x33#8 s) hopened)⟩
    · rw [if_neg (by simp), arm_congr (putReply_arms ..), station_congr (putReply_stations ..)]
      obtain ⟨h1, h2⟩ := hstands x
      exact ⟨h1.trans (congrArg clearedArm (hwarm x)), h2.trans (station_congr (takenIn_stations ..) x)⟩
    · change { w.closure with heldCause := none, heldIn := none } = _
      rw [hclosure]
  · intro again lost isLocal
    obtain ⟨hlost, hlocal, hlatches⟩ := takeRetry_again (s := w) hst (fun h => hwentry.trans (hentry h)) fun h => hwexit.trans (hexit h)
    have hport : t.links.control.attention = z.links.control.attention := putReply_attention .control _ _ _ z .control
    have hclosuret : t.closure = z.closure := putReply_closure ..
    have hsupt : t.sup = z.sup := putReply_sup ..
    simp only [hwarm] at hlost hlocal hlatches
    simp only [again, hclosuret, hsupt, hport]
    exact ⟨hlost, hlocal, fun x => (congrArg Arm.latches (arm_congr (putReply_arms ..) x)).trans (hlatches x)⟩

/-- Settles O46: ARM SERVICE by the setting and the closure state, CLOSURE RETRY by the held-in state, REOPEN ROAD. -/
theorem armServiceRetryAndReopen : Obligations.ArmServiceRetryAndReopen := by
  intro s hr hm
  refine ⟨fun n a ha => ⟨armService_out_absent hr hm ha, armService_in_present hr hm ha, armOut_idle hr hm ha, armOut_groups hr hm ha,
    armIn_brings hr hm ha⟩, fun hheld hfault hin => ?prewarn, fun st hheld hin hst => retry_general hr hm hheld hin hst,
    fun hst hgroup hopening hfault hin => ?reopen⟩
  case prewarn =>
    obtain ⟨st, hst, hin'⟩ : ∃ st, (st = .prewarnAmber ∨ st = .prewarnRed) ∧ s.closure.heldIn = some st :=
      hin.elim (fun h => ⟨_, .inl rfl, h⟩) fun h => ⟨_, .inr rfl, h⟩
    obtain ⟨t, hexec, hanswered, hc, harm, hattention, hsup, hroad, hframe⟩ := retry_prewarns hr hm hheld hfault hst hin'
    obtain ⟨hstate, hcause, hheldIn⟩ := retryClosure_state st s
    refine ⟨t, hexec, hanswered, by rw [hc, hstate, hin'], by rw [hc, hcause], by rw [hc, hheldIn], ?_, ?_, ?_, harm, hattention, hsup,
      by rw [hroad, hc, hstate], hframe⟩
    all_goals rw [hc]; rcases hst with rfl | rfl <;> simp [retryClosure, hin']
  case reopen =>
    obtain ⟨t, hexec, ⟨hclosure, hin', hout, hroad⟩, honly⟩ := reopen_starts hr hm hst hgroup hopening hfault hin
    exact ⟨t, hexec, hclosure, fun a h => (hin' a h).1, hout, hroad, honly⟩

end Sys2Proof.Machine

/-! Lamp faults: what a walk leaves of the flags, and the functions' health after a latch and after a clearing (O50). -/

namespace Sys2Proof.Machine

open Sys2Proof

variable {s t : State} {u v w : LampUnit} {b : Bool} {d : Direction} {f : FunctionId} {i j : ChannelId}

/-! ## What a change of demand leaves of the faults (R148) -/

/-- The assignment and the fault flags of a channel, without what the pulse drive keeps. -/
def Channel.faults (c : Channel) : Channel :=
  { Channel.cleared c.function c.partialSelectTwo with
    openFlag := c.openFlag, shortFlag := c.shortFlag, partialFlag := c.partialFlag }

theorem channelHealthy_faults (b : Bool) (c : Channel) : channelHealthy b c.faults = channelHealthy b c := rfl

theorem hasFault_faults (c : Channel) (k : LampFault) : hasFault c.faults k = hasFault c k := by cases k <;> rfl

theorem hasFault_congr {c c' : Channel} (h : c'.faults = c.faults) (k : LampFault) : hasFault c' k = hasFault c k := by
  rw [← hasFault_faults c', h, hasFault_faults]

theorem giveDemand_faults (d : ChannelDemand) (c : Channel) : (giveDemand d c).faults = c.faults := by
  unfold giveDemand; split <;> rfl

theorem giveDemand_evaluated (d : ChannelDemand) {c : Channel} (h : c.evaluated = false) : (giveDemand d c).evaluated = false := by
  unfold giveDemand
  split
  · exact h
  · rfl

/-- Every latch, assignment and health stands, and no channel's on-phase becomes evaluated. -/
structure KeepsFaults (u v : LampUnit) : Prop where
  functions : v.functions = u.functions
  undervoltage : v.undervoltage = u.undervoltage
  undervoltageSeen : v.undervoltageSeen = u.undervoltageSeen
  lowSupply : v.lowSupply = u.lowSupply
  faults : ∀ i : ChannelId, (v.channels[i]).faults = (u.channels[i]).faults
  evaluated : ∀ i : ChannelId, (u.channels[i]).evaluated = false → (v.channels[i]).evaluated = false

theorem KeepsFaults.refl (u : LampUnit) : KeepsFaults u u := ⟨rfl, rfl, rfl, rfl, fun _ => rfl, fun _ => id⟩

theorem KeepsFaults.trans (h : KeepsFaults u v) (h' : KeepsFaults v w) : KeepsFaults u w where
  functions := h'.functions.trans h.functions
  undervoltage := h'.undervoltage.trans h.undervoltage
  undervoltageSeen := h'.undervoltageSeen.trans h.undervoltageSeen
  lowSupply := h'.lowSupply.trans h.lowSupply
  faults i := (h'.faults i).trans (h.faults i)
  evaluated i he := h'.evaluated i (h.evaluated i he)

theorem keepsFaults_giveDemands (g : FunctionId → Option ChannelDemand) (u : LampUnit) : KeepsFaults u (giveDemands g u) := by
  refine ⟨rfl, rfl, rfl, rfl, fun i => ?_, fun i he => ?_⟩ <;> simp only [giveDemands, Fin.getElem_fin, tabMap_getElem] <;> split
  next => rfl
  next => split <;> simp only [giveDemand_faults]
  next => exact he
  next =>
    split
    · exact he
    · exact giveDemand_evaluated _ he

theorem keepsFaults_walkHead (d : Direction) (s : State) : KeepsFaults s.lamp (walkHead d s).lamp := by
  have hshown (x : Shown) : KeepsFaults s.lamp (giveDemands (headDemandOf d x) s.lamp) := keepsFaults_giveDemands _ _
  unfold walkHead
  dsimp only
  split <;> split <;> simp only [handDark_lamp, State.withSeq_lamp, State.withLamp_lamp, State.withDisplay_lamp] <;>
    first | exact .refl _ | exact hshown _

theorem keepsFaults_walkHeadIf (b : Bool) (d : Direction) (s : State) : KeepsFaults s.lamp (walkHeadIf b d s).lamp := by
  cases b
  · exact .refl _
  · exact keepsFaults_walkHead d s

/-! ## What health reads (R145, R153) -/

theorem channelsOf_faults (f : FunctionId) (u : LampUnit) :
    (channelsOf f u).map Channel.faults = ((u.channels.map Channel.faults).toList).filter (fun c => c.function == some f) := by
  rw [Vector.toList_map, List.filter_map]; rfl

theorem functionHealthFrom_of_faults (h : KeepsFaults u v) (f : FunctionId) : functionHealthFrom f v = functionHealthFrom f u := by
  have hfaults : v.channels.map Channel.faults = u.channels.map Channel.faults :=
    Vector.ext fun i hi => by simpa using h.faults ⟨i, hi⟩
  have hchannels : (channelsOf f v).map Channel.faults = (channelsOf f u).map Channel.faults := by
    rw [channelsOf_faults, channelsOf_faults, hfaults]
  have hempty : (channelsOf f v).isEmpty = (channelsOf f u).isEmpty := by
    rw [← List.isEmpty_map (f := Channel.faults), hchannels, List.isEmpty_map]
  have hany : (channelsOf f v).any (channelHealthy u.undervoltage) = (channelsOf f u).any (channelHealthy u.undervoltage) := by
    have := congrArg (·.any (channelHealthy u.undervoltage)) hchannels
    simpa only [List.any_map, Function.comp_def, channelHealthy_faults] using this
  have hall : (channelsOf f v).all (channelHealthy u.undervoltage) = (channelsOf f u).all (channelHealthy u.undervoltage) := by
    have := congrArg (·.all (channelHealthy u.undervoltage)) hchannels
    simpa only [List.all_map, Function.comp_def, channelHealthy_faults] using this
  simp only [functionHealthFrom, h.functions, h.undervoltage, hempty, hany, hall]

theorem functionHealthy_of_faults (h : KeepsFaults u v) (f : FunctionId) : functionHealthy f v = functionHealthy f u := by
  simp only [functionHealthy, h.functions]

theorem functionHealthFrom_undervoltage (h : u.undervoltage = true) (f : FunctionId) : functionHealthFrom f u = false := by
  have hnone (c : Channel) : channelHealthy u.undervoltage c = false := by simp [channelHealthy, h]
  unfold functionHealthFrom
  dsimp only
  split
  next => rfl
  next hne =>
    cases hcs : channelsOf f u with
    | nil => simp [hcs] at hne
    | cons c cs => simp [hnone]

/-! ## Health derived again (R154) -/

theorem keepsFaults_rederiveHealth (s : State) : KeepsFaults (derivedUnit s.lamp) (rederiveHealth s).lamp := by
  have hderived : (healthDerived s).lamp = derivedUnit s.lamp := healthDerived_lamp s
  rw [rederiveHealth_eq, ← hderived]
  exact (keepsFaults_walkHeadIf _ _ _).trans (keepsFaults_walkHeadIf _ _ _)

theorem rederiveHealth_follows (s : State) (f : FunctionId) :
    functionHealthy f (rederiveHealth s).lamp = functionHealthFrom f (rederiveHealth s).lamp := by
  have h := keepsFaults_rederiveHealth s
  rw [functionHealthy_of_faults h, functionHealthFrom_of_faults h, derivedUnit_follows]

/-- The health after the derivation is what the channels give before it. -/
theorem functionHealthy_rederived (s : State) (f : FunctionId) :
    functionHealthy f (rederiveHealth s).lamp = functionHealthFrom f s.lamp := by
  rw [functionHealthy_of_faults (keepsFaults_rederiveHealth s), functionHealthy_derived]

theorem walkHead_sup (d : Direction) (s : State) : (walkHead d s).sup = { s.sup with dark := (walkHead d s).sup.dark } := by
  have eta (a : Supervisor) : a = ⟨a.mode, a.watchdog, a.groupTripped, a.closureHeld, a.dark, a.pulseTimer⟩ := rfl
  rw [eta (walkHead d s).sup]
  simp

theorem walkHead_frame (d : Direction) (s : State) : unchangedBut [.seq, .lamp, .display, .sup] s (walkHead d s) :=
  fun x hx => by cases x <;> simp_all [Part.same]

theorem walkHeadIf_frame (b : Bool) (d : Direction) (s : State) :
    unchangedBut [.seq, .lamp, .display, .sup] s (walkHeadIf b d s) := by
  cases b
  · exact unchangedBut_refl _ s
  · exact walkHead_frame d s

theorem walkHeadIf_sup (b : Bool) (d : Direction) (s : State) :
    (walkHeadIf b d s).sup = { s.sup with dark := (walkHeadIf b d s).sup.dark } := by
  cases b
  · rfl
  · exact walkHead_sup d s

theorem healthDerived_frame (s : State) : unchangedBut [.closure, .lamp] s (healthDerived s) := fun x hx => by
  unfold healthDerived
  cases x <;> dsimp only <;> split <;> simp_all [Part.same]

theorem rederiveHealth_frame (s : State) : unchangedBut [.seq, .closure, .lamp, .display, .sup] s (rederiveHealth s) := by
  rw [rederiveHealth_eq]
  exact unchangedBut_trans (unchangedBut_mono (by simp) (healthDerived_frame s))
    (unchangedBut_mono (by simp) (unchangedBut_trans (walkHeadIf_frame _ _ _) (walkHeadIf_frame _ _ _)))

theorem rederiveHealth_sup (s : State) : (rederiveHealth s).sup = { s.sup with dark := (rederiveHealth s).sup.dark } := by
  rw [rederiveHealth_eq, walkHeadIf_sup, walkHeadIf_sup, healthDerived_sup]

/-! ## The red-seen flags (R114, R154) -/

/-- The red-seen flags without those of the functions named. -/
def RedSeen.without (r : RedSeen) (lost : FunctionId → Bool) : RedSeen :=
  ⟨r.wRedA && !lost .wRedA, r.wRedB && !lost .wRedB, r.eRedA && !lost .eRedA, r.eRedB && !lost .eRedB⟩

theorem clearRedSeen_eq (f : FunctionId) (r : RedSeen) : clearRedSeen f r = r.without (fun g => g == f) := by
  obtain ⟨a, b, c, d⟩ := r
  cases f <;> simp [clearRedSeen, RedSeen.without]

theorem RedSeen.without_without (r : RedSeen) (p q : FunctionId → Bool) :
    (r.without p).without q = r.without (fun f => p f || q f) := by
  simp [RedSeen.without, Bool.and_assoc]

theorem foldl_clearRedSeen (fs : List FunctionId) (r : RedSeen) :
    fs.foldl (fun r f => clearRedSeen f r) r = r.without (fun f => decide (f ∈ fs)) := by
  induction fs generalizing r with
  | nil => simp [RedSeen.without]
  | cons g fs ih =>
    rw [List.foldl_cons, ih, clearRedSeen_eq, RedSeen.without_without]
    congr 1
    funext f
    by_cases h : f = g <;> simp [h]

/-- A function loses its red-seen flag when it was healthy and no longer is. -/
def lostHealth (u v : LampUnit) (f : FunctionId) : Bool := functionHealthy f u && !functionHealthy f v

theorem mem_lost (u v : LampUnit) (f : FunctionId) :
    decide (f ∈ (changedFunctions u v).filter (fun f => !functionHealthy f v)) = lostHealth u v f := by
  rw [Bool.eq_iff_iff, decide_eq_true_iff, List.mem_filter, mem_changedFunctions, lostHealth]
  cases functionHealthy f u <;> cases functionHealthy f v <;> simp

theorem healthDerived_prewarnRed (h : s.closure.state = .prewarnRed) : (healthDerived s).closure =
    { s.closure with redSeen := s.closure.redSeen.without (lostHealth s.lamp (derivedUnit s.lamp)) } := by
  simp only [healthDerived, h, if_true, State.withClosure_closure, foldl_clearRedSeen, mem_lost]
  rfl

theorem rederiveHealth_prewarnRed (h : s.closure.state = .prewarnRed) : (rederiveHealth s).closure =
    { s.closure with redSeen := s.closure.redSeen.without (lostHealth s.lamp (rederiveHealth s).lamp) } := by
  have hlost : lostHealth s.lamp (rederiveHealth s).lamp = lostHealth s.lamp (derivedUnit s.lamp) :=
    funext fun f => by simp only [lostHealth, functionHealthy_of_faults (keepsFaults_rederiveHealth s)]
  have hclosure : (rederiveHealth s).closure = (healthDerived s).closure := by
    rw [rederiveHealth_eq]
    exact unchangedBut_trans (walkHeadIf_frame _ _ _) (walkHeadIf_frame _ _ _) .closure (by decide)
  rw [hclosure, hlost, healthDerived_prewarnRed h]

end Sys2Proof.Machine

/-! The lamp fault latches, the supply's conditions and CLEAR LAMP FAULTS (O50). -/

namespace Sys2Proof.Machine

open Sys2Proof

variable {s t x y : State} {u v : LampUnit} {masked : Bool} {i j : ChannelId} {kind : LampFault} {current voltage supply : Nat}

/-! ## A new latch is signalled (R157) -/

theorem signalLatch_pulseTimer (masked : Bool) (s : State) :
    (signalLatch masked s).sup.pulseTimer = if masked = true then s.sup.pulseTimer else some 200 := by
  unfold signalLatch
  split
  · rfl
  · rw [raiseAttention_sup]; rfl

theorem signalLatch_control (masked : Bool) (s : State) :
    (signalLatch masked s).links.control = if masked = true then s.links.control else { s.links.control with
      attention := ⟨true, s.links.control.attention.causes.add .lampLatch⟩ } := by
  unfold signalLatch
  split
  · rfl
  · rw [raiseAttention_control_links, pulseFault_links]

theorem signalLatch_sup (masked : Bool) (s : State) :
    (signalLatch masked s).sup = { s.sup with pulseTimer := (signalLatch masked s).sup.pulseTimer } := by
  unfold signalLatch
  split
  · rfl
  · rw [raiseAttention_sup]; rfl

theorem signalLatch_frame (masked : Bool) (s : State) : unchangedBut [.controlPort, .sup] s (signalLatch masked s) := by
  unfold signalLatch
  split
  · exact unchangedBut_refl _ s
  · exact unchangedBut_trans (unchangedBut_mono (by simp) (pulseFault_frame s)) (unchangedBut_mono (by simp) (raiseControl_frame _ _))

/-! ## What follows the health (R154) -/

/-- In PREWARN_RED the functions that have become unhealthy have lost their red-seen flags. -/
def redSeenFollows (s t : State) : Prop := s.closure.state = .prewarnRed →
  t.closure = { s.closure with redSeen := s.closure.redSeen.without (lostHealth s.lamp t.lamp) }

theorem redSeenFollows_rederiveHealth (hclosure : x.closure = s.closure) (hfunctions : x.lamp.functions = s.lamp.functions) :
    redSeenFollows s (rederiveHealth x) := fun h => by
  have hlost : lostHealth x.lamp (rederiveHealth x).lamp = lostHealth s.lamp (rederiveHealth x).lamp :=
    funext fun f => by simp only [lostHealth, functionHealthy, hfunctions]
  rw [rederiveHealth_prewarnRed (hclosure ▸ h), hclosure, hlost]

theorem redSeenFollows_congr (hclosure : y.closure = x.closure) (hlamp : y.lamp = x.lamp) (h : redSeenFollows s x) :
    redSeenFollows s y := fun hred => by rw [hclosure, hlamp]; exact h hred

/-! ## The flags of a channel (R151) -/

theorem hasFault_setFault (c : Channel) (kind : LampFault) : hasFault (setFault c kind) kind = true := by cases kind <;> rfl

theorem hasFault_setFault_ne {k kind : LampFault} (h : k ≠ kind) (c : Channel) : hasFault (setFault c kind) k = hasFault c k := by
  by_cases heq : k = kind
  · exact absurd heq h
  · cases kind <;> cases k <;> simp_all [hasFault, setFault]

theorem setFault_evaluated (h : kind = .openString ∨ kind = .shortString) (c : Channel) : (setFault c kind).evaluated = false := by
  rcases h with rfl | rfl <;> rfl

theorem updateChannel_self (i : ChannelId) (f : Channel → Channel) (s : State) :
    (updateChannel i f s).lamp.channels[i] = f (s.lamp.channels[i]) := tabModify_self ..

theorem updateChannel_ne (h : j ≠ i) (f : Channel → Channel) (s : State) :
    (updateChannel i f s).lamp.channels[j] = s.lamp.channels[j] := tabModify_ne _ _ _ _ h

theorem withLamp_frame (u : LampUnit) (s : State) : unchangedBut [.lamp] s (s.withLamp u) :=
  fun x hx => by cases x <;> simp_all [Part.same]

theorem noteSupply_frame (supply : Nat) (s : State) : unchangedBut [.pins] s (noteSupply supply s) :=
  fun x hx => by cases x <;> simp_all [Part.same, noteSupply]

/-- The condition that a latch needs, as a proposition (R151). -/
def faultHolds (c : Configured) (ch : Channel) (kind : LampFault) (current voltage supply : Nat) : Prop :=
  match kind with
  | .openString => current < c.openThreshold ∧ c.lowSupplyThreshold ≤ supply
  | .shortString => voltage < c.shortThreshold
  | .partialString => c.shortThreshold ≤ voltage ∧ voltage < (if ch.partialSelectTwo = true then c.partialTwo else c.partialOne)
      ∧ c.lowSupplyThreshold ≤ supply

theorem faultCondition_iff (c : Configured) (ch : Channel) (kind : LampFault) (current voltage supply : Nat) :
    faultCondition c ch kind current voltage supply = true ↔ faultHolds c ch kind current voltage supply := by
  cases kind
  · simp [faultCondition, faultHolds]
  · simp [faultCondition, faultHolds]
  · simp only [faultCondition, faultHolds, partialThreshold, Bool.and_eq_true, decide_eq_true_iff, and_assoc]
    exact and_congr_right fun _ => and_congr_left fun _ => decide_eq_true_iff

/-- The state in which a new flag of a channel is signalled. -/
def latched (i : ChannelId) (kind : LampFault) (s : State) : State :=
  rederiveHealth (updateChannel i (fun c => setFault c kind) s)

theorem lampFaultLatch_eq (i : ChannelId) (kind : LampFault) (current voltage supply : Nat) (s : State) :
    exec (.lampFaultLatch i kind current voltage supply) s = .next (
      if (s.lamp.channels[i]).diagnosing && faultCondition s.conf s.lamp.channels[i] kind current voltage supply
        && !hasFault s.lamp.channels[i] kind
      then signalLatch (faultMasked s.conf kind) (latched i kind (noteSupply supply s)) else noteSupply supply s) := rfl

/-- The faults of a channel after the latch are those that the flag set leaves. -/
theorem latched_faults (i j : ChannelId) (kind : LampFault) (s : State) :
    ((latched i kind s).lamp.channels[j]).faults = ((updateChannel i (fun c => setFault c kind) s).lamp.channels[j]).faults :=
  (keepsFaults_rederiveHealth _).faults j

theorem lampFault_passes {i : ChannelId} (h : (s.lamp.channels[i]).diagnosing = false
      ∨ ¬faultHolds s.conf s.lamp.channels[i] kind current voltage supply ∨ hasFault s.lamp.channels[i] kind = true) :
    exec (.lampFaultLatch i kind current voltage supply) s = .next (noteSupply supply s) := by
  rw [lampFaultLatch_eq, if_neg]
  rw [← faultCondition_iff] at h
  simp only [Bool.and_eq_true, Bool.not_eq_true', not_and_or]
  rcases h with h | h | h
  · exact .inl (.inl (by rw [h]; exact Bool.false_ne_true))
  · exact .inl (.inr h)
  · exact .inr (by rw [h]; decide)

theorem lampFault_latches {i : ChannelId} (hd : (s.lamp.channels[i]).diagnosing = true)
    (hc : faultHolds s.conf s.lamp.channels[i] kind current voltage supply) (hn : hasFault s.lamp.channels[i] kind = false) :
    exec (.lampFaultLatch i kind current voltage supply) s =
      .next (signalLatch (faultMasked s.conf kind) (latched i kind (noteSupply supply s))) := by
  rw [lampFaultLatch_eq, if_pos (by rw [hd, (faultCondition_iff ..).mpr hc, hn]; rfl)]

theorem latched_frame (i : ChannelId) (kind : LampFault) (s : State) :
    unchangedBut [.seq, .closure, .lamp, .display, .sup] s (latched i kind s) :=
  unchangedBut_trans (unchangedBut_mono (by simp) (withLamp_frame _ s)) (rederiveHealth_frame _)

/-! ## Undervoltage (R152) -/

/-- The state in which the undervoltage condition has followed the supply. -/
def undervolted (under : Bool) (s : State) : State :=
  rederiveHealth (s.withLamp { s.lamp with undervoltage := under, undervoltageSeen := true })

theorem undervoltage_changes (hrun : s.lamp.pulseClock ≠ none) {under : Bool}
    (hsupply : decide (supply < s.conf.undervoltageThreshold) = under) (hwas : s.lamp.undervoltage = !under) :
    exec (.undervoltageChange supply) s = .next (undervolted under (noteSupply supply s)) := by
  have hrun' : lampsRun (noteSupply supply s) = true := Option.isSome_iff_ne_none.mpr hrun
  have hwas' : (noteSupply supply s).lamp.undervoltage = !under := hwas
  change execUndervoltageChange supply s = _
  have hsupply' : decide (supply < (noteSupply supply s).conf.undervoltageThreshold) = under := hsupply
  simp only [execUndervoltageChange, hrun', hsupply', hwas']
  cases under <;> rfl

theorem undervolted_lamp (under : Bool) (s : State) : (undervolted under s).lamp.undervoltage = under
    ∧ (undervolted under s).lamp.undervoltageSeen = true :=
  ⟨(keepsFaults_rederiveHealth _).undervoltage, (keepsFaults_rederiveHealth _).undervoltageSeen⟩

theorem undervolted_frame (under : Bool) (s : State) :
    unchangedBut [.seq, .closure, .lamp, .display, .sup] s (undervolted under s) :=
  unchangedBut_trans (unchangedBut_mono (by simp) (withLamp_frame _ s)) (rederiveHealth_frame _)

/-! ## Low supply (R152, R157) -/

theorem lowSupply_latches (hrun : s.lamp.pulseClock ≠ none) (hlow : supply < s.conf.lowSupplyThreshold)
    (hwas : s.lamp.lowSupply = false) : exec (.lowSupplyLatch supply) s = .next (signalLatch s.conf.maskLowSupply
      ((noteSupply supply s).withLamp { s.lamp with lowSupply := true })) := by
  have hrun' : lampsRun (noteSupply supply s) = true := Option.isSome_iff_ne_none.mpr hrun
  have hwas' : (noteSupply supply s).lamp.lowSupply = false := hwas
  have hlow' : decide (supply < (noteSupply supply s).conf.lowSupplyThreshold) = true := decide_eq_true hlow
  change execLowSupplyLatch supply s = _
  simp only [execLowSupplyLatch, hrun', hlow', hwas']
  rfl

/-! ## CLEAR LAMP FAULTS (R158) -/

/-- The state after every latched lamp flag has been cleared. -/
def faultsCleared (s : State) : State := rederiveHealth (s.withLamp s.lamp.cleared)

theorem faultsCleared_frame (s : State) : unchangedBut [.seq, .closure, .lamp, .display, .sup] s (faultsCleared s) :=
  unchangedBut_trans (unchangedBut_mono (by simp) (withLamp_frame _ s)) (rederiveHealth_frame _)

theorem faultsCleared_hasFault (i : ChannelId) (k : LampFault) (s : State) : hasFault ((faultsCleared s).lamp.channels[i]) k = false := by
  have hcleared : ((faultsCleared s).lamp.channels[i]).faults = (s.lamp.cleared.channels[i]).faults :=
    (keepsFaults_rederiveHealth (s.withLamp s.lamp.cleared)).faults i
  rw [hasFault_congr hcleared]
  simp only [LampUnit.cleared, Fin.getElem_fin, tabMap_getElem]
  cases k <;> rfl

theorem takeClearFaults_clears (ha : s.sup.mode = .attended) :
    takeClearFaults [] s = accept [octet (channelFlags s.lamp), octet s.lamp.lowSupply.toNat] (faultsCleared s) := by
  simp only [takeClearFaults, attended, ha, beq_self_eq_true, Bool.not_true, Bool.false_eq_true, if_false] <;> rfl

theorem clearLampFaults_clears (hr : readyFor .control s) (ha : s.sup.mode = .attended) :
    let t := putReply .control 0x41#8 .ok [octet (channelFlags s.lamp), octet s.lamp.lowSupply.toNat]
      (faultsCleared (takenIn .control 0x41#8 s))
    exec (.clearLampFaults .control []) s = .next t
      ∧ answered .control 0x41#8 .ok [octet (channelFlags s.lamp), octet s.lamp.lowSupply.toNat] s t := by
  refine exec_accepted (c := .clearLampFaults .control []) (r := ⟨true, takeClearFaults⟩) rfl rfl (by decide) hr rfl ?_
  have htake := takeClearFaults_clears (s := takenIn .control 0x41#8 s) (by simpa using ha)
  rwa [takenIn_lamp] at htake

/-- Settles O50: what latches, what is signalled, and what the health of the functions and the red-seen flags make of it. -/
theorem lampFaultsLatchAndClear : Obligations.LampFaultsLatchAndClear := by
  intro s healthFollows signalled redSeen
  have hred {t : State} (h : redSeenFollows s t) : redSeen t := h
  refine ⟨?latch, fun supply ms hclock => ?supply, fun hr ha => ?clear⟩
  case latch =>
    intro i kind current voltage supply ch holds
    have hholds : faultHolds s.conf ch kind current voltage supply ↔ holds := by cases kind <;> rfl
    refine ⟨fun h => ⟨_, lampFault_passes (by rwa [hholds]), rfl, noteSupply_frame supply s⟩, fun hd hc hn => ?_⟩
    let x := noteSupply supply s
    let y := latched i kind x
    have hlamp : (signalLatch (faultMasked s.conf kind) y).lamp = y.lamp := signalLatch_lamp ..
    have hself : (updateChannel i (fun c => setFault c kind) x).lamp.channels[i] = setFault ch kind := updateChannel_self ..
    have hlinks : y.links = s.links := rederiveHealth_links _
    refine ⟨_, lampFault_latches hd (hholds.mpr hc) hn, ?pins, ?set, fun k hk => ?others, fun j hj k => ?channels, fun hkind => ?evaluated,
      fun f => ?health, hred ?red, ⟨?timer, ?control⟩, ?frame⟩
    case pins => rw [signalLatch_pins]; exact rederiveHealth_pins _
    case set => rw [hlamp, hasFault_congr (latched_faults i i kind x), hself, hasFault_setFault]
    case others => rw [hlamp, hasFault_congr (latched_faults i i kind x), hself, hasFault_setFault_ne hk]
    case channels => rw [hlamp, hasFault_congr (latched_faults i j kind x), updateChannel_ne hj]; rfl
    case evaluated =>
      rw [hlamp]
      exact (keepsFaults_rederiveHealth _).evaluated i
        ((congrArg Channel.evaluated hself).trans (setFault_evaluated hkind ch))
    case health => rw [hlamp]; exact rederiveHealth_follows _ f
    case red => exact redSeenFollows_congr (signalLatch_closure ..) hlamp (redSeenFollows_rederiveHealth rfl rfl)
    case timer =>
      have htimer : y.sup.pulseTimer = s.sup.pulseTimer := rederiveHealth_sup_pulseTimer _
      rw [signalLatch_pulseTimer, htimer]
      cases kind <;> rfl
    case control =>
      rw [signalLatch_control, hlinks]
      cases kind <;> rfl
    case frame =>
      exact unchangedBut_trans (unchangedBut_mono (by simp) (noteSupply_frame supply s))
        (unchangedBut_trans (unchangedBut_mono (by simp) (latched_frame i kind x)) (unchangedBut_mono (by simp) (signalLatch_frame _ y)))
  case supply =>
    have hrun : s.lamp.pulseClock ≠ none := by simp [hclock]
    let x := noteSupply supply s
    have hframe (under : Bool) : unchangedBut [.pins, .seq, .closure, .lamp, .display, .sup] s (undervolted under x) :=
      unchangedBut_trans (unchangedBut_mono (by simp) (noteSupply_frame supply s)) (unchangedBut_mono (by simp) (undervolted_frame under x))
    have hpins (under : Bool) : (undervolted under x).pins = { s.pins with supply := supply } := rederiveHealth_pins _
    refine ⟨fun hlow hwas => ?low, fun hunder hwas => ?under, fun hover hwas => ?above⟩
    case low =>
      refine ⟨_, lowSupply_latches hrun hlow hwas, signalLatch_pins .., signalLatch_lamp .., ⟨signalLatch_pulseTimer .., signalLatch_control ..⟩,
        signalLatch_sup .., ?_⟩
      exact unchangedBut_trans (unchangedBut_mono (by simp) (noteSupply_frame supply s))
        (unchangedBut_trans (unchangedBut_mono (by simp) (withLamp_frame _ x)) (unchangedBut_mono (by simp) (signalLatch_frame _ _)))
    case under =>
      exact ⟨_, undervoltage_changes hrun (decide_eq_true hunder) hwas, hpins true, (undervolted_lamp true x).1, (undervolted_lamp true x).2,
        fun f => (functionHealthy_rederived _ f).trans (functionHealthFrom_undervoltage rfl f),
        hred (redSeenFollows_rederiveHealth rfl rfl), hframe true⟩
    case above =>
      exact ⟨_, undervoltage_changes hrun (decide_eq_false (by omega)) hwas, hpins false, (undervolted_lamp false x).1,
        (undervolted_lamp false x).2, rederiveHealth_follows _, hred (redSeenFollows_rederiveHealth rfl rfl), hframe false⟩
  case clear =>
    obtain ⟨hexec, hanswered⟩ := clearLampFaults_clears hr ha
    let w := takenIn .control 0x41#8 s
    let y := faultsCleared w
    let t := putReply .control 0x41#8 .ok [octet (channelFlags s.lamp), octet s.lamp.lowSupply.toNat] y
    have hlampw : w.lamp = s.lamp := takenIn_lamp ..
    have hclosurew : w.closure = s.closure := takenIn_closure ..
    have hlamp : t.lamp = y.lamp := putReply_lamp ..
    have hkeeps : KeepsFaults (derivedUnit w.lamp.cleared) y.lamp := keepsFaults_rederiveHealth (w.withLamp w.lamp.cleared)
    refine ⟨_, hexec, hanswered, fun i k => ?flags, ?low, ?undervoltage, fun f => ?health, hred ?red, ?attention, ?sup, ?frame⟩
    case flags => rw [hlamp]; exact faultsCleared_hasFault i k w
    case low => rw [hlamp]; exact hkeeps.lowSupply
    case undervoltage => rw [hlamp, ← hlampw]; exact hkeeps.undervoltage
    case health => rw [hlamp]; exact rederiveHealth_follows _ f
    case red =>
      refine redSeenFollows_congr (putReply_closure ..) hlamp (redSeenFollows_rederiveHealth hclosurew ?_)
      have hfunctions : w.lamp.functions = s.lamp.functions := congrArg LampUnit.functions hlampw
      exact hfunctions
    case attention =>
      have hlinks : y.links = w.links := rederiveHealth_links _
      rw [putReply_attention, hlinks, takenIn_attention]
    case sup =>
      rw [putReply_sup, ← takenIn_sup .control 0x41#8 s]
      exact rederiveHealth_sup _
    case frame => exact putReply_frame_of_mem (unchangedBut_mono (by simp) (faultsCleared_frame w)) ⟨by decide, by decide⟩

end Sys2Proof.Machine

/-! The pulse drive, the evaluation of its windows and the end of a half (O49). -/

namespace Sys2Proof.Machine

open Sys2Proof

variable {s t x y : State} {u v : LampUnit} {i j : ChannelId} {second : Bool} {n : Nat}

/-! ## The flash timer and the half (R147) -/

/-- No half has held its 50 periods. -/
def halfOpen (u : LampUnit) : Prop := ∀ second n, u.flash = .running second n → n < 50

theorem endFlashHalf_open (h : halfOpen s.lamp) : endFlashHalf s = s := by
  unfold endFlashHalf
  split
  next second n hflash => rw [if_pos (show n < Config.periodsPerHalf from h second n hflash)]
  next => rfl
  next => rfl

/-- The unit at the end of a half, before the proven functions are reported (R147, R155). -/
def halfEnded (second : Bool) (u : LampUnit) : LampUnit :=
  { u with channels := tabMap (channelAtHalfEnd (phaseOfHalf second)) u.channels, flash := .running (!second) 0 }

theorem endFlashHalf_full (hflash : s.lamp.flash = .running second n) (hfull : 50 ≤ n) : endFlashHalf s =
    redsProven (allFunctions.filter (functionProven (phaseOfHalf second) s.lamp)) (s.withLamp (halfEnded second s.lamp)) := by
  have hn : ¬n < Config.periodsPerHalf := Nat.not_lt.mpr hfull
  simp only [endFlashHalf, hflash, if_neg hn]
  rfl

/-- A unit with its demands as they stood, or given anew. -/
def demandsGiven (u v : LampUnit) : Prop := v = u ∨ ∃ g, v = giveDemands g u

theorem demandsGiven_handRoadLight (p : RoadLight) (s : State) : demandsGiven s.lamp (handRoadLight p s).lamp := by
  unfold handRoadLight
  split
  · exact .inl rfl
  · exact .inr ⟨_, rfl⟩

theorem setClosureState_lamp (q : Bool) (st : ClosureState) (s : State) : (setClosureState q st s).lamp =
    (handRoadLight (roadLightOf st) (s.withClosure { s.closure with state := st })).lamp := by
  unfold setClosureState
  simp only
  split <;> simp

theorem demandsGiven_redsProven (fs : List FunctionId) (s : State) : demandsGiven s.lamp (redsProven fs s).lamp := by
  have hstate (q : Bool) (st : ClosureState) (y : State) : demandsGiven y.lamp (setClosureState q st y).lamp := by
    rw [setClosureState_lamp]
    exact demandsGiven_handRoadLight _ (y.withClosure _)
  unfold redsProven
  split
  next =>
    unfold testWarning
    split
    · split
      · rw [commandEach_lamp]; exact hstate ..
      · rw [holdWith_eq]; exact hstate false .closureHeld (holdFields .noEntryArm .entryLowering _)
    · exact .inl rfl
  next => exact .inl rfl

theorem halfOpen_of_given (h : halfOpen u) (hv : demandsGiven u v) : halfOpen v := by
  intro second n hflash
  obtain rfl | ⟨g, rfl⟩ := hv
  · exact h second n hflash
  · refine h second n ?_
    simp only [giveDemands] at hflash
    split at hflash
    · nomatch hflash
    · exact hflash

/-- The end of a half leaves a half that has not held its periods, and the pulse clock as it runs. -/
theorem endFlashHalf_ends (s : State) : halfOpen (endFlashHalf s).lamp ∧ (endFlashHalf s).lamp.pulseClock = s.lamp.pulseClock := by
  by_cases h : halfOpen s.lamp
  · rw [endFlashHalf_open h]
    exact ⟨h, rfl⟩
  · simp only [halfOpen, not_forall] at h
    obtain ⟨second, n, hflash, hn⟩ := h
    rw [endFlashHalf_full hflash (by omega)]
    have hgiven := demandsGiven_redsProven (allFunctions.filter (functionProven (phaseOfHalf second) s.lamp))
      (s.withLamp (halfEnded second s.lamp))
    refine ⟨halfOpen_of_given (fun b k hk => ?_) hgiven, ?_⟩
    · obtain ⟨_, rfl⟩ := Flash.running.inj hk
      decide
    · obtain hlamp | ⟨g, hlamp⟩ := hgiven <;> rw [hlamp] <;> rfl

/-! ## A period start (R146) -/

theorem mem_channels (u : LampUnit) (p : Channel → Bool) : u.channels.toList.any p = true ↔ ∃ i : ChannelId, p (u.channels[i]) = true := by
  rw [List.any_eq_true]
  constructor
  · rintro ⟨c, hc, hp⟩
    obtain ⟨k, hk, rfl⟩ := Vector.mem_iff_getElem.mp (Vector.mem_toList_iff.mp hc)
    exact ⟨⟨k, hk⟩, hp⟩
  · rintro ⟨i, hp⟩
    exact ⟨u.channels[i], Vector.mem_toList_iff.mpr (Vector.getElem_mem i.isLt), hp⟩

theorem phased_iff (d : ChannelDemand) : d.phased = true ↔ d = .phaseA ∨ d = .phaseB := by cases d <;> decide

theorem anyPhased_iff (u : LampUnit) :
    anyPhased u = true ↔ ∃ i : ChannelId, (u.channels[i]).demand = .phaseA ∨ (u.channels[i]).demand = .phaseB := by
  simp only [anyPhased, mem_channels, phased_iff]

theorem channel_atPeriod (c : Configured) (u : LampUnit) (i : ChannelId) :
    (lampsAtPeriod c u).channels[i] = channelAtPeriod c u (currentPhase (flashAtPeriod u)) u.channels[i] := by
  simp only [lampsAtPeriod, Fin.getElem_fin, tabMap_getElem]

theorem currentPhase_first (f : Flash) : currentPhase f = some .phaseA ↔ ∃ n, f = .running false n := by
  cases f with
  | stopped => simp [currentPhase]
  | starting => simp [currentPhase]
  | running second n => cases second <;> simp [currentPhase, phaseOfHalf]

theorem currentPhase_second (f : Flash) : currentPhase f = some .phaseB ↔ ∃ n, f = .running true n := by
  cases f with
  | stopped => simp [currentPhase]
  | starting => simp [currentPhase]
  | running second n => cases second <;> simp [currentPhase, phaseOfHalf]

/-- A channel is driven at STEADY, or in the half of its phase, when it is assigned and has no SHORT flag (R146). -/
theorem drivenIn_iff (f : Flash) (c : Channel) : drivenIn (currentPhase f) c = true ↔ c.function ≠ none ∧ c.shortFlag = false
    ∧ (c.demand = .steady ∨ (c.demand = .phaseA ∧ ∃ n, f = .running false n) ∨ (c.demand = .phaseB ∧ ∃ n, f = .running true n)) := by
  rw [← currentPhase_first, ← currentPhase_second]
  have hsome : c.function.isSome = true ↔ c.function ≠ none := Option.isSome_iff_ne_none
  cases hd : c.demand <;> simp [drivenIn, hd, ChannelDemand.phased, hsome, and_assoc]

/-! ## The end of an evaluation window (R155) -/

theorem windowEnd_driven (lowest clearFor : Nat) (h : (s.lamp.channels[i]).output = true) :
    exec (.evaluationWindowEnd i lowest clearFor) s = .next (updateChannel i (channelAtWindowEnd
      (decide (s.conf.lowSupplyThreshold ≤ lowest) && voltageStayedClear s.conf s.lamp s.lamp.channels[i] clearFor)) s) := by
  change execEvaluationWindowEnd i lowest clearFor s = _
  simp only [execEvaluationWindowEnd, h, if_true]

/-! ## The functions proven (R114, R156) -/

/-- The red-seen flags with those of the functions named. -/
def RedSeen.with (r : RedSeen) (proven : FunctionId → Bool) : RedSeen :=
  ⟨r.wRedA || proven .wRedA, r.wRedB || proven .wRedB, r.eRedA || proven .eRedA, r.eRedB || proven .eRedB⟩

theorem setRedSeen_eq (f : FunctionId) (r : RedSeen) : setRedSeen f r = r.with (fun g => g == f) := by
  obtain ⟨a, b, c, d⟩ := r
  cases f <;> simp [setRedSeen, RedSeen.with]

theorem RedSeen.with_with (r : RedSeen) (p q : FunctionId → Bool) : (r.with p).with q = r.with (fun f => p f || q f) := by
  simp [RedSeen.with, Bool.or_assoc]

theorem foldl_setRedSeen (fs : List FunctionId) (r : RedSeen) :
    fs.foldl (fun r f => setRedSeen f r) r = r.with (fun f => decide (f ∈ fs)) := by
  induction fs generalizing r with
  | nil => simp [RedSeen.with]
  | cons g fs ih =>
    rw [List.foldl_cons, ih, setRedSeen_eq, RedSeen.with_with]
    congr 1
    funext f
    by_cases h : f = g <;> simp [h]

theorem foldl_setRedSeen_filter (p : FunctionId → Bool) (r : RedSeen) :
    (allFunctions.filter p).foldl (fun r f => setRedSeen f r) r = r.with p := by
  rw [foldl_setRedSeen]
  congr 1
  funext f
  rw [Bool.eq_iff_iff, decide_eq_true_iff, List.mem_filter]
  exact and_iff_right (mem_allFunctions f)

theorem redsProven_prewarnRed (h : s.closure.state = .prewarnRed) (p : FunctionId → Bool) : redsProven (allFunctions.filter p) s =
    testWarning false (s.withClosure { s.closure with redSeen := s.closure.redSeen.with p }) := by
  rw [redsProven, if_pos h, foldl_setRedSeen_filter]

/-! ## A closure state whose road light already shows (R126) -/

theorem setClosureState_lit {q : Bool} {st : ClosureState} (h : s.display.road = roadLightOf st) :
    (setClosureState q st s).lamp = s.lamp ∧ (setClosureState q st s).display = s.display := by
  have hhand : handRoadLight (roadLightOf st) (s.withClosure { s.closure with state := st }) =
      s.withClosure { s.closure with state := st } := if_pos h
  refine ⟨by rw [setClosureState_lamp, hhand]; rfl, ?_⟩
  rw [setClosureState_display, ← h]

/-- Parts that stand beside the others listed. -/
theorem unchangedBut_lit {ps qs : List Part} (h : unchangedBut ps s t) (hlit : t.lamp = s.lamp ∧ t.display = s.display)
    (hsub : ∀ p ∈ ps, p = .lamp ∨ p = .display ∨ p ∈ qs) : unchangedBut qs s t := by
  intro p hp
  by_cases hmem : p ∈ ps
  · rcases hsub p hmem with rfl | rfl | hq
    · exact hlit.1
    · exact hlit.2
    · exact absurd hq hp
  · exact h p hmem

end Sys2Proof.Machine

/-! The pulse drive and the proof of an on-phase (O49). -/

namespace Sys2Proof.Machine

open Sys2Proof

variable {s t : State} {i : ChannelId} {second : Bool} {n : Nat}

/-! ## The pulse drive (R146, R147, R150) -/

theorem pulsePeriodStart_open (hclock : s.lamp.pulseClock ≠ none) (h : halfOpen s.lamp) :
    exec .pulsePeriodStart s = .next (s.withLamp (lampsAtPeriod s.conf s.lamp)) := by
  rw [pulsePeriodStart_running hclock, endFlashHalf_open h]

/-- A half that its own command has ended is ended no second time by the period start (log entry 37). -/
theorem pulsePeriodStart_after_halfEnd (hclock : s.lamp.pulseClock ≠ none) :
    exec .pulsePeriodStart s = exec .pulsePeriodStart (endFlashHalf s) := by
  obtain ⟨hopen, hkept⟩ := endFlashHalf_ends s
  rw [pulsePeriodStart_running hclock, pulsePeriodStart_open (by rwa [hkept]) hopen]

theorem flashAtPeriod_unphased {u : LampUnit} (h : ∀ i : ChannelId, (u.channels[i]).demand = .off ∨ (u.channels[i]).demand = .steady) :
    flashAtPeriod u = .stopped := by
  have hnone : anyPhased u = false := Bool.eq_false_iff.mpr fun hany => by
    obtain ⟨i, hi⟩ := (anyPhased_iff u).mp hany
    rcases h i with h | h <;> rw [h] at hi <;> nomatch hi
  simp [flashAtPeriod, hnone]

theorem flashAtPeriod_phased {u : LampUnit} (h : ∃ i : ChannelId, (u.channels[i]).demand = .phaseA ∨ (u.channels[i]).demand = .phaseB) :
    flashAtPeriod u = (match u.flash with
      | .running second n => .running second (n + 1)
      | .stopped | .starting => .running false 1) := by
  simp only [flashAtPeriod, (anyPhased_iff u).mpr h, Bool.not_true, Bool.false_eq_true, if_false]
  cases u.flash <;> rfl

/-! ## The evaluation of an on-phase (R155) -/

theorem onPhaseEvaluable_iff (c : Channel) : onPhaseEvaluable c = true ↔
    c.drivenInHalf = 50 ∧ c.diagnosedInHalf = 50 ∧ c.openFlag = false ∧ c.shortFlag = false := by
  simp [onPhaseEvaluable, Config.periodsPerHalf, and_assoc]

theorem channel_halfEnded (second : Bool) (u : LampUnit) (i : ChannelId) :
    (halfEnded second u).channels[i] = channelAtHalfEnd (phaseOfHalf second) u.channels[i] := by
  simp only [halfEnded, Fin.getElem_fin, tabMap_getElem]

theorem windowEnd_steady {full : Bool} {c : Channel} (he : c.inEffect = true) (hd : c.demand = .steady) :
    (channelAtWindowEnd full c).evaluated = true ↔ full = true ∧ c.openFlag = false ∧ c.shortFlag = false := by
  simp [channelAtWindowEnd, he, hd, and_assoc]

theorem windowEnd_phased {full : Bool} {c : Channel} (he : c.inEffect = true) (hd : c.demand.phased = true) :
    (channelAtWindowEnd full c).diagnosedInHalf = c.diagnosedInHalf + full.toNat
      ∧ (channelAtWindowEnd full c).evaluated = c.evaluated := by
  have hsteady : (c.demand == .steady) = false := by
    rcases (phased_iff _).mp hd with h | h <;> rw [h] <;> rfl
  cases full <;> simp [channelAtWindowEnd, he, hd, hsteady]

/-! ## The report of the proven functions (R114, R115, R156) -/

/-- The red-seen flags with the functions that the half has proven. -/
def redsSeen (second : Bool) (s : State) : Closure :=
  { s.closure with redSeen := s.closure.redSeen.with (functionProven (phaseOfHalf second) s.lamp) }

/-- The state in which the warning is tested at the end of a half. -/
def halfReported (second : Bool) (s : State) : State :=
  (s.withLamp (halfEnded second s.lamp)).withClosure (redsSeen second s)

theorem halfReported_frame (second : Bool) (s : State) : unchangedBut [.closure, .lamp] s (halfReported second s) :=
  unchangedBut_trans (unchangedBut_mono (by simp) (withLamp_frame _ s)) (unchangedBut_mono (by simp) (withClosure_frame _ _))

theorem warningPassed_iff (c : Closure) : warningPassed c = true ↔
    c.redTimeExpired = true ∧ ((westProven c = true ∧ eastProven c = true) ∨ c.override = true) := by
  simp [warningPassed]

theorem flashHalfEnd_elsewhere (hflash : s.lamp.flash = .running second n) (hfull : 50 ≤ n) (hst : s.closure.state ≠ .prewarnRed) :
    exec .flashHalfEnd s = .next (s.withLamp (halfEnded second s.lamp)) := by
  have hstate : (s.withLamp (halfEnded second s.lamp)).closure.state ≠ .prewarnRed := hst
  refine congrArg Host.Outcome.next ?_
  rw [endFlashHalf_full hflash hfull, redsProven, if_neg hstate]

theorem flashHalfEnd_prewarnRed (hflash : s.lamp.flash = .running second n) (hfull : 50 ≤ n) (hst : s.closure.state = .prewarnRed) :
    exec .flashHalfEnd s = .next (testWarning false (halfReported second s)) := by
  have hstate : (s.withLamp (halfEnded second s.lamp)).closure.state = .prewarnRed := hst
  refine congrArg Host.Outcome.next ?_
  rw [endFlashHalf_full hflash hfull, redsProven_prewarnRed hstate] <;> rfl

/-- The warning proven at the end of a half: the entry arms are commanded DOWN (R115). -/
theorem halfReported_lowers (hst : s.closure.state = .prewarnRed) (hlight : s.display.road = .red) :
    let t := commandEach .down entryArms (setClosureState false .entryLowering (halfReported second s))
    t.lamp = halfEnded second s.lamp ∧ t.closure = { redsSeen second s with state := .entryLowering }
      ∧ commandedOnly .down entryArms s t ∧ t.display.road = .red
      ∧ t.links.control = { s.links.control with attention := ⟨true, s.links.control.attention.causes.add .closure⟩ }
      ∧ unchangedBut [.controlPort, .closure, .arms, .stations, .lamp] s t := by
  intro t
  let y := halfReported second s
  obtain ⟨hlamp, hdisplay⟩ := setClosureState_lit (s := y) (q := false) (st := .entryLowering) hlight
  have hstate : y.closure.state = .prewarnRed := hst
  have hlit : t.lamp = y.lamp ∧ t.display = y.display := ⟨(commandEach_lamp ..).trans hlamp, (commandEach_display ..).trans hdisplay⟩
  refine ⟨hlit.1, ?closure, ?arms, by rw [hlit.2]; exact hlight, ?links, ?frame⟩
  case closure => exact (commandEach_closure ..).trans (setClosureState_closure ..)
  case arms => exact commandedOnly_congr ⟨rfl, rfl⟩ ⟨rfl, rfl⟩ (commandedOnly_entered .entryLowering false entryArms y)
  case links =>
    change (commandEach .down entryArms (setClosureState false .entryLowering y)).links.control = _
    rw [commandEach_links, setClosureState_loud_links (by simp [hstate])]
    rfl
  case frame =>
    refine unchangedBut_trans (unchangedBut_mono (by simp) (halfReported_frame second s)) ?_
    exact unchangedBut_lit (loweringEntered_frame false entryArms (by simp [y, hstate])) hlit (by decide)

/-- The warning proven with an approach without an entry arm: the closure is held (R115). -/
theorem halfReported_holds (hst : s.closure.state = .prewarnRed) (hlight : s.display.road = .red) :
    let t := holdWith .noEntryArm .entryLowering (halfReported second s)
    t.lamp = halfEnded second s.lamp ∧ heldNow .noEntryArm .entryLowering (halfReported second s) t
      ∧ unchangedBut [.controlPort, .closure, .arms, .lamp, .sup] s t := by
  intro t
  let y := halfReported second s
  have hstate : y.closure.state = .prewarnRed := hst
  have hlit : t.lamp = y.lamp ∧ t.display = y.display :=
    setClosureState_lit (s := holdFields .noEntryArm .entryLowering y) (q := false) (st := .closureHeld) hlight
  refine ⟨hlit.1, holdWith_held (fun h => nomatch hstate.symm.trans h), ?_⟩
  refine unchangedBut_trans (unchangedBut_mono (by simp) (halfReported_frame second s)) ?_
  exact unchangedBut_lit (holdWith_frame _ _ y) hlit (by decide)

/-- What a channel has of an ended half (R155). -/
theorem halfEnded_evaluates (second : Bool) (s : State) : (halfEnded second s.lamp).flash = .running (!second) 0
    ∧ (∀ i : ChannelId, (s.lamp.channels[i]).demand = phaseOfHalf second →
      (((halfEnded second s.lamp).channels[i]).evaluated = true ↔ (s.lamp.channels[i]).drivenInHalf = 50
        ∧ (s.lamp.channels[i]).diagnosedInHalf = 50 ∧ (s.lamp.channels[i]).openFlag = false ∧ (s.lamp.channels[i]).shortFlag = false))
    ∧ ∀ i : ChannelId, (s.lamp.channels[i]).demand ≠ phaseOfHalf second →
      ((halfEnded second s.lamp).channels[i]).evaluated = (s.lamp.channels[i]).evaluated := by
  refine ⟨rfl, fun i hd => ?_, fun i hd => ?_⟩ <;> rw [channel_halfEnded]
  · rw [← onPhaseEvaluable_iff, channelAtHalfEnd, hd]
    simp
  · exact if_neg fun h => hd (eq_of_beq h)

/-- Settles O49: the period start, the two ends of a half, and the end of a window. -/
theorem pulsesAreDrivenAndEvaluated : Obligations.PulsesAreDrivenAndEvaluated := by
  intro s
  refine ⟨fun ms hclock hopen => ?period, fun ms u hclock hend => ?again, ?window, fun hopen => congrArg _ (endFlashHalf_open hopen),
    fun second n hflash hfull hlit => ?half⟩
  case period =>
    let t := s.withLamp (lampsAtPeriod s.conf s.lamp)
    have hch (i : ChannelId) : t.lamp.channels[i] =
        channelAtPeriod s.conf s.lamp (currentPhase (flashAtPeriod s.lamp)) s.lamp.channels[i] := channel_atPeriod s.conf s.lamp i
    refine ⟨t, pulsePeriodStart_open (by simp [hclock]) hopen, rfl, rfl, rfl, rfl, rfl, rfl, rfl, fun i => ?_, fun i f hf => ?_,
      fun i => ?_, flashAtPeriod_unphased, flashAtPeriod_phased, withLamp_frame _ s⟩
    · rw [hch]; rfl
    · exact onTime_atPeriod s.conf s.lamp i hf
    · rw [hch]; exact drivenIn_iff _ _
  case again =>
    obtain rfl := Host.Outcome.next.inj hend
    exact pulsePeriodStart_after_halfEnd (by simp [hclock])
  case window =>
    intro i lowest clearFor hout full
    have hfull : (decide (s.conf.lowSupplyThreshold ≤ lowest) && voltageStayedClear s.conf s.lamp s.lamp.channels[i] clearFor) = full := by
      simp only [full, voltageStayedClear, Bool.and_assoc]
    have hexec := windowEnd_driven lowest clearFor hout
    rw [hfull] at hexec
    have hch := updateChannel_self i (channelAtWindowEnd full) s
    refine ⟨_, hexec, by rw [hch]; rfl, fun he hd => by rw [hch]; exact windowEnd_steady he hd,
      fun he hd => by rw [hch]; exact windowEnd_phased he hd, by rw [hch]; rfl, withLamp_frame _ s⟩
  case half =>
    intro phase proven
    obtain ⟨hrunning, hphase, hothers⟩ := halfEnded_evaluates second s
    by_cases hst : s.closure.state = .prewarnRed
    · have hexec := flashHalfEnd_prewarnRed hflash hfull hst
      have hlight : s.display.road = .red := by rw [hlit, hst]; rfl
      let y := halfReported second s
      by_cases hp : warningPassed y.closure = true
      · have hprewarn : y.closure.state = .prewarnRed ∧ warningPassed y.closure = true := ⟨hst, hp⟩
        obtain ⟨hred, hpassed⟩ := (warningPassed_iff y.closure).mp hp
        have hstays {P : Prop} (hne : y.closure.redTimeExpired = false ∨
            ¬((westProven y.closure = true ∧ eastProven y.closure = true) ∨ y.closure.override = true)) : P :=
          hne.elim (fun h => absurd (hred.symm.trans h) (by decide)) fun h => absurd hpassed h
        cases harms : hasEntryArms s with
        | true =>
          have hharms : hasEntryArms y = true := (hasEntryArms_congr rfl).trans harms
          rw [testWarning_lowers hprewarn hharms] at hexec
          obtain ⟨hlamp, hlowered⟩ := halfReported_lowers (second := second) hst hlight
          refine ⟨_, hexec, by rw [hlamp]; exact hrunning, by rw [hlamp]; exact hphase, by rw [hlamp]; exact hothers, fun h => absurd hst h,
            fun _ => ⟨fun h => hstays h, fun _ _ => ⟨fun _ => hlowered, fun h => nomatch h⟩⟩⟩
        | false =>
          have hharms : hasEntryArms y = false := (hasEntryArms_congr rfl).trans harms
          rw [testWarning_holds hprewarn hharms] at hexec
          obtain ⟨hlamp, hheld, hframe⟩ := halfReported_holds (second := second) hst hlight
          refine ⟨_, hexec, by rw [hlamp]; exact hrunning, by rw [hlamp]; exact hphase, by rw [hlamp]; exact hothers, fun h => absurd hst h,
            fun _ => ⟨fun h => hstays h, fun _ _ => ⟨fun h => (nomatch h), fun _ => ⟨?_, hframe⟩⟩⟩⟩
          exact (heldNow_congr rfl).mp hheld
      · rw [testWarning_stays (fun h => hp h.2)] at hexec
        refine ⟨_, hexec, hrunning, hphase, hothers, fun h => absurd hst h, fun _ => ⟨fun _ => ⟨rfl, halfReported_frame second s⟩,
          fun hred hpassed => absurd ?_ hp⟩⟩
        exact (warningPassed_iff y.closure).mpr ⟨hred, hpassed⟩
    · exact ⟨_, flashHalfEnd_elsewhere hflash hfull hst, hrunning, hphase, hothers, fun _ => withLamp_frame _ s, fun h => absurd h hst⟩

end Sys2Proof.Machine

/-! Lock switches and lock timers at the leaf records: the layer of O37. -/

namespace Sys2Proof.Machine

open Sys2Proof

variable {s t u : State} {m n : LeafMotion} {k j : LockId} {switch : LockSwitch} {made : Bool} {l : Lock} {cause : TripCause} {o : Opening}

/-! ## A lock whose switch has moved (R80) -/

/-- The lock with the switch in its new level, its timer as it stood. -/
def Lock.moved (switch : LockSwitch) (made : Bool) (l : Lock) : Lock :=
  match switch with
  | .driven => { l with drivenSwitch := made }
  | .withdrawn => { l with withdrawnSwitch := made }

theorem switched_eq (switch : LockSwitch) (made : Bool) (l : Lock) : l.switched switch made =
    if l.command = none then l.moved switch made
    else if lockReached (l.moved switch made) = true then { l.moved switch made with timer := none }
    else if lockReached l = true then { l.moved switch made with timer := some 0 } else l.moved switch made := rfl

theorem switched_idle (h : l.command = none) : l.switched switch made = l.moved switch made := by rw [switched_eq, if_pos h]

/-- The timer alone tells a switched lock from a moved one. -/
theorem switched_timed (switch : LockSwitch) (made : Bool) (l : Lock) :
    ∃ x, l.switched switch made = { l.moved switch made with timer := x } := by
  rw [switched_eq]
  split_ifs
  · exact ⟨_, rfl⟩
  · exact ⟨_, rfl⟩
  · exact ⟨_, rfl⟩
  · exact ⟨_, rfl⟩

theorem lockState_timed (l : Lock) (x : Option Nat) : lockState { l with timer := x } = lockState l := rfl

theorem lockState_switched (switch : LockSwitch) (made : Bool) (l : Lock) :
    lockState (l.switched switch made) = lockState (l.moved switch made) := by
  obtain ⟨x, hx⟩ := switched_timed switch made l
  rw [hx, lockState_timed]

theorem switched_unproven (switch : LockSwitch) (made : Bool) (l : Lock) : (l.switched switch made).unproven = l.unproven := by
  obtain ⟨x, hx⟩ := switched_timed switch made l
  rw [hx]
  cases switch <;> rfl

/-- A lock that no command holds leaves the state that a switch proves as soon as one of its switches moves (R80). -/
theorem lockState_moved_ne (hl : l.command = none) (hne : l.moved switch made ≠ l)
    (hst : lockState l = .driven ∨ lockState l = .withdrawn) : lockState (l.moved switch made) ≠ lockState l := by
  obtain ⟨command, driven, withdrawn, timer, unproven⟩ := l
  obtain rfl : command = none := hl
  cases switch <;> cases made <;> cases driven <;> cases withdrawn <;>
    simp_all [Lock.moved, lockState]

/-! ## The leaf records with a lock replaced -/

/-- The leaf records with one lock's record replaced. -/
def LeafMotion.withLock (k : LockId) (l : Lock) (m : LeafMotion) : LeafMotion := { m with locks := m.locks.set k l }

theorem withLock_self (k : LockId) (l : Lock) (m : LeafMotion) : (m.withLock k l).locks.get k = l := by
  cases k <;> rfl

theorem withLock_ne (h : j ≠ k) (l : Lock) (m : LeafMotion) : (m.withLock k l).locks.get j = m.locks.get j := by
  cases j <;> cases k <;> simp_all [LeafMotion.withLock, PerLock.get, PerLock.set]

theorem withLock_withLock (k : LockId) (l l' : Lock) (m : LeafMotion) : (m.withLock k l).withLock k l' = m.withLock k l' := by
  cases k <;> rfl

theorem withLock_map {f : Lock → Lock} {l' : Lock} (h : f l = f l') (k : LockId) (m : LeafMotion) :
    (m.withLock k l).locks.map f = (m.withLock k l').locks.map f := by
  cases k <;> simp [LeafMotion.withLock, PerLock.set, PerLock.map, h]

theorem allLocks_iff (st : LockState) (m : LeafMotion) : allLocks st m = true ↔ ∀ k, lockState (m.locks.get k) = st := by
  simp only [allLocks, Bool.and_eq_true, beq_iff_eq]
  exact ⟨fun ⟨⟨hw, he⟩, hc⟩ k => by cases k; exacts [hw, he, hc], fun h => ⟨⟨h .westTail, h .eastTail⟩, h .centre⟩⟩

theorem allLocks_congr {st : LockState} (h : ∀ k, lockState (n.locks.get k) = lockState (m.locks.get k)) :
    allLocks st n = allLocks st m := by
  rw [Bool.eq_iff_iff, allLocks_iff, allLocks_iff]
  simp only [h]

theorem allLocks_withLock {l' : Lock} (h : lockState l = lockState l') (st : LockState) (k : LockId) (m : LeafMotion) :
    allLocks st (m.withLock k l) = allLocks st (m.withLock k l') := by
  refine allLocks_congr fun j => ?_
  by_cases hj : j = k
  · rw [hj, withLock_self, withLock_self, h]
  · rw [withLock_ne hj, withLock_ne hj]

/-! ## What a moved switch does to the group (R88 to R91) -/

theorem lockSwitch_eq (k : LockId) (switch : LockSwitch) (made : Bool) (m : LeafMotion) : m.lockSwitch k switch made =
    (m.withLock k ((m.locks.get k).switched switch made)).lockMoved k (lockState (m.locks.get k))
      (lockState ((m.locks.get k).moved switch made)) := by
  rw [← lockState_switched]
  rfl

theorem lockMoved_stands {was now : LockState} (h : m.group.state = .inactive ∨ m.group.state = .tripped ∨ m.group.state = .halted
      ∨ (m.group.state = .stowed ∧ was ≠ .driven)
      ∨ ((m.group.state.profileRuns = true ∨ m.group.state = .heldOpen) ∧ was ≠ .withdrawn)) : m.lockMoved k was now = m := by
  rcases h with h | h | h | ⟨h, hne⟩ | ⟨h | h, hne⟩
  · simp [LeafMotion.lockMoved, h]
  · simp [LeafMotion.lockMoved, h]
  · simp [LeafMotion.lockMoved, h]
  · simp [LeafMotion.lockMoved, h, hne]
  · rcases (profileRuns_iff _).mp h with (h | h | h | h) | h <;> simp [LeafMotion.lockMoved, h, hne]
  · simp [LeafMotion.lockMoved, h, hne]

theorem lockMoved_unproven {was now : LockState} (h : m.group.state = .stowed) (hwas : was = .driven) (hnow : now ≠ .driven) :
    m.lockMoved k was now = m.withLock k { m.locks.get k with unproven := true } := by
  simp only [LeafMotion.lockMoved, h]
  exact if_pos ⟨hwas, hnow⟩

theorem lockMoved_withdrawn {was now : LockState} (h : m.group.state.profileRuns = true ∨ m.group.state = .heldOpen)
    (hwas : was = .withdrawn) (hnow : now ≠ .withdrawn) : m.lockMoved k was now = m.trip .lockFault := by
  rcases h with h | h
  · rcases (profileRuns_iff _).mp h with (h | h | h | h) | h <;> simp [LeafMotion.lockMoved, h, hwas, hnow]
  · simp [LeafMotion.lockMoved, h, hwas, hnow]

theorem lockMoved_conflict {was : LockState} (h : m.group.state = .unlocking ∨ m.group.state = .locking) (hwas : was ≠ .conflict) :
    m.lockMoved k was .conflict = m.trip .lockFault := by
  rcases h with h | h <;> simp [LeafMotion.lockMoved, h, hwas]

theorem lockMoved_unlocking {was now : LockState} (h : m.group.state = .unlocking) (hnow : now ≠ .conflict) :
    m.lockMoved k was now = m.finishUnlocking := by simp [LeafMotion.lockMoved, h, hnow]

theorem lockMoved_locking {was now : LockState} (h : m.group.state = .locking) (hnow : now ≠ .conflict) :
    m.lockMoved k was now = m.finishLocking := by simp [LeafMotion.lockMoved, h, hnow]

/-! ## Trips (R100) -/

theorem trip_stopping (h : m.group.state = .stopping) (cause : TripCause) :
    m.trip cause = trippedLeaf (m.group.cause.getD cause) m := by
  have hne : m.group.state ≠ .tripped := by simp [h]
  simp only [LeafMotion.trip, if_neg hne, if_pos h]
  cases hc : m.group.cause <;> rfl

theorem trippedLeaf_withLock (cause : TripCause) (k : LockId) (x : Option Nat) (l : Lock) (m : LeafMotion) :
    trippedLeaf cause (m.withLock k { l with timer := x }) = trippedLeaf cause (m.withLock k l) := by
  have hmap := withLock_map (f := fun k => { k with command := none, timer := none }) (l := { l with timer := x }) (l' := l) rfl k m
  unfold trippedLeaf
  rw [hmap]
  rfl

theorem trippedLeaf_switched (cause : TripCause) (k : LockId) (m : LeafMotion) :
    trippedLeaf cause (m.withLock k (l.switched switch made)) = trippedLeaf cause (m.withLock k (l.moved switch made)) := by
  obtain ⟨x, hx⟩ := switched_timed switch made l
  rw [hx, trippedLeaf_withLock]

/-- A change of the leaf records that trips a group not yet tripped, with its report (R100, R103). -/
theorem trips_applyLeaf {f : LeafMotion → LeafMotion} (hf : f s.leaf = trippedLeaf cause m) (h : s.leaf.group.state ≠ .tripped) :
    trips cause m s (applyLeaf f s) := by
  obtain ⟨hleaf, hopening, hreport⟩ := applyLeaf_stopped (f := f) (s := s) (by rw [hf]; exact .inl rfl)
    (by rw [hf]; exact fun he => h he.symm)
  exact ⟨hleaf.trans hf, hopening, hreport⟩

/-! ## The switch event (R91) -/

theorem lockSwitchChange_moves (h : (s.leaf.locks.get k).moved switch made ≠ s.leaf.locks.get k) :
    exec (.lockSwitchChange k switch made) s = .next (lockSwitchEvent k switch made s) := by
  change execLockSwitchChange k switch made s = _
  cases switch <;> refine if_neg fun heq => h ?_ <;> simp only [Lock.moved, ← heq]

/-- An event that sets no new latch is the change of the leaf records alone. -/
theorem lockSwitchEvent_quiet
    (h : (s.leaf.locks.get k).unproven = true ∨ ((s.leaf.lockSwitch k switch made).locks.get k).unproven = false) :
    lockSwitchEvent k switch made s = applyLeaf (LeafMotion.lockSwitch k switch made) s := by
  simp only [lockSwitchEvent, applyLeaf_leaf]
  rcases h with h | h <;> simp [h]

/-- A lock whose latch stands as it did sets no new one. -/
theorem no_new_latch {b c : Bool} (h : c = b) : b = true ∨ c = false := by
  cases b <;> simp [h]

end Sys2Proof.Machine

/-! Lock switches and lock timers by the group state (O37). -/

namespace Sys2Proof.Machine

open Sys2Proof

variable {s t u : State} {m n : LeafMotion} {k j : LockId} {switch : LockSwitch} {made : Bool} {l : Lock} {cause : TripCause} {o : Opening}

/-- The leaf records with the switch in its new level and the lock's timer as it stood. -/
def switchLeaf (k : LockId) (switch : LockSwitch) (made : Bool) (m : LeafMotion) : LeafMotion :=
  m.withLock k ((m.locks.get k).moved switch made)

/-- The leaf records with the switch in its new level and the lock's timer as R80 has it. -/
def timedLeaf (k : LockId) (switch : LockSwitch) (made : Bool) (m : LeafMotion) : LeafMotion :=
  m.withLock k ((m.locks.get k).switched switch made)

theorem timedLeaf_locks (st : LockState) (k : LockId) (switch : LockSwitch) (made : Bool) (m : LeafMotion) :
    allLocks st (timedLeaf k switch made m) = allLocks st (switchLeaf k switch made m) :=
  allLocks_withLock (lockState_switched ..) st k m

theorem timedLeaf_idle (h : (m.locks.get k).command = none) : timedLeaf k switch made m = switchLeaf k switch made m := by
  rw [timedLeaf, switched_idle h, switchLeaf]

theorem lockSwitch_timed (k : LockId) (switch : LockSwitch) (made : Bool) (m : LeafMotion) : m.lockSwitch k switch made =
    (timedLeaf k switch made m).lockMoved k (lockState (m.locks.get k)) (lockState ((m.locks.get k).moved switch made)) :=
  lockSwitch_eq ..

/-- A switch change that sets no new latch is a change of the leaf records with its report. -/
theorem switch_applies (hne : (s.leaf.locks.get k).moved switch made ≠ s.leaf.locks.get k)
    (h : ((s.leaf.lockSwitch k switch made).locks.get k).unproven = (s.leaf.locks.get k).unproven
      ∨ ((s.leaf.lockSwitch k switch made).locks.get k).unproven = false) :
    exec (.lockSwitchChange k switch made) s = .next (applyLeaf (LeafMotion.lockSwitch k switch made) s) := by
  rw [lockSwitchChange_moves hne, lockSwitchEvent_quiet (h.elim no_new_latch .inr)]

theorem timedLeaf_unproven (k : LockId) (switch : LockSwitch) (made : Bool) (m : LeafMotion) :
    ((timedLeaf k switch made m).locks.get k).unproven = (m.locks.get k).unproven := by
  rw [timedLeaf, withLock_self, switched_unproven]

/-! ## The lock record alone follows (R80, R91) -/

/-- A switch that moves nothing else, with the lock's timer as R80 has it. -/
theorem switch_stands (hne : (s.leaf.locks.get k).moved switch made ≠ s.leaf.locks.get k)
    (h : s.leaf.lockSwitch k switch made = timedLeaf k switch made s.leaf) :
    exec (.lockSwitchChange k switch made) s = .next (s.withLeaf (timedLeaf k switch made s.leaf)) := by
  rw [switch_applies hne (.inl (by rw [h, timedLeaf_unproven])), applyLeaf_same (by rw [h]; rfl), h]

/-- A lock that leaves DRIVEN in STOWED is latched unproven (R91). -/
theorem switch_unproven (hne : (s.leaf.locks.get k).moved switch made ≠ s.leaf.locks.get k) (hst : s.leaf.group.state = .stowed)
    (hidle : (s.leaf.locks.get k).command = none) (hwas : lockState (s.leaf.locks.get k) = .driven) :
    let leaf := s.leaf.withLock k { (s.leaf.locks.get k).moved switch made with unproven := true }
    exec (.lockSwitchChange k switch made) s =
      .next (if (s.leaf.locks.get k).unproven = true then s.withLeaf leaf else pulseFault (s.withLeaf leaf)) := by
  intro leaf
  have hnow : lockState ((s.leaf.locks.get k).moved switch made) ≠ .driven := hwas ▸ lockState_moved_ne hidle hne (.inl hwas)
  have hleaf : s.leaf.lockSwitch k switch made = leaf := by
    rw [lockSwitch_timed, lockMoved_unproven (by exact hst) hwas hnow, timedLeaf_idle hidle, switchLeaf, withLock_self, withLock_withLock]
  have hlatched : (leaf.locks.get k).unproven = true := by rw [withLock_self]
  have happly : applyLeaf (LeafMotion.lockSwitch k switch made) s = s.withLeaf leaf := by
    rw [applyLeaf_same (by rw [hleaf]; rfl), hleaf]
  rw [lockSwitchChange_moves hne]
  simp only [lockSwitchEvent, happly, State.withLeaf_leaf, hlatched]
  cases (s.leaf.locks.get k).unproven <;> rfl

/-! ## Trips (R88 to R90) -/

/-- A switch that trips the group. -/
theorem switch_trips (hne : (s.leaf.locks.get k).moved switch made ≠ s.leaf.locks.get k) (hst : s.leaf.group.state ≠ .tripped)
    (h : s.leaf.lockSwitch k switch made = trippedLeaf cause (timedLeaf k switch made s.leaf)) :
    ∃ t, exec (.lockSwitchChange k switch made) s = .next t ∧ trips cause (switchLeaf k switch made s.leaf) s t := by
  have hkept : ((trippedLeaf cause (timedLeaf k switch made s.leaf)).locks.get k).unproven = (s.leaf.locks.get k).unproven := by
    rw [← timedLeaf_unproven k switch made s.leaf, trippedLeaf, PerLock.get_map]
  refine ⟨_, switch_applies hne (.inl (by rw [h, hkept])), trips_applyLeaf ?_ hst⟩
  rw [h, timedLeaf, trippedLeaf_switched, switchLeaf]

/-! ## Unlocked and locked (R88, R89) -/

theorem lockState_uncommanded_withdrawn {l : Lock} (h : lockState l = .withdrawn) : lockState l.uncommanded = .withdrawn := by
  obtain ⟨command, driven, withdrawn, timer, unproven⟩ := l
  cases driven <;> cases withdrawn <;> rcases command with _ | _ | _ <;> simp_all [lockState, Lock.uncommanded]

theorem unlocked_fields (hall : allLocks .withdrawn m = true) :
    m.unlocked.locks = m.locks.map Lock.uncommanded ∧ m.unlocked.group.target = m.group.target
      ∧ (m.group.spanOccupied = false → m.unlocked.group.state = .raising ∧ ∀ d, (m.unlocked.drives.get d).brakeReleased = true)
      ∧ (m.group.spanOccupied = true → m.unlocked.group.state = .halted ∧ brakesSet m.unlocked) := by
  have hwithdrawn : allLocks .withdrawn m.removeCommands = true := by
    rw [allLocks_iff] at hall ⊢
    intro j
    rw [LeafMotion.removeCommands, PerLock.get_map]
    exact lockState_uncommanded_withdrawn (hall j)
  by_cases hspan : m.group.spanOccupied = true
  · have heq : m.unlocked = m.removeCommands.halt := if_pos hspan
    rw [heq]
    exact ⟨rfl, rfl, fun h => absurd (hspan.symm.trans h) (by decide), fun _ => ⟨rfl, setBrakes_brakesSet m.removeCommands⟩⟩
  · have heq : m.unlocked = m.removeCommands.motionStart .raising := if_neg hspan
    rw [heq, LeafMotion.motionStart, if_pos hwithdrawn]
    exact ⟨rfl, rfl, fun _ => ⟨rfl, fun d => congrArg Drive.brakeReleased (PerDrive.get_map _ _ d)⟩, fun h => absurd h hspan⟩

theorem uncommanded_get (m : LeafMotion) (h : n.locks = m.locks.map Lock.uncommanded) (j : LockId) :
    (n.locks.get j).command = none ∧ (n.locks.get j).timer = none ∧ (n.locks.get j).unproven = (m.locks.get j).unproven := by
  rw [h, PerLock.get_map]
  exact ⟨rfl, rfl, rfl⟩

/-- The last lock has reached WITHDRAWN (R88). -/
theorem switch_unlocks (hne : (s.leaf.locks.get k).moved switch made ≠ s.leaf.locks.get k) (hst : s.leaf.group.state = .unlocking)
    (hall : allLocks .withdrawn (switchLeaf k switch made s.leaf) = true) : ∃ t, exec (.lockSwitchChange k switch made) s = .next t
      ∧ (∀ j, (t.leaf.locks.get j).command = none ∧ (t.leaf.locks.get j).timer = none)
      ∧ t.leaf.group.target = s.leaf.group.target
      ∧ (s.leaf.group.spanOccupied = false → t.leaf.group.state = .raising
        ∧ (∀ d, (t.leaf.drives.get d).brakeReleased = true) ∧ t.seq.opening = s.seq.opening)
      ∧ (s.leaf.group.spanOccupied = true → t.leaf.group.state = .halted ∧ brakesSet t.leaf ∧ t.seq.opening = stoppedOpening s)
      ∧ groupReported [.leafGroup] s t := by
  let x := timedLeaf k switch made s.leaf
  have hallx : allLocks .withdrawn x = true := (timedLeaf_locks ..).trans hall
  have hnow : lockState ((s.leaf.locks.get k).moved switch made) ≠ .conflict := by
    have hk := (allLocks_iff _ _).mp hall k
    rw [switchLeaf, withLock_self] at hk
    simp [hk]
  have hleaf : s.leaf.lockSwitch k switch made = x.unlocked := by
    rw [lockSwitch_timed, lockMoved_unlocking (by exact hst) hnow]
    exact if_pos hallx
  obtain ⟨hlocks, htarget, hraises, hhalts⟩ := unlocked_fields hallx
  have hcommands := uncommanded_get x hlocks
  have hunproven : (x.unlocked.locks.get k).unproven = (s.leaf.locks.get k).unproven :=
    (hcommands k).2.2.trans (timedLeaf_unproven ..)
  let t := applyLeaf (LeafMotion.lockSwitch k switch made) s
  have hleaft : t.leaf = x.unlocked := (applyLeaf_leaf _ s).trans hleaf
  refine ⟨t, switch_applies hne (.inl (by rw [hleaf, hunproven])), ?_⟩
  rw [hleaft]
  refine ⟨fun j => ⟨(hcommands j).1, (hcommands j).2.1⟩, htarget, ?_⟩
  by_cases hspan : s.leaf.group.spanOccupied = true
  · obtain ⟨hhalted, hbrakes⟩ := hhalts hspan
    obtain ⟨_, hopening, hreport⟩ := applyLeaf_stopped (f := LeafMotion.lockSwitch k switch made) (s := s)
      (by rw [hleaf]; exact .inr hhalted) (by rw [hleaf, hhalted, hst]; decide)
    exact ⟨fun h => absurd (hspan.symm.trans h) (by decide), fun _ => ⟨hhalted, hbrakes, hopening⟩, hreport⟩
  · obtain ⟨hraising, hreleased⟩ := hraises (Bool.eq_false_iff.mpr hspan)
    obtain ⟨hopening, hreport⟩ := applyLeaf_quiet (f := LeafMotion.lockSwitch k switch made) (s := s)
      (by rw [hleaf]; exact .inr (.inl hraising)) (by rw [hleaf, hraising, hst]; decide)
    exact ⟨fun _ => ⟨hraising, hreleased, hopening⟩, fun h => absurd h hspan, hreport⟩

/-! ## The report of STOWED (R51) -/

theorem groupReport_stowed (h : s.leaf.group.state = .stowed) :
    groupReport s = deriveDemands (stowedReport (raiseAttention .control .leafGroup s)) := by
  have hraised : (raiseAttention .control .leafGroup s).leaf.group.state = .stowed := h
  simp only [groupReport, hraised]

/-- STOWED reported to an opening that does not wait for it: nothing follows at the other blocks (R51, R57). -/
theorem applyLeaf_stowed_stands {f : LeafMotion → LeafMotion} (hstowed : (f s.leaf).group.state = .stowed)
    (hchanged : s.leaf.group.state ≠ .stowed) (h : ∀ o, s.seq.opening = some o → o.state = .lowering → s.sup.mode = .unattended) :
    (applyLeaf f s).seq.opening = s.seq.opening ∧ groupReported [.leafGroup] s (applyLeaf f s) := by
  refine applyLeaf_alone (fun he => hchanged (he.symm.trans hstowed)) ?_
  intro t
  have hnot : ¬(openingState (raiseAttention .control .leafGroup t) = some .lowering
      ∧ (raiseAttention .control .leafGroup t).sup.mode ≠ .unattended) := by
    rintro ⟨hlowering, hmode⟩
    obtain ⟨o, ho, hst⟩ := openingState_eq_some hlowering
    exact hmode (h o ho hst)
  rw [groupReport_stowed hstowed, stowedReport, if_neg hnot]

theorem handGroupTripped_frame (b : Bool) (s : State) : unchangedBut [.sup] s (handGroupTripped b s) :=
  fun p hp => by cases p <;> simp_all [Part.same]

theorem reopened_sup (hheld : s.closure.state ≠ .closureHeld) (q : Bool) : (reopened q s).sup = s.sup := by
  rw [reopened, commandEach_sup, setClosureState_sup (by simpa [reopenFields] using hheld)]
  rfl

/-- STOWED reported to an opening in LOWERING, in ATTENDED: the road starts to reopen (R51, R121). -/
theorem applyLeaf_stowed_reopens {f : LeafMotion → LeafMotion} (hstowed : (f s.leaf).group.state = .stowed)
    (hchanged : s.leaf.group.state ≠ .stowed) (ho : s.seq.opening = some o) (hst : o.state = .lowering)
    (ha : s.sup.mode = .attended) (hclosed : s.closure.state = .roadClosed) (hfault : noStandingFault s)
    (hin : ∃ a, (s.arm a).inService = true) :
    (applyLeaf f s).seq.opening = some { o with state := .reopeningRoad } ∧ reopeningStarted s (applyLeaf f s)
      ∧ groupReportedWith [.closure, .arms, .stations] [.leafGroup, .opening, .closure] s (applyLeaf f s) := by
  let x := handGroupTripped ((f s.leaf).group.state == .tripped) (s.withLeaf (f s.leaf))
  let y := enterOpening .reopeningRoad (raiseAttention .control .leafGroup x)
  have hframe : unchangedBut [.leaf, .sup] s x :=
    unchangedBut_trans (unchangedBut_mono (by simp) (withLeaf_frame _ s)) (unchangedBut_mono (by simp) (handGroupTripped_frame _ _))
  have hframey : unchangedBut [.controlPort, .seq] x y := unchangedBut_trans (unchangedBut_mono (by simp) (raiseControl_frame _ x))
    (unchangedBut_trans (unchangedBut_mono (by simp) (setOpening_frame _ _)) (unchangedBut_mono (by simp) (raiseControl_frame _ _)))
  have hframesy : unchangedBut [.controlPort, .seq, .leaf, .sup] s y :=
    unchangedBut_trans (unchangedBut_mono (by simp) hframe) (unchangedBut_mono (by simp) hframey)
  have hclosure : y.closure = s.closure := hframesy .closure (by decide)
  have hclosedy : y.closure.state = .roadClosed := (congrArg Closure.state hclosure).trans hclosed
  have hleaf : y.leaf = f s.leaf := (hframey .leaf (by decide) : y.leaf = x.leaf).trans rfl
  have hgroup : y.leaf.group.state = .stowed := (congrArg (·.group.state) hleaf).trans hstowed
  have hsupy : y.sup = x.sup := hframey .sup (by decide)
  have harm (b : ArmId) : y.arm b = s.arm b := arm_congr (hframesy .arms (by decide)) b
  have hmay : mayCommand .up y := mayCommand_up (.inl hgroup) _
  have hreopen : reopenRequest false y = reopened false y := by
    obtain ⟨a, hin⟩ := hin
    exact reopenRequest_reopened ((congrArg Supervisor.mode hsupy).trans ha) hgroup (.inr (.inr hclosedy))
      (noStandingFault_of_arms hfault fun b => by rw [harm]; exact ⟨rfl, rfl, rfl⟩) ⟨a, (congrArg Arm.inService (harm a)).trans hin⟩ false
  have hlowering : openingState (raiseAttention .control .leafGroup x) = some .lowering
      ∧ (raiseAttention .control .leafGroup x).sup.mode ≠ .unattended :=
    ⟨(by simp only [openingState, raiseAttention_seq]; exact (congrArg (Option.map Opening.state) ho).trans (congrArg some hst)),
      fun h => nomatch ha.symm.trans h⟩
  have happly : applyLeaf f s = deriveDemands (reopened false y) := by
    rw [applyLeaf_of_changed fun he => hchanged (he.symm.trans hstowed), groupReport_stowed hstowed, stowedReport, if_pos hlowering]
    exact congrArg deriveDemands hreopen
  have hframer : unchangedBut [.controlPort, .closure, .arms, .stations, .lamp, .display, .sup] y (reopened false y) := reopened_frame false y
  have hsup : (reopened false y).sup = x.sup := (reopened_sup (by rw [hclosedy]; decide) false).trans hsupy
  have hseq : (reopened false y).seq = y.seq := hframer .seq (by decide)
  have hlinks : (reopened false y).links = (raiseAttention .control .closure y).links :=
    reopened_loud_links (by rw [hclosedy]; decide)
  rw [happly]
  refine ⟨?opening, ?reopening, ?sup, ?port, ?clearance, demandsStand_deriveDemands _, ?frame⟩
  case opening =>
    rw [deriveDemands_seq_opening, hseq]
    simp [y, x, enterOpening, enterOpeningQuietly, updateOpening, setOpening, ho]
  case reopening =>
    exact reopeningStarted_congr hclosure.symm (hframesy .arms (by decide)).symm (hframesy .stations (by decide)).symm
      (deriveDemands_closure _) (deriveDemands_arms _) (deriveDemands_stations _) (deriveDemands_road _) (reopened_started hmay false)
  case sup =>
    have hleaft : (deriveDemands (reopened false y)).leaf = f s.leaf := by
      rw [deriveDemands_leaf, hframer .leaf (by decide), hleaf]
    have hsupx : x.sup = { s.sup with groupTripped := (f s.leaf).group.state == .tripped } := rfl
    have hsupt := deriveDemands_sup (reopened false y)
    rw [hsup, hsupx] at hsupt
    rw [hleaft]
    exact hsupt
  case port =>
    rw [deriveDemands_links, hlinks]
    rfl
  case clearance =>
    rw [deriveDemands_seq_clearance, hseq]
    simp [y, x, enterOpening, enterOpeningQuietly, updateOpening, setOpening]
  case frame =>
    exact unchangedBut_trans (unchangedBut_mono (by simp) hframesy)
      (unchangedBut_trans (unchangedBut_mono (by simp) hframer) (unchangedBut_mono (by simp) (deriveDemands_frame _)))

/-- The last lock has reached DRIVEN (R89, R95). -/
theorem switch_locks (hne : (s.leaf.locks.get k).moved switch made ≠ s.leaf.locks.get k) (hst : s.leaf.group.state = .locking)
    (hall : allLocks .driven (switchLeaf k switch made s.leaf) = true) :
    s.leaf.lockSwitch k switch made = (timedLeaf k switch made s.leaf).locked
      ∧ exec (.lockSwitchChange k switch made) s = .next (applyLeaf (LeafMotion.lockSwitch k switch made) s) := by
  have hnow : lockState ((s.leaf.locks.get k).moved switch made) ≠ .conflict := by
    have hk := (allLocks_iff _ _).mp hall k
    rw [switchLeaf, withLock_self] at hk
    simp [hk]
  have hleaf : s.leaf.lockSwitch k switch made = (timedLeaf k switch made s.leaf).locked := by
    rw [lockSwitch_timed, lockMoved_locking (by exact hst) hnow]
    exact if_pos ((timedLeaf_locks ..).trans hall)
  exact ⟨hleaf, switch_applies hne (.inr (by rw [hleaf]; cases k <;> rfl))⟩

theorem locked_lock (m : LeafMotion) (j : LockId) :
    (m.locked.locks.get j).command = none ∧ (m.locked.locks.get j).timer = none ∧ (m.locked.locks.get j).unproven = false := by
  cases j <;> exact ⟨rfl, rfl, rfl⟩

/-! ## The lock timers (R88, R89) -/

theorem lockTimer_trips (hst : s.leaf.group.state = .unlocking ∨ s.leaf.group.state = .locking)
    (hrun : (s.leaf.locks.get k).timer.isSome = true) :
    exec (.lockTimerExpiry k) s = .next (applyLeaf (lockTimeout k) s) ∧ trips .lockTimeout s.leaf s (applyLeaf (lockTimeout k) s) := by
  have hne : s.leaf.group.state ≠ .tripped := by rcases hst with h | h <;> simp [h]
  refine ⟨rfl, trips_applyLeaf ?_ hne⟩
  rw [lockTimeout, if_pos ⟨hrun, hst⟩, trip_eq hne (by rcases hst with h | h <;> simp [h])]

theorem lockTimer_stopped (h : (s.leaf.group.state ≠ .unlocking ∧ s.leaf.group.state ≠ .locking) ∨ (s.leaf.locks.get k).timer = none) :
    exec (.lockTimerExpiry k) s = .next s := by
  have hleaf : lockTimeout k s.leaf = s.leaf := by
    refine if_neg fun ⟨hrun, hst⟩ => ?_
    rcases h with ⟨hu, hl⟩ | h
    · exact hst.elim hu hl
    · simp [h] at hrun
  refine congrArg Host.Outcome.next ?_
  rw [applyLeaf_same (by rw [hleaf]), hleaf]
  rfl

/-- Settles O37: the switch by the group state, the last lock of UNLOCKING and of LOCKING, and the lock timers. -/
theorem lockSwitchesAndTimers : Obligations.LockSwitchesAndTimers := by
  intro k switch made s old moved leaf timed hmoved htable
  have hne : old.moved switch made ≠ old := hmoved
  have hidle (h : s.leaf.group.state ≠ .unlocking ∧ s.leaf.group.state ≠ .locking) : old.command = none := htable.locksIdle h k
  have hruns (h : s.leaf.group.state.profileRuns = true ∨ s.leaf.group.state = .heldOpen) :
      s.leaf.group.state ≠ .unlocking ∧ s.leaf.group.state ≠ .locking := by
    rcases h with h | h
    · constructor <;> intro he <;> simp [he, GroupState.profileRuns] at h
    · simp [h]
  have htrips (h : s.leaf.group.state.profileRuns = true ∨ s.leaf.group.state = .heldOpen) (hwas : lockState old = .withdrawn) :
      s.leaf.lockSwitch k switch made = (timedLeaf k switch made s.leaf).trip .lockFault := by
    rw [lockSwitch_timed]
    exact lockMoved_withdrawn h hwas (hwas ▸ lockState_moved_ne (hidle (hruns h)) hne (.inr hwas))
  refine ⟨fun h => ?stands, fun hst hwas => ?unproven, fun hst hwas => ?trips, fun hst hwas => ?stopping, fun hst hwas hnow => ?conflict,
    fun hst hall => switch_unlocks hne hst hall, fun hst hall => ?locked, fun hst hnow hu hl => ?timed,
    fun hst hrun => ⟨_, lockTimer_trips hst hrun⟩, lockTimer_stopped⟩
  case stands =>
    have hstates : s.leaf.group.state ≠ .unlocking ∧ s.leaf.group.state ≠ .locking := by
      rcases h with h | h | h | ⟨h, _⟩ | ⟨h, _⟩
      · simp [h]
      · simp [h]
      · simp [h]
      · simp [h]
      · exact hruns h
    have hleaf : s.leaf.lockSwitch k switch made = timedLeaf k switch made s.leaf := by
      rw [lockSwitch_timed]
      exact lockMoved_stands h
    exact ⟨_, switch_stands hne hleaf, timedLeaf_idle (hidle hstates), withLeaf_frame _ s⟩
  case unproven =>
    refine ⟨_, switch_unproven hne hst (hidle (by simp [hst])) hwas, ?_, ?_, ?_⟩
    · split <;> rfl
    · split <;> rfl
    · split
      · exact unchangedBut_mono (by simp) (withLeaf_frame _ s)
      · exact unchangedBut_trans (unchangedBut_mono (by simp) (withLeaf_frame _ s)) (unchangedBut_mono (by simp) (pulseFault_frame _))
  case trips =>
    have hor : s.leaf.group.state.profileRuns = true ∨ s.leaf.group.state = .heldOpen := by
      rcases hst with h | h | h | h | h <;> simp [h, GroupState.profileRuns]
    have hne' : s.leaf.group.state ≠ .tripped ∧ s.leaf.group.state ≠ .stopping := by
      rcases hst with h | h | h | h | h <;> simp [h]
    exact switch_trips hne hne'.1 ((htrips hor hwas).trans (trip_eq hne'.1 hne'.2))
  case stopping =>
    refine switch_trips hne (by simp [hst]) ((htrips (.inl (by rw [hst]; rfl)) hwas).trans ?_)
    exact trip_stopping (m := timedLeaf k switch made s.leaf) hst .lockFault
  case conflict =>
    have hne' : s.leaf.group.state ≠ .tripped ∧ s.leaf.group.state ≠ .stopping := by rcases hst with h | h <;> simp [h]
    have hconflict : lockState (old.moved switch made) = .conflict := hnow
    refine switch_trips hne hne'.1 ?_
    rw [lockSwitch_timed, hconflict, lockMoved_conflict (m := timedLeaf k switch made s.leaf) hst hwas]
    exact trip_eq hne'.1 hne'.2
  case locked =>
    obtain ⟨hleaf, hexec⟩ := switch_locks hne hst hall
    have hleaft : (applyLeaf (LeafMotion.lockSwitch k switch made) s).leaf = (timedLeaf k switch made s.leaf).locked :=
      (applyLeaf_leaf _ s).trans hleaf
    have hstowed : (s.leaf.lockSwitch k switch made).group.state = .stowed := by rw [hleaf]; rfl
    have hchanged : s.leaf.group.state ≠ .stowed := by simp [hst]
    refine ⟨_, hexec, ?_⟩
    rw [hleaft]
    exact ⟨rfl, locked_lock _, rfl, rfl, rfl, applyLeaf_stowed_stands hstowed hchanged, fun o ho hlow ha hclosed hfault hin =>
      applyLeaf_stowed_reopens hstowed hchanged ho hlow ha hclosed hfault hin⟩
  case timed =>
    have hmovedne : lockState (old.moved switch made) ≠ .conflict := hnow
    refine ⟨_, switch_stands hne ?_, rfl, withLeaf_frame _ s⟩
    rw [lockSwitch_timed]
    rcases hst with h | h
    · rw [lockMoved_unlocking (by exact h) hmovedne]
      exact if_neg (by rw [timedLeaf_locks]; exact Bool.eq_false_iff.mp (hu h))
    · rw [lockMoved_locking (by exact h) hmovedne]
      exact if_neg (by rw [timedLeaf_locks]; exact Bool.eq_false_iff.mp (hl h))

end Sys2Proof.Machine

/-!
A control period at the leaf records: what its stages form stands to the end of it but for the latches that the entry to STOWED
clears (the layer of O35 and O38).
-/

namespace Sys2Proof.Machine

open Sys2Proof

variable {s t : State} {m n o : LeafMotion} {c : Configured} {cause : TripCause}

/-! ## What stands through a change of the leaf records -/

/-- The counts, the angles and what is formed of them stand, and the twist warning latches but for an entry to STOWED (R95). -/
structure KeepsAngles (m n : LeafMotion) : Prop where
  drives : ∀ d, (n.drives.get d).count = (m.drives.get d).count ∧ (n.drives.get d).fine = (m.drives.get d).fine
    ∧ (n.drives.get d).rangeFlag = (m.drives.get d).rangeFlag
  west : n.west.angle = m.west.angle ∧ n.west.twist = m.west.twist
  east : n.east.angle = m.east.angle ∧ n.east.twist = m.east.twist
  group : n.group.skew = m.group.skew ∧ n.group.hold = m.group.hold ∧ n.group.clearance = m.group.clearance
  timer : n.periodTimer = m.periodTimer
  stowed : m.group.state = .stowed → n.group.state = .stowed
  warnings : (n.group.state = .stowed ∧ m.group.state ≠ .stowed)
    ∨ (n.west.twistWarning = m.west.twistWarning ∧ n.east.twistWarning = m.east.twistWarning)

/-- The following errors and the seated flags stand too. -/
structure KeepsFormed (m n : LeafMotion) : Prop extends KeepsAngles m n where
  errors : ∀ d, (n.drives.get d).followingError = (m.drives.get d).followingError
  seated : n.west.seated = m.west.seated ∧ n.east.seated = m.east.seated

theorem KeepsAngles.trans (h : KeepsAngles m n) (h' : KeepsAngles n o) : KeepsAngles m o where
  drives d := ⟨(h'.drives d).1.trans (h.drives d).1, (h'.drives d).2.1.trans (h.drives d).2.1, (h'.drives d).2.2.trans (h.drives d).2.2⟩
  west := ⟨h'.west.1.trans h.west.1, h'.west.2.trans h.west.2⟩
  east := ⟨h'.east.1.trans h.east.1, h'.east.2.trans h.east.2⟩
  group := ⟨h'.group.1.trans h.group.1, h'.group.2.1.trans h.group.2.1, h'.group.2.2.trans h.group.2.2⟩
  timer := h'.timer.trans h.timer
  stowed hs := h'.stowed (h.stowed hs)
  warnings := by
    rcases h.warnings with ⟨hs, hne⟩ | ⟨hw, he⟩
    · exact .inl ⟨h'.stowed hs, hne⟩
    · rcases h'.warnings with ⟨hs, hne⟩ | ⟨hw', he'⟩
      · exact .inl ⟨hs, fun hm => hne (h.stowed hm)⟩
      · exact .inr ⟨hw'.trans hw, he'.trans he⟩

theorem KeepsFormed.trans (h : KeepsFormed m n) (h' : KeepsFormed n o) : KeepsFormed m o where
  toKeepsAngles := h.toKeepsAngles.trans h'.toKeepsAngles
  errors d := (h'.errors d).trans (h.errors d)
  seated := ⟨h'.seated.1.trans h.seated.1, h'.seated.2.trans h.seated.2⟩

theorem KeepsFormed.bothSeated (h : KeepsFormed m n) : bothSeated n = bothSeated m := by
  rw [Machine.bothSeated, h.seated.1, h.seated.2, Machine.bothSeated]

/-- A change that touches of the drives the outputs alone, and the leaves not at all. -/
theorem KeepsFormed.of_parts (hd : ∀ d, (n.drives.get d).count = (m.drives.get d).count ∧ (n.drives.get d).fine = (m.drives.get d).fine
      ∧ (n.drives.get d).rangeFlag = (m.drives.get d).rangeFlag ∧ (n.drives.get d).followingError = (m.drives.get d).followingError)
    (hw : n.west = m.west) (he : n.east = m.east)
    (hg : n.group.skew = m.group.skew ∧ n.group.hold = m.group.hold ∧ n.group.clearance = m.group.clearance)
    (ht : n.periodTimer = m.periodTimer) (hs : m.group.state = .stowed → n.group.state = .stowed) : KeepsFormed m n where
  drives d := ⟨(hd d).1, (hd d).2.1, (hd d).2.2.1⟩
  west := by simp [hw]
  east := by simp [he]
  group := hg
  timer := ht
  stowed := hs
  warnings := .inr (by simp [hw, he])
  errors d := (hd d).2.2.2
  seated := by simp [hw, he]

theorem KeepsFormed.refl (m : LeafMotion) : KeepsFormed m m := .of_parts (fun _ => ⟨rfl, rfl, rfl, rfl⟩) rfl rfl ⟨rfl, rfl, rfl⟩ rfl id

/-- A change of the group record alone that keeps what the period has formed in it. -/
theorem keepsFormed_updateGroup (f : Group → Group) (hg : (f m.group).skew = m.group.skew ∧ (f m.group).hold = m.group.hold
      ∧ (f m.group).clearance = m.group.clearance) (hs : m.group.state = .stowed → (f m.group).state = .stowed) :
    KeepsFormed m (m.updateGroup f) := .of_parts (fun _ => ⟨rfl, rfl, rfl, rfl⟩) rfl rfl hg rfl hs

theorem keepsFormed_trip (cause : TripCause) (h : m.group.state ≠ .stowed) : KeepsFormed m (m.trip cause) := by
  unfold LeafMotion.trip
  split
  · exact .refl m
  · exact .of_parts (fun d => by cases d <;> exact ⟨rfl, rfl, rfl, rfl⟩) rfl rfl ⟨rfl, rfl, rfl⟩ rfl fun hs => absurd hs h

theorem keepsFormed_beginStop (x : Option TripCause) (lower : Bool) (h : m.group.state ≠ .stowed) : KeepsFormed m (m.beginStop x lower) :=
  .of_parts (fun _ => ⟨rfl, rfl, rfl, rfl⟩) rfl rfl ⟨rfl, rfl, rfl⟩ rfl fun hs => absurd hs h

theorem keepsFormed_stopTakes (cause : TripCause) (m : LeafMotion) : KeepsFormed m (m.stopTakes cause) := by
  refine keepsFormed_updateGroup _ ?_ ?_ <;> cases m.group.cause
  · exact ⟨rfl, rfl, rfl⟩
  · exact ⟨rfl, rfl, rfl⟩
  · exact id
  · exact id

theorem keepsFormed_setBrakes (m : LeafMotion) : KeepsFormed m m.setBrakes :=
  .of_parts (fun d => by cases d <;> exact ⟨rfl, rfl, rfl, rfl⟩) rfl rfl ⟨rfl, rfl, rfl⟩ rfl id

/-- The brakes set and the counts cleared, in a state that is entered from another than STOWED. -/
theorem keepsFormed_rest (st : GroupState) (h : m.group.state ≠ .stowed) : KeepsFormed m ((m.setBrakes.clearCounts).enter st) :=
  .of_parts (fun d => by cases d <;> exact ⟨rfl, rfl, rfl, rfl⟩) rfl rfl ⟨rfl, rfl, rfl⟩ rfl fun hs => absurd hs h

theorem keepsFormed_motionStart (st : GroupState) (h : m.group.state ≠ .stowed) : KeepsFormed m (m.motionStart st) := by
  unfold LeafMotion.motionStart
  split
  · exact .of_parts (fun d => by cases d <;> exact ⟨rfl, rfl, rfl, rfl⟩) rfl rfl ⟨rfl, rfl, rfl⟩ rfl fun hs => absurd hs h
  · exact keepsFormed_trip _ h

/-- LOCKING left for STOWED, which alone clears the twist warning latches (R95). -/
theorem keepsFormed_finishLocking (h : m.group.state ≠ .stowed) : KeepsFormed m m.finishLocking := by
  unfold LeafMotion.finishLocking
  split
  · exact {
      drives := fun _ => ⟨rfl, rfl, rfl⟩, west := ⟨rfl, rfl⟩, east := ⟨rfl, rfl⟩, group := ⟨rfl, rfl, rfl⟩, timer := rfl,
      stowed := fun _ => rfl, warnings := .inl ⟨rfl, h⟩, errors := fun _ => rfl, seated := ⟨rfl, rfl⟩ }
  · exact .refl m

/-- The leaf records as LOCKING is entered, before it is left at once with every lock DRIVEN (R89). -/
def lockingEntered (m : LeafMotion) : LeafMotion :=
  let m := m.setBrakes.clearCounts.removeCommands
  LeafMotion.enter .locking { m with locks := ⟨Lock.commanded .drive m.locks.westTail, Lock.commanded .drive m.locks.eastTail,
    if bothSeated m then Lock.commanded .drive m.locks.centre else Lock.heldBack m.locks.centre⟩ }

theorem enterLocking_eq (m : LeafMotion) : m.enterLocking = (lockingEntered m).finishLocking := rfl

theorem lockingEntered_state (m : LeafMotion) : (lockingEntered m).group.state = .locking := rfl

theorem keepsFormed_enterLocking (h : m.group.state ≠ .stowed) : KeepsFormed m m.enterLocking := by
  have hentered : KeepsFormed m (lockingEntered m) :=
    .of_parts (fun d => by cases d <;> exact ⟨rfl, rfl, rfl, rfl⟩) rfl rfl ⟨rfl, rfl, rfl⟩ rfl fun hs => absurd hs h
  rw [enterLocking_eq]
  exact hentered.trans (keepsFormed_finishLocking (by simp [lockingEntered_state]))

theorem keepsFormed_trackCentre (h : m.group.state ≠ .stowed) : KeepsFormed m m.trackCentre := by
  have hlocks (x : PerLock Lock) : KeepsFormed m { m with locks := x } :=
    .of_parts (fun _ => ⟨rfl, rfl, rfl, rfl⟩) rfl rfl ⟨rfl, rfl, rfl⟩ rfl id
  unfold LeafMotion.trackCentre
  dsimp only
  split
  · split
    · exact (hlocks _).trans (keepsFormed_finishLocking h)
    · exact .refl m
  · split
    · exact .refl m
    · exact hlocks _

theorem keepsFormed_lower (h : m.group.state ≠ .stowed) : KeepsFormed m m.lower := by
  have htarget : KeepsFormed m (m.setTarget 0) := keepsFormed_updateGroup _ ⟨rfl, rfl, rfl⟩ id
  unfold LeafMotion.lower
  dsimp only
  split
  case h_1 | h_2 =>
    split
    · exact htarget.trans (keepsFormed_enterLocking h)
    · exact htarget.trans (keepsFormed_motionStart _ h)
  case h_3 => exact htarget.trans (keepsFormed_enterLocking h)
  case h_4 | h_5 | h_6 => exact htarget.trans (keepsFormed_beginStop _ _ h)
  case h_7 => exact htarget.trans (keepsFormed_updateGroup _ ⟨rfl, rfl, rfl⟩ id)
  all_goals exact .refl m

/-! ## The stages (R62) -/

/-- The leaf records with the angles, the hold flag and the warnings of a period (R63 to R68, R94, R95). -/
def formedLeaf (c : Configured) (counts : PerDrive (BitVec 24)) (m : LeafMotion) : LeafMotion := (m.formAngles c counts).formWarnings c

/-- The leaf records with the profile advanced, the drives' outputs and the seated flags of a period (R72 to R78). -/
def drivenLeaf (c : Configured) (m : LeafMotion) : LeafMotion := ((m.advance c).drive c (feedForwardPositive m)).formSeated c

theorem period_stages (c : Configured) (counts : PerDrive (BitVec 24)) (pick : Nat) (m : LeafMotion) : m.period c counts pick =
    let x := drivenLeaf c ((formedLeaf c counts m).superviseAngles c pick)
    if followingTrips c x then x.trip .following else x.superviseMotion c := rfl

theorem keepsFormed_superviseAngles (c : Configured) (pick : Nat) (m : LeafMotion) : KeepsFormed m (m.superviseAngles c pick) := by
  unfold LeafMotion.superviseAngles
  dsimp only
  split
  next => exact .refl m
  next hcauses =>
    have hne : m.group.state ≠ .stowed := fun h => by simp [h, GroupState.working] at hcauses
    split
    · exact keepsFormed_trip _ hne
    · split
      case h_1 | h_2 | h_3 | h_4 => exact keepsFormed_beginStop _ _ hne
      case h_5 => exact keepsFormed_stopTakes _ m
      case h_6 | h_7 | h_8 => exact keepsFormed_trip _ hne
      all_goals exact .refl m

theorem keepsFormed_superviseMotion (c : Configured) (m : LeafMotion) : KeepsFormed m (m.superviseMotion c) := by
  have hcounts (st : GroupState) (h : m.group.state ≠ .stowed) : KeepsFormed m (m.clearCounts.enter st) :=
    keepsFormed_updateGroup (fun g => { g with state := st, settleCount := 0, seatCount := 0, restCount := 0 }) ⟨rfl, rfl, rfl⟩
      fun hs => absurd hs h
  unfold LeafMotion.superviseMotion
  cases hst : m.group.state <;> dsimp only
  case raising | lowering =>
    split
    · exact hcounts _ (by simp [hst])
    · exact .refl m
  case settling =>
    generalize (if withinSettle c m = true then m.group.settleCount + 1 else 0) = settle
    split
    · exact keepsFormed_rest _ (by simp [hst])
    · split
      · exact keepsFormed_trip _ (by simp [hst])
      · exact keepsFormed_updateGroup _ ⟨rfl, rfl, rfl⟩ id
  case seating =>
    generalize (if bothSeated m = true then m.group.seatCount + 1 else 0) = seat
    split
    · exact keepsFormed_enterLocking (by simp [hst])
    · split
      · exact keepsFormed_trip _ (by simp [hst])
      · exact keepsFormed_updateGroup _ ⟨rfl, rfl, rfl⟩ id
  case stopping =>
    split
    · exact keepsFormed_rest _ (by simp [hst])
    · exact .refl m
  case locking => exact keepsFormed_trackCentre (by simp [hst])
  all_goals exact .refl m

/-! ## The profile and the drives (R72 to R76) -/

theorem drivenLeaf_group (c : Configured) (m : LeafMotion) : (drivenLeaf c m).group = (m.advance c).group := by
  unfold drivenLeaf LeafMotion.drive
  split <;> rfl

theorem advance_state (c : Configured) (m : LeafMotion) : (m.advance c).group.state = m.group.state := by
  unfold LeafMotion.advance; split <;> rfl

theorem drivenLeaf_state (c : Configured) (m : LeafMotion) : (drivenLeaf c m).group.state = m.group.state := by
  rw [drivenLeaf_group, advance_state]

/-- The group record but for its profile. -/
theorem advance_group (c : Configured) (m : LeafMotion) :
    (m.advance c).group = { m.group with profile := (m.advance c).group.profile } := by
  unfold LeafMotion.advance; split <;> rfl

theorem advance_runs (h : m.group.state.profileRuns = true) : (m.advance c).group.profile =
    some (if m.group.state = .stopping then advanceStop c m.group.profileInUse
      else advanceProfile c m.group.hold m.group.targetInUse m.group.profileInUse) := by
  simp only [LeafMotion.advance, h, if_true, LeafMotion.updateGroup]

/-- A drive after step 7 of a period. -/
theorem drivenLeaf_drive (c : Configured) (m : LeafMotion) (d : DriveId) : (drivenLeaf c m).drives.get d =
    if m.group.state.profileRuns then driveWith c (feedForwardPositive m) (m.advance c).group.profileInUse (m.drives.get d)
    else driveIdle (m.drives.get d) := by
  have hdrives : (m.advance c).drives = m.drives := by unfold LeafMotion.advance; split <;> rfl
  have hstate := advance_state c m
  change (((m.advance c).drive c (feedForwardPositive m)).drives.get d) = _
  unfold LeafMotion.drive
  rw [hstate]
  split <;> simp only [PerDrive.get_map, hdrives]

theorem drivenLeaf_locks (c : Configured) (m : LeafMotion) : (drivenLeaf c m).locks = m.locks := by
  have hlocks : (m.advance c).locks = m.locks := by unfold LeafMotion.advance; split <;> rfl
  rw [← hlocks]
  unfold drivenLeaf LeafMotion.drive
  split <;> rfl

theorem drivenLeaf_leaves (c : Configured) (m : LeafMotion) :
    (drivenLeaf c m).west = { m.west with seated := isSeated c m.west.angle }
      ∧ (drivenLeaf c m).east = { m.east with seated := isSeated c m.east.angle } ∧ (drivenLeaf c m).periodTimer = m.periodTimer := by
  have hadvance : (m.advance c).west = m.west ∧ (m.advance c).east = m.east ∧ (m.advance c).periodTimer = m.periodTimer := by
    unfold LeafMotion.advance; split <;> exact ⟨rfl, rfl, rfl⟩
  obtain ⟨hwest, heast, htimer⟩ := hadvance
  rw [← hwest, ← heast, ← htimer]
  unfold drivenLeaf LeafMotion.drive
  split <;> exact ⟨rfl, rfl, rfl⟩

theorem keepsAngles_drivenLeaf (c : Configured) (m : LeafMotion) : KeepsAngles m (drivenLeaf c m) := by
  obtain ⟨hwest, heast, htimer⟩ := drivenLeaf_leaves c m
  have hgroup := (drivenLeaf_group c m).trans (advance_group c m)
  refine ⟨fun d => ?_, by simp [hwest], by simp [heast], by simp [hgroup], htimer, by simp [drivenLeaf_state], .inr (by simp [hwest, heast])⟩
  rw [drivenLeaf_drive]
  split <;> exact ⟨rfl, rfl, rfl⟩

/-! ## The whole period -/

/-- The leaf records of a period before the transitions of its step 8. -/
def periodDriven (c : Configured) (counts : PerDrive (BitVec 24)) (pick : Nat) (m : LeafMotion) : LeafMotion :=
  drivenLeaf c ((formedLeaf c counts m).superviseAngles c pick)

theorem keepsFormed_period (c : Configured) (counts : PerDrive (BitVec 24)) (pick : Nat) (m : LeafMotion) :
    KeepsFormed (periodDriven c counts pick m) (m.period c counts pick) := by
  rw [period_stages]
  dsimp only
  split
  next h =>
    refine keepsFormed_trip _ fun hst => ?_
    have hruns := (Bool.and_eq_true_iff.mp h).1
    change (periodDriven c counts pick m).group.state.profileRuns = true at hruns
    rw [hst] at hruns
    nomatch hruns
  next => exact keepsFormed_superviseMotion c _

theorem keepsAngles_periodDriven (c : Configured) (counts : PerDrive (BitVec 24)) (pick : Nat) (m : LeafMotion) :
    KeepsAngles (formedLeaf c counts m) (periodDriven c counts pick m) :=
  (keepsFormed_superviseAngles c pick _).toKeepsAngles.trans (keepsAngles_drivenLeaf c _)

end Sys2Proof.Machine

/-! A control period in its order: the leaf records, the report, the clearance update, and a lower that waited (the layer of O35, O38). -/

namespace Sys2Proof.Machine

open Sys2Proof

variable {s t : State} {m n : LeafMotion} {counts : PerDrive (BitVec 24)} {cause : TripCause} {o : Opening}

/-! ## The command (R61) -/

/-- The state with the counts at the inputs. -/
def countsRead (counts : PerDrive (BitVec 24)) (s : State) : State := s.withPins { s.pins with encoders := counts }

theorem countsRead_frame (counts : PerDrive (BitVec 24)) (s : State) : unchangedBut [.pins] s (countsRead counts s) :=
  fun x hx => by cases x <;> simp_all [Part.same, countsRead]

theorem controlPeriod_stopped (h : s.leaf.periodTimer = none) : exec (.controlPeriod counts) s = .next (countsRead counts s) := by
  change execControlPeriod counts s = _
  simp only [execControlPeriod, State.withPins_leaf, h] <;> rfl

theorem controlPeriod_runs {ms : Nat} (h : s.leaf.periodTimer = some ms) :
    exec (.controlPeriod counts) s = .next (runPeriod counts (countsRead counts s)) := by
  change execControlPeriod counts s = _
  simp only [execControlPeriod, State.withPins_leaf, h] <;> rfl

/-! ## The report and the clearance update (R46, R103) -/

/-- The state after the group's report. -/
def periodReported (counts : PerDrive (BitVec 24)) (s : State) : State := applyLeaf (fun _ => periodLeaf counts s) (periodBase counts s)

/-- The state after the clearance update. -/
def periodUpdated (counts : PerDrive (BitVec 24)) (s : State) : State :=
  clearanceUpdate (periodLeaf counts s).group.clearance (periodReported counts s)

theorem runPeriod_updated (counts : PerDrive (BitVec 24)) (s : State) : runPeriod counts s = pendingLower (periodUpdated counts s) :=
  runPeriod_eq counts s

theorem periodReported_leaf (counts : PerDrive (BitVec 24)) (s : State) : (periodReported counts s).leaf = periodLeaf counts s :=
  applyLeaf_leaf ..

theorem periodUpdated_leaf (counts : PerDrive (BitVec 24)) (s : State) : (periodUpdated counts s).leaf = periodLeaf counts s := by
  rw [periodUpdated, clearanceUpdate_leaf, periodReported_leaf]

theorem periodBase_frame (counts : PerDrive (BitVec 24)) (s : State) : unchangedBut [.freeCount, .sup] s (periodBase counts s) := by
  have hcount : unchangedBut [.freeCount] s (countChoice s) := fun x hx => by cases x <;> simp_all [Part.same, countChoice]
  unfold periodBase
  split
  · exact unchangedBut_trans (unchangedBut_mono (by simp) hcount) (unchangedBut_mono (by simp) (pulseFault_frame _))
  · exact unchangedBut_mono (by simp) hcount

theorem withClearance_frame (k : Nat) (s : State) : unchangedBut [.seq] s (s.withSeq { s.seq with clearance := k }) :=
  fun x hx => by cases x <;> simp_all [Part.same]

/-- A clearance update under a group that lets no passage through clears nothing (R46). -/
theorem clearanceUpdate_idle (h : ∀ o, s.seq.opening = some o → groupAdmitsPassage o s = false) (k : Nat) :
    clearanceUpdate k s = deriveDemands (s.withSeq { s.seq with clearance := k }) := by
  unfold clearanceUpdate
  dsimp only
  split
  next => rfl
  next o ho =>
    have hadmits : groupAdmitsPassage o (s.withSeq { s.seq with clearance := k }) = false := h o ho
    rw [hadmits, Bool.and_false]
    rfl

theorem groupAdmitsPassage_rest (h : s.leaf.group.state ≠ .heldOpen ∧ s.leaf.group.state ≠ .raising) (o : Opening) :
    groupAdmitsPassage o s = false := by simp [groupAdmitsPassage, h.1, h.2]

/-- An update that clears nothing tells the Link Supervisor and the control link nothing. -/
theorem clearanceUpdate_idle_told (h : s.leaf.group.state ≠ .heldOpen ∧ s.leaf.group.state ≠ .raising) (k : Nat) :
    (clearanceUpdate k s).links = s.links ∧ (clearanceUpdate k s).sup.groupTripped = s.sup.groupTripped := by
  rw [clearanceUpdate_idle (fun o _ => groupAdmitsPassage_rest h o)]
  exact ⟨by rw [deriveDemands_links]; rfl, by rw [deriveDemands_sup]; rfl⟩

/-! ## The lower that waited for the stop (R99) -/

theorem pendingLower_eq (s : State) : pendingLower s =
    if s.leaf.group.state = .halted ∧ s.leaf.group.pendingLower = true then
      if lowerRefused (roadIsClosed s) (dropWaitingLower s.leaf) then s.withLeaf (dropWaitingLower s.leaf)
      else applyLeaf LeafMotion.lower (s.withLeaf (dropWaitingLower s.leaf))
    else s := by
  unfold pendingLower
  split
  next h =>
    have hdrop : dropWaitingLower s.leaf = s.leaf.updateGroup (fun g => { g with pendingLower := false }) := if_pos h
    rw [hdrop]
    rfl
  next => rfl

theorem pendingLower_stands (h : s.leaf.group.state ≠ .halted ∨ s.leaf.group.pendingLower = false) : pendingLower s = s := by
  rw [pendingLower_eq, if_neg]
  rintro ⟨hst, hp⟩
  exact h.elim (fun h => h hst) fun h => nomatch hp.symm.trans h

theorem pendingLower_refused (hst : s.leaf.group.state = .halted) (hp : s.leaf.group.pendingLower = true)
    (hr : lowerRefused (roadIsClosed s) (dropWaitingLower s.leaf) = true) : pendingLower s = s.withLeaf (dropWaitingLower s.leaf) := by
  rw [pendingLower_eq, if_pos ⟨hst, hp⟩, if_pos hr]

theorem pendingLower_lowers (hst : s.leaf.group.state = .halted) (hp : s.leaf.group.pendingLower = true)
    (hr : lowerRefused (roadIsClosed s) (dropWaitingLower s.leaf) = false) :
    pendingLower s = applyLeaf LeafMotion.lower (s.withLeaf (dropWaitingLower s.leaf)) := by
  rw [pendingLower_eq, if_pos ⟨hst, hp⟩, if_neg (by simp [hr])]

theorem lower_halted (h : m.group.state = .halted) : m.lower =
    if bothSeated m then (m.setTarget 0).enterLocking else (m.setTarget 0).motionStart .lowering := by
  simp only [LeafMotion.lower, h]

/-- The states that a lower from HALTED comes to (R86). -/
def lowered (st : GroupState) : Prop := st = .locking ∨ st = .stowed ∨ st = .lowering ∨ st = .tripped

theorem finishLocking_state (m : LeafMotion) : m.finishLocking.group.state = m.group.state ∨ m.finishLocking.group.state = .stowed := by
  unfold LeafMotion.finishLocking
  split
  · exact .inr rfl
  · exact .inl rfl

theorem lower_lowered (h : m.group.state = .halted) : lowered m.lower.group.state := by
  rw [lower_halted h]
  split
  · rcases finishLocking_state (lockingEntered (m.setTarget 0)) with h | h
    · exact .inl h
    · exact .inr (.inl h)
  · rcases motionStart_state .lowering (m.setTarget 0) with h | h
    · exact .inr (.inr (.inl h))
    · exact .inr (.inr (.inr h))

/-- What the waiting lower makes of a state: it is not there, or it is refused, or it is taken. -/
theorem pendingLower_cases (s : State) : pendingLower s = s.withLeaf (dropWaitingLower s.leaf)
    ∨ ((dropWaitingLower s.leaf).group.state = .halted ∧ s.leaf.group.state = .halted
      ∧ pendingLower s = applyLeaf LeafMotion.lower (s.withLeaf (dropWaitingLower s.leaf))) := by
  by_cases h : s.leaf.group.state = .halted ∧ s.leaf.group.pendingLower = true
  · cases hr : lowerRefused (roadIsClosed s) (dropWaitingLower s.leaf) with
    | true => exact .inl (pendingLower_refused h.1 h.2 hr)
    | false => exact .inr ⟨(dropWaitingLower_state _).trans h.1, h.1, pendingLower_lowers h.1 h.2 hr⟩
  · rw [pendingLower_eq, dropWaitingLower, if_neg h, if_neg h]
    exact .inl rfl

theorem keepsFormed_dropWaitingLower (m : LeafMotion) : KeepsFormed m (dropWaitingLower m) := by
  unfold dropWaitingLower
  split
  · exact keepsFormed_updateGroup _ ⟨rfl, rfl, rfl⟩ id
  · exact .refl m

theorem keepsFormed_pendingLower (s : State) : KeepsFormed s.leaf (pendingLower s).leaf := by
  have hdrop := keepsFormed_dropWaitingLower s.leaf
  rcases pendingLower_cases s with h | ⟨hst, _, h⟩
  · rw [h]; exact hdrop
  · rw [h, applyLeaf_leaf]
    exact hdrop.trans (keepsFormed_lower fun hs => nomatch hst.symm.trans hs)

/-- The leaf records stand through the rest of a period unless a lower waited. -/
theorem runPeriod_leaf_stands (h : (periodLeaf counts s).group.state ≠ .halted ∨ (periodLeaf counts s).group.pendingLower = false) :
    (runPeriod counts s).leaf = periodLeaf counts s := by
  rw [runPeriod_updated, pendingLower_stands (by rwa [periodUpdated_leaf]), periodUpdated_leaf]

/-! ## What the period forms stands to its end -/

theorem KeepsFormed.timed (h : KeepsFormed m n) (x : Option Nat) :
    KeepsFormed { m with periodTimer := x } { n with periodTimer := x } where
  drives := h.drives
  west := h.west
  east := h.east
  group := h.group
  timer := rfl
  stowed := h.stowed
  warnings := h.warnings
  errors := h.errors
  seated := h.seated

theorem KeepsAngles.timed (h : KeepsAngles m n) (x : Option Nat) :
    KeepsAngles { m with periodTimer := x } { n with periodTimer := x } where
  drives := h.drives
  west := h.west
  east := h.east
  group := h.group
  timer := rfl
  stowed := h.stowed
  warnings := h.warnings

/-- The records of a period before the transitions of step 8. -/
def periodStage (counts : PerDrive (BitVec 24)) (s : State) : LeafMotion := periodDriven s.conf counts (Config.freeChoice s.freeCount) s.leaf

theorem keepsFormed_runPeriod (counts : PerDrive (BitVec 24)) (s : State) :
    KeepsFormed { periodStage counts s with periodTimer := some 20 } (runPeriod counts s).leaf := by
  rw [runPeriod_updated]
  refine .trans ?_ (keepsFormed_pendingLower _)
  rw [periodUpdated_leaf]
  exact (keepsFormed_period s.conf counts _ s.leaf).timed _

theorem keepsAngles_runPeriod (counts : PerDrive (BitVec 24)) (s : State) :
    KeepsAngles { formedLeaf s.conf counts s.leaf with periodTimer := some 20 } (runPeriod counts s).leaf :=
  ((keepsAngles_periodDriven s.conf counts _ s.leaf).timed _).trans (keepsFormed_runPeriod counts s).toKeepsAngles

/-! ## A period that trips the group (R95 to R100) -/

/-- The leaf records stand TRIPPED with a cause, as `standsTripped` has them. -/
def leafTripped (cause : TripCause) (m : LeafMotion) : Prop :=
  m.group.state = .tripped ∧ m.group.cause = some cause ∧ m.group.pendingLower = false ∧ countsCleared m.group ∧ brakesSet m

theorem standsTripped_runPeriod (hne : s.leaf.group.state ≠ .tripped) (h : leafTripped cause (periodLeaf counts s)) :
    standsTripped cause (runPeriod counts s) := by
  obtain ⟨hst, hcause, hpending, hcounts, hbrakes⟩ := h
  have hleaf : (runPeriod counts s).leaf = periodLeaf counts s := runPeriod_leaf_stands (.inl (by simp [hst]))
  have hupdated : runPeriod counts s = periodUpdated counts s := by
    rw [runPeriod_updated, pendingLower_stands (.inl (by simp [periodUpdated_leaf, hst]))]
  have hbase : (periodBase counts s).leaf.group.state ≠ .tripped := by rwa [periodBase_leaf]
  obtain ⟨_, _, hsup, hport, _⟩ := applyLeaf_stopped (f := fun _ => periodLeaf counts s) (s := periodBase counts s) (.inl hst)
    fun he => hbase (he.symm.trans hst)
  have hstate : (periodReported counts s).leaf.group.state = .tripped := by rw [periodReported_leaf]; exact hst
  obtain ⟨hlinks, htripped⟩ := clearanceUpdate_idle_told (s := periodReported counts s) (by simp [hstate])
    (periodLeaf counts s).group.clearance
  refine ⟨by rw [hleaf, hst], by rw [hleaf, hcause], by rw [hleaf, hpending], by rw [hleaf]; exact hcounts, by rw [hleaf]; exact hbrakes,
    ?tripped, ?raised, ?told⟩
  case tripped =>
    have hknown : (periodReported counts s).sup.groupTripped = ((periodReported counts s).leaf.group.state == .tripped) :=
      congrArg Supervisor.groupTripped hsup
    rw [hupdated, periodUpdated, htripped, hknown, hstate]
    rfl
  case raised =>
    rw [hupdated, periodUpdated, hlinks]
    exact congrArg (fun p : LinkPort => p.attention.raised) hport
  case told =>
    rw [hupdated, periodUpdated, hlinks]
    exact congrArg (fun p : LinkPort => p.attention.causes.leafGroup) hport

end Sys2Proof.Machine

/-! What a control period makes of the group, state by state, at the leaf records (the layer of O38). -/

namespace Sys2Proof.Machine

open Sys2Proof

variable {c : Configured} {counts : PerDrive (BitVec 24)} {pick : Nat} {m n a x : LeafMotion} {cause : TripCause} {p : Profile}

/-! ## What a period finds (R92, R95, R96) -/

theorem perDrive_any_iff {α : Type} (f : α → Bool) (t : PerDrive α) : t.any f = true ↔ ∃ d, f (t.get d) = true := by
  simp only [PerDrive.any, Bool.or_eq_true]
  exact ⟨fun h => by rcases h with ((h | h) | h) | h; exacts [⟨.wn, h⟩, ⟨.ws, h⟩, ⟨.en, h⟩, ⟨.es, h⟩],
    fun ⟨d, h⟩ => by cases d <;> simp_all [PerDrive.get]⟩

theorem perDrive_all_iff {α : Type} (f : α → Bool) (t : PerDrive α) : t.all f = true ↔ ∀ d, f (t.get d) = true := by
  simp only [PerDrive.all, Bool.and_eq_true]
  exact ⟨fun ⟨⟨⟨hwn, hws⟩, hen⟩, hes⟩ d => by cases d; exacts [hwn, hws, hen, hes],
    fun h => ⟨⟨⟨h .wn, h .ws⟩, h .en⟩, h .es⟩⟩

theorem twistTrips_iff (c : Configured) (m : LeafMotion) : twistTrips c m = true ↔ twistFound c m := by
  simp [twistTrips, twistFound]

theorem skewTrips_iff (c : Configured) (m : LeafMotion) : skewTrips c m = true ↔ skewFound c m := by
  simp [skewTrips, skewFound]

theorem rangeTrips_iff (m : LeafMotion) : rangeTrips m = true ↔ rangeFound m := by
  rw [rangeTrips, perDrive_any_iff]; rfl

theorem followingTrips_iff (c : Configured) (m : LeafMotion) :
    followingTrips c m = true ↔ m.group.state.profileRuns = true ∧ followingFound c m := by
  rw [followingTrips, Bool.and_eq_true, perDrive_any_iff]
  simp only [decide_eq_true_iff]
  rfl

theorem withinSettle_iff (c : Configured) (m : LeafMotion) :
    withinSettle c m = true ↔ ∀ d, (m.drives.get d).followingError.natAbs ≤ c.settleWindow := by
  rw [withinSettle, perDrive_all_iff]
  simp only [decide_eq_true_iff]

theorem KeepsAngles.twistFound_iff (h : KeepsAngles m n) (c : Configured) : twistFound c n ↔ twistFound c m := by
  rw [twistFound, twistFound, h.west.2, h.east.2]

theorem KeepsAngles.skewFound_iff (h : KeepsAngles m n) (c : Configured) : skewFound c n ↔ skewFound c m := by
  rw [skewFound, skewFound, h.group.1]

theorem KeepsAngles.rangeFound_iff (h : KeepsAngles m n) : rangeFound n ↔ rangeFound m := by
  simp only [rangeFound, fun d => (h.drives d).2.2]

theorem KeepsFormed.followingFound_iff (h : KeepsFormed m n) (c : Configured) : followingFound c n ↔ followingFound c m := by
  simp only [followingFound, h.errors]

/-! ## Step 5 by what it finds (R95, R96) -/

theorem superviseAngles_rest (h : m.group.state.working = false) : m.superviseAngles c pick = m := by
  simp [LeafMotion.superviseAngles, h]

theorem superviseAngles_quiet (ht : ¬twistFound c m) (hr : ¬rangeFound m) (hs : ¬skewFound c m) : m.superviseAngles c pick = m := by
  rw [← twistTrips_iff, Bool.not_eq_true] at ht
  rw [← rangeTrips_iff, Bool.not_eq_true] at hr
  rw [← skewTrips_iff, Bool.not_eq_true] at hs
  simp [LeafMotion.superviseAngles, angleCauses, ht, hr, hs]

theorem angleCauses_ne_nil (h : twistFound c m ∨ rangeFound m ∨ skewFound c m) : angleCauses c m ≠ [] := by
  rcases h with h | h | h
  · simp [angleCauses, (twistTrips_iff c m).mpr h]
  · simp [angleCauses, (rangeTrips_iff m).mpr h]
  · simp [angleCauses, (skewTrips_iff c m).mpr h]

theorem superviseAngles_trips (hw : m.group.state.working = true) (h : twistFound c m ∨ rangeFound m) :
    m.superviseAngles c pick = m.trip (chosenCause pick (angleCauses c m)) := by
  have hne : (angleCauses c m).isEmpty = false :=
    List.isEmpty_eq_false_iff.mpr (angleCauses_ne_nil (h.imp_right .inl))
  have hfound : (twistTrips c m || rangeTrips m) = true := by
    rw [Bool.or_eq_true, twistTrips_iff, rangeTrips_iff]; exact h
  simp only [LeafMotion.superviseAngles, hw, hne, hfound]
  rfl

/-- The cause taken is one of those found, whichever the free choice picks (log entry 1). -/
theorem chosenCause_mem (pick : Nat) {causes : List TripCause} (h : causes ≠ []) : chosenCause pick causes ∈ causes := by
  have hlt : pick % causes.length < causes.length := Nat.mod_lt _ (List.length_pos_iff.mpr h)
  rw [chosenCause, List.getElem?_eq_getElem hlt]
  exact List.getElem_mem hlt

theorem mem_angleCauses (h : cause ∈ angleCauses c m) : (cause = .twist ∧ twistFound c m)
    ∨ (cause = .encoderRange ∧ rangeFound m) ∨ (cause = .skew ∧ skewFound c m) := by
  rw [← twistTrips_iff, ← rangeTrips_iff, ← skewTrips_iff]
  simp only [angleCauses, List.mem_append] at h
  rcases h with (h | h) | h
  · by_cases hf : twistTrips c m <;> simp_all
  · by_cases hf : skewTrips c m <;> simp_all
  · by_cases hf : rangeTrips m <;> simp_all

section

variable (ht : ¬twistFound c m) (hr : ¬rangeFound m) (hs : skewFound c m)
include ht hr hs

theorem superviseAngles_skew (hw : m.group.state.working = true) : m.superviseAngles c pick = match m.group.state with
    | .raising | .settling | .lowering | .seating => m.beginStop (some .skew) false
    | .stopping => m.stopTakes .skew
    | .unlocking | .heldOpen | .locking => m.trip .skew
    | .inactive | .stowed | .tripped | .halted => m := by
  have hne : (angleCauses c m).isEmpty = false := List.isEmpty_eq_false_iff.mpr (angleCauses_ne_nil (.inr (.inr hs)))
  rw [← twistTrips_iff, Bool.not_eq_true] at ht
  rw [← rangeTrips_iff, Bool.not_eq_true] at hr
  simp only [LeafMotion.superviseAngles, hw, hne, ht, hr]
  cases m.group.state <;> rfl

theorem superviseAngles_skew_moving (h : m.group.state = .raising ∨ m.group.state = .settling ∨ m.group.state = .lowering
    ∨ m.group.state = .seating) : m.superviseAngles c pick = m.beginStop (some .skew) false := by
  rcases h with h | h | h | h <;> rw [superviseAngles_skew ht hr hs (by rw [h]; rfl), h]

theorem superviseAngles_skew_stopping (h : m.group.state = .stopping) : m.superviseAngles c pick = m.stopTakes .skew := by
  rw [superviseAngles_skew ht hr hs (by rw [h]; rfl), h]

theorem superviseAngles_skew_still (h : m.group.state = .unlocking ∨ m.group.state = .heldOpen ∨ m.group.state = .locking) :
    m.superviseAngles c pick = m.trip .skew := by
  rcases h with h | h | h <;> rw [superviseAngles_skew ht hr hs (by rw [h]; rfl), h]

end

/-! ## A trip in a period (R100) -/

/-- The cause that a trip leaves: a stop keeps its own (R100). -/
def tripCause (cause : TripCause) (m : LeafMotion) : TripCause := if m.group.state = .stopping then m.group.cause.getD cause else cause

/-- No lock is commanded, and no lock's timer runs. -/
def locksCleared (m : LeafMotion) : Prop := ∀ k, (m.locks.get k).command = none ∧ (m.locks.get k).timer = none

theorem trip_trippedLeaf (h : m.group.state ≠ .tripped) (cause : TripCause) : m.trip cause = trippedLeaf (tripCause cause m) m := by
  by_cases hstop : m.group.state = .stopping
  · rw [trip_stopping hstop, tripCause, if_pos hstop]
  · rw [trip_eq h hstop, tripCause, if_neg hstop]

/-- Where a cause stands in TRIPPED and STOPPING alone, a group not yet tripped keeps whatever cause it has (R79, R100). -/
theorem tripCause_getD (hc : causeTable m.group) (h : m.group.state ≠ .tripped) (cause : TripCause) :
    tripCause cause m = m.group.cause.getD cause := by
  obtain ⟨_, hcause, _⟩ := hc
  unfold tripCause
  split
  next => rfl
  next hstop =>
    cases hm : m.group.cause with
    | none => rfl
    | some k => exact absurd (hcause (by rw [hm]; rfl)) (not_or_intro h hstop)

theorem trip_tripped (h : m.group.state ≠ .tripped) (cause : TripCause) :
    leafTripped (tripCause cause m) (m.trip cause) ∧ locksCleared (m.trip cause) := by
  rw [trip_trippedLeaf h]
  refine ⟨⟨rfl, rfl, rfl, ⟨rfl, rfl, rfl⟩, fun d => ?_⟩, fun k => ?_⟩
  · rw [trippedLeaf, PerDrive.get_map]; exact ⟨rfl, rfl, rfl⟩
  · rw [trippedLeaf, PerLock.get_map]; exact ⟨rfl, rfl⟩

theorem drivenLeaf_tripped (h : leafTripped cause a) : leafTripped cause (drivenLeaf c a) := by
  obtain ⟨hst, hcause, hpending, hcounts, hbrakes⟩ := h
  have hidle : a.group.state.profileRuns = false := by rw [hst]; rfl
  have hgroup : (drivenLeaf c a).group = a.group := by rw [drivenLeaf_group, advance_idle c hidle]
  rw [leafTripped, hgroup]
  refine ⟨hst, hcause, hpending, hcounts, fun d => ?_⟩
  rw [drivenLeaf_drive, hidle]
  exact ⟨(hbrakes d).1, rfl, rfl⟩

/-- A period from the records that its step 5 has left. -/
theorem period_of_angles (h : (formedLeaf c counts m).superviseAngles c pick = a) : m.period c counts pick =
    if followingTrips c (drivenLeaf c a) then (drivenLeaf c a).trip .following else (drivenLeaf c a).superviseMotion c := by
  subst h; rfl

theorem period_unfollowed (h : (formedLeaf c counts m).superviseAngles c pick = a) (hf : followingTrips c (drivenLeaf c a) = false) :
    m.period c counts pick = (drivenLeaf c a).superviseMotion c := by
  rw [period_of_angles h, if_neg (by simp [hf])]

theorem followingTrips_idle (h : a.group.state.profileRuns = false) : followingTrips c (drivenLeaf c a) = false := by
  rw [followingTrips, drivenLeaf_state, h, Bool.false_and]

/-- A group that step 5 has tripped stands so to the end of the period. -/
theorem period_tripped (h : (formedLeaf c counts m).superviseAngles c pick = a) (ht : leafTripped cause a) (hl : locksCleared a) :
    leafTripped cause (m.period c counts pick) ∧ locksCleared (m.period c counts pick) := by
  have hidle : a.group.state.profileRuns = false := by rw [ht.1]; rfl
  have hdriven := drivenLeaf_tripped (c := c) ht
  have hperiod : m.period c counts pick = drivenLeaf c a := by
    rw [period_unfollowed h (followingTrips_idle hidle)]
    simp only [LeafMotion.superviseMotion, hdriven.1]
  rw [hperiod]
  exact ⟨hdriven, by rw [locksCleared, drivenLeaf_locks]; exact hl⟩

/-- A following error trips the moving leaves (R96). -/
theorem period_followed (h : (formedLeaf c counts m).superviseAngles c pick = a) (hf : followingTrips c (drivenLeaf c a) = true) :
    leafTripped (tripCause .following a) (m.period c counts pick) ∧ locksCleared (m.period c counts pick) := by
  have hruns : (drivenLeaf c a).group.state.profileRuns = true := ((followingTrips_iff _ _).mp hf).1
  have hcause : tripCause .following (drivenLeaf c a) = tripCause .following a := by
    rw [tripCause, drivenLeaf_group, advance_group]; rfl
  rw [period_of_angles h, if_pos hf, ← hcause]
  exact trip_tripped (fun he => by rw [he] at hruns; nomatch hruns) _

/-! ## A stop in a period (R99) -/

theorem endStop_fields (m : LeafMotion) : m.endStop.group.state = (if m.group.cause.isSome then .tripped else .halted)
    ∧ m.endStop.group.cause = m.group.cause ∧ m.endStop.group.pendingLower = m.group.pendingLower ∧ m.endStop.group.target = m.group.target
    ∧ countsCleared m.endStop.group ∧ brakesSet m.endStop ∧ m.endStop.locks = m.locks :=
  ⟨rfl, rfl, rfl, rfl, ⟨rfl, rfl, rfl⟩, setBrakes_brakesSet m, rfl⟩

/-- A stop in a period with no following error: it ends once the speed is 0, and goes on until then. -/
theorem period_stopping (h : (formedLeaf c counts m).superviseAngles c pick = a) (hst : a.group.state = .stopping)
    (hf : followingTrips c (drivenLeaf c a) = false) : m.period c counts pick =
      if (drivenLeaf c a).group.profileInUse.speed = 0 then (drivenLeaf c a).endStop else drivenLeaf c a := by
  rw [period_unfollowed h hf]
  simp only [LeafMotion.superviseMotion, (drivenLeaf_state c a).trans hst]

theorem drivenLeaf_stop (c : Configured) (a : LeafMotion) : (drivenLeaf c a).group.state = a.group.state
    ∧ (drivenLeaf c a).group.cause = a.group.cause ∧ (drivenLeaf c a).group.pendingLower = a.group.pendingLower
    ∧ (drivenLeaf c a).group.target = a.group.target ∧ (drivenLeaf c a).locks = a.locks := by
  rw [drivenLeaf_group, advance_group]
  exact ⟨rfl, rfl, rfl, rfl, drivenLeaf_locks c a⟩

/-- A stop with a cause stands TRIPPED with it or goes on with it, and touches no lock (R99). -/
theorem period_stops (h : (formedLeaf c counts m).superviseAngles c pick = a) (hst : a.group.state = .stopping)
    (hcause : a.group.cause = some cause) (hpending : a.group.pendingLower = false) (hf : followingTrips c (drivenLeaf c a) = false) :
    (m.period c counts pick).locks = a.locks ∧ (leafTripped cause (m.period c counts pick)
      ∨ ((m.period c counts pick).group.state = .stopping ∧ (m.period c counts pick).group.cause = some cause
        ∧ (m.period c counts pick).group.pendingLower = false)) := by
  obtain ⟨hstate, hcauses, hpendings, _, hlocks⟩ := drivenLeaf_stop c a
  rw [period_stopping h hst hf]
  split
  · obtain ⟨hend, hendcause, hendpending, _, hcounts, hbrakes, hendlocks⟩ := endStop_fields (drivenLeaf c a)
    refine ⟨hendlocks.trans hlocks, .inl ⟨?_, hendcause.trans (hcauses.trans hcause), hendpending.trans (hpendings.trans hpending), hcounts, hbrakes⟩⟩
    rw [hend, hcauses, hcause]
    rfl
  · exact ⟨hlocks, .inr ⟨hstate.trans hst, hcauses.trans hcause, hpendings.trans hpending⟩⟩

theorem drivenLeaf_profile_stopping (hp : a.group.profile = some p) (hst : a.group.state = .stopping) :
    (drivenLeaf c a).group.profileInUse = advanceStop c p := by
  rw [drivenLeaf_group, advance_group_stopping c hp hst]
  rfl

/-! ## The transitions of step 8 (R89, R92, R93) -/

theorem drivenLeaf_profile (h : a.group.state.profileRuns = true) :
    (drivenLeaf c a).group.profile = some (drivenLeaf c a).group.profileInUse := by
  rw [drivenLeaf_group, Group.profileInUse, advance_runs h]
  rfl

/-- RAISING and LOWERING end once the profile has come to rest at their target (R92, R93). -/
theorem superviseMotion_raising (h : x.group.state = .raising) : x.superviseMotion c =
    if x.group.profileInUse.reference = x.group.targetInUse ∧ x.group.profileInUse.speed = 0 then x.clearCounts.enter .settling else x := by
  simp only [LeafMotion.superviseMotion, h]

theorem superviseMotion_lowering (h : x.group.state = .lowering) : x.superviseMotion c =
    if x.group.profileInUse.reference = 0 ∧ x.group.profileInUse.speed = 0 then x.clearCounts.enter .seating else x := by
  simp only [LeafMotion.superviseMotion, h]

theorem superviseMotion_settling (h : x.group.state = .settling) : x.superviseMotion c =
    let settle := if withinSettle c x then x.group.settleCount + 1 else 0
    if c.settleDwell * 5 ≤ settle then x.holdOpen
    else if c.settleTimeout * 50 ≤ x.group.restCount + 1 then x.trip .settleTimeout
    else x.updateGroup (fun g => { g with settleCount := settle, restCount := x.group.restCount + 1 }) := by
  simp only [LeafMotion.superviseMotion, h]
  rfl

theorem superviseMotion_seating (h : x.group.state = .seating) : x.superviseMotion c =
    let seat := if bothSeated x then x.group.seatCount + 1 else 0
    if c.seatDwell * 5 ≤ seat then x.enterLocking
    else if c.settleTimeout * 50 ≤ x.group.restCount + 1 then x.trip .settleTimeout
    else x.updateGroup (fun g => { g with seatCount := seat, restCount := x.group.restCount + 1 }) := by
  simp only [LeafMotion.superviseMotion, h]
  rfl

/-- LOCKING entered with some lock not driven home stays there (R89). -/
theorem enterLocking_locking (h : ∃ k, (m.locks.get k).drivenSwitch = false) : m.enterLocking = lockingEntered m := by
  rw [enterLocking_eq]
  refine if_neg fun hall => ?_
  obtain ⟨k, hk⟩ := h
  have hstate := (allLocks_iff _ _).mp hall k
  have hswitch : ((lockingEntered m).locks.get k).drivenSwitch = (m.locks.get k).drivenSwitch := by
    cases k
    · rfl
    · rfl
    · change (if bothSeated m then Lock.commanded .drive m.locks.centre.uncommanded else Lock.heldBack m.locks.centre.uncommanded).drivenSwitch = _
      split <;> rfl
  rw [hk] at hswitch
  have hcommand : ((lockingEntered m).locks.get k).command ≠ some .withdraw := by
    cases k
    · exact nofun
    · exact nofun
    · change (if bothSeated m then Lock.commanded .drive m.locks.centre.uncommanded else Lock.heldBack m.locks.centre.uncommanded).command ≠ _
      split <;> exact nofun
  simp only [lockState, hswitch, Bool.false_and, Bool.false_eq_true, if_false] at hstate
  split at hstate
  · split at hstate <;> nomatch hstate
  · nomatch hstate
  · split at hstate <;> nomatch hstate

theorem lockingEntered_fields (m : LeafMotion) : (lockingEntered m).group.state = .locking ∧ countsCleared (lockingEntered m).group
    ∧ (lockingEntered m).group.target = m.group.target ∧ (lockingEntered m).group.pendingLower = m.group.pendingLower
    ∧ (lockingEntered m).group = { m.group with state := .locking, settleCount := 0, seatCount := 0, restCount := 0 }
    ∧ brakesSet (lockingEntered m)
    ∧ ∀ k, ((lockingEntered m).locks.get k).command = if k = .centre ∧ bothSeated m = false then none else some .drive := by
  refine ⟨rfl, ⟨rfl, rfl, rfl⟩, rfl, rfl, rfl, setBrakes_brakesSet m, fun k => ?_⟩
  cases k
  · rfl
  · rfl
  · change (if bothSeated m then Lock.commanded .drive m.locks.centre.uncommanded else Lock.heldBack m.locks.centre.uncommanded).command = _
    cases bothSeated m <;> rfl

end Sys2Proof.Machine

/-! The report of HELD_OPEN, and the events that reach the group by themselves: the first half of O38. -/

namespace Sys2Proof.Machine

open Sys2Proof

variable {s t x y : State} {m : LeafMotion} {cause : TripCause} {o : Opening} {changed : List Part} {causes : List AttentionCause}

/-! ## The report of HELD_OPEN (R44, R45) -/

/-- A report that ends in the demands formed from a state is told by that state. -/
theorem groupReported_derived (hsup : y.sup = { s.sup with groupTripped := y.leaf.group.state == .tripped })
    (hport : y.links.control =
      { s.links.control with attention := ⟨true, causes.foldl CauseSet.add s.links.control.attention.causes⟩ })
    (hclear : y.seq.clearance = s.seq.clearance)
    (hframe : unchangedBut ([.controlPort, .seq, .leaf, .lamp, .display, .sup] ++ changed) s y) :
    groupReportedWith changed causes s (deriveDemands y) := by
  refine ⟨?sup, ?port, by rw [deriveDemands_seq_clearance, hclear], demandsStand_deriveDemands y, ?frame⟩
  case sup =>
    have h := deriveDemands_sup y
    rw [hsup] at h
    rw [deriveDemands_leaf]
    exact h
  case port => rw [deriveDemands_links, hport]
  case frame =>
    refine unchangedBut_trans hframe (unchangedBut_mono (fun q hq => List.mem_append_left _ ?_) (deriveDemands_frame y))
    fin_cases hq <;> decide

theorem groupReport_heldOpen (h : s.leaf.group.state = .heldOpen) :
    groupReport s = deriveDemands (heldOpenReport (raiseAttention .control .leafGroup s)) := by
  have hraised : (raiseAttention .control .leafGroup s).leaf.group.state = .heldOpen := h
  simp only [groupReport, hraised]

/-- The state that the report of a change of the leaf records starts from: the Link Supervisor and the control line told. -/
def reportStart (m : LeafMotion) (s : State) : State :=
  raiseAttention .control .leafGroup (handGroupTripped (m.group.state == .tripped) (s.withLeaf m))

theorem reportStart_frame (m : LeafMotion) (s : State) : unchangedBut [.controlPort, .leaf, .sup] s (reportStart m s) := by
  intro p hp; cases p <;> simp_all [Part.same, reportStart, raiseAttention, updatePort, PerLink.set]

theorem reportStart_fields (m : LeafMotion) (s : State) : (reportStart m s).leaf = m ∧ (reportStart m s).seq = s.seq
    ∧ (reportStart m s).sup = { s.sup with groupTripped := m.group.state == .tripped }
    ∧ (reportStart m s).links.control =
        { s.links.control with attention := ⟨true, s.links.control.attention.causes.add .leafGroup⟩ } :=
  ⟨rfl, rfl, rfl, rfl⟩

theorem applyLeaf_heldOpen {f : LeafMotion → LeafMotion} (hheld : (f s.leaf).group.state = .heldOpen)
    (hchanged : s.leaf.group.state ≠ .heldOpen) : applyLeaf f s = deriveDemands (heldOpenReport (reportStart (f s.leaf) s)) := by
  rw [applyLeaf_of_changed fun he => hchanged (he.symm.trans hheld), groupReport_heldOpen (by exact hheld)]
  rfl

section

variable {f : LeafMotion → LeafMotion} (hheld : (f s.leaf).group.state = .heldOpen) (hchanged : s.leaf.group.state ≠ .heldOpen)
include hheld hchanged

/-- HELD_OPEN in OPEN ends an extension (R45). -/
theorem applyLeaf_heldOpen_open (ho : s.seq.opening = some o) (hst : o.state = .open) :
    (applyLeaf f s).seq.opening = some { o with extending := false } ∧ groupReported [.leafGroup] s (applyLeaf f s) := by
  have hreport : heldOpenReport (reportStart (f s.leaf) s) =
      updateOpening (fun o => { o with extending := false }) (reportStart (f s.leaf) s) := by
    simp only [heldOpenReport, openingState, (reportStart_fields _ s).2.1, ho, Option.map_some, hst]
  have hframe : unchangedBut [.controlPort, .seq, .leaf, .lamp, .display, .sup] s
      (setOpening (some { o with extending := false }) (reportStart (f s.leaf) s)) :=
    unchangedBut_trans (unchangedBut_mono (by simp) (reportStart_frame (f s.leaf) s))
      (unchangedBut_mono (by simp) (setOpening_frame _ _))
  have hupdate : updateOpening (fun o => { o with extending := false }) (reportStart (f s.leaf) s) =
      setOpening (some { o with extending := false }) (reportStart (f s.leaf) s) := by
    rw [updateOpening, (reportStart_fields _ s).2.1, ho]
    rfl
  rw [applyLeaf_heldOpen hheld hchanged, hreport, hupdate]
  exact ⟨by rw [deriveDemands_seq_opening]; rfl, groupReported_derived rfl rfl rfl hframe⟩

/-- HELD_OPEN in LIFTING opens the bridge to vessels: the served direction is taken, and no changeover begins (R44). -/
theorem applyLeaf_heldOpen_lifting (ho : s.seq.opening = some o) (hst : o.state = .lifting) :
    (applyLeaf f s).seq.opening = some { o with
        state := .open, changeover := none, extending := false
        served := some ((((admittedRecords s).head?).map (·.direction)).getD .seaward) }
      ∧ groupReported [.leafGroup, .opening] s (applyLeaf f s) := by
  let d : Direction := firstServed s
  let x := reportStart (f s.leaf) s
  let opened : Opening := { o with state := .open, changeover := none, extending := false, served := some d }
  let z := raiseAttention .control .opening (setOpening (some opened) x)
  obtain ⟨hleafx, hseqx, hsupx, hportx⟩ := reportStart_fields (f s.leaf) s
  have hox : x.seq.opening = some o := (congrArg Sequencer.opening hseqx).trans ho
  have hframex := reportStart_frame (f s.leaf) s
  have hlistsx : listedRecords x = listedRecords s := listedRecords_of_lists (congrArg (fun q : Sequencer => q.opening.map (·.list)) hseqx) (hframex .reg (by decide))
  have hserved : d = (((admittedRecords s).head?).map (·.direction)).getD .seaward := by
    simp only [d, firstServed]
    cases admittedRecords s <;> rfl
  have hfirst : firstServed x = d := by simp only [d, firstServed, admittedRecords, hlistsx]
  have hlistsz : listedRecords z = listedRecords s := by
    rw [← hlistsx]
    simp only [listedRecords, hox]
    rfl
  have hreport : heldOpenReport x = weighChangeover z := by
    simp only [heldOpenReport, openingState, hox, Option.map_some, hst, hfirst]
    simp only [z, opened, enterOpening, enterOpeningQuietly, updateOpening, setOpening, hox]
    rfl
  have hquiet : activeIn d z = true ∨ admittedIn (otherDirection d) z = false := by
    simp only [activeIn, admittedIn, hlistsz]
    cases hlist : admittedRecords s with
    | nil =>
      refine .inr (Bool.eq_false_iff.mpr fun h => ?_)
      obtain ⟨p, hp, hadmitted⟩ := List.any_eq_true.mp h
      have hmem : p ∈ admittedRecords s := List.mem_filter.mpr ⟨hp, (Bool.and_eq_true_iff.mp hadmitted).1⟩
      rw [hlist] at hmem
      nomatch hmem
    | cons p ps =>
      have hd : d = p.direction := by rw [hserved, hlist]; rfl
      have hmem : p ∈ admittedRecords s := by simp [hlist]
      obtain ⟨hp, hadmitted⟩ := List.mem_filter.mp hmem
      exact .inl (List.any_eq_true.mpr ⟨p, hp, by simp [isActive, hadmitted, hd]⟩)
  have hoz : z.seq.opening = some opened := rfl
  have hopening := weighChangeover_opening hoz rfl rfl
  rw [if_pos hquiet] at hopening
  have hcontrol := weighChangeover_control hoz rfl rfl
  have hframe : unchangedBut [.controlPort, .seq, .leaf, .lamp, .display, .sup] s (weighChangeover z) :=
    unchangedBut_trans (unchangedBut_mono (by simp) hframex) (unchangedBut_trans
      (unchangedBut_mono (by simp) (setOpening_frame (some opened) x)) (unchangedBut_trans
      (unchangedBut_mono (by simp) (raiseControl_frame .opening _)) (unchangedBut_mono (by simp) (weighChangeover_frame z))))
  have hkeeps := weighChangeover_frame z
  rw [applyLeaf_heldOpen hheld hchanged, hreport]
  refine ⟨?opening, groupReported_derived ?sup ?port (by rw [weighChangeover_seq_clearance]; rfl) hframe⟩
  case opening => rw [deriveDemands_seq_opening, hopening, ← hserved]
  case sup =>
    have hsup : (weighChangeover z).sup = z.sup := hkeeps .sup (by decide)
    have hleaf : (weighChangeover z).leaf = z.leaf := hkeeps .leaf (by decide)
    rw [hsup, hleaf]
    rfl
  case port =>
    have hattention : z.links.control.attention = ⟨true, (s.links.control.attention.causes.add .leafGroup).add .opening⟩ := rfl
    rw [hcontrol, hattention]
    simp only [CauseSet.add_add, ite_self]
    rfl

/-- HELD_OPEN in any other opening state, or with no opening, tells the control line alone. -/
theorem applyLeaf_heldOpen_other (h : ∀ o, s.seq.opening = some o → o.state ≠ .lifting ∧ o.state ≠ .open) :
    (applyLeaf f s).seq.opening = s.seq.opening ∧ groupReported [.leafGroup] s (applyLeaf f s) := by
  refine applyLeaf_alone (fun he => hchanged (he.symm.trans hheld)) ?_
  intro t
  have hidle : heldOpenReport (raiseAttention .control .leafGroup t) = raiseAttention .control .leafGroup t := by
    have hseq : (raiseAttention .control .leafGroup t).seq.opening = s.seq.opening := rfl
    simp only [heldOpenReport, openingState, hseq]
    cases ho : s.seq.opening with
    | none => rfl
    | some o =>
      obtain ⟨hlifting, hopen⟩ := h o ho
      cases hst : o.state <;> simp_all
  rw [groupReport_heldOpen (by exact hheld), hidle]

end

/-! ## The emergency stop and the dwells (R92, R93, R97) -/

/-- The leaf records with the emergency stop in its new level. -/
def stopLevel (active : Bool) (m : LeafMotion) : LeafMotion := { m with group := { m.group with emergencyStop := active } }

theorem emergencyStop_moves {active : Bool} (h : s.leaf.group.emergencyStop ≠ active) :
    exec (.emergencyStopChange active) s = .next (applyLeaf (LeafMotion.emergencyStop active) s) := if_neg h

theorem emergencyStop_stands {active : Bool} (h : active = false ∨ m.group.state.working = false) :
    m.emergencyStop active = stopLevel active m := by
  refine if_neg ?_
  rcases h with h | h
  · simp [h]
  · simp [LeafMotion.updateGroup, h]

theorem emergencyStop_trips {active : Bool} (ha : active = true) (hw : m.group.state.working = true) (hc : causeTable m.group) :
    m.emergencyStop active = trippedLeaf (m.group.cause.getD .estop) (stopLevel active m) := by
  have hne : m.group.state ≠ .tripped := fun h => by rw [h] at hw; nomatch hw
  have htrip : m.emergencyStop active = (stopLevel active m).trip .estop := by
    refine if_pos ?_
    rw [ha, Bool.true_and]
    exact hw
  rw [htrip, trip_trippedLeaf (by exact hne), tripCause_getD (by exact hc) (by exact hne)]
  rfl

theorem settleComplete_holds (h : m.group.state = .settling) : settleComplete m = m.holdOpen := if_pos h

theorem seatComplete_locks (h : m.group.state = .seating) (hk : ∃ k, (m.locks.get k).drivenSwitch = false) :
    seatComplete m = lockingEntered m := by rw [seatComplete, if_pos h, enterLocking_locking hk]

theorem restTimeout_trips (h : m.group.state = .settling ∨ m.group.state = .seating) :
    restTimeout m = trippedLeaf .settleTimeout m := by
  rw [restTimeout, if_pos h]
  refine trip_eq (fun he => ?_) fun he => ?_ <;> rcases h with h | h <;> rw [h] at he <;> nomatch he

theorem lockingEntered_drive (m : LeafMotion) (d : DriveId) :
    (lockingEntered m).drives.get d = { m.drives.get d with brakeReleased := false, demand := 0, saturated := false } :=
  PerDrive.get_map _ _ d

end Sys2Proof.Machine

/-! What a control period finds and does about it, at the machine: the second half of O38. -/

namespace Sys2Proof.Machine

open Sys2Proof

variable {s : State} {m : LeafMotion} {cause : TripCause} {counts : PerDrive (BitVec 24)}

/-! ## The leaf records of a period, stage by stage (R62) -/

/-- The leaf records after stages 1 to 3. -/
def periodFormed (counts : PerDrive (BitVec 24)) (s : State) : LeafMotion := formedLeaf s.conf counts s.leaf

/-- The leaf records after step 5. -/
def periodAngles (counts : PerDrive (BitVec 24)) (s : State) : LeafMotion :=
  (periodFormed counts s).superviseAngles s.conf (Config.freeChoice s.freeCount)

/-- The leaf records at the end of step 8, but for the timer. -/
def periodEnd (counts : PerDrive (BitVec 24)) (s : State) : LeafMotion :=
  s.leaf.period s.conf counts (Config.freeChoice s.freeCount)

theorem periodLeaf_end (counts : PerDrive (BitVec 24)) (s : State) :
    periodLeaf counts s = { periodEnd counts s with periodTimer := some 20 } := rfl

theorem periodStage_driven (counts : PerDrive (BitVec 24)) (s : State) :
    periodStage counts s = drivenLeaf s.conf (periodAngles counts s) := rfl

theorem periodEnd_unfollowed (hf : followingTrips s.conf (periodStage counts s) = false) :
    periodEnd counts s = (periodStage counts s).superviseMotion s.conf := period_unfollowed rfl hf

/-- The leaf records of the step stand to its end, but for a lower that waited. -/
theorem runPeriod_end (h : (periodEnd counts s).group.state ≠ .halted ∨ (periodEnd counts s).group.pendingLower = false) :
    (runPeriod counts s).leaf = { periodEnd counts s with periodTimer := some 20 } := by
  rw [← periodLeaf_end]
  exact runPeriod_leaf_stands h

/-! ## What is found at the end of the period is what the period acted on (R95, R96) -/

theorem twistFound_runPeriod (counts : PerDrive (BitVec 24)) (s : State) :
    twistFound s.conf (runPeriod counts s).leaf ↔ twistFound s.conf (periodFormed counts s) :=
  (keepsAngles_runPeriod counts s).twistFound_iff s.conf

theorem rangeFound_runPeriod (counts : PerDrive (BitVec 24)) (s : State) :
    rangeFound (runPeriod counts s).leaf ↔ rangeFound (periodFormed counts s) := (keepsAngles_runPeriod counts s).rangeFound_iff

theorem skewFound_runPeriod (counts : PerDrive (BitVec 24)) (s : State) :
    skewFound s.conf (runPeriod counts s).leaf ↔ skewFound s.conf (periodFormed counts s) :=
  (keepsAngles_runPeriod counts s).skewFound_iff s.conf

theorem followingTrips_periodStage (counts : PerDrive (BitVec 24)) (s : State) : followingTrips s.conf (periodStage counts s) = true ↔
    (periodAngles counts s).group.state.profileRuns = true ∧ followingFound s.conf (runPeriod counts s).leaf := by
  rw [followingTrips_iff, periodStage_driven, drivenLeaf_state, ← periodStage_driven]
  exact and_congr_right fun _ => ((keepsFormed_runPeriod counts s).followingFound_iff s.conf).symm

theorem followingTrips_unfound (h : ¬followingFound s.conf (runPeriod counts s).leaf) :
    followingTrips s.conf (periodStage counts s) = false :=
  Bool.eq_false_iff.mpr fun hf => h ((followingTrips_periodStage counts s).mp hf).2

/-! ## Trips (R95, R96, R100) -/

theorem trippedNow_runPeriod (hne : s.leaf.group.state ≠ .tripped)
    (h : leafTripped cause (periodEnd counts s) ∧ locksCleared (periodEnd counts s)) : trippedNow cause (runPeriod counts s) := by
  refine ⟨standsTripped_runPeriod hne h.1, ?_⟩
  rw [runPeriod_end (.inl (by rw [h.1.1]; decide))]
  exact h.2

theorem runPeriod_follows (hne : s.leaf.group.state ≠ .tripped) (hruns : (periodAngles counts s).group.state.profileRuns = true)
    (hf : followingFound s.conf (runPeriod counts s).leaf) :
    trippedNow (tripCause .following (periodAngles counts s)) (runPeriod counts s) :=
  trippedNow_runPeriod hne (period_followed rfl ((followingTrips_periodStage counts s).mpr ⟨hruns, hf⟩))

theorem working_ne_tripped (h : s.leaf.group.state.working = true) : s.leaf.group.state ≠ .tripped :=
  fun he => by rw [he] at h; nomatch h

theorem profileRuns_working {st : GroupState} (h : st.profileRuns = true) : st.working = true := by
  revert h
  cases st <;> decide

/-- Twist and a range flag trip a working group, with one of the causes found (R95, R96, log entry 1). -/
theorem runPeriod_trips (hw : s.leaf.group.state.working = true)
    (h : twistFound s.conf (runPeriod counts s).leaf ∨ rangeFound (runPeriod counts s).leaf) :
    ∃ cause, trippedNow cause (runPeriod counts s)
      ∧ (s.leaf.group.state = .stopping → s.leaf.group.cause = none ∨ s.leaf.group.cause = some cause)
      ∧ (s.leaf.group.cause = none → (cause = .twist ∧ twistFound s.conf (runPeriod counts s).leaf)
        ∨ (cause = .encoderRange ∧ rangeFound (runPeriod counts s).leaf)
        ∨ (cause = .skew ∧ skewFound s.conf (runPeriod counts s).leaf)) := by
  rw [twistFound_runPeriod, rangeFound_runPeriod, skewFound_runPeriod] at *
  let chosen := chosenCause (Config.freeChoice s.freeCount) (angleCauses s.conf (periodFormed counts s))
  have hne := working_ne_tripped hw
  have hangles : periodAngles counts s = (periodFormed counts s).trip chosen := superviseAngles_trips hw h
  have htripped := trip_tripped (m := periodFormed counts s) hne chosen
  rw [← hangles] at htripped
  refine ⟨tripCause chosen (periodFormed counts s), trippedNow_runPeriod hne (period_tripped rfl htripped.1 htripped.2), fun hstop => ?kept,
    fun hnone => ?found⟩
  case kept =>
    rw [tripCause, if_pos (by exact hstop)]
    change s.leaf.group.cause = none ∨ s.leaf.group.cause = some (s.leaf.group.cause.getD chosen)
    cases s.leaf.group.cause
    · exact .inl rfl
    · exact .inr rfl
  case found =>
    have hcause : tripCause chosen (periodFormed counts s) = chosen := by
      unfold tripCause
      split
      · change s.leaf.group.cause.getD chosen = chosen
        rw [hnone]
        rfl
      · rfl
    rw [hcause]
    exact mem_angleCauses (chosenCause_mem _ (angleCauses_ne_nil (h.imp_right .inl)))

/-! ## Skew (R96) -/

section

variable (ht : ¬twistFound s.conf (runPeriod counts s).leaf) (hr : ¬rangeFound (runPeriod counts s).leaf)
include ht hr

/-- Skew stops moving leaves, and a stop without a cause takes it (R96). -/
theorem periodAngles_skewed (hs : skewFound s.conf (runPeriod counts s).leaf) (hc : causeTable s.leaf.group)
    (h : (s.leaf.group.state = .raising ∨ s.leaf.group.state = .settling ∨ s.leaf.group.state = .lowering ∨ s.leaf.group.state = .seating)
      ∨ s.leaf.group.state = .stopping) :
    (periodAngles counts s).group.state = .stopping ∧ (periodAngles counts s).group.cause = some (s.leaf.group.cause.getD .skew)
      ∧ (periodAngles counts s).group.pendingLower = false ∧ (periodAngles counts s).locks = s.leaf.locks := by
  rw [twistFound_runPeriod] at ht
  rw [rangeFound_runPeriod] at hr
  rw [skewFound_runPeriod] at hs
  obtain ⟨_, hcause, hpending⟩ := hc
  rcases h with h | h
  · have hnone : s.leaf.group.cause = none := by
      cases hcs : s.leaf.group.cause with
      | none => rfl
      | some k => rcases hcause (by rw [hcs]; rfl) with hst | hst <;> rcases h with h | h | h | h <;> rw [hst] at h <;> nomatch h
    have heq : periodAngles counts s = (periodFormed counts s).beginStop (some .skew) false := superviseAngles_skew_moving ht hr hs h
    rw [heq, hnone]
    exact ⟨rfl, rfl, rfl, rfl⟩
  · have heq : periodAngles counts s = (periodFormed counts s).stopTakes .skew := superviseAngles_skew_stopping ht hr hs h
    obtain ⟨hstate, hcauses, _, _, hlocks⟩ := stopTakes_fields .skew (periodFormed counts s)
    rw [heq]
    refine ⟨hstate.trans h, hcauses, ?_, hlocks⟩
    change (match s.leaf.group.cause with
      | none => { (periodFormed counts s).group with cause := some .skew, pendingLower := false }
      | some _ => (periodFormed counts s).group : Group).pendingLower = false
    cases hcs : s.leaf.group.cause with
    | none => rfl
    | some k =>
      refine Bool.eq_false_iff.mpr fun hp => ?_
      have hnone := (hpending hp).2
      rw [hcs] at hnone
      nomatch hnone

theorem runPeriod_skewed (hs : skewFound s.conf (runPeriod counts s).leaf) (hc : causeTable s.leaf.group)
    (h : (s.leaf.group.state = .raising ∨ s.leaf.group.state = .settling ∨ s.leaf.group.state = .lowering ∨ s.leaf.group.state = .seating)
      ∨ s.leaf.group.state = .stopping) :
    (followingFound s.conf (runPeriod counts s).leaf → trippedNow (s.leaf.group.cause.getD .skew) (runPeriod counts s))
      ∧ (¬followingFound s.conf (runPeriod counts s).leaf → stopsWith (s.leaf.group.cause.getD .skew) s (runPeriod counts s)) := by
  have hne : s.leaf.group.state ≠ .tripped := working_ne_tripped (profileRuns_working ((profileRuns_iff _).mpr h))
  obtain ⟨hstop, hcause, hpending, hlocks⟩ := periodAngles_skewed ht hr hs hc h
  refine ⟨fun hf => ?_, fun hf => ?_⟩
  · have htripped := runPeriod_follows hne (by rw [hstop]; rfl) hf
    rwa [tripCause, if_pos hstop, hcause] at htripped
  · obtain ⟨hlocksEnd, hends⟩ := period_stops rfl hstop hcause hpending (followingTrips_unfound hf)
    have hstands : (runPeriod counts s).leaf = { periodEnd counts s with periodTimer := some 20 } :=
      runPeriod_end (hends.elim (fun h => .inl (by change (periodEnd counts s).group.state = _ ∧ _ at h; rw [h.1]; decide))
        fun h => .inl (by change (periodEnd counts s).group.state = _ ∧ _ at h; rw [h.1]; decide))
    have hkept : (runPeriod counts s).leaf.locks = s.leaf.locks := by rw [hstands]; exact hlocksEnd.trans hlocks
    rcases hends with h | ⟨hst, hc, hp⟩
    · exact .inl ⟨standsTripped_runPeriod hne h, hkept⟩
    · refine .inr ?_
      rw [hkept, hstands]
      exact ⟨hst, hc, hp, rfl⟩

/-- Skew trips a working group at rest (R96). -/
theorem runPeriod_skewed_still (hs : skewFound s.conf (runPeriod counts s).leaf)
    (h : s.leaf.group.state = .unlocking ∨ s.leaf.group.state = .heldOpen ∨ s.leaf.group.state = .locking) :
    trippedNow .skew (runPeriod counts s) := by
  have hne : s.leaf.group.state ≠ .tripped := by rcases h with h | h | h <;> rw [h] <;> decide
  have hstop : (periodFormed counts s).group.state ≠ .stopping := by
    change s.leaf.group.state ≠ _
    rcases h with h | h | h <;> rw [h] <;> decide
  rw [twistFound_runPeriod] at ht
  rw [rangeFound_runPeriod] at hr
  rw [skewFound_runPeriod] at hs
  have heq : periodAngles counts s = (periodFormed counts s).trip .skew := superviseAngles_skew_still ht hr hs h
  have htripped := trip_tripped (m := periodFormed counts s) hne .skew
  rw [tripCause, if_neg hstop, ← heq] at htripped
  exact trippedNow_runPeriod hne (period_tripped rfl htripped.1 htripped.2)

theorem periodAngles_quiet (hs : ¬skewFound s.conf (runPeriod counts s).leaf) : periodAngles counts s = periodFormed counts s :=
  superviseAngles_quiet (by rwa [← twistFound_runPeriod]) (by rwa [← rangeFound_runPeriod]) (by rwa [← skewFound_runPeriod])

/-- A following error trips moving leaves, with the cause that skew has left where there is one (R96, R100). -/
theorem runPeriod_following (hruns : s.leaf.group.state.profileRuns = true) (hc : causeTable s.leaf.group)
    (hf : followingFound s.conf (runPeriod counts s).leaf) [Decidable (skewFound s.conf (runPeriod counts s).leaf)] :
    trippedNow (s.leaf.group.cause.getD (if skewFound s.conf (runPeriod counts s).leaf then .skew else .following))
      (runPeriod counts s) := by
  have hne := working_ne_tripped (profileRuns_working hruns)
  by_cases hs : skewFound s.conf (runPeriod counts s).leaf
  · rw [if_pos hs]
    exact (runPeriod_skewed ht hr hs hc ((profileRuns_iff _).mp hruns)).1 hf
  · have hquiet := periodAngles_quiet ht hr hs
    have htripped := runPeriod_follows hne (by rw [hquiet]; exact hruns) hf
    rw [if_neg hs]
    rwa [hquiet, tripCause_getD (by exact hc) (by exact hne)] at htripped

end

theorem superviseMotion_rest {c : Configured} (h : m.group.state.working = false) : m.superviseMotion c = m := by
  unfold LeafMotion.superviseMotion
  cases hst : m.group.state
  case inactive | stowed | tripped | halted => rfl
  all_goals exact absurd (hst ▸ h) (by decide)

/-- A group at rest stands through a period (R95, R96). -/
theorem runPeriod_rest (hw : s.leaf.group.state.working = false) (hc : causeTable s.leaf.group) :
    (runPeriod counts s).leaf.group.state = s.leaf.group.state := by
  have hruns : s.leaf.group.state.profileRuns = false :=
    Bool.eq_false_iff.mpr fun h => by rw [profileRuns_working h] at hw; nomatch hw
  have hangles : periodAngles counts s = periodFormed counts s := superviseAngles_rest hw
  have hstage : (periodStage counts s).group.state = s.leaf.group.state ∧ (periodStage counts s).group.pendingLower = s.leaf.group.pendingLower := by
    obtain ⟨hstate, _, hpending, _⟩ := drivenLeaf_stop s.conf (periodAngles counts s)
    rw [periodStage_driven, hstate, hpending, hangles]
    exact ⟨rfl, rfl⟩
  have hidle : (periodAngles counts s).group.state.profileRuns = false := by rw [hangles]; exact hruns
  have hend : periodEnd counts s = periodStage counts s := by
    rw [periodEnd_unfollowed (followingTrips_idle hidle), superviseMotion_rest (by rw [hstage.1]; exact hw)]
  have hpending : (periodEnd counts s).group.pendingLower = false := by
    rw [hend, hstage.2]
    refine Bool.eq_false_iff.mpr fun hp => ?_
    rw [(hc.2.2 hp).1] at hw
    nomatch hw
  rw [runPeriod_end (.inr hpending)]
  exact (congrArg (·.group.state) hend).trans hstage.1

end Sys2Proof.Machine

/-! A control period that finds nothing, by the group state, and O38. -/

namespace Sys2Proof.Machine

open Sys2Proof

variable {s t u : State} {m x : LeafMotion} {cause : TripCause} {counts : PerDrive (BitVec 24)} {p : Profile} {target : Nat}

/-! ## What a period with nothing found leaves to step 8 (R62) -/

section

variable (hn : nothingFound s.conf (runPeriod counts s).leaf)
include hn

theorem periodEnd_quiet : periodEnd counts s = (periodStage counts s).superviseMotion s.conf := by
  obtain ⟨_, _, _, hf⟩ := hn
  exact periodEnd_unfollowed (followingTrips_unfound hf)

theorem periodStage_quiet : periodStage counts s = drivenLeaf s.conf (periodFormed counts s) := by
  obtain ⟨ht, hr, hs, _⟩ := hn
  rw [periodStage_driven, periodAngles_quiet ht hr hs]

/-- Of the group record the stages before step 8 move the profile and what they form alone. -/
theorem periodStage_group : (periodStage counts s).group =
    { (periodFormed counts s).group with profile := (periodStage counts s).group.profile } := by
  rw [periodStage_quiet hn, drivenLeaf_group]
  exact advance_group _ _

theorem periodStage_state : (periodStage counts s).group.state = s.leaf.group.state := (congrArg Group.state (periodStage_group hn)).trans rfl

theorem periodStage_locks : (periodStage counts s).locks = s.leaf.locks := by
  rw [periodStage_quiet hn, drivenLeaf_locks]
  rfl

end

/-! ## RAISING and LOWERING (R92, R93) -/

/-- A motion that ends once its profile has come to rest. -/
theorem runPeriod_reaches {st : GroupState} {reached : Prop} [Decidable reached]
    (hend : periodEnd counts s = if reached then (periodStage counts s).clearCounts.enter st else periodStage counts s)
    (hst : st ≠ .halted) (hmoving : (periodStage counts s).group.state ≠ .halted) :
    (runPeriod counts s).leaf.group.profile = (periodStage counts s).group.profile
      ∧ (reached → (runPeriod counts s).leaf.group.state = st ∧ countsCleared (runPeriod counts s).leaf.group)
      ∧ (¬reached → (runPeriod counts s).leaf.group.state = (periodStage counts s).group.state) := by
  by_cases h : reached
  · rw [if_pos h] at hend
    rw [runPeriod_end (.inl (by rw [hend]; exact hst)), hend]
    exact ⟨rfl, fun _ => ⟨rfl, rfl, rfl, rfl⟩, fun hnot => absurd h hnot⟩
  · rw [if_neg h] at hend
    rw [runPeriod_end (.inl (by rw [hend]; exact hmoving)), hend]
    exact ⟨rfl, fun hpos => absurd hpos h, fun _ => rfl⟩

theorem runPeriod_raising (hn : nothingFound s.conf (runPeriod counts s).leaf) (h : s.leaf.group.state = .raising)
    (hp : (runPeriod counts s).leaf.group.profile = some p) (ht : s.leaf.group.target = some target) :
    (p.reference = target ∧ p.speed = 0 →
        (runPeriod counts s).leaf.group.state = .settling ∧ countsCleared (runPeriod counts s).leaf.group)
      ∧ (¬(p.reference = target ∧ p.speed = 0) → (runPeriod counts s).leaf.group.state = .raising) := by
  have hstate := (periodStage_state hn).trans h
  obtain ⟨hprofile, hreached, hnot⟩ := runPeriod_reaches ((periodEnd_quiet hn).trans (superviseMotion_raising hstate))
    (by decide) (by rw [hstate]; decide)
  have hinUse : (periodStage counts s).group.profileInUse = p := by rw [Group.profileInUse, ← hprofile, hp]; rfl
  have htarget : (periodStage counts s).group.targetInUse = target := by
    have hkept : (periodStage counts s).group.target = s.leaf.group.target := (congrArg Group.target (periodStage_group hn)).trans rfl
    rw [Group.targetInUse, hkept, ht]
    rfl
  rw [hinUse, htarget] at hreached hnot
  exact ⟨hreached, fun h' => (hnot h').trans hstate⟩

theorem runPeriod_lowering (hn : nothingFound s.conf (runPeriod counts s).leaf) (h : s.leaf.group.state = .lowering)
    (hp : (runPeriod counts s).leaf.group.profile = some p) :
    (p.reference = 0 ∧ p.speed = 0 →
        (runPeriod counts s).leaf.group.state = .seating ∧ countsCleared (runPeriod counts s).leaf.group)
      ∧ (¬(p.reference = 0 ∧ p.speed = 0) → (runPeriod counts s).leaf.group.state = .lowering) := by
  have hstate := (periodStage_state hn).trans h
  obtain ⟨hprofile, hreached, hnot⟩ := runPeriod_reaches ((periodEnd_quiet hn).trans (superviseMotion_lowering hstate))
    (by decide) (by rw [hstate]; decide)
  have hinUse : (periodStage counts s).group.profileInUse = p := by rw [Group.profileInUse, ← hprofile, hp]; rfl
  rw [hinUse] at hreached hnot
  exact ⟨hreached, fun h' => (hnot h').trans hstate⟩

/-! ## SETTLING and SEATING (R92, R93) -/

/-- A group that the settle timeout trips at step 8. -/
theorem runPeriod_timesOut (h : s.leaf.group.state = .settling ∨ s.leaf.group.state = .seating)
    (hx : (periodStage counts s).group.state = s.leaf.group.state)
    (hend : periodEnd counts s = (periodStage counts s).trip .settleTimeout) : trippedNow .settleTimeout (runPeriod counts s) := by
  have hne : s.leaf.group.state ≠ .tripped := by rcases h with h | h <;> rw [h] <;> decide
  have hstop : (periodStage counts s).group.state ≠ .stopping := by rw [hx]; rcases h with h | h <;> rw [h] <;> decide
  have htripped := trip_tripped (m := periodStage counts s) (hx ▸ hne) .settleTimeout
  rw [tripCause, if_neg hstop, ← hend] at htripped
  exact trippedNow_runPeriod hne htripped

theorem runPeriod_settling (hn : nothingFound s.conf (runPeriod counts s).leaf) (h : s.leaf.group.state = .settling) {n : Nat}
    (hcount : ((∀ d, ((runPeriod counts s).leaf.drives.get d).followingError.natAbs ≤ s.conf.settleWindow)
          ∧ n = s.leaf.group.settleCount + 1)
        ∨ ((∃ d, s.conf.settleWindow < ((runPeriod counts s).leaf.drives.get d).followingError.natAbs) ∧ n = 0)) :
    (s.conf.settleDwell * 5 ≤ n → (runPeriod counts s).leaf.group.state = .heldOpen
        ∧ countsCleared (runPeriod counts s).leaf.group ∧ brakesSet (runPeriod counts s).leaf)
      ∧ (n < s.conf.settleDwell * 5 → s.conf.settleTimeout * 50 ≤ s.leaf.group.restCount + 1 →
        trippedNow .settleTimeout (runPeriod counts s))
      ∧ (n < s.conf.settleDwell * 5 → s.leaf.group.restCount + 1 < s.conf.settleTimeout * 50 →
        (runPeriod counts s).leaf.group.state = .settling ∧ (runPeriod counts s).leaf.group.settleCount = n
          ∧ (runPeriod counts s).leaf.group.restCount = s.leaf.group.restCount + 1) := by
  have hx := periodStage_state hn
  have hstate := hx.trans h
  have hsettled : (periodStage counts s).group.settleCount = s.leaf.group.settleCount := (congrArg Group.settleCount (periodStage_group hn)).trans rfl
  have hrest : (periodStage counts s).group.restCount = s.leaf.group.restCount := (congrArg Group.restCount (periodStage_group hn)).trans rfl
  have herrors (d : DriveId) : ((runPeriod counts s).leaf.drives.get d).followingError = ((periodStage counts s).drives.get d).followingError :=
    (keepsFormed_runPeriod counts s).errors d
  simp only [herrors] at hcount
  have hsettle : (if withinSettle s.conf (periodStage counts s) then (periodStage counts s).group.settleCount + 1 else 0) = n := by
    rcases hcount with ⟨hwithin, rfl⟩ | ⟨⟨d, hd⟩, rfl⟩
    · rw [if_pos ((withinSettle_iff _ _).mpr hwithin), hsettled]
    · exact if_neg fun hall => absurd ((withinSettle_iff _ _).mp hall d) (not_le.mpr hd)
  have hend := (periodEnd_quiet hn).trans (superviseMotion_settling hstate)
  dsimp only at hend
  rw [hsettle, hrest] at hend
  refine ⟨fun hdwell => ?_, fun hlt hout => ?_, fun hlt hin => ?_⟩
  · rw [if_pos hdwell] at hend
    rw [runPeriod_end (.inl (by rw [hend]; exact nofun)), hend]
    exact ⟨rfl, ⟨rfl, rfl, rfl⟩, setBrakes_brakesSet _⟩
  · rw [if_neg (not_le.mpr hlt), if_pos hout] at hend
    exact runPeriod_timesOut (.inl h) hx hend
  · rw [if_neg (not_le.mpr hlt), if_neg (not_le.mpr hin)] at hend
    rw [runPeriod_end (.inl (by rw [hend]; change (periodStage counts s).group.state ≠ _; rw [hstate]; decide)), hend]
    exact ⟨hstate, rfl, rfl⟩

theorem runPeriod_seating (hn : nothingFound s.conf (runPeriod counts s).leaf) (h : s.leaf.group.state = .seating) {n : Nat}
    (hcount : n = if bothSeated (runPeriod counts s).leaf = true then s.leaf.group.seatCount + 1 else 0) :
    (s.conf.seatDwell * 5 ≤ n → (∃ k, (s.leaf.locks.get k).drivenSwitch = false) →
        (runPeriod counts s).leaf.group.state = .locking ∧ countsCleared (runPeriod counts s).leaf.group
          ∧ brakesSet (runPeriod counts s).leaf
          ∧ ∀ k, ((runPeriod counts s).leaf.locks.get k).command =
              if k = .centre ∧ bothSeated (runPeriod counts s).leaf = false then none else some .drive)
      ∧ (n < s.conf.seatDwell * 5 → s.conf.settleTimeout * 50 ≤ s.leaf.group.restCount + 1 →
        trippedNow .settleTimeout (runPeriod counts s))
      ∧ (n < s.conf.seatDwell * 5 → s.leaf.group.restCount + 1 < s.conf.settleTimeout * 50 →
        (runPeriod counts s).leaf.group.state = .seating ∧ (runPeriod counts s).leaf.group.seatCount = n
          ∧ (runPeriod counts s).leaf.group.restCount = s.leaf.group.restCount + 1) := by
  have hx := periodStage_state hn
  have hstate := hx.trans h
  have hseats : (periodStage counts s).group.seatCount = s.leaf.group.seatCount := (congrArg Group.seatCount (periodStage_group hn)).trans rfl
  have hrest : (periodStage counts s).group.restCount = s.leaf.group.restCount := (congrArg Group.restCount (periodStage_group hn)).trans rfl
  have hboth : bothSeated (runPeriod counts s).leaf = bothSeated (periodStage counts s) := (keepsFormed_runPeriod counts s).bothSeated
  have hlocks := periodStage_locks hn
  rw [hboth] at hcount ⊢
  have hend := (periodEnd_quiet hn).trans (superviseMotion_seating hstate)
  dsimp only at hend
  rw [hseats, hrest, ← hcount] at hend
  refine ⟨fun hdwell hswitch => ?_, fun hlt hout => ?_, fun hlt hin => ?_⟩
  · rw [← hlocks] at hswitch
    rw [if_pos hdwell, enterLocking_locking hswitch] at hend
    obtain ⟨hlocking, hcounts, _, _, _, hbrakes, hcommands⟩ := lockingEntered_fields (periodStage counts s)
    rw [runPeriod_end (.inl (by rw [hend]; exact nofun)), hend]
    exact ⟨hlocking, hcounts, hbrakes, hcommands⟩
  · rw [if_neg (not_le.mpr hlt), if_pos hout] at hend
    exact runPeriod_timesOut (.inr h) hx hend
  · rw [if_neg (not_le.mpr hlt), if_neg (not_le.mpr hin)] at hend
    rw [runPeriod_end (.inl (by rw [hend]; change (periodStage counts s).group.state ≠ _; rw [hstate]; decide)), hend]
    exact ⟨hstate, rfl, rfl⟩

end Sys2Proof.Machine

/-! The end of a stop in a control period, with the lower that waited for it, and O38. -/

namespace Sys2Proof.Machine

open Sys2Proof

variable {s t u : State} {m x : LeafMotion} {cause : TripCause} {counts : PerDrive (BitVec 24)} {p : Profile} {target : Nat}

/-! ## The lower that waited for the stop (R86, R99) -/

theorem dropWaitingLower_group (m : LeafMotion) :
    (dropWaitingLower m).group = { m.group with pendingLower := (dropWaitingLower m).group.pendingLower } := by
  unfold dropWaitingLower
  split <;> rfl

theorem dropWaitingLower_bothSeated (m : LeafMotion) : bothSeated (dropWaitingLower m) = bothSeated m :=
  (keepsFormed_dropWaitingLower m).bothSeated

/-- A lower from HALTED clears the counts and leaves no lower waiting. -/
theorem lower_halted_cleared (h : m.group.state = .halted) (hp : m.group.pendingLower = false) :
    m.lower.group.pendingLower = false ∧ countsCleared m.lower.group := by
  have hfinish (n : LeafMotion) : n.finishLocking.group.pendingLower = n.group.pendingLower
      ∧ (countsCleared n.group → countsCleared n.finishLocking.group) := by
    unfold LeafMotion.finishLocking
    split
    · exact ⟨rfl, id⟩
    · exact ⟨rfl, id⟩
  rw [lower_halted h]
  split
  · obtain ⟨hpending, hcounts⟩ := hfinish (lockingEntered (m.setTarget 0))
    exact ⟨hpending.trans hp, hcounts ⟨rfl, rfl, rfl⟩⟩
  · unfold LeafMotion.motionStart
    split
    · exact ⟨rfl, rfl, rfl, rfl⟩
    · have htripped := (trip_tripped (m := m.setTarget 0) (cause := .lockFault) (by rw [show (m.setTarget 0).group.state = .halted from h]; decide)).1
      exact ⟨htripped.2.2.1, htripped.2.2.2.1⟩

theorem lowerRefused_halted (h : m.group.state = .halted) (closed : Bool) :
    lowerRefused closed m = if bothSeated m then m.group.emergencyStop else startRefused closed m := by
  simp only [lowerRefused, h]

/-- Whether the lower that waits is refused, by the group and the road as they stand (R83, R86). -/
theorem waitingLower_refused (h : u.leaf.group.state = .halted) : lowerRefused (roadIsClosed u) (dropWaitingLower u.leaf) = true ↔
    (bothSeated u.leaf = true ∧ u.leaf.group.emergencyStop = true) ∨ (bothSeated u.leaf = false ∧ ¬startable u) := by
  have hgroup := dropWaitingLower_group u.leaf
  have hstop : (dropWaitingLower u.leaf).group.emergencyStop = u.leaf.group.emergencyStop := (congrArg Group.emergencyStop hgroup).trans rfl
  have hspan : (dropWaitingLower u.leaf).group.spanOccupied = u.leaf.group.spanOccupied := (congrArg Group.spanOccupied hgroup).trans rfl
  have hstart : startRefused (roadIsClosed u) (dropWaitingLower u.leaf) = startRefused (roadIsClosed u) u.leaf := by
    rw [startRefused, startRefused, hstop, hspan]
  rw [lowerRefused_halted ((dropWaitingLower_state _).trans h), dropWaitingLower_bothSeated, hstop, hstart]
  cases bothSeated u.leaf with
  | true => simp
  | false =>
    rw [if_neg (by decide), ← Bool.not_eq_false, startRefused_iff]
    simp

/-- No lower waits once the end of a stop has been taken, and the counts stand clear. -/
theorem pendingLower_cleared (h : u.leaf.group.state = .halted) (hc : countsCleared u.leaf.group) :
    (pendingLower u).leaf.group.pendingLower = false ∧ countsCleared (pendingLower u).leaf.group := by
  have hpending := dropWaitingLower_pendingLower _ h
  rcases pendingLower_cases u with hu | ⟨hst, _, hu⟩
  · rw [hu]
    refine ⟨hpending, ?_⟩
    rw [State.withLeaf_leaf, dropWaitingLower_group]
    exact hc
  · rw [hu, applyLeaf_leaf]
    exact lower_halted_cleared hst hpending

/-- Without a lower that waits, or with one that is refused, the group stands HALTED. -/
theorem pendingLower_halted (h : u.leaf.group.state = .halted) (hb : brakesSet u.leaf)
    (hno : u.leaf.group.pendingLower = false ∨ (bothSeated u.leaf = false ∧ ¬startable u)
      ∨ (bothSeated u.leaf = true ∧ u.leaf.group.emergencyStop = true)) :
    (pendingLower u).leaf.group.state = .halted ∧ (pendingLower u).leaf.group.target = u.leaf.group.target
      ∧ brakesSet (pendingLower u).leaf := by
  cases hp : u.leaf.group.pendingLower with
  | false =>
    rw [pendingLower_stands (.inr hp)]
    exact ⟨h, rfl, hb⟩
  | true =>
    have hrefused : lowerRefused (roadIsClosed u) (dropWaitingLower u.leaf) = true := by
      rcases hno with hno | hno | hno
      · exact absurd (hp.symm.trans hno) (by decide)
      · exact (waitingLower_refused h).mpr (.inr hno)
      · exact (waitingLower_refused h).mpr (.inl hno)
    rw [pendingLower_refused h hp hrefused, State.withLeaf_leaf]
    refine ⟨(dropWaitingLower_state _).trans h, (congrArg Group.target (dropWaitingLower_group u.leaf)).trans rfl, fun d => ?_⟩
    rw [dropWaitingLower_drives]
    exact hb d

section

variable (h : u.leaf.group.state = .halted) (hp : u.leaf.group.pendingLower = true)
include h hp

/-- Leaves off their seats start down, where R83 lets them (R86, R99). -/
theorem pendingLower_starts (hseated : bothSeated u.leaf = false) (hstart : startable u) (hlocks : allLocks .withdrawn u.leaf = true) :
    (pendingLower u).leaf.group.state = .lowering ∧ (pendingLower u).leaf.group.target = some 0
      ∧ ∀ d, ((pendingLower u).leaf.drives.get d).brakeReleased = true := by
  have hfree : lowerRefused (roadIsClosed u) (dropWaitingLower u.leaf) = false := by
    rw [Bool.eq_false_iff, Ne, waitingLower_refused h]
    rintro (⟨hboth, _⟩ | ⟨_, hnot⟩)
    · exact absurd (hboth.symm.trans hseated) (by decide)
    · exact hnot hstart
  have hwithdrawn : allLocks .withdrawn ((dropWaitingLower u.leaf).setTarget 0) = true := by
    rw [← hlocks]
    exact allLocks_congr fun k => congrArg (fun l : PerLock Lock => lockState (l.get k)) (dropWaitingLower_locks _)
  obtain ⟨hstate, htarget, _, _, hdrives, _⟩ := motionStart_started (st := .lowering) hwithdrawn rfl
  rw [pendingLower_lowers h hp hfree, applyLeaf_leaf, State.withLeaf_leaf, lower_halted ((dropWaitingLower_state _).trans h),
    dropWaitingLower_bothSeated, hseated, if_neg (by decide)]
  exact ⟨hstate, htarget, fun d => by rw [hdrives d]⟩

/-- Seated leaves are locked (R86, R89, R99). -/
theorem pendingLower_locks_leaves (hseated : bothSeated u.leaf = true) (hstop : u.leaf.group.emergencyStop = false)
    (hk : ∃ k, (u.leaf.locks.get k).drivenSwitch = false) :
    (pendingLower u).leaf.group.state = .locking ∧ (pendingLower u).leaf.group.target = some 0 ∧ brakesSet (pendingLower u).leaf := by
  have hfree : lowerRefused (roadIsClosed u) (dropWaitingLower u.leaf) = false := by
    rw [Bool.eq_false_iff, Ne, waitingLower_refused h]
    rintro (⟨_, hset⟩ | ⟨hboth, _⟩)
    · exact absurd (hset.symm.trans hstop) (by decide)
    · exact absurd (hseated.symm.trans hboth) (by decide)
  have hswitch : ∃ k, (((dropWaitingLower u.leaf).setTarget 0).locks.get k).drivenSwitch = false := by
    obtain ⟨k, hk⟩ := hk
    refine ⟨k, ?_⟩
    rw [← hk]
    exact congrArg (fun l : PerLock Lock => (l.get k).drivenSwitch) (dropWaitingLower_locks _)
  obtain ⟨hstate, _, htarget, _, _, hbrakes, _⟩ := lockingEntered_fields ((dropWaitingLower u.leaf).setTarget 0)
  rw [pendingLower_lowers h hp hfree, applyLeaf_leaf, State.withLeaf_leaf, lower_halted ((dropWaitingLower_state _).trans h),
    dropWaitingLower_bothSeated, hseated, if_pos rfl, enterLocking_locking hswitch]
  exact ⟨hstate, htarget, hbrakes⟩

end

/-! ## A stop in a period with nothing found (R99) -/

theorem periodUpdated_closure (h : (periodEnd counts s).group.state ≠ .stowed) : (periodUpdated counts s).closure = s.closure := by
  have hreports : Reports (periodBase counts s) (periodReported counts s) := reports_applyLeaf (.inr h)
  rw [periodUpdated, clearanceUpdate_closure, (hreports.frame .closure (by decide) : (periodReported counts s).closure = _), periodBase_closure]

section

variable (hn : nothingFound s.conf (runPeriod counts s).leaf) (h : s.leaf.group.state = .stopping)
include hn h

theorem periodEnd_stopping (hp : s.leaf.group.profile = some p) :
    periodEnd counts s = if p.speed ≤ s.conf.accel then (periodStage counts s).endStop else periodStage counts s := by
  have hspeed : (periodStage counts s).group.profileInUse = advanceStop s.conf p := by
    rw [periodStage_quiet hn]
    exact drivenLeaf_profile_stopping hp h
  have hzero : (advanceStop s.conf p).speed = 0 ↔ p.speed ≤ s.conf.accel := Nat.sub_eq_zero_iff_le
  have hstate := (periodStage_state hn).trans h
  rw [periodEnd_quiet hn]
  simp only [LeafMotion.superviseMotion, hstate, hspeed, hzero]

theorem runPeriod_stopping (hp : s.leaf.group.profile = some p) (hfast : s.conf.accel < p.speed) :
    (runPeriod counts s).leaf.group.state = .stopping ∧ (runPeriod counts s).leaf.group.cause = s.leaf.group.cause
      ∧ (runPeriod counts s).leaf.group.pendingLower = s.leaf.group.pendingLower := by
  have hend := periodEnd_stopping hn h hp
  rw [if_neg (not_le.mpr hfast)] at hend
  have hstate := (periodStage_state hn).trans h
  rw [runPeriod_end (.inl (by rw [hend, hstate]; decide)), hend]
  exact ⟨hstate, (congrArg Group.cause (periodStage_group hn)).trans rfl, (congrArg Group.pendingLower (periodStage_group hn)).trans rfl⟩

variable (hp : s.leaf.group.profile = some p) (hslow : p.speed ≤ s.conf.accel)
include hp hslow

/-- The stop that has come to rest. -/
theorem periodEnd_stopped : (periodEnd counts s).group.state = (if s.leaf.group.cause.isSome then .tripped else .halted)
    ∧ (periodEnd counts s).group.cause = s.leaf.group.cause ∧ (periodEnd counts s).group.pendingLower = s.leaf.group.pendingLower
    ∧ (periodEnd counts s).group.target = s.leaf.group.target ∧ (periodEnd counts s).group.emergencyStop = s.leaf.group.emergencyStop
    ∧ (periodEnd counts s).group.spanOccupied = s.leaf.group.spanOccupied
    ∧ countsCleared (periodEnd counts s).group ∧ brakesSet (periodEnd counts s) ∧ (periodEnd counts s).locks = s.leaf.locks := by
  have hend := periodEnd_stopping hn h hp
  rw [if_pos hslow] at hend
  have hgroup := periodStage_group hn
  have hcause : (periodStage counts s).group.cause = s.leaf.group.cause := (congrArg Group.cause hgroup).trans rfl
  obtain ⟨hst, hc, hpending, htarget, hcounts, hbrakes, hlocks⟩ := endStop_fields (periodStage counts s)
  rw [hend]
  refine ⟨by rw [hst, hcause], hc.trans hcause, hpending.trans ?_, htarget.trans ?_, ?_, ?_, hcounts, hbrakes,
    hlocks.trans (periodStage_locks hn)⟩
  · exact (congrArg Group.pendingLower hgroup).trans rfl
  · exact (congrArg Group.target hgroup).trans rfl
  · exact (congrArg Group.emergencyStop hgroup).trans rfl
  · exact (congrArg Group.spanOccupied hgroup).trans rfl

theorem runPeriod_stopped (hc : causeTable s.leaf.group) (hcause : s.leaf.group.cause = some cause) :
    stoppedWith cause s (runPeriod counts s) := by
  obtain ⟨hst, hcauses, hpending, _, _, _, hcounts, hbrakes, hlocks⟩ := periodEnd_stopped hn h hp hslow
  rw [hcause] at hst
  have hnone : s.leaf.group.pendingLower = false := Bool.eq_false_iff.mpr fun hlower => by
    have hn := (hc.2.2 hlower).2
    rw [hcause] at hn
    nomatch hn
  refine ⟨standsTripped_runPeriod (by rw [h]; decide) ⟨hst, hcauses.trans hcause, hpending.trans hnone, hcounts, hbrakes⟩, ?_⟩
  rw [runPeriod_end (.inl (by rw [hst]; exact nofun))]
  exact hlocks

/-- A stop without a cause ends in HALTED, and the lower that waited is taken at once where nothing refuses it (R83, R86, R99). -/
theorem runPeriod_halts (hcause : s.leaf.group.cause = none) :
    let m := (runPeriod counts s).leaf
    let starts : Prop := s.leaf.group.emergencyStop = false ∧ s.leaf.group.spanOccupied = false ∧ s.closure.state = .roadClosed
    (m.group.pendingLower = false ∧ countsCleared m.group)
      ∧ ((s.leaf.group.pendingLower = false ∨ (bothSeated m = false ∧ ¬starts)
          ∨ (bothSeated m = true ∧ s.leaf.group.emergencyStop = true)) →
        m.group.state = .halted ∧ m.group.target = s.leaf.group.target ∧ brakesSet m)
      ∧ (s.leaf.group.pendingLower = true → bothSeated m = false → starts → allLocks .withdrawn s.leaf = true →
        m.group.state = .lowering ∧ m.group.target = some 0 ∧ ∀ d, (m.drives.get d).brakeReleased = true)
      ∧ (s.leaf.group.pendingLower = true → bothSeated m = true → s.leaf.group.emergencyStop = false →
        (∃ k, (s.leaf.locks.get k).drivenSwitch = false) → m.group.state = .locking ∧ m.group.target = some 0 ∧ brakesSet m) := by
  intro m starts
  obtain ⟨hst, _, hpending, htarget, hstop, hspan, hcounts, hbrakes, hlocks⟩ := periodEnd_stopped hn h hp hslow
  rw [hcause] at hst
  have hleaf : (periodUpdated counts s).leaf = { periodEnd counts s with periodTimer := some 20 } := periodUpdated_leaf counts s
  have hhalted : (periodUpdated counts s).leaf.group.state = .halted := by rw [hleaf]; exact hst
  have hclosure : (periodUpdated counts s).closure = s.closure := periodUpdated_closure (by rw [hst]; exact nofun)
  have hboth : bothSeated m = bothSeated (periodUpdated counts s).leaf := by
    simp only [m, runPeriod_updated]
    exact (keepsFormed_pendingLower _).bothSeated
  have hstarts : startable (periodUpdated counts s) ↔ starts := by
    simp only [startable, starts, hleaf, hclosure, hstop, hspan]
  rw [hboth]
  simp only [m, runPeriod_updated, ← hstarts, ← hpending, ← hstop, ← htarget]
  refine ⟨pendingLower_cleared hhalted (by rw [hleaf]; exact hcounts), fun hno => ?halts, fun hlower hseated hstart hall => ?lowers,
    fun hlower hseated hfree hk => ?locks⟩
  case halts =>
    obtain ⟨h1, h2, h3⟩ := pendingLower_halted hhalted (by rw [hleaf]; exact hbrakes) (by rw [hleaf] at hno ⊢; exact hno)
    exact ⟨h1, by rw [h2, hleaf], h3⟩
  case lowers =>
    exact pendingLower_starts hhalted (by rw [hleaf]; exact hlower) hseated hstart (by
      rw [← hall, hleaf]
      exact allLocks_congr fun k => congrArg (fun l : PerLock Lock => lockState (l.get k)) hlocks)
  case locks =>
    exact pendingLower_locks_leaves hhalted (by rw [hleaf]; exact hlower) hseated (by rw [hleaf]; exact hfree) (by
      rw [hleaf]
      simpa only [hlocks] using hk)

end

/-! ## The obligation -/

/-- Settles O38: the events of the group one by one, and a control period by what it finds and by the group state. -/
theorem groupEvents : Obligations.GroupEvents := by
  intro s
  refine ⟨fun active hlevel => ⟨fun hidle => ?stopStands, fun ha hw hc => ?stopTrips⟩, fun hst => ?settled, fun hst hk => ?seated,
    fun hst => ?timeout, fun counts ms htimer hc => ?period⟩
  case stopStands =>
    have hstands := emergencyStop_stands hidle
    refine ⟨_, emergencyStop_moves hlevel, ?_⟩
    rw [applyLeaf_same (by rw [hstands]; rfl), hstands]
    exact ⟨rfl, withLeaf_frame _ s⟩
  case stopTrips =>
    exact ⟨_, emergencyStop_moves hlevel, trips_applyLeaf (emergencyStop_trips ha hw hc) (working_ne_tripped hw)⟩
  case settled =>
    have hleaf := settleComplete_holds hst
    have hheld : (settleComplete s.leaf).group.state = .heldOpen := by rw [hleaf]; rfl
    have hchanged : s.leaf.group.state ≠ .heldOpen := by rw [hst]; decide
    refine ⟨applyLeaf settleComplete s, rfl, ?_, fun o ho hlift => applyLeaf_heldOpen_lifting hheld hchanged ho hlift,
      fun o ho hopen => applyLeaf_heldOpen_open hheld hchanged ho hopen, fun hother => applyLeaf_heldOpen_other hheld hchanged hother⟩
    rw [applyLeaf_leaf, hleaf]
    rfl
  case seated =>
    have hleaf := seatComplete_locks hst hk
    obtain ⟨hlocking, _, _, _, hgroup, _, hcommands⟩ := lockingEntered_fields s.leaf
    have hquiet := applyLeaf_quiet (f := seatComplete) (s := s) (by rw [hleaf]; exact .inr (.inr (.inr (.inr (.inr (.inl hlocking))))))
      (by rw [hleaf, hlocking, hst]; decide)
    refine ⟨applyLeaf seatComplete s, rfl, ?_, ?_, ?_, hquiet⟩
    · rw [applyLeaf_leaf, hleaf, hgroup]
    · rw [applyLeaf_leaf, hleaf]
      exact lockingEntered_drive s.leaf
    · rw [applyLeaf_leaf, hleaf]
      exact hcommands
  case timeout =>
    exact ⟨_, rfl, trips_applyLeaf (restTimeout_trips hst) (by rcases hst with h | h <;> rw [h] <;> decide)⟩
  case period =>
    let y := countsRead counts s
    refine ⟨runPeriod counts y, controlPeriod_runs htimer, fun hw hfound => runPeriod_trips (s := y) hw hfound, fun ht hr hs => ⟨?_, ?_⟩,
      fun ht hr hruns hf => runPeriod_following (s := y) ht hr hruns hc hf, fun hw => runPeriod_rest (s := y) hw hc, fun hn => ⟨?_, ?_, ?_, ?_, ?_⟩⟩
    · exact fun h => runPeriod_skewed (s := y) ht hr hs hc h
    · exact runPeriod_skewed_still (s := y) ht hr hs
    · exact fun h p target hp htarget => runPeriod_raising (s := y) hn h hp htarget
    · exact fun h p hp => runPeriod_lowering (s := y) hn h hp
    · exact fun h n hcount => runPeriod_settling (s := y) hn h hcount
    · exact fun h => runPeriod_seating (s := y) hn h rfl
    · refine fun h p hp => ⟨fun hfast => runPeriod_stopping (s := y) hn h hp hfast, fun hslow =>
        ⟨fun cause hcause => runPeriod_stopped (s := y) hn h hp hslow hc hcause, fun hnone => ?_, ?_, ?_, ?_⟩⟩
      · exact (runPeriod_halts (s := y) hn h hp hslow hnone).1
      · exact fun hnone => (runPeriod_halts (s := y) hn h hp hslow hnone).2.1
      · exact fun hlower => (runPeriod_halts (s := y) hn h hp hslow (hc.2.2 hlower).2).2.2.1 hlower
      · exact fun hlower => (runPeriod_halts (s := y) hn h hp hslow (hc.2.2 hlower).2).2.2.2 hlower

end Sys2Proof.Machine

/-! What a report of the group may change at the machine, and the clearance update's records: the layer of O35. -/

namespace Sys2Proof.Machine

open Sys2Proof

variable {s t u : State} {m : LeafMotion} {p : Passage} {o : Opening} {l : Link}

/-! ## The parts that a report of the group may change (R103, R121) -/

/-- The parts that a change of the leaf records, with all that follows from its report, may change. -/
def reportParts : List Part := [.freeCount, .controlPort, .seq, .leaf, .closure, .arms, .stations, .lamp, .display, .sup]

theorem holdClosure_frame (cause : HeldCause) (s : State) : unchangedBut reportParts s (holdClosure cause s) := by
  unfold holdClosure
  split
  · exact unchangedBut_mono (by decide) (holdWith_frame cause _ s)
  · exact unchangedBut_refl _ _

theorem standingCheck_frame (s : State) : unchangedBut reportParts s (standingCheck s) := by
  have hlatched : unchangedBut reportParts s (standingLatched s) := unchangedBut_mono (by decide) (standingLatched_frame s)
  unfold standingCheck
  dsimp only
  split
  · exact hlatched
  · exact unchangedBut_trans hlatched (holdClosure_frame _ _)
  · exact unchangedBut_trans hlatched (holdClosure_frame _ _)
  · exact unchangedBut_trans hlatched (unchangedBut_trans (unchangedBut_mono (by decide) (countChoice_frame _)) (holdClosure_frame _ _))

theorem finishReopening_frame (q : Bool) (s : State) : unchangedBut reportParts s (finishReopening q s) := by
  unfold finishReopening
  split
  · exact unchangedBut_trans (unchangedBut_mono (by decide) (withClosure_frame _ s)) (unchangedBut_trans
      (unchangedBut_mono (by decide) (setClosureState_frame q .roadOpen _))
      (unchangedBut_mono (by decide) (roadOpenReport_frame _)))
  · exact unchangedBut_refl _ _

theorem reopenRequest_frame (q : Bool) (s : State) : unchangedBut reportParts s (reopenRequest q s) := by
  unfold reopenRequest
  split
  · split
    · exact unchangedBut_mono (by decide) (withClosure_frame _ s)
    · rw [startReopen_eq]
      exact unchangedBut_trans (unchangedBut_mono (by decide) (reopened_frame q s)) (unchangedBut_trans (standingCheck_frame _)
        (finishReopening_frame q _))
  · exact unchangedBut_refl _ _

theorem groupReport_frame (s : State) : unchangedBut reportParts s (groupReport s) := by
  by_cases h : s.leaf.group.state = .stowed
  · rw [groupReport_stowed h]
    refine unchangedBut_trans (unchangedBut_mono (by decide) (raiseControl_frame .leafGroup s)) (unchangedBut_trans ?_
      (unchangedBut_mono (by decide) (deriveDemands_frame _)))
    unfold stowedReport
    split
    · refine unchangedBut_trans (unchangedBut_trans (unchangedBut_mono (by decide) (setOpening_frame _ _))
        (unchangedBut_mono (by decide) (raiseControl_frame .opening _))) (reopenRequest_frame false _)
    · exact unchangedBut_refl _ _
  · exact unchangedBut_mono (by decide) (reports_groupReport h).frame

theorem applyLeaf_frame (f : LeafMotion → LeafMotion) (s : State) : unchangedBut reportParts s (applyLeaf f s) := by
  by_cases hsame : (f s.leaf).group.state = s.leaf.group.state
  · rw [applyLeaf_same hsame]
    exact unchangedBut_mono (by decide) (withLeaf_frame _ s)
  · rw [applyLeaf_of_changed hsame]
    exact unchangedBut_trans (unchangedBut_mono (by decide) (withLeaf_frame _ s)) (unchangedBut_trans
      (unchangedBut_mono (by decide) (handGroupTripped_frame _ _)) (groupReport_frame _))

theorem pendingLower_frame (s : State) : unchangedBut reportParts s (pendingLower s) := by
  have hdrop : unchangedBut reportParts s (s.withLeaf (dropWaitingLower s.leaf)) := unchangedBut_mono (by decide) (withLeaf_frame _ s)
  rcases pendingLower_cases s with h | ⟨_, _, h⟩
  · rw [h]; exact hdrop
  · rw [h]; exact unchangedBut_trans hdrop (applyLeaf_frame _ _)

/-! ## The records that a clearance update clears (R25, R46) -/

/-- The records given cleared one after another, their origins told. -/
def clearedEach (ps : List Passage) (s : State) : State := ps.foldl (fun t p => moveRecord none p .cleared t) s

theorem moveCleared_reg (p : Passage) (s : State) :
    (moveRecord none p .cleared s).reg = changePassage p.number (fun q => { q with state := .cleared }) s.reg := by
  simp [moveRecord]

/-- The origin of a record is told of it and the other link is not (R25). -/
theorem moveCleared_attention (p : Passage) (s : State) (l : Link) : (moveRecord none p .cleared s).links.get l =
    { s.links.get l with attention := if p.origin = l then ⟨true, (s.links.get l).attention.causes.add .passageRecord⟩
      else (s.links.get l).attention } := by
  have hmove : moveRecord none p .cleared s = raiseAttention p.origin .passageRecord
      (s.withReg (changePassage p.number (fun q => { q with state := .cleared }) s.reg)) := by
    simp only [moveRecord, notifyOrigin, reduceCtorEq, if_false]
  rw [hmove]
  cases p.origin <;> cases l <;> rfl

theorem moveCleared_frame (p : Passage) (s : State) : unchangedBut [.controlPort, .harbourPort, .reg] s (moveRecord none p .cleared s) :=
  moveRecord_frame none p .cleared s

theorem clearedEach_frame (ps : List Passage) (s : State) : unchangedBut [.controlPort, .harbourPort, .reg] s (clearedEach ps s) := by
  induction ps generalizing s with
  | nil => exact unchangedBut_refl _ _
  | cons p ps ih => exact unchangedBut_trans (moveCleared_frame p s) (ih _)

theorem clearedEach_reg (ps : List Passage) (s : State) : (clearedEach ps s).reg = { s.reg with
    records := s.reg.records.map (fun q => if q.number ∈ ps.map (·.number) then { q with state := .cleared } else q) } := by
  induction ps generalizing s with
  | nil => simp [clearedEach]
  | cons p ps ih =>
    rw [clearedEach, List.foldl_cons, ← clearedEach, ih, moveCleared_reg]
    simp only [changePassage, List.map_map]
    congr 1
    refine List.map_congr_left fun q _ => ?_
    by_cases hq : q.number = p.number
    · simp only [Function.comp_apply, if_pos hq, if_pos (show q.number ∈ (p :: ps).map (·.number) by simp [hq])]
      split <;> rfl
    · simp [hq]

theorem clearedEach_links (ps : List Passage) (s : State) (l : Link) : (clearedEach ps s).links.get l =
    { s.links.get l with attention := if ∃ p ∈ ps, p.origin = l then
        ⟨true, (s.links.get l).attention.causes.add .passageRecord⟩ else (s.links.get l).attention } := by
  induction ps generalizing s with
  | nil => simp [clearedEach]
  | cons p ps ih =>
    rw [clearedEach, List.foldl_cons, ← clearedEach, ih, moveCleared_attention]
    by_cases hp : p.origin = l <;> simp [hp, CauseSet.add_add]

/-- Whether an update clears anything at all: in OPEN, with no changeover, in ATTENDED, under a group that admits passage (R46). -/
def updateClears (s : State) (o : Opening) : Prop :=
  o.state = .open ∧ o.changeover = none ∧ s.sup.mode = .attended ∧ groupAdmitsPassage o s = true

/-- The records that an update to a clearance covers in the served direction (R46). -/
def coveredRecords (k : Nat) (o : Opening) (s : State) : List Passage :=
  (admittedRecords s).filter (fun p => o.served == some p.direction && p.clearance ≤ k)

/-- A clearance update under an opening that clears. -/
theorem clearanceUpdate_clears (k : Nat) (ho : s.seq.opening = some o) (h : updateClears s o) : clearanceUpdate k s =
    deriveDemands (clearedEach (coveredRecords k o s) (s.withSeq { s.seq with clearance := k })) := by
  obtain ⟨hst, hchange, hmode, hgroup⟩ := h
  have hgate : (o.state == .open && o.changeover.isNone && (s.withSeq { s.seq with clearance := k }).sup.mode == .attended
      && groupAdmitsPassage o (s.withSeq { s.seq with clearance := k })) = true := by
    have hgroup' : groupAdmitsPassage o (s.withSeq { s.seq with clearance := k }) = true := hgroup
    simp [hst, hchange, hmode, hgroup']
  unfold clearanceUpdate
  have ho' : (s.withSeq { s.seq with clearance := k }).seq.opening = some o := ho
  dsimp only
  rw [ho']
  dsimp only
  rw [if_pos hgate]
  rfl

/-- A clearance update that clears nothing. -/
theorem clearanceUpdate_stands (k : Nat) (h : ∀ o, s.seq.opening = some o → ¬updateClears s o) :
    clearanceUpdate k s = deriveDemands (s.withSeq { s.seq with clearance := k }) := by
  have ho' : (s.withSeq { s.seq with clearance := k }).seq.opening = s.seq.opening := rfl
  unfold clearanceUpdate
  dsimp only
  rw [ho']
  cases ho : s.seq.opening with
  | none => rfl
  | some o =>
    dsimp only
    rw [if_neg]
    intro hgate
    simp only [Bool.and_eq_true, beq_iff_eq, Option.isNone_iff_eq_none] at hgate
    obtain ⟨⟨⟨hst, hchange⟩, hmode⟩, hgroup⟩ := hgate
    exact h o ho ⟨hst, hchange, hmode, hgroup⟩

end Sys2Proof.Machine

/-! What a clearance update clears, and whom it tells: the layer of O35. -/

namespace Sys2Proof.Machine

open Sys2Proof

variable {s t u z : State} {m : LeafMotion} {p q : Passage} {o : Opening} {l : Link} {k : Nat}

/-! ## The records that an update covers (R46) -/

section

variable (hn : (u.reg.records.map (·.number)).Nodup)
include hn

theorem mem_listed_iff (ho : u.seq.opening = some o) : p ∈ listedRecords u ↔ p ∈ u.reg.records ∧ p.number ∈ o.list := by
  simp only [listedRecords, ho, List.mem_filterMap]
  constructor
  · rintro ⟨n, hmem, hfind⟩
    obtain ⟨hp, rfl⟩ := findPassage_mem hfind
    exact ⟨hp, hmem⟩
  · rintro ⟨hp, hmem⟩
    exact ⟨p.number, hmem, findPassage_of_nodup hn hp⟩

theorem mem_coveredRecords (ho : u.seq.opening = some o) : p ∈ coveredRecords k o u ↔
    p ∈ u.reg.records ∧ p.number ∈ o.list ∧ p.state = .admitted ∧ o.served = some p.direction ∧ p.clearance ≤ k := by
  simp only [coveredRecords, admittedRecords, List.mem_filter, mem_listed_iff hn ho, isAdmitted, Bool.and_eq_true, beq_iff_eq,
    decide_eq_true_iff, and_assoc]

theorem number_mem_coveredRecords (ho : u.seq.opening = some o) (hp : p ∈ u.reg.records) :
    p.number ∈ (coveredRecords k o u).map (·.number) ↔ p ∈ coveredRecords k o u := by
  refine ⟨fun h => ?_, fun h => List.mem_map_of_mem h⟩
  obtain ⟨q, hq, hnumber⟩ := List.mem_map.mp h
  have heq : q = p := List.inj_on_of_nodup_map hn ((mem_coveredRecords hn ho).mp hq).1 hp hnumber
  exact heq ▸ hq

end

/-! ## The records an update clears, told by the state it leaves (R46) -/

/-- The opening, the mode, the group state and the clearance tell what an update clears. -/
theorem clearedByUpdate_iff (hopening : z.seq.opening = u.seq.opening) (hmode : z.sup.mode = u.sup.mode)
    (hgroup : z.leaf.group.state = u.leaf.group.state) (hclear : z.seq.clearance = k) (p : Passage) :
    clearedByUpdate z p = true ↔ ∃ o, u.seq.opening = some o ∧ updateClears u o ∧ p.number ∈ o.list ∧ p.state = .admitted
      ∧ o.served = some p.direction ∧ p.clearance ≤ k := by
  simp only [clearedByUpdate, hopening, hmode, hgroup, hclear]
  cases u.seq.opening with
  | none => simp
  | some o =>
    simp only [updateClears, groupAdmitsPassage, Bool.and_eq_true, beq_iff_eq, decide_eq_true_iff, List.contains_iff_mem,
      Option.some.injEq, exists_eq_left', and_assoc]

theorem clearedByUpdate_rest (h : z.leaf.group.state ≠ .heldOpen ∧ z.leaf.group.state ≠ .raising) (p : Passage) :
    clearedByUpdate z p = false := by
  rw [Bool.eq_false_iff, Ne, clearedByUpdate_iff (u := z) rfl rfl rfl rfl]
  rintro ⟨o, _, ⟨_, _, _, hgroup⟩, _⟩
  rw [groupAdmitsPassage_rest h] at hgroup
  nomatch hgroup

/-- A lower that waited neither clears a record nor takes one from those that were cleared. -/
theorem clearedByUpdate_pendingLower (z : State) (p : Passage) : clearedByUpdate (pendingLower z) p = clearedByUpdate z p := by
  rcases pendingLower_cases z with h | ⟨hdropped, hst, h⟩
  · have hstate : (z.withLeaf (dropWaitingLower z.leaf)).leaf.group.state = z.leaf.group.state := dropWaitingLower_state _
    rw [h, Bool.eq_iff_iff, clearedByUpdate_iff (z := z.withLeaf (dropWaitingLower z.leaf)) (u := z) (k := z.seq.clearance) rfl rfl hstate rfl,
      clearedByUpdate_iff (u := z) rfl rfl rfl rfl]
  · have hlowered : lowered (pendingLower z).leaf.group.state := by
      rw [h, applyLeaf_leaf]
      exact lower_lowered hdropped
    rw [clearedByUpdate_rest (by rcases hlowered with h | h | h | h <;> rw [h] <;> decide), clearedByUpdate_rest (by rw [hst]; decide)]

theorem clearanceUpdate_clearance (k : Nat) (u : State) : (clearanceUpdate k u).seq.clearance = k := by
  by_cases h : ∃ o, u.seq.opening = some o ∧ updateClears u o
  · obtain ⟨o, ho, hclears⟩ := h
    have hseq : (clearedEach (coveredRecords k o u) (u.withSeq { u.seq with clearance := k })).seq = _ :=
      clearedEach_frame _ _ .seq (by decide)
    rw [clearanceUpdate_clears k ho hclears, deriveDemands_seq_clearance, hseq, State.withSeq_seq]
  · rw [clearanceUpdate_stands k fun o ho hc => h ⟨o, ho, hc⟩, deriveDemands_seq_clearance, State.withSeq_seq]

/-- A clearance update clears the records that it covers and tells their origins, and no others (R25, R46). -/
theorem clearanceUpdate_records (hn : (u.reg.records.map (·.number)).Nodup) (k : Nat) :
    (clearanceUpdate k u).reg = { u.reg with
        records := u.reg.records.map (fun p => if clearedByUpdate (clearanceUpdate k u) p = true then { p with state := .cleared } else p) }
      ∧ ∀ l, (clearanceUpdate k u).links.get l = { u.links.get l with
          attention := if ∃ p ∈ u.reg.records, clearedByUpdate (clearanceUpdate k u) p = true ∧ p.origin = l then
            ⟨true, (u.links.get l).attention.causes.add .passageRecord⟩ else (u.links.get l).attention } := by
  have hiff := clearedByUpdate_iff (z := clearanceUpdate k u) (u := u) (k := k) (clearanceUpdate_seq_opening k u) (clearanceUpdate_sup_mode k u)
    (by rw [clearanceUpdate_leaf]) (clearanceUpdate_clearance k u)
  by_cases hclears : ∃ o, u.seq.opening = some o ∧ updateClears u o
  · obtain ⟨o, ho, hclears⟩ := hclears
    have hcovered (p : Passage) (hp : p ∈ u.reg.records) :
        clearedByUpdate (clearanceUpdate k u) p = true ↔ p ∈ coveredRecords k o u := by
      rw [hiff, mem_coveredRecords hn ho]
      constructor
      · rintro ⟨o', ho', _, hrest⟩
        obtain rfl : o' = o := Option.some.inj (ho'.symm.trans ho)
        exact ⟨hp, hrest⟩
      · rintro ⟨_, hrest⟩
        exact ⟨o, ho, hclears, hrest⟩
    have hupdate := clearanceUpdate_clears k ho hclears
    refine ⟨?_, fun l => ?_⟩
    · have hreg : (clearanceUpdate k u).reg = { u.reg with
          records := u.reg.records.map
            (fun q => if q.number ∈ (coveredRecords k o u).map (·.number) then { q with state := .cleared } else q) } := by
        rw [hupdate, deriveDemands_reg, clearedEach_reg]
        rfl
      rw [hreg]
      refine congrArg (fun rs => { u.reg with records := rs }) (List.map_congr_left fun p hp => ?_)
      simp only [number_mem_coveredRecords hn ho hp, hcovered p hp]
    · have hlink : (clearanceUpdate k u).links.get l = { u.links.get l with
          attention := if ∃ p ∈ coveredRecords k o u, p.origin = l then
            ⟨true, (u.links.get l).attention.causes.add .passageRecord⟩ else (u.links.get l).attention } := by
        rw [hupdate, deriveDemands_links, clearedEach_links]
        rfl
      have htold : (∃ p ∈ coveredRecords k o u, p.origin = l)
          ↔ ∃ p ∈ u.reg.records, clearedByUpdate (clearanceUpdate k u) p = true ∧ p.origin = l := by
        constructor
        · rintro ⟨p, hp, horigin⟩
          have hmem := ((mem_coveredRecords hn ho).mp hp).1
          exact ⟨p, hmem, (hcovered p hmem).mpr hp, horigin⟩
        · rintro ⟨p, hmem, hp, horigin⟩
          exact ⟨p, (hcovered p hmem).mp hp, horigin⟩
      simp only [hlink, htold]
  · have hnone (p : Passage) : clearedByUpdate (clearanceUpdate k u) p = false := by
      rw [Bool.eq_false_iff, Ne, hiff]
      rintro ⟨o, ho, hc, _⟩
      exact hclears ⟨o, ho, hc⟩
    have hupdate := clearanceUpdate_stands (s := u) k fun o ho hc => hclears ⟨o, ho, hc⟩
    simp only [hnone, Bool.false_eq_true, if_false, List.map_id', false_and, and_false, exists_false]
    refine ⟨?_, fun l => ?_⟩
    · rw [hupdate, deriveDemands_reg]
      rfl
    · rw [hupdate, deriveDemands_links]
      rfl

end Sys2Proof.Machine

/-! What a control period forms, and the step that moving leaves take in it: the layer of O35. -/

namespace Sys2Proof.Machine

open Sys2Proof

variable {s t z : State} {m x : LeafMotion} {c : Configured} {counts : PerDrive (BitVec 24)} {p : Profile} {target : Nat} {pick : Nat}

/-! ## The angles, the seats and the flags (R63 to R68, R78, R94, R95) -/

theorem formedLeaf_drive (c : Configured) (counts : PerDrive (BitVec 24)) (m : LeafMotion) (d : DriveId) :
    ((formedLeaf c counts m).drives.get d).count = (counts.get d).toNat
      ∧ ((formedLeaf c counts m).drives.get d).fine = fineAngle (c.drives.get d) (counts.get d).toNat
      ∧ ((formedLeaf c counts m).drives.get d).rangeFlag = rangeFlag (c.drives.get d) (counts.get d).toNat := by
  cases d <;> exact ⟨rfl, rfl, rfl⟩

theorem runPeriod_drive (counts : PerDrive (BitVec 24)) (s : State) (d : DriveId) :
    ((runPeriod counts s).leaf.drives.get d).count = (counts.get d).toNat
      ∧ ((runPeriod counts s).leaf.drives.get d).fine = fineAngle (s.conf.drives.get d) (counts.get d).toNat
      ∧ ((runPeriod counts s).leaf.drives.get d).rangeFlag = rangeFlag (s.conf.drives.get d) (counts.get d).toNat := by
  obtain ⟨hcount, hfine, hrange⟩ := (keepsAngles_runPeriod counts s).drives d
  obtain ⟨hcount', hfine', hrange'⟩ := formedLeaf_drive s.conf counts s.leaf d
  exact ⟨hcount.trans hcount', hfine.trans hfine', hrange.trans hrange'⟩

/-- The seated flags at the end of a period are those of its leaf angles (R78). -/
theorem runPeriod_seated (counts : PerDrive (BitVec 24)) (s : State) :
    (runPeriod counts s).leaf.west.seated = isSeated s.conf (runPeriod counts s).leaf.west.angle
      ∧ (runPeriod counts s).leaf.east.seated = isSeated s.conf (runPeriod counts s).leaf.east.angle := by
  have hkept := keepsFormed_runPeriod counts s
  obtain ⟨hwest, heast, _⟩ := drivenLeaf_leaves s.conf (periodAngles counts s)
  rw [hkept.seated.1, hkept.seated.2, hkept.west.1, hkept.east.1]
  change (periodStage counts s).west.seated = isSeated s.conf (periodStage counts s).west.angle
    ∧ (periodStage counts s).east.seated = isSeated s.conf (periodStage counts s).east.angle
  rw [periodStage_driven, hwest, heast]
  exact ⟨rfl, rfl⟩

theorem isSeated_iff (c : Configured) (angle : Int) : isSeated c angle = true ↔ angle.natAbs ≤ c.seatedWindow := by simp [isSeated]

/-- The hold flag sets at its level, clears under the release level, and stands between them (R94). -/
theorem holdFlag_cases (c : Configured) (skew : Int) (hold : Bool) : (c.skewHold ≤ skew.natAbs → holdFlag c skew hold = true)
    ∧ (skew.natAbs < c.skewHold - c.hysteresis → holdFlag c skew hold = false)
    ∧ (skew.natAbs < c.skewHold → c.skewHold - c.hysteresis ≤ skew.natAbs → holdFlag c skew hold = hold) := by
  unfold holdFlag holdRelease
  refine ⟨fun h => if_pos h, fun h => ?_, fun h h' => ?_⟩
  · rw [if_neg (by omega), if_pos h]
  · rw [if_neg (by omega), if_neg (by omega)]

/-- A leaf's twist warns at the warn level, and in a rest state at the trip level too (R95). -/
theorem warnsTwist_iff (c : Configured) (working : Bool) (l : Leaf) : warnsTwist c working l = true ↔
    c.twistWarn ≤ l.twist.natAbs ∨ (working = false ∧ c.twistTrip ≤ l.twist.natAbs) := by
  simp [warnsTwist]

/-- A twist warning latch stands set, or is set anew, but at the entry to STOWED (R95). -/
theorem runPeriod_warnings (h : (runPeriod counts s).leaf.group.state = .stowed → s.leaf.group.state = .stowed) :
    ((runPeriod counts s).leaf.west.twistWarning = true ↔ s.leaf.west.twistWarning = true
        ∨ warnsTwist s.conf s.leaf.group.state.working (runPeriod counts s).leaf.west = true)
      ∧ ((runPeriod counts s).leaf.east.twistWarning = true ↔ s.leaf.east.twistWarning = true
        ∨ warnsTwist s.conf s.leaf.group.state.working (runPeriod counts s).leaf.east = true) := by
  have hkept := keepsAngles_runPeriod counts s
  have htwist (l l' : Leaf) (heq : l'.twist = l.twist) (b : Bool) : warnsTwist s.conf b l' = warnsTwist s.conf b l := by
    rw [warnsTwist, warnsTwist, heq]
  rcases hkept.warnings with ⟨hstowed, hne⟩ | ⟨hwest, heast⟩
  · exact absurd (h hstowed) hne
  · rw [hwest, heast, htwist _ _ hkept.west.2, htwist _ _ hkept.east.2, ← Bool.or_eq_true, ← Bool.or_eq_true]
    exact ⟨Iff.rfl, Iff.rfl⟩

theorem periodUpdated_pulseTimer (counts : PerDrive (BitVec 24)) (s : State) :
    (runPeriod counts s).sup.pulseTimer = (periodBase counts s).sup.pulseTimer := by
  rw [runPeriod_updated, pendingLower_sup_pulseTimer, periodUpdated, clearanceUpdate_sup_pulseTimer, periodReported, applyLeaf_sup_pulseTimer]

/-- A latch newly set pulses FAULT, and no other does (R95). -/
theorem runPeriod_pulseTimer (counts : PerDrive (BitVec 24)) (s : State) : (runPeriod counts s).sup.pulseTimer =
    if (s.leaf.west.twistWarning = false ∧ warnsTwist s.conf s.leaf.group.state.working (runPeriod counts s).leaf.west = true)
        ∨ (s.leaf.east.twistWarning = false ∧ warnsTwist s.conf s.leaf.group.state.working (runPeriod counts s).leaf.east = true)
    then some 200 else s.sup.pulseTimer := by
  have hkept := keepsAngles_runPeriod counts s
  have htwist (l l' : Leaf) (heq : l'.twist = l.twist) (b : Bool) : warnsTwist s.conf b l' = warnsTwist s.conf b l := by
    rw [warnsTwist, warnsTwist, heq]
  rw [periodUpdated_pulseTimer, htwist _ _ hkept.west.2, htwist _ _ hkept.east.2]
  have hanew : newTwistWarning s.conf (s.leaf.formAngles s.conf counts) = true ↔
      (s.leaf.west.twistWarning = false ∧ warnsTwist s.conf s.leaf.group.state.working (formedLeaf s.conf counts s.leaf).west = true)
        ∨ (s.leaf.east.twistWarning = false ∧ warnsTwist s.conf s.leaf.group.state.working (formedLeaf s.conf counts s.leaf).east = true) := by
    simp only [newTwistWarning, Bool.or_eq_true, Bool.and_eq_true, Bool.not_eq_true']
    exact Iff.rfl
  unfold periodBase
  by_cases h : newTwistWarning s.conf (s.leaf.formAngles s.conf counts) = true
  · rw [if_pos h, if_pos (hanew.mp h)]
    rfl
  · rw [if_neg h, if_neg fun h' => h (hanew.mpr h')]
    rfl

/-! ## The sequencer's part (R46, R59) -/

theorem runPeriod_clearance (counts : PerDrive (BitVec 24)) (s : State) :
    (runPeriod counts s).seq.clearance = (runPeriod counts s).leaf.group.clearance := by
  rw [runPeriod_updated, pendingLower_seq_clearance, (keepsFormed_pendingLower _).group.2.2, periodUpdated_leaf, periodUpdated,
    clearanceUpdate_clearance]

theorem demandsStand_pendingLower (h : demandsStand z) : demandsStand (pendingLower z) := by
  rcases pendingLower_cases z with hz | ⟨hdropped, _, hz⟩
  · intro d
    have hdemand : demandFor d (z.withLeaf (dropWaitingLower z.leaf)) = demandFor d z :=
      demandFor_congr_group (t := z.withLeaf (dropWaitingLower z.leaf)) (s := z) rfl rfl rfl rfl rfl (dropWaitingLower_state _) d
    rw [hz, hdemand]
    exact h d
  · rw [hz]
    refine demandsStand_applyLeaf fun he => ?_
    have hlowered : lowered (dropWaitingLower z.leaf).lower.group.state := lower_lowered hdropped
    have hstate : (dropWaitingLower z.leaf).lower.group.state = .halted := he.trans hdropped
    rw [hstate] at hlowered
    rcases hlowered with h | h | h | h <;> nomatch h

theorem demandsStand_runPeriod (counts : PerDrive (BitVec 24)) (s : State) : demandsStand (runPeriod counts s) := by
  rw [runPeriod_updated]
  exact demandsStand_pendingLower (demandsStand_deriveDemands _)

/-! ## The step of moving leaves (R72 to R76) -/

/-- The states of the leaves in motion, but for a stop. -/
def inMotion (st : GroupState) : Prop := st = .raising ∨ st = .settling ∨ st = .lowering ∨ st = .seating

theorem inMotion.ne_tripped {st : GroupState} (h : inMotion st) : st ≠ .tripped ∧ st ≠ .stopping ∧ st.profileRuns = true
    ∧ st.working = true := by
  rcases h with rfl | rfl | rfl | rfl <;> exact ⟨nofun, nofun, rfl, rfl⟩

/-- Moving leaves keep moving, are tripped, or begin a stop with a cause at step 5 (R95, R96). -/
theorem superviseAngles_inMotion (h : inMotion m.group.state) : m.superviseAngles c pick = m
    ∨ (∃ cause, m.superviseAngles c pick = m.trip cause) ∨ m.superviseAngles c pick = m.beginStop (some .skew) false := by
  by_cases htr : twistFound c m ∨ rangeFound m
  · exact .inr (.inl ⟨_, superviseAngles_trips h.ne_tripped.2.2.2 htr⟩)
  · obtain ⟨ht, hr⟩ := not_or.mp htr
    by_cases hs : skewFound c m
    · exact .inr (.inr (superviseAngles_skew_moving ht hr hs h))
    · exact .inl (superviseAngles_quiet ht hr hs)

theorem inMotion_iff (st : GroupState) : inMotion st ↔ st.profileRuns = true ∧ st ≠ .stopping := by
  cases st <;> simp [inMotion, GroupState.profileRuns]

/-- A leaf record that a step has brought to a state other than HALTED, out of motion or with the profile and the drives as they were. -/
def keepsMotion (m n : LeafMotion) : Prop := n.group.state ≠ .halted
  ∧ (inMotion n.group.state → n.drives = m.drives ∧ n.group.profile = m.group.profile)

theorem keepsMotion_out {n : LeafMotion} (hne : n.group.state ≠ .halted) (hout : ¬inMotion n.group.state) : keepsMotion m n :=
  ⟨hne, fun h => absurd h hout⟩

theorem keepsMotion_trip (h : m.group.state ≠ .tripped) (cause : TripCause) : keepsMotion x (m.trip cause) := by
  have htripped := (trip_tripped h cause).1.1
  exact keepsMotion_out (by rw [htripped]; decide) (by rw [htripped, inMotion_iff]; decide)

/-- Leaves that step 8 leaves in motion keep their profile and their drives. -/
theorem superviseMotion_keepsMotion (h : inMotion m.group.state) : keepsMotion m (m.superviseMotion c) := by
  have hself : m.group.state ≠ .halted := fun he => by rw [he, inMotion_iff] at h; exact absurd h.1 (by decide)
  have hne := h.ne_tripped.1
  rcases h with h | h | h | h
  case inl =>
    rw [superviseMotion_raising h]
    split
    · exact ⟨nofun, fun _ => ⟨rfl, rfl⟩⟩
    · exact ⟨hself, fun _ => ⟨rfl, rfl⟩⟩
  case inr.inl =>
    rw [superviseMotion_settling h]
    dsimp only
    generalize (if withinSettle c m = true then m.group.settleCount + 1 else 0) = settle
    split
    · exact keepsMotion_out nofun (by rw [inMotion_iff]; exact fun h => nomatch h.1)
    · split
      · exact keepsMotion_trip hne _
      · exact ⟨hself, fun _ => ⟨rfl, rfl⟩⟩
  case inr.inr.inl =>
    rw [superviseMotion_lowering h]
    split
    · exact ⟨nofun, fun _ => ⟨rfl, rfl⟩⟩
    · exact ⟨hself, fun _ => ⟨rfl, rfl⟩⟩
  case inr.inr.inr =>
    rw [superviseMotion_seating h]
    dsimp only
    generalize (if bothSeated m = true then m.group.seatCount + 1 else 0) = seat
    split
    · have hlocked : m.enterLocking.group.state = .locking ∨ m.enterLocking.group.state = .stowed := finishLocking_state (lockingEntered m)
      rcases hlocked with hst | hst
      · exact keepsMotion_out (by rw [hst]; decide) (by rw [hst, inMotion_iff]; decide)
      · exact keepsMotion_out (by rw [hst]; decide) (by rw [hst, inMotion_iff]; decide)
    · split
      · exact keepsMotion_trip hne _
      · exact ⟨hself, fun _ => ⟨rfl, rfl⟩⟩

/-- Moving leaves that are moving after a period have not been stopped in it. -/
theorem periodEnd_inMotion (h : inMotion s.leaf.group.state) : (periodEnd counts s).group.state ≠ .halted
    ∧ (inMotion (periodEnd counts s).group.state → periodStage counts s = drivenLeaf s.conf (periodFormed counts s)
      ∧ (periodEnd counts s).drives = (periodStage counts s).drives
      ∧ (periodEnd counts s).group.profile = (periodStage counts s).group.profile) := by
  have hformed : inMotion (periodFormed counts s).group.state := h
  rcases superviseAngles_inMotion (c := s.conf) (pick := Config.freeChoice s.freeCount) hformed with hangles | ⟨cause, hangles⟩ | hangles
  · have hstage : periodStage counts s = drivenLeaf s.conf (periodFormed counts s) := congrArg (drivenLeaf s.conf) hangles
    have hmoving : inMotion (periodStage counts s).group.state := by rw [hstage, drivenLeaf_state]; exact hformed
    have hkept : keepsMotion (periodStage counts s) (periodEnd counts s) := by
      cases hf : followingTrips s.conf (periodStage counts s) with
      | true =>
        have hend : periodEnd counts s = (periodStage counts s).trip .following := (period_of_angles rfl).trans (if_pos hf)
        rw [hend]
        exact keepsMotion_trip hmoving.ne_tripped.1 _
      | false =>
        rw [periodEnd_unfollowed hf]
        exact superviseMotion_keepsMotion hmoving
    exact ⟨hkept.1, fun h => ⟨hstage, hkept.2 h⟩⟩
  · have htripped := trip_tripped (m := periodFormed counts s) hformed.ne_tripped.1 cause
    have hend : (periodEnd counts s).group.state = .tripped := (period_tripped hangles htripped.1 htripped.2).1.1
    refine ⟨by rw [hend]; decide, fun hm => absurd hend hm.ne_tripped.1⟩
  · have hstop : (periodEnd counts s).group.state = .tripped ∨ (periodEnd counts s).group.state = .stopping := by
      cases hf : followingTrips s.conf (drivenLeaf s.conf ((periodFormed counts s).beginStop (some .skew) false)) with
      | true => exact .inl (period_followed hangles hf).1.1
      | false => exact (period_stops hangles rfl rfl rfl hf).2.imp (·.1) (·.1)
    refine ⟨fun he => ?_, fun hm => ?_⟩
    · rw [he] at hstop
      rcases hstop with h | h <;> nomatch h
    · exact hstop.elim (fun h => absurd h hm.ne_tripped.1) fun h => absurd h hm.ne_tripped.2.1


end Sys2Proof.Machine

/-! O35: what a control period makes of the machine. -/

namespace Sys2Proof.Machine

open Sys2Proof

variable {s t z : State} {m : LeafMotion} {c : Configured} {counts : PerDrive (BitVec 24)} {p : Profile} {target : Nat}

/-- The profile of leaves in motion takes one step (R73). -/
theorem drivenLeaf_steps (h : inMotion m.group.state) (hp : m.group.profile = some p) (ht : m.group.target = some target) :
    (drivenLeaf c m).group.profile = some (advanceProfile c m.group.hold target p)
      ∧ ∀ d, (drivenLeaf c m).drives.get d = driveWith c (p.reference ≤ target) (advanceProfile c m.group.hold target p) (m.drives.get d) := by
  have hruns := h.ne_tripped.2.2.1
  have hstop := h.ne_tripped.2.1
  have hprofile : m.group.profileInUse = p := by rw [Group.profileInUse, hp]; rfl
  have htarget : m.group.targetInUse = target := by rw [Group.targetInUse, ht]; rfl
  have hadvance : (m.advance c).group.profile = some (advanceProfile c m.group.hold target p) := by
    rw [advance_runs hruns, if_neg hstop, hprofile, htarget]
  have hinUse : (m.advance c).group.profileInUse = advanceProfile c m.group.hold target p := by
    rw [Group.profileInUse, hadvance]
    rfl
  have hforward : feedForwardPositive m = decide (p.reference ≤ target) := by
    simp only [feedForwardPositive, if_neg hstop, hprofile, htarget]
  refine ⟨by rw [drivenLeaf_group, hadvance], fun d => ?_⟩
  rw [drivenLeaf_drive, if_pos hruns, hinUse, hforward]

/-- Leaves that move before a period and after it have taken one step of the profile and the demands it gives (R73, R75, R76). -/
theorem runPeriod_steps (hs : inMotion s.leaf.group.state) (hm : inMotion (runPeriod counts s).leaf.group.state)
    (hp : s.leaf.group.profile = some p) (ht : s.leaf.group.target = some target) :
    let q := advanceProfile s.conf (runPeriod counts s).leaf.group.hold target p
    (runPeriod counts s).leaf.group.profile = some q ∧ ∀ d,
      ((runPeriod counts s).leaf.drives.get d).followingError = (q.reference : Int) - ((runPeriod counts s).leaf.drives.get d).fine
      ∧ ((runPeriod counts s).leaf.drives.get d).demand = limitDemand (rawDemand s.conf (p.reference ≤ target) q.speed
          ((runPeriod counts s).leaf.drives.get d).followingError) := by
  obtain ⟨hne, hkept⟩ := periodEnd_inMotion (counts := counts) hs
  have hleaf : (runPeriod counts s).leaf = { periodEnd counts s with periodTimer := some 20 } := runPeriod_end (.inl hne)
  have hhold : (runPeriod counts s).leaf.group.hold = (periodFormed counts s).group.hold := (keepsAngles_runPeriod counts s).group.2.1
  obtain ⟨hstage, hdrives, hprofile⟩ := hkept (by rw [hleaf] at hm; exact hm)
  obtain ⟨hstep, hdriven⟩ := drivenLeaf_steps (m := periodFormed counts s) (c := s.conf) hs hp ht
  have hdrive (d : DriveId) : (runPeriod counts s).leaf.drives.get d = driveWith s.conf (p.reference ≤ target)
      (advanceProfile s.conf (periodFormed counts s).group.hold target p) ((periodFormed counts s).drives.get d) := by
    rw [← hdriven, ← hstage, ← hdrives, hleaf]
  rw [hhold]
  refine ⟨?_, fun d => ?_⟩
  · rw [hleaf]
    exact hprofile.trans (by rw [hstage, hstep])
  · rw [hdrive d]
    exact ⟨rfl, rfl⟩

/-! ## The records, and whom their clearing tells (R25, R46) -/

/-- A period clears the records that its update covers, and tells their origins (R25, R46). -/
theorem runPeriod_records (counts : PerDrive (BitVec 24)) (hn : (s.reg.records.map (·.number)).Nodup) :
    (runPeriod counts s).reg = { s.reg with
        records := s.reg.records.map (fun p => if clearedByUpdate (runPeriod counts s) p = true then { p with state := .cleared } else p) }
      ∧ (let told : Bool := s.reg.records.any (fun p => clearedByUpdate (runPeriod counts s) p && p.origin == .harbour)
        (runPeriod counts s).links.harbour = { s.links.harbour with
          attention := if told = true then ⟨true, s.links.harbour.attention.causes.add .passageRecord⟩ else s.links.harbour.attention })
      ∧ ((∃ p ∈ s.reg.records, clearedByUpdate (runPeriod counts s) p = true ∧ p.origin = .control) →
        (runPeriod counts s).links.control.attention.raised = true
          ∧ (runPeriod counts s).links.control.attention.causes.passageRecord = true) := by
  let u := periodReported counts s
  let z := periodUpdated counts s
  have hbase : unchangedBut (.sup :: reportParts) s u :=
    unchangedBut_trans (unchangedBut_mono (by decide) (periodBase_frame counts s)) (unchangedBut_mono (by decide) (applyLeaf_frame _ _))
  have hreg : u.reg = s.reg := hbase .reg (by decide)
  have hharbour : u.links.harbour = s.links.harbour := hbase .harbourPort (by decide)
  obtain ⟨hrecords, hlinks⟩ := clearanceUpdate_records (u := u) (by rw [hreg]; exact hn) (periodLeaf counts s).group.clearance
  rw [hreg] at hrecords
  simp only [hreg] at hlinks
  have hkept : unchangedBut reportParts z (runPeriod counts s) := by rw [runPeriod_updated]; exact pendingLower_frame z
  have hcleared (p : Passage) : clearedByUpdate (runPeriod counts s) p = clearedByUpdate z p := by
    rw [runPeriod_updated]
    exact clearedByUpdate_pendingLower z p
  simp only [hcleared]
  refine ⟨(hkept .reg (by decide) : (runPeriod counts s).reg = z.reg).trans hrecords, ?harbour, ?control⟩
  case harbour =>
    have htold : s.reg.records.any (fun p => clearedByUpdate z p && p.origin == .harbour) = true
        ↔ ∃ p ∈ s.reg.records, clearedByUpdate z p = true ∧ p.origin = .harbour := by
      simp only [List.any_eq_true, Bool.and_eq_true, beq_iff_eq]
    have hport : (runPeriod counts s).links.harbour = z.links.harbour := hkept .harbourPort (by decide)
    have hlink : z.links.harbour = _ := hlinks .harbour
    rw [hport, hlink]
    simp only [htold, PerLink.get, hharbour]
    rfl
  case control =>
    rintro ⟨p, hp, hclear, horigin⟩
    have hmoving : z.leaf.group.state ≠ .halted := fun hst => by
      rw [clearedByUpdate_rest (by rw [hst]; decide)] at hclear
      nomatch hclear
    have hstands : runPeriod counts s = z := by rw [runPeriod_updated]; exact pendingLower_stands (.inl hmoving)
    have hlink : z.links.control = _ := hlinks .control
    rw [hstands, hlink, if_pos ⟨p, hp, hclear, horigin⟩]
    exact ⟨rfl, rfl⟩

theorem runPeriod_frame (counts : PerDrive (BitVec 24)) (s : State) :
    unchangedBut ([.harbourPort, .reg] ++ reportParts) s (runPeriod counts s) := by
  intro x hx
  have hpending : (pendingLower (periodUpdated counts s)) = runPeriod counts s := (runPeriod_updated counts s).symm
  cases x <;> simp_all [Part.same, reportParts]

/-- What a period forms in the leaf records: the fine angles, the angles, the twists, the seats, the skew, the hold flag and the
clearance (R63 to R68, R78, R94). -/
theorem formedAngles {n : LeafMotion} (hkept : KeepsAngles { formedLeaf c counts m with periodTimer := some 20 } n) :
    n.west.angle = ((n.drives.get .wn).fine + (n.drives.get .ws).fine) / 2
      ∧ n.east.angle = ((n.drives.get .en).fine + (n.drives.get .es).fine) / 2
      ∧ n.west.twist = (n.drives.get .wn).fine - (n.drives.get .ws).fine
      ∧ n.east.twist = (n.drives.get .en).fine - (n.drives.get .es).fine
      ∧ n.group.skew = n.west.angle - n.east.angle ∧ n.group.hold = holdFlag c n.group.skew m.group.hold
      ∧ n.group.clearance = clearanceAt c.clearances (max 0 (min 8000 (min n.west.angle n.east.angle / 16))).toNat := by
  have hfine (d : DriveId) : (n.drives.get d).fine = ((formedLeaf c counts m).drives.get d).fine := (hkept.drives d).2.1
  obtain ⟨hwest, hwestTwist⟩ := hkept.west
  obtain ⟨heast, heastTwist⟩ := hkept.east
  obtain ⟨hskew, hhold, hclearance⟩ := hkept.group
  refine ⟨?_, ?_, ?_, ?_, ?_, ?_, ?_⟩
  · rw [hfine, hfine, hwest]; rfl
  · rw [hfine, hfine, heast]; rfl
  · rw [hfine, hfine, hwestTwist]; rfl
  · rw [hfine, hfine, heastTwist]; rfl
  · rw [hskew, hwest, heast]; rfl
  · rw [hhold, hskew]; rfl
  · rw [hclearance, hwest, heast]; rfl

/-- Settles O35: the stages of a period, the warnings, the records that its clearance clears, and the step of moving leaves. -/
theorem controlPeriodFormsTheAngles : Obligations.ControlPeriodFormsTheAngles := by
  intro counts s moving
  refine ⟨fun hstopped => ⟨_, controlPeriod_stopped hstopped, rfl, countsRead_frame counts s⟩, fun ms hruns => ?_⟩
  have hexec := controlPeriod_runs (counts := counts) hruns
  have hpins := runPeriod_pins counts (countsRead counts s)
  have hkept := keepsAngles_runPeriod counts (countsRead counts s)
  have hdrive := runPeriod_drive counts (countsRead counts s)
  have hseated := runPeriod_seated counts (countsRead counts s)
  have hclearance := runPeriod_clearance counts (countsRead counts s)
  have hdemands := demandsStand_runPeriod counts (countsRead counts s)
  have hwarnings := runPeriod_warnings (counts := counts) (s := countsRead counts s)
  have hpulse := runPeriod_pulseTimer counts (countsRead counts s)
  have hrecords := runPeriod_records (s := countsRead counts s) counts
  have hsteps (p : Profile) (target : Nat) := runPeriod_steps (s := countsRead counts s) (counts := counts) (p := p) (target := target)
  have hframe : unchangedBut (.pins :: [.harbourPort, .reg] ++ reportParts) s (runPeriod counts (countsRead counts s)) :=
    unchangedBut_trans (unchangedBut_mono (by decide) (countsRead_frame counts s)) (unchangedBut_mono (by decide) (runPeriod_frame counts _))
  generalize runPeriod counts (countsRead counts s) = t at *
  obtain ⟨hwest, heast, hwestTwist, heastTwist, hskew, hhold, hformed⟩ := formedAngles hkept
  obtain ⟨hsets, hclears, hstands⟩ := holdFlag_cases s.conf t.leaf.group.skew s.leaf.group.hold
  have hhold' : t.leaf.group.hold = holdFlag s.conf t.leaf.group.skew s.leaf.group.hold := hhold
  rw [← hhold'] at hsets hclears hstands
  simp only [warnsTwist_iff] at hwarnings hpulse
  refine ⟨t, hexec, hpins, hkept.timer, hdrive, hwest, heast, hwestTwist, heastTwist, ?westSeated, ?eastSeated, hskew, hsets, hclears,
    hstands, hformed, hclearance, hdemands, ⟨hwarnings, fun hanew => hpulse.trans (if_pos hanew), fun hnone => hpulse.trans (if_neg hnone)⟩,
    hrecords, fun p hp target ht hs hm => hsteps p target hs hm hp ht, unchangedBut_mono (by decide) hframe⟩
  case westSeated =>
    rw [hseated.1]
    exact isSeated_iff _ _
  case eastSeated =>
    rw [hseated.2]
    exact isSeated_iff _ _

end Sys2Proof.Machine
